-- ==== Sys2Proof/Word.lean ====
section
/-! DEFINITION. Bytes and the plainest arithmetic of the manual's number formats (R3, R4, R5). -/

namespace Sys2Proof

/-- One byte of a frame, a record or a Ledger object. -/
abbrev Byte := BitVec 8

/-- A byte string, lowest address first. -/
abbrev Bytes := List Byte

/-- Largest value of an unsigned field of `w` bits. -/
def maxU (w : Nat) : Nat := 2 ^ w - 1

/-- Saturating addition in a `w`-bit unsigned counter. -/
def satAdd (w a b : Nat) : Nat := min (a + b) (maxU w)

/-- One count of a saturating u32 counter. -/
def satInc (a : Nat) : Nat := satAdd 32 a 1

/-- A value reduced to `w` bits (a wrapping field). -/
def wrapU (w n : Nat) : Nat := n % 2 ^ w

/-- The two's-complement reading of the low `w` bits of `n` (R5). -/
def signedOf (w n : Nat) : Int :=
  let m := n % 2 ^ w
  if m < 2 ^ (w - 1) then (m : Int) else (m : Int) - 2 ^ w

/-- The low `w` bits of an integer in two's complement (R5). -/
def bitsOf (w : Nat) (i : Int) : Nat := (i % (2 ^ w : Int)).toNat

/-- An integer clamped to a signed field of `w` bits. -/
def clampS (w : Nat) (i : Int) : Int := max (-(2 ^ (w - 1) : Int)) (min i (2 ^ (w - 1) - 1))

/-- An integer clamped to an unsigned field of `w` bits. -/
def clampU (w : Nat) (i : Int) : Nat := (max 0 (min i ((2 ^ w : Int) - 1))).toNat

/-- `n` bytes of a value, least significant byte first (R3). -/
def leBytes : Nat → Nat → Bytes
  | 0, _ => []
  | k + 1, v => BitVec.ofNat 8 v :: leBytes k (v / 256)

/-- `n` bytes of a signed value in two's complement, least significant byte first (R3, R5). -/
def leBytesS (n : Nat) (v : Int) : Bytes := leBytes n (bitsOf (8 * n) v)

/-- The value of a byte string, least significant byte first (R3). -/
def leNat : Bytes → Nat
  | [] => 0
  | b :: bs => b.toNat + 256 * leNat bs

/-- `n` bytes from offset `o`, padded with zero bytes where the string ends. -/
def slice (bs : Bytes) (o n : Nat) : Bytes :=
  let t := (bs.drop o).take n
  t ++ List.replicate (n - t.length) 0#8

/-- The unsigned little-endian field of `n` bytes at offset `o`. -/
def getU (bs : Bytes) (o n : Nat) : Nat := leNat (slice bs o n)

/-- The signed little-endian field of `n` bytes at offset `o`. -/
def getS (bs : Bytes) (o n : Nat) : Int := signedOf (8 * n) (getU bs o n)

/-- Bit `i` of a value. -/
def bitAt (v i : Nat) : Bool := v / 2 ^ i % 2 == 1

/-- The bit-field `[lo + n - 1 : lo]` of a value (R4). -/
def field (v lo n : Nat) : Nat := v / 2 ^ lo % 2 ^ n

/-- A flag placed at bit `i`. -/
def bitVal (b : Bool) (i : Nat) : Nat := if b then 2 ^ i else 0

/-- A list with position `i` replaced, unchanged where `i` is outside it. -/
def setAt {α : Type} (l : List α) (i : Nat) (f : α → α) : List α :=
  match l[i]? with
  | some x => l.set i (f x)
  | none => l

end Sys2Proof
end

