-- ==== Sys2Proof/Inputs.lean ====
section
/-! DEFINITION. What the world presents to the device inside one command: captures, ratios, frames, levels
(the operands of `Instr`). -/

namespace Sys2Proof

/-- A raw TDC event: the coarse count at the next coarse edge and the raw fine code r (R93, R95). -/
structure RawStamp where
  coarse : Nat
  raw : Nat
deriving DecidableEq, Repr

/-- One receive chain over one window: its ADC samples (R87, R88) and the rising zero crossings that its
comparator saw, oldest first, before the arming rule of R90 is applied. -/
structure ChainCapture where
  samples : List Int
  crossings : List RawStamp
deriving DecidableEq, Repr

/-- What the front end presents when a path-pair completes (R115): the first drive edges, the two captures, the
drivers' peak currents in microampere (R144) and whether the coarse counter held at its maximum (R99). -/
structure PairCapture where
  startUp : RawStamp
  startDown : RawStamp
  chainA : ChainCapture
  chainB : ChainCapture
  currentUp : Nat
  currentDown : Nat
  overflow : Bool
deriving DecidableEq, Repr

/-- One attempt at a channel conversion (R194, R195, R207): the ratio u32 [2^-32], whether the excitation reached
90 % of its set value, and whether the sense pins follow their force pins. -/
structure Conv where
  ratio : Nat
  excOk : Bool
  senseOk : Bool
deriving DecidableEq, Repr

/-- One attempt at a bridge conversion (R210, R213): r s32 [2^-31] and the excitation current in microampere. -/
structure BridgeConv where
  r : Int
  excUa : Nat
deriving DecidableEq, Repr

/-- One temperature sample's raw results (R201): reference ratio REFA over REFB and its repeat (R196), both
attempts for each channel, both attempts for the bridge. -/
structure SampleInput where
  ref1 : Nat
  ref2 : Nat
  chans : List (Conv × Conv)
  bridge : BridgeConv × BridgeConv
deriving DecidableEq, Repr

/-- The strap conversions of one read (R59): for each of the twelve straps its pairs of conversions, at most three, each
the ratio of the strap's voltage to that of `REFB` in 2^-20. -/
abbrev StrapReads := List (List (Nat × Nat))

/-- The result of one TDC calibration step (R96). -/
inductive CalStep where
  | span (rawSpan : Nat)
  | density (step : Nat) (hits : List Nat)
  | loopback (band : Nat) (delayA delayB : Nat)
deriving DecidableEq, Repr

/-- The units of R508, in its order. -/
inductive BgUnit where
  | transit | converter | hawser | fram | flash | logic
deriving DecidableEq, Repr

/-- A FRAM word as the SECDED decoder gives it (R493): without an error, with a single-bit error corrected, or with a
double-bit error. -/
inductive WordRead where
  | good (v : Nat)
  | single (v : Nat)
  | double
deriving DecidableEq, Repr

/-- A word index (R542), and what the read of that word gives. -/
structure WordAt where
  word : Nat
  read : WordRead
deriving DecidableEq, Repr

/-- What one scrub step reads (R497), each word with the item number of R542: words of single-copy objects, or words in
each of the copies A, B and C. -/
inductive ScrubFinding where
  | singles (l : List (Nat × WordAt))
  | triples (l : List (Nat × WordAt × WordAt × WordAt))
deriving DecidableEq, Repr

/-- How far the power let the latest transaction come before the cold start: to its end, to its commit word but not to
its applied word, or not to its commit word (R498, R501). -/
inductive JournalFound where
  | clean | committed | uncommitted
deriving DecidableEq, Repr

/-- Levels of the sleep-time tamper inputs as the Landing evaluates them at a restart (R324, R330). -/
structure PinLevels where
  sealOpen : Bool
  sealShort : Bool
  caseHigh : Bool
  magHigh : Bool
deriving DecidableEq, Repr

/-- What the hardware finds during a cold start (R479): VCORE, self-test results of blocks 0 to 8 as (first
attempt passes, repeat passes, responses of the last of them), the HFX count of R513, the journal (R501), whether a life-cycle copy is readable (R455),
the strap conversions, the steps of the full TDC calibration (R96) and the die temperature. -/
structure ColdStartInput where
  vcoreMv : Nat
  tests : List (Bool × Bool × List Nat)
  hfxCount : Option Nat
  journal : JournalFound
  lcReadable : Bool
  straps : StrapReads
  tdcSteps : List CalStep
  dieTemp : Int
deriving DecidableEq, Repr

/-- The exits from SHIP (R478): RESET_N low for so many microseconds, or BUTTON low for so many milliseconds after
having been high for so many milliseconds since the entry. -/
inductive ShipExitCause where
  | resetN (lowUs : Nat)
  | button (lowMs highMs : Nat)
deriving DecidableEq, Repr

/-- The two pins of R329. -/
inductive CaseMag where
  | casePin | magPin
deriving DecidableEq, Repr

/-- The switchable functions of R29. -/
inductive Func where
  | transit | converter | ferryman | wmbus | hawser | display | optical | pulseOut
deriving DecidableEq, Repr

/-- The two paths by which a Kratch record arrives (R445). -/
inductive RecPath where
  | optical | air
deriving DecidableEq, Repr

/-- The test-access levels of R460. -/
inductive TapLevel where
  | closed | observe | board | debug
deriving DecidableEq, Repr

/-- A received Itwen Air frame (R347): the PSDU, the length of its FCS (R340), the stamp of its SFD in 1/64 tick
(R357, R364), the received level in dBm, the SFD tick of the response that this device sends if it sends one
(R342), the channel it comes on (R343), and the mode switch of its PHR (R340). -/
structure RxFrame where
  psdu : Bytes
  fcsLen : Nat
  sfd : Nat
  rssi : Int
  txSfd : Nat
  chan : Nat := 25
  modeSwitch : Bool := false
deriving DecidableEq, Repr

/-- A Hawser frame from offset 0 to its CRC (R391), and the raw event of its timing edge at this device's TDC (R93, R391). -/
structure HwFrame where
  bytes : Bytes
  stamp : RawStamp
deriving DecidableEq, Repr

/-- FIRE with the count of R103 over 256 edges of `REF_IN` where it begins a cycle, absent where they did not come in
time. -/
structure FireFrame where
  frame : HwFrame
  ref : Option Nat
deriving DecidableEq, Repr

/-- A rising edge of `SHOT`: the oscillator cycles since the previous command, and the count of R103 as in `FireFrame`. -/
structure ShotEdge where
  dt : Nat
  ref : Option Nat
deriving DecidableEq, Repr

end Sys2Proof
end

