-- ==== Sys2Proof/Syntax.lean ====
section
/-! DEFINITION. The commands: one constructor for each row of the table of operations and events. -/

namespace Sys2Proof

/-- The commands. The first operand of each is or holds `dt`, the number of oscillator cycles since the previous command
(DESIGN CHOICE, log 1); the others are what the world presents to the step. -/
inductive Instr where
  | shotTimerExpiry (dt : Nat) (ref : Option Nat)
  | shotRisingEdge (e : ShotEdge)
  | pathPairDone (dt : Nat) (cap : PairCapture)
  | refInLoss (dt : Nat)
  | admitIncrement (dt : Nat)
  | gapHoldExpiry (dt : Nat)
  | tempSampleDue (dt : Nat)
  | sampleComplete (dt : Nat) (m : SampleInput)
  | strapReread (dt : Nat) (reads : StrapReads)
  | boundaryTransaction (dt : Nat)
  | hfxCorrRecompute (dt : Nat)
  | tdcCalTrigger (dt : Nat) (dieTemp : Int)
  | tdcCalStep (dt : Nat) (step : CalStep)
  | bgStepDue (dt : Nat) (unit : BgUnit)
  | scrubStep (dt : Nat) (found : ScrubFinding) (passEnd : Bool)
  | flashCopy (dt : Nat) (compares : List Bool)
  | flashErase (dt : Nat) (verifies : List Bool)
  | selftestRound (dt : Nat) (hfxCount : Option Nat)
  | selftestStep (dt : Nat) (block vcoreMv : Nat) (last first second : Bool) (responses : List Nat)
  | displayRefresh (dt : Nat)
  | displayFrameBoundary (dt : Nat)
  | buttonPress (dt : Nat) (held : Nat)
  | buttonHoldJoin (dt : Nat)
  | pageTimeout (dt : Nat)
  | displayBudgetWindow (dt : Nat)
  | shipEntry (dt : Nat) (held : Nat)
  | shipExit (dt : Nat) (cause : ShipExitCause) (pins : PinLevels)
  | resetNLow (dt : Nat) (lowUs : Nat)
  | coldStart (dt : Nat) (inp : ColdStartInput)
  | lfxWait (dt : Nat) (waitMs : Nat) (started : Bool)
  | meteringStart (dt : Nat) (vholdMv : Nat)
  | powerStateEntry (dt : Nat) (edges : Nat) (wakeInSave : Bool)
  | wake (dt : Nat) (src : Nat)
  | holdupCommit (dt : Nat) (holdUs records : Nat)
  | vholdMeasure (dt : Nat) (mv : Nat)
  | vextTakeover (dt : Nat)
  | vextRelease (dt : Nat)
  | supplyLockout (dt : Nat)
  | supplyBkp (dt : Nat)
  | supplyBat (dt : Nat) (pins : PinLevels)
  | landingLost (dt : Nat)
  | lfxStop (dt : Nat)
  | lfxRestart (dt : Nat)
  | correctionApply (dt : Nat)
  | trimCorrection (dt : Nat)
  | tempCompensation (dt : Nat) (dieTemp : Int)
  | timeNowUpdate (dt : Nat)
  | adjDayReset (dt : Nat)
  | timeSetApply (dt : Nat)
  | sealProbe (dt : Nat) (high highBetween : Bool)
  | sealShortDetect (dt : Nat)
  | caseMagChange (dt : Nat) (pin : CaseMag) (high : Bool)
  | tamperFifoService (dt : Nat)
  | pulseInCount (dt : Nat) (input : Nat)
  | pulseOutStart (dt : Nat) (output : Nat)
  | pulseOutRelease (dt : Nat) (output : Nat)
  | functionDrained (dt : Nat) (f : Func)
  | functionRestart (dt : Nat) (f : Func)
  | optRecord (dt : Nat) (frame : Bytes) (busyMs : Option Nat)
  | optRead (dt : Nat) (frame : Bytes)
  | optBaud (dt : Nat) (frame : Bytes)
  | optHello (dt : Nat) (frame : Bytes)
  | optIdleTimeout (dt : Nat)
  | optFrameGap (dt : Nat)
  | provision (dt : Nat) (path : RecPath) (rest : Bytes)
  | identity (dt : Nat) (path : RecPath) (rest : Bytes)
  | keys (dt : Nat) (path : RecPath) (rest : Bytes)
  | lifecycle (dt : Nat) (path : RecPath) (rest : Bytes)
  | calib (dt : Nat) (path : RecPath) (rest : Bytes)
  | paramExpert (dt : Nat) (path : RecPath) (rest : Bytes)
  | tariffCal (dt : Nat) (path : RecPath) (rest : Bytes)
  | timeSet (dt : Nat) (path : RecPath) (rest : Bytes)
  | radioCfg (dt : Nat) (path : RecPath) (rest : Bytes)
  | radioKeys (dt : Nat) (path : RecPath) (rest : Bytes)
  | displayReq (dt : Nat) (path : RecPath) (rest : Bytes)
  | wipe (dt : Nat) (path : RecPath) (rest : Bytes)
  | tapInstructionLoad (dt : Nat) (level : TapLevel)
  | trstNRise (dt : Nat)
  | contactAlarm (dt : Nat)
  | ackWaitTimeout (dt : Nat)
  | rxPoll (dt : Nat) (f : RxFrame)
  | rxJoinPoll (dt : Nat) (f : RxFrame)
  | rxAck (dt : Nat) (f : RxFrame)
  | rxData (dt : Nat) (f : RxFrame)
  | rxRead (dt : Nat) (f : RxFrame)
  | rxNote (dt : Nat) (f : RxFrame)
  | rxTime (dt : Nat) (f : RxFrame)
  | parentWindowOpen (dt : Nat) (child : Nat)
  | windowMiss (dt : Nat) (child : Nat)
  | searchWindow (dt : Nat) (child : Nat)
  | childEvicted (dt : Nat) (child : Nat)
  | dlExpired (dt : Nat) (entry : Nat)
  | proxyExpired (dt : Nat) (entry : Nat)
  | joinWindowClose (dt : Nat)
  | txBudgetWindow (dt : Nat)
  | searchBudgetPeriod (dt : Nat)
  | wmbusTelegram (dt : Nat)
  | hawserWakeSchedule (dt : Nat)
  | hawserWakeBurst (dt : Nat) (pulses : Nat)
  | hawserIdleTimeout (dt : Nat)
  | syncReq (dt : Nat) (f : HwFrame)
  | syncRsp (dt : Nat) (f : HwFrame)
  | cfg (dt : Nat) (f : HwFrame)
  | fire (dt : Nat) (f : FireFrame)
  | mark (dt : Nat) (f : HwFrame)
  | half (dt : Nat) (f : HwFrame) (own : PairCapture) (fireEdge markEdge : RawStamp)
  | result (dt : Nat) (f : HwFrame)
  | sampleReq (dt : Nat) (f : HwFrame)
  | sampleRsp (dt : Nat) (f : HwFrame)
  | loopcal (dt : Nat) (f : HwFrame) (answerEdge : RawStamp)
  | loopcalRsp (dt : Nat) (f : HwFrame) (requestEdge : RawStamp)
  | loopcalRun (dt : Nat) (dieTemp : Int)
  | time (dt : Nat) (f : HwFrame)
  | hawserTimeBroadcast (dt : Nat)
  | refuse (dt : Nat) (f : HwFrame)
  | ack (dt : Nat) (f : HwFrame)
  | hawserAnswerTimeout (dt : Nat)
  | trstNFall (dt : Nat)
  | pwrEnLead (dt : Nat)
  | condWaitEnd (dt : Nat) (vcoreMv : Nat)
  | missingResponse (dt : Nat)
deriving DecidableEq, Repr

end Sys2Proof
end

