-- ==== Sys2Proof/Decode.lean ====
section
/-! DEFINITION. The command that a word of the table of operations and events spells. The table gives no row any
bits, so no word spells one. -/

namespace Sys2Proof

/-- The command spelled by `w`, a word of `nbits` bits: none, since no row of the table has a bit. -/
def decodeTableWord (_nbits _w : Nat) : Option Instr := none

end Sys2Proof
end

