-- ==== Sys2Proof/Config.lean ====
section
/-! DEFINITION. What one DH9610's ROM holds and what the manual leaves open: constants with no body, so
that no proof can lean on a value (log entries 5, 6, 7, 8). -/

namespace Sys2Proof.Config

/-- FREE (log 5). A fresh free value, applied to the counter `State.free`. -/
opaque freeValue : Nat → Nat

/-- FREE (log 6). Whether an unstated rounding goes up: tag of the field, then the exact quotient's numerator
and denominator. -/
opaque roundUp : Nat → Int → Nat → Bool

/-- ROM (log 7). Coefficient `k` of segment `s` of the single-variable water table `t` of R226, t = 0 `w_rho16`,
1 `w_h16`, 2 `w_drho`, 3 `w_dh`, 4 `w_nu`, 5 `w_c16`, 6 `w_dc`. -/
opaque waterCoef : Nat → Nat → Nat → Int

/-- ROM (log 7). Coefficient `d[s][k][j]` of the glycol table `t` of R226, t = 0 `pg_rho`, 1 `pg_h`, 2 `eg_rho`,
3 `eg_h`. -/
opaque glycolCoef : Nat → Nat → Nat → Nat → Int

/-- ROM (log 7). The public key `pk_glaelm` of R437, as the point (x, y). -/
opaque pkGlaelm : Nat × Nat

/-- ROM (log 8). The built-in glass map and waveform tables of R417 for a drive set: the bytes of a DISPLAY
section in the layout of R539, for drive 0 (15 V) or 1 (7.5 V). -/
opaque romDisplay : Nat → Bytes

/-- ROM (log 8). First cell of item `k` of built-in page `p` where R426 does not place it. -/
opaque pageCell : Nat → Nat → Nat

/-- ROM (log 8). Whether item `k` of built-in page `p` shows its leading zeros where R426 does not say. -/
opaque pageLead : Nat → Nat → Bool

/-- FREE (log 9). Whether the logarithm of R101, which need only lie within 1 LSB of 2^-40, is taken one LSB
above the floor: arguments d and `hfx_age_tau`. -/
opaque lnUp : Nat → Nat → Bool

/-- FREE (log 29). What the MISR of a block holds before the first response of its test (R514). -/
opaque misrStart : Nat → Nat

/-- FREE (log 34). What transaction write number n puts into the commit journal beside a wipe entry: word indices, whose
assignment to objects is internal (R542), with the words for them. -/
opaque txnWords : Nat → List (Nat × List Nat)

/-- FREE (log 10). Whether a RESET_N low of the given width in microseconds, longer than 1 and shorter than 10,
is recognised (R48). -/
opaque resetRecognised : Nat → Bool

/-- FREE (log 10). Whether a SHIP exit press of the given length in milliseconds, between 0.7 s and 1.3 s, is
recognised (R478), and whether the detector has armed after a high time between 0.07 s and 0.13 s. -/
opaque shipPress : Nat → Bool

/-- FREE (log 11). The pseudo-random value of R375, seeded by `dev_eui`, for telegram number n. -/
opaque wmbusSpread : Nat → Nat → Nat

/-- FREE (log 5). Whether the debounce of R322 runs while lockout is asserted: `VBAT` between the commands, at a given
oscillator cycle. -/
opaque debounceRunning : Nat → Bool

/-- FREE (log 14). The content of a field whose exact value the manual's format cannot hold: tag of the field, and
the exact quotient's numerator and denominator. -/
opaque outOfFormat : Nat → Int → Nat → Nat

/-- FREE (log 20). A capture's sample at an index outside its window, where R120 or R123 asks for one: the capture's
samples, the index. -/
opaque beyondWindow : List Int → Int → Int

/-- FREE (log 15). The viscosity of a gas at an absolute pressure of 0 Pa, where R230 divides by it. -/
opaque gasNuZeroPressure : Int → Nat

end Sys2Proof.Config
end

