-- ==== Sys2Proof/Machine/Num.lean ====
section
/-! DEFINITION. Exact arithmetic with one rounding at the end (R220), and the few roots and logarithms that the
manual asks for, evaluated to 2^-256 before they are rounded. -/

namespace Sys2Proof.Machine

/-- n / d rounded half to even (R220). -/
def rne (n : Int) (d : Nat) : Int :=
  let q := n / (d : Int)
  let r := n % (d : Int)
  if 2 * r < d then q
  else if 2 * r > d then q + 1
  else if q % 2 = 0 then q else q + 1

/-- n / d rounded half to even, for a sign in the divisor. -/
def rneI (n d : Int) : Int := if d < 0 then rne (-n) d.natAbs else rne n d.natAbs

/-- n / d rounded half to even, unsigned. -/
def rneN (n d : Nat) : Nat := (rne n d).toNat

/-- n / d rounded to the nearest, halves away from zero. -/
def rnd (n : Int) (d : Nat) : Int :=
  if n < 0 then -((-n * 2 + d) / (2 * d : Int)) else (n * 2 + d) / (2 * d : Int)

/-- n / d to one of its two neighbouring integers, where the manual states no rounding (log 6). -/
def openRound (tag : Nat) (n : Int) (d : Nat) : Int :=
  let q := n / (d : Int)
  if q * d = n then q else if Config.roundUp tag n d then q + 1 else q

/-- ⌈n / d⌉. -/
def cdiv (n d : Nat) : Nat := (n + d - 1) / d

/-- One bit of the integer square root: from bit `k` down. -/
def isqrtGo (n : Nat) : Nat → Nat → Nat
  | 0, acc => acc
  | k + 1, acc =>
    let t := acc + 2 ^ k
    isqrtGo n k (if t * t ≤ n then t else acc)

/-- ⌊√n⌋. -/
def isqrt (n : Nat) : Nat := isqrtGo n (Nat.log2 n / 2 + 1) 0

/-- √(n / d) · 2^k rounded to the nearest; a tie of an irrational root does not occur, a rational one goes to even. -/
def sqrtRne (n d k : Nat) : Nat :=
  -- ⌊2 √(n 4^k / d)⌋ decides the half
  let m := n * 4 ^ (k + 1)
  let t := isqrt (m / d)
  let exact := t * t * d == m
  if t % 2 = 0 then t / 2
  else if exact then (if t / 2 % 2 = 0 then t / 2 else t / 2 + 1)
  else t / 2 + 1

/-- Binary places carried by the series below. -/
def fixP : Nat := 256

/-- Terms z^(2i+1) / (2i+1) of the area hyperbolic tangent, from term `i` on. -/
def atanhGo (z2 : Int) : Nat → Nat → Int → Int → Int
  | 0, _, _, acc => acc
  | f + 1, i, p, acc => atanhGo z2 f (i + 1) (p * z2 / 2 ^ fixP) (acc + p / (2 * i + 1 : Nat))

/-- atanh(n / d) · 2^fixP for |n / d| ≤ 1/3. -/
def atanhFix (n d : Int) : Int :=
  let z := n * 2 ^ fixP / d
  atanhGo (z * z / 2 ^ fixP) 90 0 z 0

/-- ln 2 · 2^fixP. -/
def ln2Fix : Int := 2 * atanhFix 1 3

/-- ln(n / d) · 2^fixP, n and d positive. -/
def lnFix (n d : Nat) : Int :=
  let e : Int := (Nat.log2 n : Int) - (Nat.log2 d : Int)
  let n' := if e < 0 then n * 2 ^ e.natAbs else n
  let d' := if e < 0 then d else d * 2 ^ e.natAbs
  2 * atanhFix ((n' : Int) - d') ((n' : Int) + d') + e * ln2Fix

/-- log10(n / d) · 2^fixP. -/
def log10Fix (n d : Nat) : Int := lnFix n d * 2 ^ fixP / lnFix 10 1

/-- ⌊40 log10(n / d)⌋ for positive n and d, decided by whole powers; and whether it is exact. -/
def log40 (n d : Nat) : Int × Bool :=
  let v := 40 * log10Fix n d / 2 ^ fixP
  -- 10^v ≤ (n / d)^40, and equality
  let a := fun (v : Int) => if v < 0 then d ^ 40 else 10 ^ v.toNat * d ^ 40
  let b := fun (v : Int) => if v < 0 then n ^ 40 * 10 ^ v.natAbs else n ^ 40
  let w := if a (v + 1) ≤ b (v + 1) then v + 1 else v
  (w, a w == b w)

/-- Terms x^i / i! of the exponential. -/
def expGo (x : Int) : Nat → Nat → Int → Int → Int
  | 0, _, _, acc => acc
  | f + 1, i, p, acc => expGo x f (i + 1) (p * x / ((i + 1 : Nat) * 2 ^ fixP)) (acc + p)

/-- `k` squarings of a fixed-point number. -/
def sqFix : Nat → Int → Int
  | 0, x => x
  | k + 1, x => sqFix k (x * x / 2 ^ fixP)

/-- exp(x · 2^-fixP) · 2^fixP, |x| below 2^7. -/
def expFix (x : Int) : Int := sqFix 12 (expGo (x / 2 ^ 12) 40 0 (2 ^ fixP) 0)

/-- A fixed-point number times n / d, rounded to the nearest integer. -/
def fixMul (x n : Int) (d : Nat) : Int := rne (x * n) (d * 2 ^ fixP)

/-- The median of a list, the lower of the two middle values of an even count. -/
def insertSorted (x : Int) : List Int → List Int
  | [] => [x]
  | y :: ys => if x ≤ y then x :: y :: ys else y :: insertSorted x ys

/-- Ascending order. -/
def sortInts (l : List Int) : List Int := l.foldr insertSorted []

def medianLower (l : List Int) : Option Int := (sortInts l)[(l.length - 1) / 2]?

def sumInt (l : List Int) : Int := l.foldl (· + ·) 0

def sumNat (l : List Nat) : Nat := l.foldl (· + ·) 0

end Sys2Proof.Machine
end

