-- ==== Sys2Proof/Machine/Types.lean ====
section
/-! DEFINITION. The parts of the state, block by block: configuration in force, Transit Engine, flow, Capstan,
temperature, Tollhouse. Each field cites the rule that names it; a default value is the value at reset (log
entries 2, 3 where the manual states none). -/

namespace Sys2Proof.Machine

/-! ## Switchable functions (R25 to R29) -/

inductive FState where
  | off | stopping | on
deriving DecidableEq, Repr

/-- One switchable function: its state and restart latch (R25), whether it stands in the one oscillator cycle of OFF
of a restart, whether a record or strap wants it ON, and whether self-test has retired it (R517). -/
structure FuncState where
  st : FState := .off
  latch : Bool := false
  cycling : Bool := false
  wanted : Bool := false
  retired : Bool := false
deriving DecidableEq, Repr

structure Funcs where
  transit : FuncState := {}
  converter : FuncState := {}
  ferryman : FuncState := {}
  wmbus : FuncState := {}
  hawser : FuncState := {}
  display : FuncState := {}
  optical : FuncState := { st := .on, wanted := true }
  pulseOut : FuncState := {}
deriving DecidableEq, Repr

/-! ## Configuration in force (R63 to R69, R540): strap presets or applied PARAM_EXPERT groups -/

structure MediumP where
  cls : Nat := 0
  glycolType : Nat := 0
  persist : Nat := 8
  thetaSwitch : Int := 25000000
  thetaHyst : Nat := 1000000
  dthetaZero : Nat := 50000
  dthetaNeg : Nat := 200000
  swapTime : Nat := 3600
  checkTol : Nat := 200000
  glycolW : Nat := 0
  cvSrc : Nat := 0
  cvFixed : Nat := 0
deriving DecidableEq, Repr

structure QTurnP where
  qTurnN : Nat := 2
  nMile : Nat := 10000
deriving DecidableEq, Repr

/-- One configured path (R108, R399). -/
structure PathP where
  portUp : Nat := 0
  portDown : Nat := 1
  devUp : Nat := 0
  devDown : Nat := 0
  fLo : Nat := 800000
  fHi : Nat := 2400000
  pulses : Nat := 8
  driveStart : Nat := 0
  driveMax : Nat := 1
  gainInit : Nat := 48
  winLen : Nat := 2048
  brake : Bool := true
  trackEn : Bool := true
  refPath : Bool := false
deriving DecidableEq, Repr

/-- The path list and the thresholds of R158 in the units of R540. `basic`: `rho_valid` and `slip_min` are the defaults
0.90 and 0.04 themselves, which the units do not hold, and the two fields are not read (R157). -/
structure PathListP where
  basic : Bool := true
  rhoValid : Nat := 58982
  rhoVoid : Nat := 49152
  snrValid : Nat := 80
  snrVoid : Nat := 48
  slipMin : Nat := 10
  imbMarg : Nat := 24
  imbVoid : Nat := 48
  dtMaxFrac : Nat := 64
  retirePairs : Nat := 64
  retireTime : Nat := 60
  paths : List PathP := []
deriving DecidableEq, Repr

structure ShotP where
  external : Bool := false
  retryMax : Nat := 3
  extBurst : Nat := 4
  rateSteps : Nat := 2
  /-- [2^-4 Hz], R189 -/
  rateRest : Nat := 4
  extRateMax : Nat := 256
  gapHold : Nat := 4
deriving DecidableEq, Repr

/-- Roles as R217: 0 none, 1 MEDIUM, 2 FLOW, 3 RETURN, 4 AUX, 5 CHK_F, 6 CHK_R. -/
structure WiringP where
  roles : List Nat := [0, 0, 0, 0]
  wires : List Nat := [4, 4, 4, 4]
  tempHold : Nat := 120
  secMask : Nat := 0
  tempRetire : Nat := 900
deriving DecidableEq, Repr

structure ClampP where
  sensorType : Nat := 0
  nTemp : Nat := 1
  /-- [1/16 s] -/
  tMin : Nat := 32
  tMax : Nat := 480
deriving DecidableEq, Repr

structure InstallP where
  eUnitMJ : Bool := false
  flowPos : Bool := false
  bridgeUse : Nat := 0
  gauge : Bool := false
  estMode : Nat := 0
  pAtm : Nat := 101325
  pNom : Nat := 1600000
  baseP : Nat := 101325
  /-- [1 mK] -/
  baseT : Nat := 273150
  thetaSub : Int := 15000000
  qEst : Int := 0
deriving DecidableEq, Repr

structure PulseP where
  mode0 : Nat := 0
  mode1 : Nat := 0
  nPulse : Nat := 1
  width : Nat := 4096
  gap : Nat := 4096
deriving DecidableEq, Repr

structure RadioP where
  band : Nat := 0
  /-- 0 OFF, 1 NODE, 2 PARENT -/
  role : Nat := 1
  pa20 : Bool := false
  /-- 0 none, 1 T1, 2 C1 -/
  wmbus : Nat := 0
  chFirst : Nat := 25
  chCount : Nat := 3
  /-- transmit duty, per mille; 0 for none -/
  txDuty : Nat := 10
deriving DecidableEq, Repr

/-- One entry of `uplink_objs` or of a READ: object, offset, length (R355, R386). -/
structure ObjRef where
  obj : Nat
  off : Nat
  len : Nat
deriving DecidableEq, Repr

structure PhyP where
  phy : Nat := 0
  preamble : Nat := 8
  exchMax : Nat := 32
  dlTries : Nat := 3
  contactEvery : Nat := 900
  uplinkEvery : Nat := 1
  driftUnc : Nat := 3
  driftUnc0 : Nat := 20
  /-- none at the basic level: the objects of R385 -/
  objs : Option (List ObjRef) := none
  searchCap : Nat := 60
  orphanContacts : Nat := 72
  evictDays : Nat := 30
  proxyHold : Nat := 86400
deriving DecidableEq, Repr

/-- One field of a page (R424, R540). -/
structure PageField where
  kind : Nat := 0
  ink : Nat := 1
  dens : Nat := 255
  signed : Bool := false
  leadZero : Bool := false
  hex : Bool := false
  inv : Bool := false
  obj : Nat := 0
  seg : Nat := 0
  nCells : Nat := 1
  off : Nat := 0
  len : Nat := 1
  shr : Nat := 0
  decimals : Nat := 0
  bit : Nat := 0
  divisor : Nat := 1
  modulo : Nat := 0
deriving DecidableEq, Repr

structure DisplayP where
  /-- 0 button only, otherwise seconds -/
  refreshEvery : Nat := 0
  redEn : Bool := false
  /-- 0 for 15 V, 1 for 7.5 V -/
  drive : Nat := 0
  bgDens : Nat := 255
  pageTimeout : Nat := 60
  updCap : Nat := 120
  /-- none: the built-in pages of R426 -/
  pages : Option (List (List PageField)) := none
deriving DecidableEq, Repr

structure SystemP where
  timeBase : Nat := 0
  refinFallbackEn : Bool := true
  /-- 0 standalone, 1 primary, 2 secondary -/
  role : Nat := 0
  deviceNo : Nat := 0
  demLen : Nat := 2
  demSub : Nat := 0
  pwrEnMode : Nat := 2
  sealEn : Bool := true
  shipEn : Bool := true
  plsEn : Nat := 15
  secLostCycles : Nat := 16
  secLostTime : Nat := 10
  pwrEnLead : Nat := 33
  adjLimit : Nat := 30
  plsDb : List Nat := [328, 328, 328, 328]
  sealPeriod : Nat := 32768
deriving DecidableEq, Repr

/-- The groups of R68, each absent while its function is expert-pending. -/
structure Groups where
  medium : Option MediumP := none
  qTurn : Option QTurnP := none
  pathList : Option PathListP := none
  shot : Option ShotP := none
  wiring : Option WiringP := none
  clamp : Option ClampP := none
  install : Option InstallP := none
  pulse : Option PulseP := none
  radio : Option RadioP := none
  phy : Option PhyP := none
  display : Option DisplayP := none
  system : Option SystemP := none
deriving DecidableEq, Repr

/-! ## Stored calibration (R159, R200, R211, R539) -/

structure PathCal where
  tOfs : Nat
  pathLen : Nat
  pathAxial : Nat
  dtZero : Int
deriving DecidableEq, Repr

structure WeightSet where
  mask : Nat
  w : List Int
  profK : List Nat
deriving DecidableEq, Repr

structure FlowCal where
  pipeDiam : Nat
  pipeArea : Nat
  qNom : Nat
  qCut : Nat
  errQ : List Nat
  errE : List Int
  wsets : List WeightSet
deriving DecidableEq, Repr

/-- Coefficients of one channel (R200). -/
structure ChanCal where
  r0 : Nat
  leadOhm : Nat
  cvdA : Int
  cvdB : Int
  cvdC : Int
deriving DecidableEq, Repr

/-- TEMP section: the reference resistors and the channels given. -/
structure TempCal where
  refaOhm : Nat := 1048576000
  refbOhm : Nat := 2097152000
  chans : List (Option ChanCal) := [none, none, none, none]
deriving DecidableEq, Repr

structure BridgeCal where
  c0 : Int
  c1 : Int
  c2 : Int
  d0 : Int
  d1 : Int
deriving DecidableEq, Repr

/-- Ageing model of one crystal (R101). -/
structure AgeCal where
  calTime : Nat := 0
  tau : Nat := 1
  eps0 : Int := 0
  lin : Int := 0
  log : Int := 0
deriving DecidableEq, Repr

/-- Rate trim and parabola of LFX (R301, R302, R335). -/
structure LfCal where
  trimN : Int := 0
  trimK : Nat := 10
  beta : Int := -2228
  theta0 : Int := 6400
deriving DecidableEq, Repr

/-- Display tables (R415, R539). -/
structure DispCal where
  waveDrive : Nat := 0
  segUsed : Nat := 0
  segRegion : List Nat := []
  dens : List Nat := []
  cells : List (List Nat) := []
  icons : List Nat := []
  waveIdx : List Nat := []
  /-- each entry: its phases as u16 words -/
  library : List (List Nat) := []
deriving DecidableEq, Repr

structure CalibP where
  path : Option (List PathCal) := none
  flow : Option FlowCal := none
  temp : Option TempCal := none
  bridge : Option BridgeCal := none
  age : AgeCal := {}
  lf : LfCal := {}
  disp : Option DispCal := none
  /-- entry k − 1 for secondary k -/
  secClock : List AgeCal := [{}, {}, {}, {}, {}]
deriving DecidableEq, Repr

/-- Configuration: groups in force, calibration in force, stored records byte for byte (R529), and the pending
states of R68, R73 and R543. -/
structure Conf where
  g : Groups := {}
  calib : CalibP := {}
  calibStored : Bytes := []
  expertStored : Bytes := []
  /-- bit n: the function of strap n is expert-pending (R68) -/
  pendingMask : Nat := 0
  safePreset : Bool := false
  /-- cause of R543 while calibration-pending, 0 otherwise -/
  calibPending : Nat := 0
deriving DecidableEq, Repr

/-! ## Straps (R60 to R77) -/

structure Straps where
  /-- STRAP_IMAGE, R75 -/
  codes : Nat := 0
  badMask : Nat := 0
  loadRefused : Bool := false
  sealMismatch : Bool := false
  expertPendingBit : Bool := false
  safeBit : Bool := false
  /-- STRAP_LAST, R75 -/
  lastCodes : Nat := 0
  lastBad : Nat := 0
  /-- STRAP_SEAL, R75 -/
  sealCodes : Nat := 0
  /-- codes of the image in force before this cold start, R77; none before the first -/
  inForce : Option Nat := none
  /-- tick of the last read, R61 -/
  lastRead : Nat := 0
deriving DecidableEq, Repr

/-! ## Transit Engine -/

/-- PATH_TUNE entry, R112. -/
structure Tune where
  pDrv : Nat := 0
  gain : Nat := 0
  level : Nat := 0
  decim : Nat := 0
  acquiring : Bool := false
  parity : Bool := false
  edgeRun : Nat := 0
  lastPeak : Nat := 0
deriving DecidableEq, Repr

/-- PATH_TEMPLATE entry, R126; `points` is empty while nothing has been learned. -/
structure Template where
  refPos : Nat := 0
  learnCount : Nat := 0
  learned : Bool := false
  pLearn : Nat := 0
  decim : Nat := 0
  updates : Nat := 0
  points : List Int := []
deriving DecidableEq, Repr

inductive Grade where
  | void | marginal | valid
deriving DecidableEq, Repr

/-- PATH_RESULT entry, R131. -/
structure PathResult where
  tUd : Nat := 0
  tDu : Nat := 0
  dt : Int := 0
  sos : Nat := 0
  grade : Grade := .void
  voidCause : Nat := 0
  snr : Nat := 0
  rho : Nat := 0
  peakUd : Nat := 0
  peakDu : Nat := 0
  cycleSeq : Nat := 0
  slip : Nat := 0
deriving DecidableEq, Repr

/-- PATH_HEALTH entry, R147. -/
structure PathHealth where
  /-- 0 unused, 1 active, 2 acquiring, 3 retired -/
  state : Nat := 0
  retireCause : Nat := 0
  voidRun : Nat := 0
  pairs : Nat := 0
  voidPairs : Nat := 0
  marginalPairs : Nat := 0
deriving DecidableEq, Repr

/-- Working state of one path that no object exports: window and search (R89, R119), sweep (R86), learning
captures (R120), previous noise figures (R127), prediction for the lag range (R121), runs (R124, R140, R145). -/
structure PathWork where
  winOpen : Nat := 0
  found : Bool := false
  searchStep : Nat := 0
  validT : Bool := false
  sweeping : Bool := false
  sweepStep : Nat := 0
  sweepRestarts : Nat := 0
  sweepBestPeak : Nat := 0
  sweepBestK : Nat := 0
  /-- learning captures, aligned: the 512 points of each (R120) -/
  captures : List (List Int) := []
  /-- previous noise figures as (sum of squares, samples), none before the first (R127) -/
  noiseUd : Option (Nat × Nat) := none
  noiseDu : Option (Nat × Nat) := none
  /-- pairs since the last VALID or MARGINAL pair; none when there was none in reach -/
  sinceGood : Option Nat := none
  /-- template start of that pair in each direction, coarse cycles -/
  goodUd : Nat := 0
  goodDu : Nat := 0
  /-- expected arrival, half fine LSB from the counter's start -/
  arrival2 : Int := 0
  lowRhoRun : Nat := 0
  searchVoidRun : Nat := 0
  lastNonVoid : Option Nat := none
  activeSince : Nat := 0
  sosDisagree : Nat := 0
  sosAgree : Nat := 0
  sosFailing : Bool := false
  /-- the path delivered in the running cycle -/
  delivered : Bool := false
  /-- its pair of the running cycle was VOID with cause 1 or 2 (R138) -/
  noArm : Bool := false
  /-- tick of its latest VALID pair (R145) -/
  lastValid : Option Nat := none
  /-- its parameters changed while its pair was in flight: it is reinitialised when that pair is over (R92, R112) -/
  stale : Bool := false
  /-- cross-chip: the template of the direction that the secondary receives is learned (R124, R402) -/
  mateLearned : Bool := false
  /-- at a secondary: consecutive FIRE frames that asked for no result; sixteen are a sweep (R86, R392; log 28) -/
  sweepShots : Nat := 0
deriving DecidableEq, Repr

structure PathState where
  tune : Tune := {}
  tpl : Template := {}
  /-- FRAM mirror of the template, R125 -/
  mirror : Template := {}
  res : PathResult := {}
  health : PathHealth := {}
  work : PathWork := {}
deriving DecidableEq, Repr

/-- PORT_HEALTH entry, R148. -/
structure Port where
  /-- 0 absent, 1 in use, 2 retired -/
  state : Nat := 0
  elec : Nat := 0
  elecRun : Nat := 0
deriving DecidableEq, Repr

/-- A TDC calibration set: TDC_CAL, R111. -/
structure TdcSet where
  calTick : Nat := 0
  rawSpanRef : Nat := 0
  rawSpanNow : Nat := 0
  calDieTemp : Int := 0
  delayA : List Nat := [0, 0, 0, 0, 0, 0, 0, 0]
  delayB : List Nat := [0, 0, 0, 0, 0, 0, 0, 0]
  segEdge : List Nat := List.replicate 97 0
deriving DecidableEq, Repr

/-- TDC calibration: the active set and the counters of R111, the shadow set (R97), the set that the run builds, the
hits gathered so far, the kind of run due and its steps done, the triggers of R96. -/
structure Tdc where
  act : TdcSet := {}
  failRun : Nat := 0
  fault : Bool := false
  calCount : Nat := 0
  shadow : TdcSet := {}
  /-- what the running calibration has built so far; a rejected one leaves it unused (R98) -/
  build : TdcSet := {}
  /-- a completed shadow set waits for the next cycle -/
  shadowReady : Bool := false
  hits : List Nat := []
  /-- 0 nothing to do, 1 span run, 2 full run -/
  due : Nat := 0
  stepsDone : Nat := 0
  pairsSpan : Nat := 0
  pairsFull : Nat := 0
  spanTemp : Int := 0
  fullTemp : Int := 0
deriving DecidableEq, Repr

/-- TIMEBASE_STATUS, R110, with the corrections in force (R102) and the runs of R105. -/
structure TimeBase where
  hfxCorr : Int := 0
  ageDays : Nat := 0
  refinSel : Bool := false
  refinActive : Bool := false
  fallback : Bool := false
  corrHeld : Bool := false
  corrClamped : Bool := false
  failRun : Nat := 0
  lossCount : Nat := 0
  tdcOvf : Nat := 0
  failCount : Nat := 0
  /-- hfx_corr applied in the running cycle, R102 -/
  corrInForce : Int := 0
  passRun : Nat := 0
  /-- 64 passes seen: relock to REF_IN at the start of the next cycle -/
  relock : Bool := false
deriving DecidableEq, Repr

inductive Medium where
  | unknown | water | pg | eg | ngH | ngL | h2 | biogas | air
deriving DecidableEq, Repr

/-- One acting cycle's (θ_m, Δc), or the sums over sixteen of them, R137. -/
structure GlyPoint where
  theta : Int
  dc : Int
deriving DecidableEq, Repr

/-- CYCLE_STATUS, R141, with the runs of R137 and R138. -/
structure CycleStatus where
  cCycle : Nat := 0
  c20 : Nat := 0
  dcLiquid : Int := 0
  medium : Medium := .water
  candidate : Medium := .unknown
  persist : Nat := 0
  mismatch : Bool := false
  emptyPipe : Bool := false
  sosCheckFail : Bool := false
  noSignal : Bool := false
  flowHeld : Bool := false
  flowFault : Bool := false
  fraction : Nat := 0
  retryRun : Nat := 0
  tLastFlow : Nat := 0
  tFaultStart : Nat := 0
  /-- the classifier has adopted a medium (R139) -/
  adopted : Bool := false
  /-- the class whose default medium was taken, or was not needed, at the latest cold start (R139) -/
  clsSeen : Nat := 0
  /-- a glycol candidate has arisen, the type has been discriminated, and it is EG (R137) -/
  glySeen : Bool := false
  glyFound : Bool := false
  glyEg : Bool := false
  glyBuf : List GlyPoint := []
  glyLow : Option GlyPoint := none
  glyHigh : Option GlyPoint := none
  /-- consecutive cycles with every active path VOID with cause 1 or 2 (R138) -/
  voidCycles : Nat := 0
  airProbes : Nat := 0
deriving DecidableEq, Repr

/-- EXT_SHOT, R154. -/
structure ExtShot where
  accepted : Nat := 0
  refusedBusy : Nat := 0
  refusedRate : Nat := 0
  refusedBg : Nat := 0
  refusedMode : Nat := 0
  tokens : Nat := 0
  /-- what the latest tick added to `tokens` -/
  gained : Nat := 0
  nextPath : Nat := 0
deriving DecidableEq, Repr

/-- The running measurement cycle (R113, R149): paths still to fire, the path in flight, whether that pair is an
empty-pipe probe, an accepted SHOT pair; and what waits for admission. -/
structure Cycle where
  seq : Nat := 0
  running : Bool := false
  toFire : List Nat := []
  inFlight : Option Nat := none
  probe : Bool := false
  extPair : Bool := false
  /-- the cycle has ended and ADMIT_INCREMENT is due -/
  complete : Bool := false
  startOsc : Nat := 0
  broughtForward : Bool := false
  /-- external mode: paths fired since the last completion -/
  fired : List Nat := []
  /-- oscillator cycles to the next expiry of the shot timer, R178; none while stopped -/
  shotIn : Option Nat := none
  /-- period that applies from the next expiry, R179 -/
  level : Nat := 0
  /-- the path the next probe replaces, chosen at cycle start (R138) -/
  probePath : Option Nat := none
  /-- what the pair in flight was fired with: the path's fields, the medium class, the calibration entry (R92) -/
  key : Option (Option PathP × Nat × Option PathCal) := none
  /-- external mode: active paths that could not be fired as the cycle began (R404, R406) -/
  barred : List Nat := []
deriving DecidableEq, Repr

structure Transit where
  paths : List PathState := List.replicate 20 {}
  ports : List Port := List.replicate 10 {}
  /-- at a primary: retired ports of its secondaries, (device, port) (R145, R155, R405) -/
  secRetired : List (Nat × Nat) := []
  tdc : Tdc := {}
  tb : TimeBase := {}
  cs : CycleStatus := {}
  ext : ExtShot := {}
  cyc : Cycle := {}
deriving DecidableEq, Repr

/-! ## Flow, Capstan, pulse outputs -/

/-- FLOW_NOW, R185; `qf` is the flow in force of R169, absent under R170. -/
structure FlowNow where
  qf : Option Int := none
  qRaw : Int := 0
  vMean : Int := 0
  re : Nat := 0
  kProf : Nat := 0
  eCurve : Int := 0
  maskUsed : Nat := 0
  setIndex : Nat := 0
  cutActive : Bool := true
  noSet : Bool := false
  fallback : Bool := false
  overFmt : Bool := false
  fallbackCycles : Nat := 0
  nosetCycles : Nat := 0
  overCycles : Nat := 0
  /-- metering runs (R171) -/
  metering : Bool := false
  /-- the gap decision of R170 waits for the end of the running cycle -/
  gapWait : Bool := false
  /-- Q_f at the closing increment of R170, for the estimate of R243 -/
  qe : Int := 0
deriving DecidableEq, Repr

/-- CAPSTAN, R186. -/
structure Capstan where
  turns : Int := 0
  hwm : Int := 0
  phase : Nat := 0
  qTurnN : Nat := 0
  tempTurns : Nat := 0
  revTurns : Nat := 0
  restartTick : Nat := 0
deriving DecidableEq, Repr

inductive PulsePhase where
  | idle | low | gap
deriving DecidableEq, Repr

/-- One pulse output: owed and emitted counters (R187), the pulse in progress (R181), the output level. -/
structure PulseCh where
  owed : Nat := 0
  emitted : Nat := 0
  mode : Nat := 0
  phase : PulsePhase := .idle
  remain : Nat := 0
  low : Bool := false
  /-- PULSE_OVERRUN already journalled since the counter was last below full, R182 -/
  overrun : Bool := false
deriving DecidableEq, Repr

structure PulseOut where
  ch0 : PulseCh := {}
  ch1 : PulseCh := {}
  lost : Nat := 0
  width : Nat := 0
  gap : Nat := 0
  nPulse : Nat := 0
deriving DecidableEq, Repr

/-! ## Temperature and pressure -/

inductive ThermalMode where
  | none | heat | cool | neg
deriving DecidableEq, Repr

/-- TEMP_SAMPLE, R214. -/
structure TempSample where
  theta : List Int := [0, 0, 0, 0]
  dtheta : Int := 0
  thetaM : Int := 20000000
  pAbs : Nat := 1600000
  bridgeR : Int := 0
  refRatio : Nat := 0
  tick : Nat := 0
  valid : List Bool := [false, false, false, false]
  held : List Bool := [false, false, false, false]
  pValid : Bool := false
  pHeld : Bool := false
  mode : ThermalMode := .none
  coolSide : Bool := false
  refFault : Bool := false
  checkFail : Bool := false
  swapSuspect : Bool := false
  seq : Nat := 0
deriving DecidableEq, Repr

/-- TEMP_HEALTH entry, R215, with the working state of R208: last valid conversion since the cold start, and the
run that leads to retirement. -/
structure TempUnit where
  /-- 0 unused, 1 valid, 2 held or absent, 3 retired -/
  state : Nat := 0
  lastFault : Nat := 0
  failRun : Nat := 0
  failCount : Nat := 0
  lastValid : Option (Int × Nat) := none
  runStart : Option Nat := none
  runCount : Nat := 0
  /-- the latest valid flag, so that TEMP_CHANNEL_FAULT is journalled once -/
  wasValid : Bool := false
deriving DecidableEq, Repr

/-- The two runs of one compared pair, R206. -/
structure CheckRun where
  exceed : Nat := 0
  agree : Nat := 0
  failing : Bool := false
  /-- the pair that the runs belong to: role of the channel, index of its target -/
  pair : Option (Nat × Nat) := none
deriving DecidableEq, Repr

/-- What one device's converter gives in a sample (R201): θ and fault of each channel number, the two attempts at the
bridge with their faults but that of the pressure (R213), the reference ratio and whether its check failed. -/
structure OwnPart where
  chans : List (Int × Nat)
  bridge : Option ((Int × Nat) × (Int × Nat))
  refRatio : Nat
  refBad : Bool
deriving DecidableEq, Repr

structure Temp where
  sample : TempSample := {}
  units : List TempUnit := [{}, {}, {}, {}, {}]
  /-- one per channel, for the pair in which that channel is compared with its target -/
  checks : List CheckRun := [{}, {}, {}, {}]
  due : Bool := false
  running : Bool := false
  /-- tick at which the previous sample fell due, the origin of R11's times -/
  lastDue : Nat := 0
  /-- a sample has completed since the cold start -/
  any : Bool := false
  /-- start of the unbroken run of NEG samples with flow, R205 -/
  negSince : Option Nat := none
  nonNegRun : Nat := 0
  /-- the side has been decided since the cold start, R204 -/
  sideKnown : Bool := false
  /-- the sample that prices increments (R13, R201); none before the first -/
  pricing : Option TempSample := none
  /-- the sample before it, for increments of the tick at which it completed (R201) -/
  prevPricing : Option TempSample := none
  /-- secondaries' parts in a cascade sample: device, θ and fault of each channel number, R403 -/
  parts : List (Nat × List (Int × Nat)) := []
  awaiting : List Nat := []
  /-- the primary's own conversions, kept until every part is in -/
  ownPart : Option OwnPart := none
deriving DecidableEq, Repr

/-! ## Tollhouse -/

/-- VOL_LEDGER, R173. -/
structure VolLedger where
  net : Int := 0
  hwm : Int := 0
  rev : Nat := 0
  incRem : Nat := 0
  tPrev : Nat := 0
deriving DecidableEq, Repr

inductive Side where
  | heat | cool
deriving DecidableEq, Repr

/-- One side of E_LEDGER (R251): billed net, high-water mark, reverse energy, remainder; and its eight tariff
ledgers and registers (R252). -/
structure SideLedger where
  net : Int := 0
  hwm : Int := 0
  rev : Nat := 0
  rem : Nat := 0
  tar : List Nat := List.replicate 8 0
  reg : List Nat := List.replicate 8 0
deriving DecidableEq, Repr

/-- One side of the estimated ledger, R253. -/
structure EstSide where
  net : Int := 0
  hwm : Int := 0
  rem : Nat := 0
deriving DecidableEq, Repr

/-- The held pricing set of R232. -/
structure HeldSet where
  side : Side
  rho : Nat
  dh : Int
deriving DecidableEq, Repr

/-- The ledgers of R173, R251, R253 and R255. -/
structure Ledgers where
  vol : VolLedger := {}
  heat : SideLedger := {}
  cool : SideLedger := {}
  gasRem : Nat := 0
  pulseAcc : Nat := 0
  hold : Option HeldSet := none
  /-- the held set as it stood before the latest sample, for increments of that sample's tick (R201, R223) -/
  holdBefore : Option HeldSet := none
  estVol : Int := 0
  estHeat : EstSide := {}
  estCool : EstSide := {}
  estVrem : Nat := 0
  tEst : Nat := 0
  baseNet : Int := 0
  baseHwm : Int := 0
  distNet : Int := 0
  distHwm : Int := 0
  baseRem : Nat := 0
  distRem : Nat := 0
  gasInfo : Int := 0
  gasInfoRem : Nat := 0
deriving DecidableEq, Repr

/-- FAULT_TIME, R254. -/
structure FaultTime where
  tFlow : Nat := 0
  tTemp : Nat := 0
  tRange : Nat := 0
  tNeg : Nat := 0
  tSafe : Nat := 0
  tConv : Nat := 0
  tError : Nat := 0
  tOff : Nat := 0
  offUnknown : Nat := 0
  /-- mask of R241 -/
  cond : Nat := 0
  tCond : Nat := 0
  /-- `t_error` as it stood at the tick t_g of a gap that waits for its cycle (R170, R241 bit 0) -/
  gapErr : Nat := 0
deriving DecidableEq, Repr

/-- THERMAL_NOW, R256. -/
structure ThermalNow where
  rho : Nat := 0
  hFlow : Int := 0
  hReturn : Int := 0
  dh : Int := 0
  wPrice : Nat := 19661
  power : Nat := 0
  z : Nat := 0
  zB : Nat := 0
  factor : Nat := 0
  nu : Nat := 0
  cvEst : Nat := 0
  pEval : Nat := 0
  /-- 0 none, 1 heat, 2 cool -/
  side : Nat := 0
  priced : Bool := false
  pFloor : Bool := false
  convSub : Bool := false
deriving DecidableEq, Repr

structure Toll where
  led : Ledgers := {}
  ft : FaultTime := {}
  now : ThermalNow := {}
  /-- tick of the latest advance of VOL_REV, for tamper kind 16 (R464) -/
  lastRev : Option Nat := none
  /-- energy unit MJ in force, R235 -/
  unitMJ : Bool := false
  /-- an energy unit has been in force (R235; log 30) -/
  unitHad : Bool := false
deriving DecidableEq, Repr

end Sys2Proof.Machine
end

