-- ==== Sys2Proof/Machine/Props.lean ====
section
/-! DEFINITION. Property evaluation in integers (R219, R220, R225 to R230, R238, R247). -/

namespace Sys2Proof.Machine

/-- `v` where it lies in lo to hi; otherwise a free value of that range (log 14). -/
def fitRange (tag : Nat) (lo hi v : Int) : Int :=
  if lo ≤ v ∧ v ≤ hi then v else lo + (Config.outOfFormat tag v 1 : Int) % (hi - lo + 1)

/-- A value in an unsigned field of `w` bits. -/
def fitU (tag w : Nat) (v : Int) : Nat := (fitRange tag 0 (2 ^ w - 1) v).toNat

/-- A value in a signed field of `w` bits. -/
def fitS (tag w : Nat) (v : Int) : Int := fitRange tag (-(2 ^ (w - 1))) (2 ^ (w - 1) - 1) v

/-! ## The Horner loop of R225 -/

/-- acc = c[k] + round(acc × u × 2^-32), k from `k` − 1 down to 0. -/
def hornerGo (c : Nat → Int) (u : Int) : Nat → Int → Int
  | 0, acc => acc
  | k + 1, acc => hornerGo c u k (c k + rne (acc * u) (2 ^ 32))

/-- The final accumulator of R225 for coefficients c[0..deg]. -/
def horner (c : Nat → Int) (deg : Nat) (u : Int) : Int := hornerGo c u deg (c deg)

/-- Segment and u of R225 for a table from `t0` (µK) of `nseg` segments. -/
def segOf (t0 : Int) (nseg : Nat) (th : Int) : Nat × Int :=
  let s := (max 0 (min ((th - t0) / 10000000) (nseg - 1))).toNat
  (s, rne ((th - t0 - 10000000 * s) * 2 ^ 32) 10000000)

/-- Accumulator of water table t (R226) at θ. -/
def waterAcc (t : Nat) (th : Int) : Int :=
  let su := segOf 0 18 th
  horner (Config.waterCoef t su.1) 6 su.2

/-- Accumulator of glycol table t at θ and concentration w u16 [2^-16]. -/
def glycolAcc (t : Nat) (th : Int) (w : Nat) : Int :=
  let su := segOf (-20000000) 14 th
  horner (fun k => horner (Config.glycolCoef t su.1 k) 3 (w * 65536)) 5 su.2

/-! ## Water (R227) -/

/-- p_lo in units of 1/16 mPa is not needed: R227's bound in pascal as a fraction over 80 000 000. -/
def pLo (th : Int) : Int × Nat :=
  if th < 100000000 then (120000, 1) else (120000 * 80000000 + 900000 * (th - 100000000), 80000000)

/-- p_eval of R227 as numerator and denominator, and whether the floor applied. -/
def pEval (th : Int) (p : Int) : (Int × Nat) × Bool :=
  let lo := pLo th
  if p * lo.2 < lo.1 then (lo, true)
  else if 4000000 < p then ((4000000, 1), false)
  else ((p, 1), false)

/-- An output of R227: tables `a` at 1.6 MPa and `d` per MPa. -/
def waterValue (a d : Nat) (th : Int) (pe : Int × Nat) : Int :=
  let num := waterAcc a th * 1000000 * pe.2 + waterAcc d th * (pe.1 - 1600000 * pe.2)
  rne num (1000000 * pe.2 * 2 ^ 24)

/-- R231: every density output lies from 600 to 1300 kg/m³, every enthalpy output from −0.2 to +1.0 MJ/kg, whatever the
coefficients of the ROM (log 7). -/
def rhoOut (v : Int) : Nat := (fitRange 49 (600 * 65536) (1300 * 65536) v).toNat
def hOut (v : Int) : Int := fitRange 50 (-200000 * 256) (1000000 * 256) v

/-- Density, enthalpy and speed of sound of water. -/
def waterRho (th p : Int) : Nat := rhoOut (waterValue 0 2 th (pEval th p).1)
def waterH (th p : Int) : Int := hOut (waterValue 1 3 th (pEval th p).1)
def waterC (th p : Int) : Nat := (waterValue 5 6 th (pEval th p).1).toNat

/-! ## Glycol (R228) -/

/-- Density and enthalpy, `eg` for ethylene glycol; the enthalpy is 0 at 0 °C (R231). -/
def glycolRho (eg : Bool) (th : Int) (w : Nat) : Nat := rhoOut (rne (glycolAcc (if eg then 2 else 0) th w) (2 ^ 24))
def glycolH (eg : Bool) (th : Int) (w : Nat) : Int :=
  if th = 0 then 0 else hOut (rne (glycolAcc (if eg then 3 else 1) th w) (2 ^ 24))

/-! ## Gas (R229) -/

/-- A gas entry: its fields scaled by `den`. -/
structure GasEntry where
  zk0 : Int
  zk1 : Int
  mu20 : Int
  molar : Int
  den : Nat
deriving DecidableEq, Repr

/-- The stored integers of R229 from its nominal figures: z_k0 in 10^-11 /Pa, z_k1 in 10^-12 /(Pa·K), mu20 in
0.1 µPa·s, molar in mg/mol. -/
def gasEntry (zk0 zk1 mu molar : Int) : GasEntry :=
  ⟨rne (zk0 * 2 ^ 55) (10 ^ 11), rne (zk1 * 2 ^ 62) (10 ^ 12), rne (mu * 2 ^ 40) (10 ^ 7), rne (molar * 2 ^ 32) (10 ^ 6),
   1⟩

def gasNgH : GasEntry := gasEntry (-2300) 200 110 17500
def gasNgL : GasEntry := gasEntry (-2050) 180 115 18600
def gasH2 : GasEntry := gasEntry 590 (-10) 89 2016
def gasBio : GasEntry := gasEntry (-4600) 400 125 27200
def gasAir : GasEntry := gasEntry (-350) 100 182 28960

/-- The fraction x of R135 over 65 536, with 0xFFFF for exactly 1. -/
def fracOf (x : Nat) : Nat := if x = 0xFFFF then 65536 else x

/-- (1 − x) NG_H + x hydrogen, taken exactly. -/
def gasBlend (x : Nat) : GasEntry :=
  let f : Int := fracOf x
  let m := fun (a b : Int) => (65536 - f) * a + f * b
  ⟨m gasNgH.zk0 gasH2.zk0, m gasNgH.zk1 gasH2.zk1, m gasNgH.mu20 gasH2.mu20, m gasNgH.molar gasH2.molar, 65536⟩

/-- The class default medium of R139. -/
def classDefault (cls : Nat) : Medium :=
  if cls ≤ 3 then .water
  else if cls ≤ 6 then .pg
  else if cls = 8 then .ngL
  else if cls = 10 then .h2
  else if cls = 11 then .biogas
  else .ngH

/-- The set of media that a class expects (R139). -/
def expected (cls : Nat) (m : Medium) : Bool :=
  match m with
  | .water => cls ≤ 3
  | .pg | .eg => 4 ≤ cls && cls ≤ 6
  | .air => cls ≤ 6
  | .ngH => cls == 7 || cls == 9
  | .ngL => cls == 8 || cls == 9
  | .h2 => cls == 10
  | .biogas => cls == 11
  | .unknown => false

/-- The entry of a gas medium with fraction x; the class default's for UNKNOWN (R229). -/
def gasOf (cls : Nat) (m : Medium) (x : Nat) : GasEntry :=
  let e := fun (m : Medium) => match m with
    | .ngL => gasNgL
    | .h2 => gasBlend x
    | .biogas => gasBio
    | .air => gasAir
    | _ => gasNgH
  match m with
  | .unknown => e (classDefault cls)
  | m => e m

/-- Z of R229 at pressure p (Pa) and temperature θ (µK). Allowed settings take it outside the 0.80 to 1.10 of R231; the value
of R229 is taken there (DESIGN CHOICE, log 15). -/
def zFactor (g : GasEntry) (p th : Int) : Int :=
  -- (z_k0 2^-55 + z_k1 2^-62 (θ − 20 °C)) over 2^62 · 10^6 · den
  let k := g.zk0 * 128 * 1000000 + g.zk1 * (th - 20000000)
  let d : Nat := 2 ^ 62 * 1000000 * g.den
  rne (2 ^ 30 * (d + p * k)) d

/-- The factor of R238 from rounded Z_b and Z: base_t in mK. -/
def convFactor (p : Int) (baseP baseT : Nat) (th : Int) (zb z : Int) : Int :=
  rneI (2 ^ 24 * p * (baseT * 1000) * zb) (baseP * (th + 273150000) * z)

/-! ## Viscosity (R230) -/

def clampTh (lo hi th : Int) : Int := max lo (min hi th)

/-- a and b of gly_visc, s32 [2^-24], from the nominal values of R230. -/
def glyVisc (eg : Bool) : Int × Int :=
  if eg then (rne (230 * 2 ^ 24) 100, rne (90 * 2 ^ 24) 100) else (rne (253 * 2 ^ 24) 100, rne (217 * 2 ^ 24) 100)

def nuWater (th : Int) : Int := rne (waterAcc 4 (clampTh 1000000 180000000 th)) (2 ^ 24)

/-- ν of a glycol: θ within −20 to 120 °C, and the water table within its own clamp of 1 to 180 °C. -/
def nuGlycol (eg : Bool) (th : Int) (w : Nat) : Int :=
  let t := clampTh 1000000 180000000 (clampTh (-20000000) 120000000 th)
  let ab := glyVisc eg
  -- a w + b w² in 2^-fixP
  let e := (ab.1 * w * 65536 + ab.2 * w * w) * 2 ^ fixP / 2 ^ 56
  rne (waterAcc 4 t * expFix e) (2 ^ (24 + fixP))

def nuGas (g : GasEntry) (p th : Int) : Int :=
  let t := clampTh (-30000000) 70000000 th
  if p ≤ 0 then Config.gasNuZeroPressure t
  else
    let tk := t + 273150000
    let pw := expFix (lnFix tk.toNat 293150000 * 7 / 10)
    let z := zFactor g p t
    -- mu20 2^-40 / den × pw × Z 2^-30 × 8.314462618 × T / (p × molar 2^-32 / den)
    rneI (g.mu20 * pw * z * 8314462618 * tk * 4) (p * g.molar * 10 ^ 15 * 2 ^ fixP)

/-! ## Acoustic calorific estimate (R247) -/

/-- `cv_est` from c20 u32 [2^-16 m/s]; class and medium as in force. -/
def cvEstimate (m : Medium) (x c20 : Nat) (baseP baseT : Nat) : Int :=
  let c : Int := c20
  -- the estimate of the table as a numerator over 100 · 65 536 · 179
  let e : Int := match m with
    | .ngH => (4060 * 65536 + 35 * (437 * 65536 - c)) * 179
    | .ngL => (3510 * 65536 + 25 * (c - 410 * 65536)) * 179
    | .h2 => ((65536 - fracOf x) * 4100 + fracOf x * 1275) * 179
    | .biogas => 3982 * max 0 (min (c - 267 * 65536) (179 * 65536))
    | _ => 0
  rne (e * (273150 * baseP) * 65536) (100 * 65536 * 179 * (baseT * 101325))

end Sys2Proof.Machine
end

