-- ==== Sys2Proof/Machine/Crypto.lean ====
section
/-! DEFINITION. The published algorithms that R7 names: SHA-256, ECDSA over P-256, AES-128, CCM*, the key wrap of
RFC 3394, and the checks of the frames (PRESUMED, log 12: their text is not in the manual). -/

namespace Sys2Proof.Machine

/-! ## SHA-256 -/

abbrev W32 := BitVec 32

def beNat (bs : Bytes) : Nat := bs.foldl (fun a b => a * 256 + b.toNat) 0

def beBytes (n v : Nat) : Bytes := (leBytes n v).reverse

def chunks (k : Nat) : Nat → Bytes → List Bytes
  | 0, _ => []
  | f + 1, bs => if bs.isEmpty then [] else bs.take k :: chunks k f (bs.drop k)

/-- Bytes in blocks of `k`. -/
def blocks (k : Nat) (bs : Bytes) : List Bytes := chunks k (bs.length + 1) bs

def primesGo : Nat → Nat → List Nat → List Nat
  | 0, _, acc => acc.reverse
  | f + 1, n, acc => primesGo f (n + 1) (if acc.all (fun p => n % p != 0) then n :: acc else acc)

/-- The first 64 primes. -/
def primes64 : List Nat := (primesGo 310 2 []).take 64

def icbrtGo (n : Nat) : Nat → Nat → Nat
  | 0, acc => acc
  | k + 1, acc => let t := acc + 2 ^ k; icbrtGo n k (if t * t * t ≤ n then t else acc)

def isqrt32Go (n : Nat) : Nat → Nat → Nat
  | 0, acc => acc
  | k + 1, acc => let t := acc + 2 ^ k; isqrt32Go n k (if t * t ≤ n then t else acc)

/-- Round constants: 32 bits of the fractional parts of the cube roots of the first 64 primes. -/
def shaK : List W32 := primes64.map fun p => BitVec.ofNat 32 (icbrtGo (p * 2 ^ 96) 36 0)

/-- Initial state: 32 bits of the fractional parts of the square roots of the first 8 primes. -/
def shaH0 : List W32 := (primes64.take 8).map fun p => BitVec.ofNat 32 (isqrt32Go (p * 2 ^ 64) 37 0)

def rotr (x : W32) (n : Nat) : W32 := x.rotateRight n

def shaExtend : Nat → List W32 → List W32
  | 0, w => w
  | f + 1, w =>
    -- `w` is newest first
    let g := fun i => w.getD i 0
    let a := g 14
    let b := g 1
    let s0 := rotr a 7 ^^^ rotr a 18 ^^^ (a >>> 3)
    let s1 := rotr b 17 ^^^ rotr b 19 ^^^ (b >>> 10)
    shaExtend f ((g 15 + s0 + g 6 + s1) :: w)

def shaRound (h : List W32) (kw : W32 × W32) : List W32 :=
  match h with
  | [a, b, c, d, e, f, g, hh] =>
    let s1 := rotr e 6 ^^^ rotr e 11 ^^^ rotr e 25
    let ch := (e &&& f) ^^^ ((~~~ e) &&& g)
    let t1 := hh + s1 + ch + kw.1 + kw.2
    let s0 := rotr a 2 ^^^ rotr a 13 ^^^ rotr a 22
    let mj := (a &&& b) ^^^ (a &&& c) ^^^ (b &&& c)
    [t1 + (s0 + mj), a, b, c, d + t1, e, f, g]
  | l => l

def shaBlock (h : List W32) (blk : Bytes) : List W32 :=
  let w := (blocks 4 blk).map fun b => BitVec.ofNat 32 (beNat b)
  let ws := (shaExtend 48 w.reverse).reverse
  List.zipWith (· + ·) h ((List.zip shaK ws).foldl shaRound h)

/-- SHA-256. -/
def sha256 (m : Bytes) : Bytes :=
  let l := m.length
  let z := (119 - l % 64) % 64
  let p := m ++ [0x80#8] ++ List.replicate z 0#8 ++ beBytes 8 (8 * l)
  ((blocks 64 p).foldl shaBlock shaH0).flatMap fun x => beBytes 4 x.toNat

/-! ## ECDSA over P-256 -/

def p256p : Nat := 2 ^ 256 - 2 ^ 224 + 2 ^ 192 + 2 ^ 96 - 1
def p256n : Nat := 0xFFFFFFFF00000000FFFFFFFFFFFFFFFFBCE6FAADA7179E84F3B9CAC2FC632551
def p256b : Nat := 0x5AC635D8AA3A93E7B3EBBD55769886BC651D06B0CC53B0F63BCE3C3E27D2604B
def p256g : Nat × Nat :=
  (0x6B17D1F2E12C4247F8BCE6E563A440F277037D812DEB33A0F4A13945D898C296,
   0x4FE342E2FE1A7F9B8EE7EB4A7C0F9E162BCE33576B315ECECBB6406837BF51F5)

def powModGo (m : Nat) : Nat → Nat → Nat → Nat → Nat
  | 0, _, _, acc => acc
  | f + 1, b, e, acc => powModGo m f (b * b % m) (e / 2) (if e % 2 = 1 then acc * b % m else acc)

def powMod (b e m : Nat) : Nat := powModGo m (Nat.log2 e + 1) (b % m) e 1

/-- The inverse modulo a prime. -/
def invMod (a m : Nat) : Nat := powMod a (m - 2) m

/-- A point in Jacobian coordinates; z = 0 is the point at infinity. -/
structure JPoint where
  x : Nat
  y : Nat
  z : Nat
deriving DecidableEq, Repr

def subP (a b : Nat) : Nat := (a + p256p - b % p256p) % p256p

def jDouble (q : JPoint) : JPoint :=
  if q.z = 0 ∨ q.y = 0 then ⟨1, 1, 0⟩ else
  let yy := q.y * q.y % p256p
  let s := 4 * q.x * yy % p256p
  let zz := q.z * q.z % p256p
  let m := 3 * (subP q.x zz) * (q.x + zz) % p256p
  let x := subP (m * m) (2 * s)
  ⟨x, subP (m * subP s x) (8 * yy * yy), 2 * q.y * q.z % p256p⟩

def jAdd (p q : JPoint) : JPoint :=
  if p.z = 0 then q else if q.z = 0 then p else
  let z1 := p.z * p.z % p256p
  let z2 := q.z * q.z % p256p
  let u1 := p.x * z2 % p256p
  let u2 := q.x * z1 % p256p
  let s1 := p.y * z2 * q.z % p256p
  let s2 := q.y * z1 * p.z % p256p
  if u1 = u2 then (if s1 = s2 then jDouble p else ⟨1, 1, 0⟩) else
  let h := subP u2 u1
  let r := subP s2 s1
  let hh := h * h % p256p
  let hhh := hh * h % p256p
  let v := u1 * hh % p256p
  let x := subP (subP (r * r) hhh) (2 * v)
  ⟨x, subP (r * subP v x) (s1 * hhh), p.z * q.z * h % p256p⟩

def jMulGo : Nat → Nat → JPoint → JPoint → JPoint
  | 0, _, _, acc => acc
  | f + 1, k, q, acc => jMulGo f (k / 2) (jDouble q) (if k % 2 = 1 then jAdd acc q else acc)

def jMul (k : Nat) (q : JPoint) : JPoint := jMulGo 256 k q ⟨1, 1, 0⟩

/-- The point (x, y) lies on the curve, both coordinates reduced. -/
def onCurve (q : Nat × Nat) : Bool :=
  q.1 < p256p && q.2 < p256p &&
    q.2 * q.2 % p256p == (q.1 * q.1 * q.1 + (p256p - 3) * q.1 + p256b) % p256p

/-- ECDSA verification of a 64-byte signature r, s (each most significant byte first) over a SHA-256 hash. -/
def ecdsaVerify (key : Nat × Nat) (hash sig : Bytes) : Bool :=
  let r := beNat (sig.take 32)
  let s := beNat (sig.drop 32)
  if sig.length ≠ 64 ∨ r = 0 ∨ s = 0 ∨ p256n ≤ r ∨ p256n ≤ s ∨ onCurve key = false then false else
  let w := invMod s p256n
  let u1 := beNat hash * w % p256n
  let u2 := r * w % p256n
  let q := jAdd (jMul u1 ⟨p256g.1, p256g.2, 1⟩) (jMul u2 ⟨key.1, key.2, 1⟩)
  if q.z = 0 then false else
  let zi := invMod q.z p256p
  q.x * zi % p256p * zi % p256p % p256n == r

/-! ## AES-128

The state of a block is the list of its sixteen byte values. -/

/-- The substitution table of AES, sixteen entries a row. -/
def sboxRows : List Nat :=
  [0x637C777BF26B6FC53001672BFED7AB76, 0xCA82C97DFA5947F0ADD4A2AF9CA472C0, 0xB7FD9326363FF7CC34A5E5F171D83115,
   0x04C723C31896059A071280E2EB27B275, 0x09832C1A1B6E5AA0523BD6B329E32F84, 0x53D100ED20FCB15B6ACBBE394A4C58CF,
   0xD0EFAAFB434D338545F9027F503C9FA8, 0x51A3408F929D38F5BCB6DA2110FFF3D2, 0xCD0C13EC5F974417C4A77E3D645D1973,
   0x60814FDC222A908846EEB814DE5E0BDB, 0xE0323A0A4906245CC2D3AC629195E479, 0xE7C8376D8DD54EA96C56F4EA657AAE08,
   0xBA78252E1CA6B4C6E8DD741F4BBD8B8A, 0x703EB5664803F60E613557B986C11D9E, 0xE1F8981169D98E949B1E87E9CE5528DF,
   0x8CA1890DBFE6426841992D0FB054BB16]

/-- Its inverse. -/
def invSboxRows : List Nat :=
  [0x52096AD53036A538BF40A39E81F3D7FB, 0x7CE339829B2FFF87348E4344C4DEE9CB, 0x547B9432A6C2233DEE4C950B42FAC34E,
   0x082EA16628D924B2765BA2496D8BD125, 0x72F8F66486689816D4A45CCC5D65B692, 0x6C704850FDEDB9DA5E154657A78D9D84,
   0x90D8AB008CBCD30AF7E45805B8B34506, 0xD02C1E8FCA3F0F02C1AFBD0301138A6B, 0x3A9111414F67DCEA97F2CFCEF0B4E673,
   0x96AC7422E7AD3585E2F937E81C75DF6E, 0x47F11A711D29C5896FB7620EAA18BE1B, 0xFC563E4BC6D279209ADBC0FE78CD5AF4,
   0x1FDDA8338807C731B11210592780EC5F, 0x60517FA919B54A0D2DE57A9F93C99CEF, 0xA0E03B4DAE2AF5B0C8EBBB3C83539961,
   0x172B047EBA77D626E169146355210C7D]

def tableAt (rows : List Nat) (b : Nat) : Nat := rows.getD (b / 16) 0 / 256 ^ (15 - b % 16) % 256

def sbox (b : Nat) : Nat := tableAt sboxRows b

def invSbox (b : Nat) : Nat := tableAt invSboxRows b

/-- Multiplication by x in the field of AES. -/
def xtime (b : Nat) : Nat := if b < 128 then 2 * b else (2 * b) ^^^ 0x11B

/-- The product of a field element and a constant of four bits. -/
def gmul (k b : Nat) : Nat :=
  let b2 := xtime b
  let b4 := xtime b2
  let t := fun (i v : Nat) => if bitAt k i then v else 0
  t 0 b ^^^ t 1 b2 ^^^ t 2 b4 ^^^ t 3 (xtime b4)

def xorBytes (a b : Bytes) : Bytes := List.zipWith (· ^^^ ·) a b

def xorNats (a b : List Nat) : List Nat := List.zipWith (· ^^^ ·) a b

def aesExpandGo : Nat → Nat → List Nat → List (List Nat) → List (List Nat)
  | 0, _, _, acc => acc.reverse
  | f + 1, rc, k, acc =>
    let w := fun i => (k.drop (4 * i)).take 4
    let t := match w 3 with
      | [a, b, c, d] => [sbox b ^^^ rc, sbox c, sbox d, sbox a]
      | l => l
    let w0 := xorNats (w 0) t
    let w1 := xorNats (w 1) w0
    let w2 := xorNats (w 2) w1
    let w3 := xorNats (w 3) w2
    let k' := w0 ++ w1 ++ w2 ++ w3
    aesExpandGo f (xtime rc) k' (k' :: acc)

/-- The eleven round keys. -/
def aesExpand (key : Bytes) : List (List Nat) :=
  let k := key.map (·.toNat)
  aesExpandGo 10 1 k [k]

/-- Byte 4c + r of the state after ShiftRows comes from column c + r. -/
def shiftRows (s : List Nat) : List Nat :=
  (List.range 16).map fun i => s.getD ((4 * (i / 4 + i % 4) + i % 4) % 16) 0

def invShiftRows (s : List Nat) : List Nat :=
  (List.range 16).map fun i => s.getD ((4 * (i / 4 + 4 - i % 4) + i % 4) % 16) 0

/-- Each column of four bytes through a matrix given by its first row. -/
def mixWith (m0 m1 m2 m3 : Nat) : List Nat → List Nat
  | a :: b :: d :: e :: r =>
    (gmul m0 a ^^^ gmul m1 b ^^^ gmul m2 d ^^^ gmul m3 e) :: (gmul m3 a ^^^ gmul m0 b ^^^ gmul m1 d ^^^ gmul m2 e) ::
    (gmul m2 a ^^^ gmul m3 b ^^^ gmul m0 d ^^^ gmul m1 e) :: (gmul m1 a ^^^ gmul m2 b ^^^ gmul m3 d ^^^ gmul m0 e) ::
    mixWith m0 m1 m2 m3 r
  | _ => []

def mixColumns (s : List Nat) : List Nat := mixWith 2 3 1 1 s

def invMixColumns (s : List Nat) : List Nat := mixWith 14 11 13 9 s

def toBytes (l : List Nat) : Bytes := l.map (BitVec.ofNat 8)

/-- AES-128 of one block. -/
def aesEnc (key blk : Bytes) : Bytes :=
  match aesExpand key with
  | k0 :: ks =>
    let body := (ks.take 9).foldl (fun s k => xorNats (mixColumns (shiftRows (s.map sbox))) k) (xorNats (blk.map (·.toNat)) k0)
    toBytes (xorNats (shiftRows (body.map sbox)) (ks.getD 9 []))
  | [] => blk

/-- The inverse cipher. -/
def aesDec (key blk : Bytes) : Bytes :=
  match (aesExpand key).reverse with
  | k0 :: ks =>
    let body := (ks.take 9).foldl
      (fun s k => invMixColumns (xorNats ((invShiftRows s).map invSbox) k)) (xorNats (blk.map (·.toNat)) k0)
    toBytes (xorNats ((invShiftRows body).map invSbox) (ks.getD 9 []))
  | [] => blk

/-- Zero bytes up to a whole number of 16-byte blocks. -/
def pad16 (bs : Bytes) : Bytes := bs ++ List.replicate ((16 - bs.length % 16) % 16) 0#8

/-- CBC-MAC of whole blocks. -/
def cbcMac (key bs : Bytes) : Bytes :=
  (blocks 16 bs).foldl (fun x b => aesEnc key (xorBytes x b)) (List.replicate 16 0#8)

/-- CBC encryption of whole blocks. -/
def cbcEnc (key iv bs : Bytes) : Bytes :=
  ((blocks 16 bs).foldl (fun (x : Bytes × Bytes) b =>
    let c := aesEnc key (xorBytes x.1 b)
    (c, x.2 ++ c)) (iv, [])).2

/-- Counter block i of CCM* with a 13-byte nonce. -/
def ccmA (nonce : Bytes) (i : Nat) : Bytes := 0x01#8 :: nonce ++ beBytes 2 i

def ccmStream (key nonce : Bytes) (n : Nat) : Bytes :=
  ((List.range ((n + 15) / 16)).flatMap fun i => aesEnc key (ccmA nonce (i + 1))).take n

/-- The 4-byte MIC of CCM* before it is encrypted. -/
def ccmTag (key nonce aad msg : Bytes) : Bytes :=
  let flags : Byte := (if aad.isEmpty then 0#8 else 0x40#8) ||| 0x09#8
  let b0 := flags :: nonce ++ beBytes 2 msg.length
  let a := if aad.isEmpty then [] else pad16 (beBytes 2 aad.length ++ aad)
  (cbcMac key (b0 ++ a ++ pad16 msg)).take 4

/-- CCM* with a 4-byte MIC: ciphertext and MIC. -/
def ccmSeal (key nonce aad msg : Bytes) : Bytes × Bytes :=
  (xorBytes msg (ccmStream key nonce msg.length),
   xorBytes (ccmTag key nonce aad msg) (aesEnc key (ccmA nonce 0)))

/-- CCM*: the plaintext, where the MIC verifies. -/
def ccmOpen (key nonce aad ct mic : Bytes) : Option Bytes :=
  let m := xorBytes ct (ccmStream key nonce ct.length)
  if xorBytes (ccmTag key nonce aad m) (aesEnc key (ccmA nonce 0)) = mic then some m else none

/-! ## Key wrap, RFC 3394 -/

def unwrapStep (kek : Bytes) (n : Nat) (st : Bytes × List Bytes) (t : Nat) : Bytes × List Bytes :=
  let i := (t - 1) % n
  let r := st.2.getD i []
  let b := aesDec kek (xorBytes st.1 (beBytes 8 t) ++ r)
  (b.take 8, st.2.set i (b.drop 8))

/-- Unwraps a wrapped key; none where the integrity value is wrong. -/
def keyUnwrap (kek wrapped : Bytes) : Option Bytes :=
  let n := wrapped.length / 8 - 1
  let st := ((List.range (6 * n)).map (fun i => 6 * n - i)).foldl (unwrapStep kek n)
    (wrapped.take 8, blocks 8 (wrapped.drop 8))
  if st.1 = List.replicate 8 0xA6#8 then some (st.2.flatMap id) else none

/-! ## Cyclic checks -/

/-- One bit of a shift register of `w` bits with the most significant bit first. -/
def crcBit (w poly : Nat) (reg : Nat) (bit : Bool) : Nat :=
  let top := (reg / 2 ^ (w - 1) % 2 == 1) != bit
  let sh := reg * 2 % 2 ^ w
  if top then sh ^^^ poly else sh

def msbBits (b : Byte) : List Bool := (List.range 8).map fun i => b.getLsbD (7 - i)

def lsbBits (b : Byte) : List Bool := (List.range 8).map fun i => b.getLsbD i

/-- CRC of `w` bits, bytes most significant bit first. -/
def crcMsb (w poly init : Nat) (bs : Bytes) : Nat := (bs.flatMap msbBits).foldl (crcBit w poly) init

/-- CRC of `w` bits, bytes least significant bit first; the register is read with its bits in reverse order. -/
def crcLsb (w poly init : Nat) (bs : Bytes) : Nat :=
  let r := (bs.flatMap lsbBits).foldl (crcBit w poly) init
  (List.range w).foldl (fun a i => a * 2 + r / 2 ^ i % 2) 0

/-- The CRC-32 of R226: reflected, initial value and final exclusive or all ones. -/
def crc32 (b : Bytes) : Nat := (crcLsb 32 0x04C11DB7 0xFFFFFFFF b) ^^^ 0xFFFFFFFF

end Sys2Proof.Machine
end

