-- ==== Sys2Proof/Machine/Types2.lean ====
section
/-! DEFINITION. The parts of the state, continued: billing and logs, Landing, Ferryman, Hawser, display, security,
power, Store, self-test. -/

namespace Sys2Proof.Machine

/-! ## Tariffs, billing, demand, logs -/

structure Season where
  month : Nat
  day : Nat
  week : List Nat
deriving DecidableEq, Repr

structure SwitchPoint where
  minute : Nat
  tariff : Nat
deriving DecidableEq, Repr

structure SpecialDay where
  year : Nat
  month : Nat
  day : Nat
  profile : Nat
deriving DecidableEq, Repr

/-- One daylight-saving transition rule, R306. -/
structure DstRule where
  month : Nat := 0
  week : Nat := 0
  wday : Nat := 0
  minute : Nat := 0
deriving DecidableEq, Repr

/-- A calendar: TARIFF_CAL body of R261 and R306. The defaults are the built-in calendar of R267. -/
structure Calendar where
  name : Nat := 0
  activateTick : Nat := 0
  tariffDefault : Nat := 1
  seasons : List Season := [⟨1, 1, [0, 0, 0, 0, 0, 0, 0]⟩]
  profiles : List (List SwitchPoint) := [[⟨0, 1⟩]]
  specials : List SpecialDay := []
  billDay : Nat := 1
  billEvery : Nat := 1
  billMinute : Nat := 0
  billAnchor : Nat := 1
  dayMinute : Nat := 0
  tzStd : Int := 0
  dstEn : Bool := false
  dstDelta : Nat := 0
  dstStart : DstRule := {}
  dstEnd : DstRule := {}
  /-- `cal_seq`, R530 -/
  seq : Nat := 0
  /-- `cal_state`, R530 -/
  state : Nat := 0
deriving DecidableEq, Repr

/-- TARIFF_NOW, R292. -/
structure TariffNow where
  tariff : Nat := 1
  season : Nat := 0
  special : Bool := false
  defaultActive : Bool := true
  profile : Nat := 0
  specialIndex : Nat := 0
  swIndex : Nat := 0
  nextSwitch : Nat := 0
  /-- `next_switch` is a switch of the calendar (log 13) -/
  hasNext : Bool := false
  calName : Nat := 0
deriving DecidableEq, Repr

/-- One maximum: value and tick (R273). -/
structure MaxEntry where
  value : Nat := 0
  tick : Nat := 0
deriving DecidableEq, Repr

/-- DEMAND_MAX, R280. -/
structure DemandMax where
  demInvalid : Nat := 0
  maxP : List MaxEntry := List.replicate 9 {}
  maxQ : List MaxEntry := List.replicate 9 {}
deriving DecidableEq, Repr

/-- The registers that a snapshot copies (R273, R274). -/
structure Registers where
  volFwd : Nat := 0
  volRev : Nat := 0
  volEst : Nat := 0
  eHeat : Nat := 0
  eCool : Nat := 0
  eEstH : Nat := 0
  eEstC : Nat := 0
  volBase : Nat := 0
  volBaseDist : Nat := 0
  gasInfo : Nat := 0
  eTariff : List Nat := List.replicate 16 0
  tError : Nat := 0
  tOff : Nat := 0
deriving DecidableEq, Repr

/-- BILL_SNAP entry, R273. -/
structure BillSnap where
  seq : Nat
  tStart : Nat
  tEnd : Nat
  late : Bool
  untrusted : Bool
  step : Bool
  calAct : Bool
  powerOff : Bool
  skipped : Nat
  regs : Registers
  dem : DemandMax
deriving DecidableEq, Repr

/-- Running-period flags of BILL_STATE (R293) and of the running day (R274). -/
structure PeriodFlags where
  untrusted : Bool := false
  step : Bool := false
  calAct : Bool := false
  powerOff : Bool := false
deriving DecidableEq, Repr

/-- BILL_STATE, R293. -/
structure BillState where
  seqLast : Nat := 0
  tStart : Nat := 0
  schedLast : Nat := 0
  schedNext : Nat := 0
  pending : Nat := 0
  flags : PeriodFlags := {}
  daySchedLast : Nat := 0
  daySchedNext : Nat := 0
  dayPending : Nat := 0
  dayCount : Nat := 0
deriving DecidableEq, Repr

/-- DAY_SNAP entry, R274. -/
structure DaySnap where
  tSnap : Nat
  late : Bool
  flags : PeriodFlags
  localDay : Nat
  maxPDay : Nat
  regs : Registers
deriving DecidableEq, Repr

/-- HOUR_LOG entry, R287. -/
structure HourEntry where
  tEnd : Nat
  timeInvalid : Bool
  split : Bool
  gap : Bool
  powerOff : Bool
  degraded : Bool
  tariff : Nat
  volFwd : Nat
  eTotal : Nat
  tErr : Nat
  dthetaMean : Int
  pMax : Nat
deriving DecidableEq, Repr

/-- One sub-interval of the demand window, R278: its origin and elapsed, its accumulators, its trust. -/
structure SubInterval where
  elapsed : Nat
  accE : Nat
  accV : Nat
  untrusted : Bool
deriving DecidableEq, Repr

/-- DEMAND_NOW, R294, with the window of R278 and the boundary at which the running sub-interval ends. -/
structure DemandNow where
  accE : Nat := 0
  accV : Nat := 0
  tSubStart : Nat := 0
  pLast : Nat := 0
  qLast : Nat := 0
  tLast : Nat := 0
  lastCounted : Bool := false
  lastShort : Bool := false
  lastTimeInvalid : Bool := false
  lastSplit : Bool := false
  demLen : Nat := 2
  demSub : Nat := 0
  window : List SubInterval := []
  /-- the running sub-interval began at a boundary (R278) -/
  startedAligned : Bool := false
  untrusted : Bool := false
  nextEnd : Nat := 0
deriving DecidableEq, Repr

/-- The running hourly entry (R287). -/
structure HourRun where
  tStart : Nat := 0
  nextEnd : Nat := 0
  untrusted : Bool := false
  degraded : Bool := false
  /-- `t_error` at the entry's start -/
  errRef : Nat := 0
  dthetaSum : Int := 0
  dthetaCount : Nat := 0
  pMax : Nat := 0
  /-- the entry closed last, whose registers a gap entry repeats (R288) -/
  last : Option HourEntry := none
deriving DecidableEq, Repr

/-- A staged entry (R289); a daily one with its `day_count`, which gives its slot (R274). -/
inductive Staged where
  | hour (e : HourEntry)
  | day (n : Nat) (e : DaySnap)
deriving DecidableEq, Repr

structure Bill where
  calActive : Calendar := {}
  calPassive : Option Calendar := none
  /-- CAL_DEFERRED has been journalled for the passive calendar -/
  deferred : Bool := false
  now : TariffNow := {}
  st : BillState := {}
  snaps : List BillSnap := []
  dem : DemandNow := {}
  max : DemandMax := {}
  hour : HourRun := {}
  hourCount : Nat := 0
  logLost : Nat := 0
  lostJournalled : Bool := false
  staged : List Staged := []
  dayFlags : PeriodFlags := {}
  dayMaxP : Nat := 0
  /-- trust as the Tollhouse last handled it (R260) -/
  trusted : Bool := false
  /-- the latest boundary transaction's tick, so that one tick is one transaction -/
  lastTick : Nat := 0
deriving DecidableEq, Repr

/-! ## Event journal (R290) -/

structure JEntry where
  tick : Nat
  code : Nat
  timeInvalid : Bool
  arg0 : Nat
  arg1 : Nat
deriving DecidableEq, Repr

structure Journal where
  /-- newest first, at most 2048 -/
  entries : List JEntry := []
  seq : Nat := 0
deriving DecidableEq, Repr

/-! ## Landing -/

inductive Supply where
  | bat | batLock | bkp | lost
deriving DecidableEq, Repr

inductive SealState where
  | ok | opened | short | notMonitored
deriving DecidableEq, Repr

inductive TamperIn where
  | sealOpen | sealShort | sealOk | caseOpen | caseClosed | magOn | magOff
deriving DecidableEq, Repr

structure TamperEvt where
  kind : TamperIn
  tick : Nat
  /-- time was untrusted at the change -/
  untrusted : Bool
deriving DecidableEq, Repr

/-- One alarm slot, R318. -/
structure Alarm where
  armed : Bool := false
  fired : Bool := false
  /-- it fired by the advance of the latest oscillator cycle, which a skip takes back (R299, R319) -/
  fresh : Bool := false
  elapsed : Bool := false
  target : Nat := 0
deriving DecidableEq, Repr

/-- A set waiting for the Landing (R313, R314): an absolute target, or a relative delta. -/
inductive PendSet where
  | abs (target : Nat)
  | rel (delta : Int)
  /-- a TIME frame's tick with the tick of its stamp (R357) -/
  | since (ts stamp : Nat)
deriving DecidableEq, Repr

/-- TIME_NOW's derived fields, R332. -/
structure TimeNow where
  dst : Bool := false
  utcWday : Nat := 5
  utcDay : Nat := 0
  utcSec : Nat := 0
  year : Nat := 2000
  month : Nat := 1
  day : Nat := 1
  minute : Nat := 0
  second : Nat := 0
  wday : Nat := 5
  offset : Int := 0
deriving DecidableEq, Repr

/-- One reader's shadow of `TIME_NOW` (R309). -/
structure Shadow where
  tick : Nat := 0
  oscStopped : Bool := true
  neverSet : Bool := true
  cal : TimeNow := {}
deriving DecidableEq, Repr

/-- Counters of LANDING_STATUS that are mirrored to FRAM, R333. -/
structure LandCounters where
  adjCount : Nat := 0
  adjSum : Int := 0
  stepCount : Nat := 0
  stepSeq : Nat := 0
  lastSigma : Int := 0
  bkpCount : Nat := 0
  bkpTicks : Nat := 0
  lostCount : Nat := 0
  tinLost : Nat := 0
deriving DecidableEq, Repr

/-- A Landing event that the Tollhouse journals at the next wake or start, R331. -/
structure LandEvent where
  code : Nat
  tick : Nat
  arg0 : Nat
  arg1 : Nat
  /-- time was untrusted at the event (R290) -/
  untrusted : Bool
deriving DecidableEq, Repr

structure Landing where
  tick : Nat := 0
  /-- the count before the latest oscillator cycle, where a skip leaves it (R299) -/
  prev : Nat := 0
  oscStopped : Bool := true
  neverSet : Bool := true
  /-- LFX gives edges; it has yet to start at the first supply (R54, R480) -/
  lfxRunning : Bool := false
  /-- oscillator cycles counted since the restart (R299, R302) -/
  osc : Nat := 0
  trimAcc : Nat := 0
  corrOwed : Int := 0
  compAcc : Int := 0
  dieTemp : Int := 6400
  lf : LfCal := {}
  cal : TimeNow := {}
  /-- shadows of TIME_NOW, R309, by reader 0 Tollhouse, 1 Ferryman, 2 display, 3 controller, 4 Hawser -/
  shadows : List Shadow := List.replicate 5 {}
  /-- the reader whose shadow was loaded last (R309) -/
  reader : Nat := 0
  adjDay : Nat := 0
  cnt : LandCounters := {}
  cntMirror : LandCounters := {}
  supply : Supply := .bat
  debounce : Bool := false
  bkpSince : Nat := 0
  sealSt : SealState := .ok
  sealFail : Nat := 0
  sealGood : Nat := 0
  caseOpen : Bool := false
  mag : Bool := false
  fifo : List TamperEvt := []
  alarms : List Alarm := List.replicate 12 {}
  pendSet : Option PendSet := none
  pwrEn : Bool := false
  plsCount : List Nat := [0, 0, 0, 0]
  plsMirror : List Nat := [0, 0, 0, 0]
  plsLost : Nat := 0
  mirrorTick : Nat := 0
  plsEn : Nat := 15
  plsDb : List Nat := [328, 328, 328, 328]
  queued : List LandEvent := []
  /-- `adj_limit`, seal and PWR_EN parameters in force (R335, R336) -/
  adjLimit : Nat := 30
  sealEn : Bool := true
  sealPeriod : Nat := 32768
  pwrEnMode : Nat := 2
  pwrEnLead : Nat := 33
  /-- oscillator cycles since the last seal probe -/
  probeIn : Nat := 0
  /-- oscillator cycle of the last correction slot and of the last compensation (R299, R302) -/
  corrAt : Nat := 0
  compAt : Nat := 0
  /-- oscillator cycle at which the divider restarted last (R314) -/
  divAt : Nat := 0
  /-- oscillator cycle of the last pulse counted on each input (R326), of the last change of `CASE` and of `MAG` (R329) -/
  plsAt : List Nat := [0, 0, 0, 0]
  caseAt : Nat := 0
  magAt : Nat := 0
deriving DecidableEq, Repr

/-! ## Ferryman -/

/-- NEIGHBOUR_TABLE entry that is not free, R382, with the working state of its window (R365 to R367). -/
structure Child where
  idx : Nat
  eui : Nat := 0
  search : Bool := false
  driftValid : Bool := false
  timeUntrusted : Bool := false
  skippedLast : Bool := false
  phy : Nat := 0
  fcntH : Nat := 0
  bitmap : Nat := 0
  /-- a frame of this child has been accepted under the present keys (R351, R363) -/
  seen : Bool := true
  contactEvery : Nat := 0
  tSync : Nat := 0
  tNext : Nat := 0
  d : Int := 0
  missRun : Nat := 0
  searchLevel : Nat := 0
  rssi : Int := 0
  nextCh : Nat := 0
  /-- t_exp of R364 in 1/64 tick -/
  tExp : Int := 0
  /-- tick of the last valid frame, R368 -/
  lastFrame : Nat := 0
  /-- its window is open (R365, R366) -/
  windowOpen : Bool := false
  /-- an SFD was detected in the open window, and no valid frame: tick to which the parent goes on listening (R358) -/
  listenTo : Option Nat := none
deriving DecidableEq, Repr

/-- QUEUE_STATUS entry, R383, with the FRAM contents behind it (R369, R372). -/
structure QEntry where
  /-- 0 free, 1 queued, 2 done, 3 expired -/
  state : Nat := 0
  tries : Nat := 0
  id : Nat := 0
  child : Nat := 0
  length : Nat := 0
  childStatus : Nat := 0
  tExpiry : Nat := 0
  /-- the record of a note, or the payload of a read request -/
  data : Bytes := []
  /-- the answer items of a proxy read -/
  answer : Bytes := []
  tAnswer : Nat := 0
  /-- space only reserved: the last fragment has not arrived (R369) -/
  reserved : Bool := false
  /-- reported in a DATA frame that the station has not yet acknowledged -/
  inFlight : Bool := false
  /-- place in the order in which the notes of the queue were taken (R370) -/
  born : Nat := 0
deriving DecidableEq, Repr

/-- A child's cached digest, R373. -/
structure Digest where
  child : Nat
  bytes : Bytes
  fresh : Bool
  tick : Nat
  inFlight : Bool := false
deriving DecidableEq, Repr

/-- A note in reassembly, R356. -/
structure Reasm where
  noteId : Nat
  count : Nat
  totalLen : Nat
  target : Nat
  nextFrag : Nat
  data : Bytes
  /-- queue entry reserved for it at a parent -/
  slot : Option Nat
deriving DecidableEq, Repr

/-- The peer of an exchange: this device's upper side, or a child by its index. -/
inductive Peer where
  | up | child (idx : Nat)
deriving DecidableEq, Repr

/-- A frame that this device sent in an exchange; `note` carries the queue entry and the fragment, `read` the entry. -/
inductive Sent where
  | poll | join | data | ack | time
  | read (entry : Nat)
  | note (entry frag : Nat)
deriving DecidableEq, Repr

/-- The exchange in progress, R358, R359: its peer; the frames so far; what was sent last, with its counter and bytes and
the repeats made; whether an ACK of the contact has arrived; `pending` of each side's last frame; key slot; list index of
frame 0; frames of the upper side still to send, and the queue entry under attempt. -/
structure Exchange where
  peer : Peer
  frames : Nat := 0
  sent : Sent := .poll
  sentFcnt : Nat := 0
  bytes : Bytes := []
  repeats : Nat := 0
  answered : Bool := false
  myPending : Bool := false
  theirPending : Bool := false
  key : Nat := 0
  startCh : Nat := 0
  todo : List Sent := []
  attempt : Option Nat := none
  /-- status and `t_rel` of the lower side's latest ACK in the exchange, and the queue entry whose expiry it promised (R363,
  R369) -/
  ackStatus : Nat := 0
  ackRel : Nat := 0xFFFFFFFF
  ackSlot : Option Nat := none
deriving DecidableEq, Repr

/-- RADIO_STATUS (R380) and the state behind it. -/
structure Radio where
  role : Nat := 0
  phy : Nat := 0
  band : Nat := 0
  pa20 : Bool := false
  wmbus : Nat := 0
  /-- 0 unjoined, 1 joined, 2 orphaned -/
  link : Nat := 0
  joinOpen : Bool := false
  joinUntil : Nat := 0
  budgetExhausted : Bool := false
  ownShort : Nat := 0xFFFF
  parentEui : Nat := 0
  fcntTx : Nat := 0
  /-- first counter not yet reserved in FRAM, R351 -/
  fcntBlock : Nat := 0
  fcntStopped : Bool := false
  upH : Nat := 0
  upBitmap : Nat := 0
  upSeen : Bool := false
  tContact : Nat := 0
  nextCh : Nat := 0
  orphanRun : Nat := 0
  rssiUp : Int := 0
  /-- transmit time used in the budget window, [1 us] -/
  txUs : Nat := 0
  txWindow : Nat := 0
  wmbusUs : Nat := 0
  searchMs : Nat := 0
  searchPeriod : Nat := 0
  capJournalled : Bool := false
  budgetJournalled : Bool := false
  counters : List Nat := List.replicate 18 0
  children : List Child := []
  queue : List QEntry := List.replicate 24 {}
  digests : List Digest := []
  reasm : Option Reasm := none
  exch : Option Exchange := none
  /-- RADIO_CFG_STORED, R529: empty while absent -/
  cfg : Bytes := []
  netId : Nat := 0
  upNetId : Nat := 0
  /-- tick of the last TIME applied, R357 -/
  lastTime : Option Nat := none
  contacts : Nat := 0
  accessNo : Nat := 0
  wmbusCount : Nat := 0
  wmbusNext : Nat := 0
  lastTelegram : Bytes := []
  /-- oscillator cycle until which the note handed to the controller is undecided (R445) -/
  undecidedTo : Nat := 0
  /-- the frames transmitted by the latest radio command, oldest first, and the channel of each (R344) -/
  out : List Bytes := []
  outCh : List Nat := []
  /-- estimated registers at the last acknowledged DATA, and in the DATA in flight (R385) -/
  ackedEst : List Nat := []
  sentEst : List Nat := []
  /-- tamper total at the formation of the digest in the DATA in flight (R466) -/
  sentTamper : Option Nat := none
deriving DecidableEq, Repr

/-! ## Hawser -/

/-- One secondary as the primary sees it: entry k of HAWSER_STATUS (R407), SYNC_RSP contents (R392), loss (R405),
loop calibration (R397). -/
structure Secondary where
  /-- 0 absent, 1 synchronised, 2 unsynchronised, 3 lost -/
  state : Nat := 0
  epoch : Nat := 0
  missRun : Nat := 0
  missSince : Nat := 0
  d : Int := 0
  hasD : Bool := false
  lambdaPpb : Int := 0
  refusals : Nat := 0
  loopRejects : Nat := 0
  loopFault : Bool := false
  timeBase : Nat := 0
  codes : Nat := 0
  wiring : Nat := 0
  hfxCorr : Int := 0
  /-- cycle in which a miss was counted last, R405 -/
  missSeq : Option Nat := none
  /-- consecutive rejected loop calibrations, R397, are in `loopRejects`; synchronisation is asked for again, R404, R406 -/
  resync : Bool := false
  /-- synchronised, its pushed parameters and its loop calibration still to come (R395) -/
  fresh : Bool := false
  /-- its number answered SYNC_REQ with a bad CRC on both tries (R396) -/
  double : Bool := false
deriving DecidableEq, Repr

/-- The request that waits for its answer, R393; `bad` counts its tries that brought a bad CRC (R396). -/
structure Outstanding where
  dst : Nat
  typ : Nat
  tries : Nat
  bytes : Bytes
  bad : Nat := 0
deriving DecidableEq, Repr

/-- A loop calibration run, R397; `bytes` is a request not yet answered. -/
structure LoopRun where
  dst : Nat
  bytes : Bytes := []
  exchanges : Nat := 0
  lastRound : Option Int := none
  rhos : List Int := []
deriving DecidableEq, Repr

/-- Parameters of one path pushed to a secondary, R395, R400. -/
structure PushedPath where
  path : Nat
  p : PathP := {}
  tOfs : Nat := 0
  pathLen : Nat := 0
deriving DecidableEq, Repr

/-- The path-pair that a secondary runs for the primary, R400, R404. -/
structure FireJob where
  path : Nat
  parity : Bool
  noResult : Bool
  last : Bool
  pDrv : Nat
  gain : Nat
  level : Nat
  pulses : Nat
  decim : Nat
  winLen : Nat
  winOpen : Nat
  brake : Bool
  r1 : Nat
  r2 : Option Nat := none
deriving DecidableEq, Repr

/-- HAWSER_STATUS (R407) and the state behind it. -/
structure Hawser where
  deviceNo : Nat := 0
  role : Nat := 0
  expected : Nat := 0
  /-- no expected set is recorded yet (R71, R396) -/
  expectedKnown : Bool := false
  retired : Nat := 0
  cfgFault : Nat := 0
  crcFail : Nat := 0
  secs : List Secondary := List.replicate 5 {}
  seq : Nat := 0
  out : Option Outstanding := none
  loop : Option LoopRun := none
  /-- secondaries whose loop calibration is to run, by bit k − 1 -/
  loopDue : Nat := 0
  loopTick : Nat := 0
  loopTemp : Int := 0
  /-- devices still to be asked in the running synchronisation -/
  syncing : List Nat := []
  /-- devices that the running synchronisation asks (R405) -/
  asked : List Nat := []
  syncActive : Bool := false
  cfgParts : List (Nat × Nat) := []
  lastTx : Bytes := []
  /-- pulses of the wake burst sent last, 0 none (R394) -/
  burst : Nat := 0
  lastBroadcast : Nat := 0
  wakeReq : Bool := false
  /-- secondary side -/
  synced : Bool := false
  ownEpoch : Nat := 0
  hfxCorr : Int := 0
  pushed : List PushedPath := []
  /-- thresholds and class pushed (R395) -/
  pushedThr : PathListP := {}
  pushedCls : Nat := 0
  pushedTemp : TempCal := {}
  job : Option FireJob := none
  /-- the primary's measurement cycle as FIRE frames show it: 0 none in progress, 1 running, 2 not run, its reference
  check having failed (R103, R105) -/
  cycle : Nat := 0
  sampling : Bool := false
  /-- turn of the previous LOOPCAL exchange, R397; the turn answered last, the exchange's number, its frame number -/
  turn : Int := 0
  turnSent : Int := 0
  loopIdx : Nat := 0
  loopSeq : Option Nat := none
  lastFrame : Nat := 0
  /-- frames addressed to it, or the wake burst, keep this secondary awake (R394) -/
  attending : Bool := false
deriving DecidableEq, Repr

/-! ## Display -/

/-- One region update: target state of each of its segments, full or not, and how many accepted requests it
carries (R419, R431). -/
structure Update where
  targets : List (Nat × Nat)
  full : Bool
  accepted : Nat
deriving DecidableEq, Repr

/-- A running update of a region, R418: frames shown, length of its longest waveform, band, and whether it is full. -/
structure Run where
  frame : Nat
  len : Nat
  band : Nat
  full : Bool := false
deriving DecidableEq, Repr

structure Region where
  run : Option Run := none
  next : Option Update := none
  /-- resume record of R431: frame and band -/
  resume : Option (Nat × Nat) := none
  /-- accepted requests carried by the running update -/
  accepted : Nat := 0
deriving DecidableEq, Repr

/-- DISPLAY_STATUS (R432), DISPLAY_IMAGE (R433) and the state behind them. -/
structure Display where
  page : Nat := 0
  timerRun : Bool := false
  /-- new tables wait for the waveforms that run (R419) -/
  retable : Bool := false
  /-- oscillator count of the next frame boundary while the frame timer runs (R300, R413) -/
  frameAt : Nat := 0
  redEn : Bool := false
  drive : Nat := 0
  romTables : Bool := false
  bandLast : Nat := 0
  updates : Nat := 0
  replaced : Nat := 0
  tempClamped : Nat := 0
  budgetUsed : Nat := 0
  budgetStart : Nat := 0
  budgetRefused : Bool := false
  regions : List Region := List.replicate 8 {}
  /-- shown and target state of each segment -/
  image : List (Nat × Nat) := List.replicate 112 (12, 12)
  /-- the next update must be full (R431) -/
  fullNext : Bool := true
  tables : DispCal := {}
  /-- tick at which the page returns to 0 (R428) -/
  pageUntil : Option Nat := none
deriving DecidableEq, Repr

/-! ## Security -/

inductive Lc where
  | blank | manufacture | calibrate | sealed | service | scrapped
deriving DecidableEq, Repr

/-- One verdict, R450. -/
structure Verdict where
  tick : Nat
  recType : Nat
  cause : Nat
  recSeq : Nat
  signer1 : Nat
  signer2 : Nat
  air : Bool
deriving DecidableEq, Repr

/-- TAMPER_LEDGER entry, R463, with the tick of its last TAMPER_COUNTED (R465). -/
structure Tamper where
  count : Nat := 0
  tFirst : Nat := 0
  tLast : Nat := 0
  journalled : Option Nat := none
deriving DecidableEq, Repr

/-- The key store, R437. `glaelm` is in ROM (log 7): nothing writes it. -/
structure Keys where
  glaelm : Nat × Nat := Config.pkGlaelm
  maker : Option (Nat × Nat) := none
  auth : Option (Nat × Nat) := none
  oper0 : Option (Nat × Nat) := none
  oper1 : Option (Nat × Nat) := none
  kek : Option Bytes := none
  net0 : Option Bytes := none
  net1 : Option Bytes := none
  up0 : Option Bytes := none
  up1 : Option Bytes := none
  wmbus : Option Bytes := none
deriving DecidableEq, Repr

/-- SECURITY_STATUS (R467) and the state behind it. -/
structure Security where
  lc : Lc := .blank
  fuseP : Bool := false
  fuseS : Bool := false
  fuseX : Bool := false
  tap : TapLevel := .closed
  trstHigh : Bool := false
  trstCounted : Bool := false
  keys : Keys := {}
  devEui : Option Nat := none
  sealTick : Nat := 0
  seqGlaelm : Nat := 0
  seqMaker : Nat := 0
  seqAuth : Nat := 0
  seqOper : Nat := 0
  serviceCount : Nat := 0
  /-- last accepted hashes, first 16 bytes, by first signer 0 to 4 (R443) -/
  hashes : List Bytes := [[], [], [], [], []]
  verdicts : List Verdict := []
  verdictSeq : Nat := 0
  tamper : List Tamper := List.replicate 24 {}
  tamperNew : Bool := false
  /-- number of tamper counts made, the order in which R466 compares -/
  tamperTotal : Nat := 0
deriving DecidableEq, Repr

/-- The optical port, R451 to R453. -/
structure Optical where
  /-- 0 2400, 1 9600, 2 19200 baud -/
  baud : Nat := 0
  /-- the answer sent last -/
  lastAnswer : Bytes := []
  /-- characters have arrived within the last 5 s -/
  active : Bool := false
  /-- oscillator cycle of the last character -/
  lastChar : Nat := 0
  /-- oscillator cycle at which the answer sent last has ended (R453) -/
  answerEnd : Nat := 0
deriving DecidableEq, Repr

/-! ## Power -/

inductive PState where
  | unpowered | ship | hibernate | nap | doze | run
deriving DecidableEq, Repr

/-- Where the start sequence of R479 stands. -/
inductive Phase where
  | down | condWait | lfxWait | vholdWait | running
deriving DecidableEq, Repr

/-- Causes of the degraded flag. -/
structure Degraded where
  tdcFault : Bool := false
  refin : Bool := false
  refResistor : Bool := false
  swap : Bool := false
  check : Bool := false
  sos : Bool := false
  retiredPath : Bool := false
  retiredTemp : Bool := false
  loopcal : Bool := false
  secLost : Bool := false
  display : Bool := false
  vhold : Bool := false
  fram : Bool := false
  flash : Bool := false
  cond : Bool := false
  clock : Bool := false
  block : Bool := false
deriving DecidableEq, Repr

/-- A record of the commit journal (R499). -/
structure TxnRec where
  seq : Nat
  tCommit : Nat
  nEnt : Nat
  entries : Bytes
  crc : Nat
  commit : Nat
  applied : Nat
deriving DecidableEq, Repr

/-- What the transaction of a hold-up commit changes, as it stood before: what stays where the commit stops part-way and
the journal rolls it back (R483, R501). -/
structure HoldUndo where
  tDown : Nat := 0
  holdUs : Nat := 0
  holdCommits : Nat := 0
  led : Ledgers := {}
  ft : FaultTime := {}
  bill : Bill := {}
  cntMirror : LandCounters := {}
  plsMirror : List Nat := []
  mirrorTick : Nat := 0
  refusals : List Nat := []
  /-- regions whose resume record the commit would have written -/
  regions : Nat := 0
  txnSeq : Nat := 0
  txnCommits : Nat := 0
  ring : List TxnRec := []
deriving DecidableEq, Repr

/-- POWER_STATUS (R490) and the Power Manager's state. -/
structure Power where
  st : PState := .unpowered
  phase : Phase := .down
  rest : Nat := 0
  vext : Bool := false
  vholdLow : Bool := false
  banks : Nat := 0
  startCause : Nat := 0
  /-- the tick at which `RESET_N` last reset the device, for tamper kind 9 (R40, R465) -/
  resetTick : Nat := 0
  /-- oscillator cycle before which `RESET_N` is still held low (R40) -/
  resetUntil : Nat := 0
  wakeSrc : Nat := 0
  tDown : Nat := 0
  holdUs : Nat := 0
  wakes : Nat := 0
  edgeLost : Nat := 0
  holdCommits : Nat := 0
  coldStarts : Nat := 0
  vholdMv : Nat := 0
  /-- oscillator count of the last measurement of `VHOLD` (R481) -/
  vholdAt : Nat := 0
  deg : Degraded := {}
  /-- a hold-up commit is due (R482), a cold start is due (R479) -/
  holdDue : Bool := false
  coldDue : Bool := true
  /-- the hold-up commit due is that of an entry to SHIP (R477) -/
  shipping : Bool := false
  /-- accepted items given up since that commit fell due, and the display regions that it stopped, as a mask (R24, R431,
  R484); what the latest commit replaced, until the next cold start (R483) -/
  heldItems : Nat := 0
  heldRegions : Nat := 0
  undo : Option HoldUndo := none
  /-- the Landing has restarted, or has left SHIP, since the last cold start (R480) -/
  landRestarted : Bool := true
  /-- cold-start input held while the sequence waits (R480, R512) -/
  held : Option ColdStartInput := none
  /-- `ALERT` from the wait of R480; oscillator cycle at which the wait of R512 began -/
  waitAlert : Bool := false
  waitOsc : Nat := 0
  /-- checks of R512 that have failed in the wait that is on, 1 ms apart -/
  waitChecks : Nat := 0
  /-- `ship_en` in force (R492) -/
  shipEn : Bool := true
deriving DecidableEq, Repr

/-! ## Store and self-test -/

/-- An entry of a journal record: word address and words, or a wipe entry (R499, R500). -/
structure TxnEntry where
  addr : Nat
  words : List Nat
deriving DecidableEq, Repr

/-- STORE_STATUS (R511), the flash map in summary (R503 to R506), the rings, background items (R509). -/
structure Store where
  /-- the transaction of the present step has begun; every write of one step is one commit (R282, R290, R465) -/
  txnOpen : Bool := false
  /-- classes wiped in that transaction, bit n for Wn (R500) -/
  txnMask : Nat := 0
  /-- number of the latest transaction, and of journal writes so far (the model's own, log 34) -/
  txnSeq : Nat := 0
  txnWrites : Nat := 0
  /-- the journal ring of 16 KiB, newest record first (R498, R499) -/
  ring : List TxnRec := []
  framCorrected : Nat := 0
  framUncorrectable : Nat := 0
  copyRepairs : Nat := 0
  scrubPasses : Nat := 0
  txnCommits : Nat := 0
  rolledForward : Nat := 0
  rolledBack : Nat := 0
  flashBad : Nat := 0
  flashErases : Nat := 0
  bgDue : List Nat := [0, 0, 0, 0, 0, 0]
  /-- due flags of the six units -/
  due : List Bool := [false, false, false, false, false, false]
  /-- oscillator count since which a step of each unit is ready and has not run (R509) -/
  readySince : List (Option Nat) := [none, none, none, none, none, none]
  /-- erase counts of the pool sectors that are erased, and of those that await erase: (sector, count) -/
  poolErased : List (Nat × Nat) := (List.range 1014).map (fun i => (1034 + i, 0))
  poolDirty : List (Nat × Nat) := []
  /-- physical sector and erase count of each logical ring sector written so far: (logical, physical, count) -/
  ringMap : List (Nat × Nat × Nat) := []
  /-- logical sectors that hold entries; those of them that await erase after a wipe (R500) -/
  ringUsed : List Nat := []
  ringErase : List Nat := []
  /-- logical sector being written afresh, with the physical sector and erase count that it leaves (R504) -/
  outgoing : List (Nat × Nat × Nat) := []
  eraseMax : Nat := 0
  /-- HOUR_LOG and DAY_SNAP in flash: (slot, bytes), newest first -/
  hourRing : List (Nat × Bytes) := []
  dayRing : List (Nat × Bytes) := []
  hourPos : Nat := 0
  dayPos : Nat := 0
  /-- sectors with a skipped slot, awaiting retirement -/
  badSectors : List Nat := []
  compareFails : Nat := 0
  eraseFails : Nat := 0
  spareLowJournalled : Bool := false
  scrubTick : Nat := 0
  /-- FRAM words that the running pass of the scrub has read (R497) -/
  scrubRead : Nat := 0
deriving DecidableEq, Repr

/-- SELFTEST_STATUS (R520) and the state behind it. -/
structure SelfTest where
  holdKat : Bool := false
  holdRom : Bool := false
  holdEcc : Bool := false
  holdVote : Bool := false
  clockFault : Bool := false
  secIsolated : Bool := false
  condWait : Bool := false
  failed : Nat := 0
  hfxPpm : Int := 0
  vcoreMv : Nat := 900
  rounds : Nat := 0
  failCount : Nat := 0
  condDefer : Nat := 0
  deferRun : Nat := 0
  misr : List Nat := List.replicate 10 0
  /-- blocks still to test in the running round -/
  roundLeft : List Nat := []
  /-- MISR of each block whose test has begun and goes on in a later step (R516) -/
  runs : List (Option Nat) := List.replicate 10 none
deriving DecidableEq, Repr

end Sys2Proof.Machine
end

