-- ==== Sys2Proof/Machine/Calendar.lean ====
section
/-! DEFINITION. The calendar interpreter (R298, R306 to R308, R311) and what a calendar schedules (R263, R264,
R268, R275). -/

namespace Sys2Proof.Machine

/-- Ticks in a second, a minute and a day (R298). -/
def tps : Nat := 32768
def tpm : Nat := 1966080
def tpd : Nat := 2831155200

/-- Largest tick count (R298). -/
def tickMax : Nat := 2 ^ 48 - 1

/-- A Gregorian date. -/
structure Date where
  year : Nat
  month : Nat
  day : Nat
deriving DecidableEq, Repr

def isLeap (y : Nat) : Bool := y % 4 == 0 && (y % 100 != 0 || y % 400 == 0)

def daysInMonth (y m : Nat) : Nat :=
  if m = 2 then (if isLeap y then 29 else 28)
  else if m = 4 ∨ m = 6 ∨ m = 9 ∨ m = 11 then 30 else 31

/-- Day number, counted from 2000-01-01; years run from March here so that the leap day ends them. -/
def dayNumber (d : Date) : Int :=
  let y := if d.month ≤ 2 then d.year - 1 else d.year
  let mp := (d.month + 9) % 12
  ((365 * y + y / 4 - y / 100 + y / 400 + (153 * mp + 2) / 5 + d.day : Nat) : Int) - 730426

/-- The date of a day number no earlier than 1600-03-01. -/
def dateOfDay (n : Int) : Date :=
  let z := (n + 146037).toNat
  let era := z / 146097
  let doe := z % 146097
  let yoe := (doe - doe / 1460 + doe / 36524 - doe / 146096) / 365
  let doy := doe - (365 * yoe + yoe / 4 - yoe / 100)
  let mp := (5 * doy + 2) / 153
  let m := if mp < 10 then mp + 3 else mp - 9
  let y := 1600 + era * 400 + yoe
  ⟨if m ≤ 2 then y + 1 else y, m, doy - (153 * mp + 2) / 5 + 1⟩

/-- Weekday of a day number, 0 Monday (R308). -/
def weekday (n : Int) : Nat := ((n + 5) % 7).toNat

/-! ## Local time (R306, R307) -/

/-- Day number of the given occurrence of a weekday in a month, week 5 the last (R306). -/
def occurrence (y : Nat) (r : DstRule) : Int :=
  let first := dayNumber ⟨y, r.month, 1⟩
  let d0 := ((r.wday : Int) - weekday first) % 7
  let d := d0 + 7 * ((r.week : Int) - 1)
  if d < daysInMonth y r.month then first + d else first + d - 7

/-- S(Y) or E(Y) in ticks (R307). -/
def dstInstant (c : Calendar) (r : DstRule) (y : Nat) : Int :=
  occurrence y r * tpd + ((r.minute : Int) - c.tzStd) * tpm

/-- Daylight saving is in force at tick t (R307). -/
def dstAt (c : Calendar) (t : Int) : Bool :=
  c.dstEn &&
    let y := (dateOfDay (t / tpd)).year
    let s := dstInstant c c.dstStart y
    let e := dstInstant c c.dstEnd y
    if s < e then s ≤ t && t < e else s ≤ t || t < e

/-- Local offset in minutes at tick t (R307). -/
def offsetAt (c : Calendar) (t : Int) : Int := c.tzStd + if dstAt c t then (c.dstDelta : Int) else 0

/-- Local time in ticks since 2000-01-01 local. -/
def localAt (c : Calendar) (t : Int) : Int := t + offsetAt c t * tpm

/-- The first tick of (lo, hi] at which `p` holds, for a `p` that fails at lo, holds at hi and turns once. -/
def bisect (p : Int → Bool) : Nat → Int → Int → Int
  | 0, _, hi => hi
  | f + 1, lo, hi =>
    if hi ≤ lo + 1 then hi
    else
      let m := (lo + hi) / 2
      if p m then bisect p f lo m else bisect p f m hi

/-- The tick of a local date and minute under R264: the first occurrence in a repeated span, the transition in a
skipped one. -/
def scheduleAt (c : Calendar) (day : Int) (minute : Nat) : Int :=
  let u1 := day * tpd + ((minute : Int) - c.tzStd) * tpm
  let u2 := u1 - c.dstDelta * tpm
  if c.dstEn = false then u1
  else if dstAt c u2 then u2
  else if dstAt c u1 then bisect (dstAt c) 40 u2 u1
  else u1

/-- The tick whose local date and minute decide the tariff at t: t itself, or the last tick of the first pass while
the second pass of a repeated span runs (R264). -/
def tariffTick (c : Calendar) (t : Int) : Int :=
  let b := t - c.dstDelta * tpm
  if c.dstEn && !dstAt c t && dstAt c b then bisect (fun x => !dstAt c x) 40 b t - 1 else t

/-- Fields of TIME_NOW for a tick (R308). -/
def timeNow (c : Calendar) (t : Nat) : TimeNow :=
  let l := localAt c t
  let ld := l / tpd
  let d := dateOfDay ld
  let ls := (l % tpd / tps).toNat
  { dst := dstAt c t
    utcWday := weekday (t / tpd : Nat)
    utcDay := t / tpd
    utcSec := t % tpd / tps
    year := d.year, month := d.month, day := d.day
    minute := ls / 60
    second := ls % 60
    wday := weekday ld
    offset := offsetAt c t }

/-! ## Tariff (R263) -/

/-- (month, day) as one number; 29 February of a year without one is read as 1 March. -/
def monthDay (leap : Bool) (m d : Nat) : Nat := if m = 2 ∧ d = 29 ∧ leap = false then 301 else 100 * m + d

/-- Index of the special day of R263, if any. -/
def specialIndex (c : Calendar) (d : Date) : Option Nat :=
  let md := 100 * d.month + d.day
  let hit := fun (s : SpecialDay) => monthDay (isLeap d.year) s.month s.day == md
  match c.specials.findIdx? (fun s => s.year == d.year && hit s) with
  | some j => some j
  | none => c.specials.findIdx? (fun s => s.year == 0 && hit s)

/-- Index of the season of R263. -/
def seasonIndex (c : Calendar) (d : Date) : Nat :=
  let md := 100 * d.month + d.day
  let k := (c.seasons.filter fun s => monthDay (isLeap d.year) s.month s.day ≤ md).length
  if k = 0 then c.seasons.length - 1 else k - 1

/-- Index of the switch point of a profile at a minute. -/
def switchIndex (p : List SwitchPoint) (minute : Nat) : Nat :=
  (p.filter fun s => s.minute ≤ minute).length - 1

/-- What R263 finds at a tick: season, special index, profile, switch index, tariff. -/
structure TariffEval where
  season : Nat
  special : Option Nat
  profile : Nat
  sw : Nat
  tariff : Nat
deriving DecidableEq, Repr

/-- The evaluation of R263 with R264. -/
def evalTariff (c : Calendar) (t : Int) : TariffEval :=
  let l := localAt c (tariffTick c t)
  let day := l / tpd
  let d := dateOfDay day
  let minute := (l % tpd / tpm).toNat
  let j := specialIndex c d
  let s := seasonIndex c d
  let p := match j with
    | some j => (c.specials[j]?.map (·.profile)).getD 0
    | none => ((c.seasons[s]?.map (·.week)).getD []).getD (weekday day) 0
  let sw := c.profiles.getD p []
  let i := switchIndex sw minute
  ⟨s, j, p, i, (sw[i]?.map (·.tariff)).getD 1⟩

/-- The first tick after t, on local days from `day` on, at which the tariff differs from `cur`. -/
def nextSwitchGo (c : Calendar) (t : Int) (cur : Nat) : Nat → Int → Option Nat
  | 0, _ => none
  | f + 1, day =>
    let minutes := 0 :: (c.profiles.flatMap fun p => p.map (·.minute))
    let cands := (minutes.map fun m => scheduleAt c day m).filter
      fun u => decide (t < u) && (evalTariff c u).tariff != cur
    match cands with
    | [] => nextSwitchGo c t cur f (day + 1)
    | x :: xs => some (xs.foldl min x).toNat

/-- `next_switch` of R292; none where the calendar holds no later switch. -/
def nextSwitch (c : Calendar) (t : Nat) : Option Nat :=
  let cur := (evalTariff c t).tariff
  if c.profiles.all fun p => p.all fun s => s.tariff == cur then none
  else
    match nextSwitchGo c t cur 100000 (localAt c t / tpd) with
    | some n => if n ≤ tickMax then some n else none
    | none => none

/-! ## Billing ends and daily boundaries (R268) -/

/-- The tick of the billing end of month M, counted from the year 2000 (R268). -/
def billEnd (c : Calendar) (m : Int) : Int :=
  scheduleAt c (dayNumber ⟨(2000 + (m - 1) / 12).toNat, ((m - 1) % 12 + 1).toNat, c.billDay⟩) c.billMinute

/-- The latest month at or before `m` in which a period ends. -/
def billMonthAtOrBefore (c : Calendar) (m : Int) : Int := m - (m - c.billAnchor) % c.billEvery

/-- Month number of a local day. -/
def monthOf (day : Int) : Int :=
  let d := dateOfDay day
  12 * ((d.year : Int) - 2000) + d.month

/-- The month of the latest billing end at or before tick t (R268). -/
def billMonthAt (c : Calendar) (t : Int) : Int :=
  let m1 := billMonthAtOrBefore c (monthOf (localAt c t / tpd) + 1)
  let e : Int := c.billEvery
  if billEnd c m1 ≤ t then m1
  else if billEnd c (m1 - e) ≤ t then m1 - e
  else m1 - 2 * e

/-- The local day of the latest daily boundary at or before tick t. -/
def snapDayAt (c : Calendar) (t : Int) : Int :=
  let d := localAt c t / tpd + 1
  if scheduleAt c d c.dayMinute ≤ t then d
  else if scheduleAt c (d - 1) c.dayMinute ≤ t then d - 1
  else d - 2

/-- Scheduled ends in (last, t]: their number and the latest of them. -/
def billEndsIn (c : Calendar) (last t : Int) : Nat × Int :=
  let a := billMonthAt c last
  let b := billMonthAt c t
  (((b - a) / c.billEvery).toNat, billEnd c b)

/-- Daily boundaries in (last, t]: their number, the latest, and its local day. -/
def dayEndsIn (c : Calendar) (last t : Int) : Nat × Int × Int :=
  let a := snapDayAt c last
  let b := snapDayAt c t
  ((b - a).toNat, scheduleAt c b c.dayMinute, b)

/-- The next billing end and daily boundary after tick t. -/
def nextBillEnd (c : Calendar) (t : Int) : Int := billEnd c (billMonthAt c t + c.billEvery)

def nextDayEnd (c : Calendar) (t : Int) : Int := scheduleAt c (snapDayAt c t + 1) c.dayMinute

/-! ## Demand boundaries (R275) -/

/-- Interval length in minutes and the number of sub-intervals, by their codes (R294). -/
def demMinutes (code : Nat) : Nat := [1, 5, 15, 30, 60].getD code 15

def demSubs (code : Nat) : Nat := [1, 3, 5, 15].getD code 1

/-- Lsub in ticks. -/
def subLen (demLen demSub : Nat) : Nat := demMinutes demLen * tpm / demSubs demSub

/-- The first tick after t with (t + off) mod len = 0. -/
def nextAligned (c : Calendar) (len : Nat) (t : Int) : Int :=
  let x := t + c.tzStd * tpm
  t + (len - x % len)

/-- Whether t is a boundary of the given length. -/
def isAligned (c : Calendar) (len : Nat) (t : Int) : Bool := (t + c.tzStd * tpm) % len == 0

/-- Boundaries of the given length in (a, b]. -/
def alignedIn (c : Calendar) (len : Nat) (a b : Int) : Nat :=
  ((b + c.tzStd * tpm) / len - (a + c.tzStd * tpm) / len).toNat

/-- Length of an hourly entry (R287). -/
def hourLen : Nat := 60 * 1966080

/-! ## Absolute dates (R311) -/

/-- The tick of an absolute set's date, normalised in the order of R311; none where it is refused. -/
def normaliseDate (y mo d h mi sec : Nat) : Option Nat :=
  let (y1, m1) := if mo > 12 then (y + 1, mo - 12) else (y, mo)
  let base := dayNumber ⟨y1, m1, 1⟩
  let day := base + d - 1 + (if h = 24 then 1 else 0)
  let hh := if h = 24 then 0 else h
  let s := day * 86400 + ((hh * 3600 + mi * 60 + sec : Nat) : Int)
  if s < 0 ∨ dayNumber ⟨2272, 1, 1⟩ * 86400 ≤ s then none else some (s.toNat * tps)

end Sys2Proof.Machine
end

