-- ==== Sys2Proof/Machine/State.lean ====
section
/-! DEFINITION. The state of the device, the reasons a step can stop, and the state at reset. -/

namespace Sys2Proof.Machine

/-- Faults. No rule of the manual leaves a command without an effect, so no meaning raises one. -/
inductive Fault where
  /-- Raised by no command; kept because a fault type must be inhabited for a reader to name it. Safe. -/
  | none
deriving DecidableEq, Repr

/-- Refusals. -/
inductive Refusal where
  /-- Raised by an arm of `exec` that has no meaning yet, with the row's mnemonic. Safe: the machine stops. -/
  | notModelled (mnemonic : String)
deriving DecidableEq, Repr

/-- Everything the manual gives the device (INVENTORY.md, State). -/
structure Device where
  fn : Funcs := {}
  conf : Conf := {}
  straps : Straps := {}
  /-- ADMIT_REFUSALS, R21 -/
  refusals : List Nat := List.replicate 16 0
  tr : Transit := {}
  flow : FlowNow := {}
  cap : Capstan := {}
  pulse : PulseOut := {}
  temp : Temp := {}
  toll : Toll := {}
  bill : Bill := {}
  jnl : Journal := {}
  land : Landing := {}
  radio : Radio := {}
  haw : Hawser := {}
  disp : Display := {}
  sec : Security := {}
  opt : Optical := {}
  power : Power := {}
  store : Store := {}
  st : SelfTest := {}
  /-- free values drawn so far (log 5) -/
  free : Nat := 0
deriving DecidableEq, Repr

/-- The machine: the device, and the commands that wait, first in first out. -/
structure State where
  dev : Device := {}
  pending : List Instr := []
deriving DecidableEq, Repr

/-- The device at its first supply, before its first cold start (R479): BLANK, every function OFF but the optical
port, time never set; fields for which the manual states no value as log entries 2 to 4 say. -/
def State.reset : State := {}

end Sys2Proof.Machine
end

