-- ==== Sys2Proof/Machine/Ops.lean ====
section
/-! DEFINITION. The shared operations over the device: time passing, the event journal, refusals, tamper counts, the
degraded flag, alarms, the switching of functions, free values. -/

namespace Sys2Proof.Machine

/-! ## Plain readings -/

/-- The tick count (R298). -/
def Device.tick (s : Device) : Nat := s.land.tick

/-- Time is trusted (R304). -/
def Device.trusted (s : Device) : Bool := !s.land.oscStopped && !s.land.neverSet

/-- Time is untrusted (R304). -/
def Landing.untrusted (l : Landing) : Bool := l.oscStopped || l.neverSet

/-- Reader `i` of R309 loads its shadow, and reads time through it. -/
def Device.loadShadow (s : Device) (i : Nat) : Device :=
  let l := s.land
  { s with land := { l with
    reader := i, shadows := setAt l.shadows i fun _ => ⟨l.tick, l.oscStopped, l.neverSet, l.cal⟩ } }

/-- `TIME_NOW` as the reader that loaded last sees it (R309). -/
def Landing.shown (l : Landing) : Shadow := l.shadows.getD l.reader {}

/-- This device is a secondary of a cascade (R16). -/
def Device.secondary (s : Device) : Bool := s.haw.role == 2

/-- The start sequence has reached t0 (R479). -/
def Device.started (s : Device) : Bool := s.power.phase == .running

/-- The device is up: in service, and no hold-up commit stops it (R24, R482). -/
def Device.up (s : Device) : Bool := s.started && !s.power.holdDue

/-- Life-cycle states in which tamper is counted (R465). -/
def Lc.counted (l : Lc) : Bool :=
  match l with
  | .blank | .scrapped => false
  | _ => true

/-- SEALED or SERVICE. -/
def Lc.sealedOrService (l : Lc) : Bool :=
  match l with
  | .sealed | .service => true
  | _ => false

/-- Code of a life-cycle state (R467). -/
def Lc.code (l : Lc) : Nat :=
  match l with
  | .blank => 0
  | .manufacture => 1
  | .calibrate => 2
  | .sealed => 3
  | .service => 4
  | .scrapped => 5

def Lc.ofCode (n : Nat) : Option Lc :=
  match n with
  | 0 => some .blank
  | 1 => some .manufacture
  | 2 => some .calibrate
  | 3 => some .sealed
  | 4 => some .service
  | 5 => some .scrapped
  | _ => none

/-! ## Free values (log 5) -/

/-- A fresh free value, and the device with the draw counted. -/
def Device.draw (s : Device) : Nat × Device := (Config.freeValue s.free, { s with free := s.free + 1 })

/-! ## Commit journal (R498, R502) -/

def TxnEntry.bytes (e : TxnEntry) : Bytes := leBytes 3 e.addr ++ leBytes 1 e.words.length ++ e.words.flatMap (leBytes 4)

/-- The wipe entry of a class mask (R500). -/
def wipeEntry (mask : Nat) : TxnEntry := ⟨0xFFFFFF, [mask]⟩

/-- An entry that addresses FRAM words: an index of 16 bits, at most 255 words of 32 bits (R493, R499). -/
def wordEntry (e : Nat × List Nat) : TxnEntry := ⟨wrapU 16 e.1, (e.2.take 255).map (wrapU 32)⟩

/-- The entries that a payload of `room` bytes has room for (R498). -/
def fitEntries : Nat → List TxnEntry → List TxnEntry
  | _, [] => []
  | room, e :: es => if e.bytes.length ≤ room then e :: fitEntries (room - e.bytes.length) es else []

/-- Entries of a transaction: its wipe entry, and words of the FRAM whose places and contents are internal (log 34). -/
def txnEntries (mask n : Nat) : List TxnEntry :=
  fitEntries 4096 ((if mask = 0 then [] else [wipeEntry mask]) ++ (Config.txnWords n).map wordEntry)

/-- Bytes 0 to 15 + `len` of a journal record (R499). -/
def TxnRec.head (r : TxnRec) : Bytes :=
  leBytes 4 r.seq ++ leBytes 6 r.tCommit ++ leBytes 2 r.nEnt ++ leBytes 4 r.entries.length ++ r.entries

/-- A journal record in the ring (R499). -/
def TxnRec.bytes (r : TxnRec) : Bytes := r.head ++ leBytes 4 r.crc ++ leBytes 4 r.commit ++ leBytes 4 r.applied

/-- `crc` is that of the header and entries (R501). -/
def TxnRec.valid (r : TxnRec) : Bool := r.crc == crc32 r.head

def commitWord : Nat := 0xC0DE0001
def appliedWord : Nat := 0xA9911ED0

/-- The record of a transaction that is committed and applied. -/
def txnRecord (seq t : Nat) (es : List TxnEntry) : TxnRec :=
  let r : TxnRec := ⟨seq, t, es.length, es.flatMap TxnEntry.bytes, 0, commitWord, appliedWord⟩
  { r with crc := crc32 r.head }

/-- The newest records that an area of `room` bytes holds (R498). -/
def keepRecords : Nat → List TxnRec → List TxnRec
  | _, [] => []
  | room, r :: rs => if r.bytes.length ≤ room then r :: keepRecords (room - r.bytes.length) rs else []

/-- A write of the present step is committed: `txn_commits` and `txn_seq` advance once for a step, whose writes are one
transaction (R282, R290, R465), and its record is the newest of the ring (R498, R499). -/
def Store.commit (st : Store) (t : Nat) : Store :=
  let seq := if st.txnOpen then st.txnSeq else wrapU 32 (st.txnSeq + 1)
  { st with
    txnCommits := if st.txnOpen then st.txnCommits else satInc st.txnCommits
    txnOpen := true, txnSeq := seq, txnWrites := st.txnWrites + 1
    ring := keepRecords 16384
      (txnRecord seq t (txnEntries st.txnMask st.txnWrites) :: if st.txnOpen then st.ring.tail else st.ring) }

/-- The latest committed tick that R305 reloads (R502): the highest `t_commit` of the committed records. -/
def Store.latestCommit (st : Store) : Nat :=
  ((st.ring.filter (·.commit == commitWord)).map (·.tCommit)).foldl max 0

/-! ## Background work that waits (R497, R508, R509) -/

/-- FRAM words of the device (R493). -/
def framWords : Nat := 65536

/-- The pass of the scrub has come to its `n`-th word: its steps are spread evenly over 86 400 s (R497; log 29). -/
def Device.scrubDue (s : Device) (n : Nat) : Bool :=
  decide (n ≤ framWords ∧ n * 2831155200 ≤ framWords * (s.land.tick - s.store.scrubTick))

/-- A background step of unit `u`, numbered as R508 orders them, waits to run. -/
def Device.bgReady (s : Device) (u : Nat) : Bool :=
  let t := fun (b : Nat) => s.st.roundLeft.contains b
  match u with
  | 0 => s.tr.tdc.due != 0 || t 4
  | 1 => ((s.land.alarms[4]?.map (·.fired)).getD false) || t 5
  | 2 => s.haw.loop.isSome || s.haw.loopDue != 0 || t 7
  | 3 => s.scrubDue (s.store.scrubRead + 1)
  | 4 => !s.bill.staged.isEmpty || !s.store.poolDirty.isEmpty || !s.store.ringErase.isEmpty || !s.store.badSectors.isEmpty
  | _ => t 2 || t 3 || t 6 || t 8 || t 9

/-- A note handed to the controller is still undecided, and counts as one in reassembly (R445). -/
def Device.noteUndecided (s : Device) : Bool := s.land.lfxRunning && decide (s.land.osc < s.radio.undecidedTo)

/-- Since when each unit's step waits, as the present command finds it (R509). -/
def Device.readyTimes (s : Device) : List (Option Nat) :=
  (List.range 6).map fun u =>
    if s.power.phase == .running && s.bgReady u then some ((s.store.readySince.getD u none).getD s.land.osc) else none

/-- A step of unit `u` has run: it is due no more, and the wait of the next one begins (R509, log 29). -/
def Device.stepRan (s : Device) (u : Nat) : Device :=
  { s with store := { s.store with
    due := setAt s.store.due u fun _ => false, readySince := setAt s.store.readySince u fun _ => none } }

/-- Time counters of R242 brought up to tick `t`: each condition that holds, and their union. -/
def FaultTime.bring (f : FaultTime) (t : Nat) : FaultTime :=
  let n := t - f.tCond
  let g := fun (i v : Nat) => if bitAt f.cond i then satAdd 64 v n else v
  { f with tFlow := g 0 f.tFlow, tTemp := g 1 f.tTemp, tRange := g 2 f.tRange, tNeg := g 3 f.tNeg,
           tSafe := g 4 f.tSafe, tConv := g 5 f.tConv,
           tError := if f.cond = 0 then f.tError else satAdd 64 f.tError n, tCond := t }

/-- The Tollhouse runs here: a device that is up and is no secondary (R16). -/
def Device.tolling (s : Device) : Bool := s.up && !s.secondary

/-- A commit of the journal, at which the Tollhouse brings its time counters up (R242). -/
def Device.commit (s : Device) : Device :=
  let s1 := { s with store := s.store.commit s.land.tick }
  if s.tolling then { s1 with toll := { s.toll with ft := s.toll.ft.bring s.land.tick } } else s1

/-! ## Event journal (R290) -/

/-- A new entry in the ring of 2048 (R290). -/
def Journal.add (j : Journal) (e : JEntry) : Journal :=
  { entries := (e :: j.entries).take 2048, seq := wrapU 32 (j.seq + 1) }

/-- An event of tick `t`, at which time was trusted or not (R290, R331). A secondary holds no journal (R16, R524). -/
def Device.journalWith (s : Device) (t : Nat) (untrusted : Bool) (code arg0 arg1 : Nat) : Device :=
  if s.secondary then s
  else
    Device.commit { s with jnl := s.jnl.add ⟨t, code, untrusted, wrapU 32 arg0, wrapU 32 arg1⟩ }

/-- An event of tick `t` under the present trust. -/
def Device.journalAt (s : Device) (t code arg0 arg1 : Nat) : Device := s.journalWith t (!s.trusted) code arg0 arg1

/-- An event of the present tick. -/
def Device.journal (s : Device) (code arg0 arg1 : Nat) : Device := s.journalAt s.land.tick code arg0 arg1

/-- An event whose argument is a signed value of 64 bits, arg1:arg0 (R290). -/
def Device.journal64 (s : Device) (code : Nat) (v : Int) : Device :=
  s.journal code (bitsOf 64 v) (bitsOf 64 v / 2 ^ 32)

/-! ## Refusals (R21) -/

/-- Counter `i` of ADMIT_REFUSALS advances, saturating. -/
def Device.refuse (s : Device) (i : Nat) : Device := { s with refusals := setAt s.refusals i satInc }

/-- Counter `i` advances by `n`, saturating. -/
def Device.refuseN (s : Device) (i n : Nat) : Device :=
  { s with refusals := setAt s.refusals i (fun a => satAdd 32 a n) }

/-! ## Tamper (R463 to R466) -/

/-- One occurrence at tick `t` in a ledger entry. -/
def Tamper.count1 (e : Tamper) (t : Nat) : Tamper :=
  { e with count := satInc e.count, tFirst := if e.count = 0 then t else e.tFirst, tLast := t }

/-- TAMPER_COUNTED is held back within 117 964 800 ticks of the last one of its kind (R465). -/
def Tamper.quiet (e : Tamper) (t : Nat) : Bool :=
  match e.journalled with
  | none => false
  | some j => decide (j ≤ t ∧ t < j + 117964800)

/-- A count of tamper kind `k` at tick `t`, at which time was trusted or not (R465). -/
def Device.tamperWith (s : Device) (k t : Nat) (untrusted : Bool) : Device :=
  if s.sec.lc.counted then
    match s.sec.tamper[k]? with
    | none => s
    | some e =>
      let e1 := e.count1 t
      let q := e.quiet t
      let e2 := if q then e1 else { e1 with journalled := some t }
      let s1 := { s with sec := { s.sec with
        tamper := s.sec.tamper.set k e2, tamperNew := true, tamperTotal := s.sec.tamperTotal + 1 } }
      if q then s1.commit else s1.journalWith t untrusted 0x805 k e1.count
  else s

def Device.tamperAt (s : Device) (k t : Nat) : Device := s.tamperWith k t (!s.trusted)

/-- A count of tamper kind `k` at the present tick. -/
def Device.tamper (s : Device) (k : Nat) : Device := s.tamperAt k s.land.tick

/-! ## The degraded flag -/

/-- Some cause of the degraded flag holds. -/
def Degraded.any (d : Degraded) : Bool :=
  d.tdcFault || d.refin || d.refResistor || d.swap || d.check || d.sos || d.retiredPath || d.retiredTemp ||
    d.loopcal || d.secLost || d.display || d.vhold || d.fram || d.flash || d.cond || d.clock || d.block

/-- A cause of the degraded flag changes; the running hourly entry notes a raised flag (R287). -/
def Device.degrade (s : Device) (f : Degraded → Degraded) : Device :=
  let d := f s.power.deg
  { s with
    power := { s.power with deg := d }
    bill := { s.bill with hour := { s.bill.hour with degraded := s.bill.hour.degraded || d.any } } }

/-! ## Alarms (R318 to R321) -/

/-- Arms slot `i`; a target already reached fires at once (R319). -/
def Landing.arm (l : Landing) (i target : Nat) (elapsed : Bool) : Landing :=
  { l with alarms := setAt l.alarms i fun _ =>
    { armed := true, fired := decide (target ≤ l.tick), fresh := decide (l.prev < target ∧ target ≤ l.tick)
      elapsed := elapsed, target := min target tickMax } }

/-- Disarms slot `i`, which also acknowledges it (R321). -/
def Landing.disarm (l : Landing) (i : Nat) : Landing := { l with alarms := setAt l.alarms i fun _ => {} }

/-- The Landing takes writes from the switched domain: lockout is released (R323). -/
def Device.writable (s : Device) : Bool := s.land.supply == .bat

/-- The switched domain arms slot `i`; under lockout the write is not accepted (R323). -/
def Device.arm (s : Device) (i target : Nat) (elapsed : Bool) : Device :=
  if s.writable then { s with land := s.land.arm i target elapsed } else s

def Device.disarm (s : Device) (i : Nat) : Device := if s.writable then { s with land := s.land.disarm i } else s

/-- Slot `i` has fired. -/
def Device.fired (s : Device) (i : Nat) : Bool := (s.land.alarms[i]?.map (·.fired)).getD false

def Device.armed (s : Device) (i : Nat) : Bool := (s.land.alarms[i]?.map (·.armed)).getD false

/-- An alarm as the count stands at `tick` and stood at `prev` before the latest cycle (R319). -/
def Alarm.reach (a : Alarm) (prev tick : Nat) : Alarm :=
  if a.armed && !a.fired && decide (a.target ≤ tick) then { a with fired := true, fresh := decide (prev < a.target) } else a

/-- Armed alarms whose target the count has reached fire (R319). -/
def Landing.fireAlarms (l : Landing) : Landing := { l with alarms := l.alarms.map fun a => a.reach l.prev l.tick }

/-- What fired before the present oscillator cycle is no longer undone by a skip. -/
def Alarm.settle (a : Alarm) : Alarm := { a with fresh := false }

/-! ## Time passing -/

/-- LFX runs and the Landing is powered (R303, R322, R470). -/
def Device.ticking (s : Device) : Bool :=
  s.land.lfxRunning && s.land.supply != .lost && s.power.st != .ship

/-- The debounce of R322 runs: never in BAT; elsewhere it follows `VBAT`, which no command shows (FREE, log 5). -/
def Landing.debouncing (l : Landing) : Bool := l.supply != .bat && Config.debounceRunning l.osc

/-- The Landing after `n` oscillator cycles (R299, R301, R319). -/
def Landing.elapse (l : Landing) (n : Nat) : Landing :=
  if n = 0 then l
  else
    let l1 : Landing := { l with
      tick := min (l.tick + n) tickMax
      prev := min (l.tick + (n - 1)) tickMax
      osc := l.osc + n
      trimAcc := l.trimAcc + l.lf.trimN.natAbs * n
      probeIn := l.probeIn + n
      alarms := l.alarms.map Alarm.settle }
    Landing.fireAlarms { l1 with debounce := l1.debouncing }

/-- Tokens of the SHOT bucket after `n` ticks (R151). -/
def ExtShot.level (e : ExtShot) (p : ShotP) (n : Nat) : Nat :=
  max e.tokens (min (e.tokens + 2 * p.extRateMax * n) (p.extBurst * 65536))

/-- Refill of the SHOT bucket over `n` ticks (R151); `gained` is what the last of them gave. -/
def ExtShot.refill (e : ExtShot) (p : ShotP) (n : Nat) : ExtShot :=
  if n = 0 then e else { e with tokens := e.level p n, gained := e.level p n - e.level p (n - 1) }

/-- The refill of a tick that a skip correction takes back (R151, R299). -/
def ExtShot.unfill (e : ExtShot) : ExtShot := { e with tokens := e.tokens - e.gained, gained := 0 }

/-- The interval timers of the Transit Engine after `n` cycles (R300). -/
def Transit.elapse (t : Transit) (p : ShotP) (n : Nat) : Transit :=
  { t with
    ext := t.ext.refill p n
    cyc := { t.cyc with shotIn := t.cyc.shotIn.map (· - n) } }

def PulseCh.elapse (c : PulseCh) (n : Nat) : PulseCh := { c with remain := c.remain - n }

/-- A function's state at the LFX edge that ends its cycle of OFF (R25). -/
def FuncState.restart (f : FuncState) : FuncState :=
  if f.st = .off ∧ f.cycling = true then { f with st := if f.retired then .off else .on, cycling := false } else f

/-- The first LFX edge after a drain ends every cycle of OFF that runs (R25). -/
def Funcs.edge (f : Funcs) : Funcs :=
  { transit := f.transit.restart, converter := f.converter.restart, ferryman := f.ferryman.restart
    wmbus := f.wmbus.restart, hawser := f.hawser.restart, display := f.display.restart, optical := f.optical.restart
    pulseOut := f.pulseOut.restart }

/-- `n` oscillator cycles pass before a command (R299, R300), whose writes are a transaction of their own. In SHIP,
without Landing supply and while LFX is stopped nothing advances. -/
def Device.elapse (s : Device) (n : Nat) : Device :=
  let st : Store := { s.store with txnOpen := false, txnMask := 0, readySince := s.readyTimes }
  if s.ticking then
    { s with
      store := st
      fn := if n = 0 then s.fn else s.fn.edge
      land := s.land.elapse n
      tr := s.tr.elapse (s.conf.g.shot.getD {}) n
      pulse := { s.pulse with ch0 := s.pulse.ch0.elapse n, ch1 := s.pulse.ch1.elapse n } }
  else { s with store := st }

/-- One oscillator cycle on an empty queue (DESIGN CHOICE, log 1). -/
def State.idle (s : State) : State := { s with dev := s.dev.elapse 1 }

/-! ## `PWR_EN` (R325) -/

/-- The switched domain is powered and clocked. -/
def Device.awake (s : Device) : Bool :=
  match s.power.st with
  | .doze | .run => true
  | _ => false

/-- The level that `pwr_en_mode` gives outside a lead. -/
def Device.pwrLevel (s : Device) : Bool :=
  s.land.supply == .bat && s.power.st != .ship &&
    (s.land.pwrEnMode == 1 || (s.land.pwrEnMode == 2 && s.awake))

def Device.pwrUpdate (s : Device) : Device := { s with land := { s.land with pwrEn := s.pwrLevel } }

/-- Work that needs the PLL raises a powered domain to RUN (R474). -/
def Device.toRun (s : Device) : Device :=
  let st := match s.power.st with
    | .hibernate | .nap | .doze => PState.run
    | x => x
  Device.pwrUpdate { s with power := { s.power with st := st } }

/-! ## OFF, STOPPING and ON (R25 to R29) -/

def Funcs.get (f : Funcs) (k : Func) : FuncState :=
  match k with
  | .transit => f.transit
  | .converter => f.converter
  | .ferryman => f.ferryman
  | .wmbus => f.wmbus
  | .hawser => f.hawser
  | .display => f.display
  | .optical => f.optical
  | .pulseOut => f.pulseOut

def Funcs.set (f : Funcs) (k : Func) (v : FuncState) : Funcs :=
  match k with
  | .transit => { f with transit := v }
  | .converter => { f with converter := v }
  | .ferryman => { f with ferryman := v }
  | .wmbus => { f with wmbus := v }
  | .hawser => { f with hawser := v }
  | .display => { f with display := v }
  | .optical => { f with optical := v }
  | .pulseOut => { f with pulseOut := v }

/-- The function is ON. -/
def Device.on (s : Device) (k : Func) : Bool := (s.fn.get k).st == .on

/-- A function's state after an enable (R25). A block that self-test has retired stays OFF (R517), and a function
in its one oscillator cycle of OFF returns to ON at its end. -/
def FuncState.enable (f : FuncState) : FuncState :=
  match f.st with
  | .off => if f.retired || f.cycling then { f with wanted := true } else { f with st := .on, wanted := true }
  | .on => { f with wanted := true }
  | .stopping => if f.retired then { f with wanted := true } else { f with latch := true, wanted := true }

/-- A function's state after a disable (R25). -/
def FuncState.disable (f : FuncState) : FuncState :=
  match f.st with
  | .off => { f with wanted := false }
  | .on => { f with st := .stopping, latch := false, wanted := false }
  | .stopping => { f with latch := false, wanted := false }

/-- A function's state once drained (R25). -/
def FuncState.drained (f : FuncState) : FuncState :=
  match f.st with
  | .stopping => { f with st := .off, cycling := f.latch, latch := false }
  | _ => f

/-- No pulse is in progress; the release that R181 asks for after the last one goes on. -/
def PulseCh.clear (c : PulseCh) : PulseCh :=
  if c.phase = .gap then { c with low := false } else { c with phase := .idle, remain := 0, low := false }

/-- The cycle in progress is dropped; its number, the shot timer, the rate level and the paths fired in the external
mode stay. -/
def Cycle.clear (c : Cycle) : Cycle :=
  { c with running := false, toFire := [], inFlight := none, probe := false, extPair := false, complete := false,
           probePath := none, key := none }

/-- Buffers, filters and items in flight go; the window and the ticks that retirement counts from stay (R27). -/
def PathWork.clear (w : PathWork) : PathWork :=
  { winOpen := w.winOpen, found := w.found, searchStep := w.searchStep, validT := w.validT, arrival2 := w.arrival2
    sweeping := w.sweeping, lastNonVoid := w.lastNonVoid, activeSince := w.activeSince, sosDisagree := w.sosDisagree
    sosAgree := w.sosAgree, sosFailing := w.sosFailing, lastValid := w.lastValid, stale := w.stale
    mateLearned := w.mateLearned }

/-- Learning whose captures are lost begins again (R120). -/
def Template.unlearnt (t : Template) : Template := if t.learned then t else { t with learnCount := 0 }

/-- One path in the reset state of the Transit Engine: a sweep or a learning under way begins again (R27). -/
def PathState.clear (x : PathState) : PathState := { x with work := x.work.clear, tpl := x.tpl.unlearnt }

/-! ## The Ferryman's working state -/

/-- A note in reassembly is discarded; the space reserved for it is freed (R356, R374). -/
def Radio.dropReasm (r : Radio) : Radio :=
  match r.reasm with
  | some x => { r with reasm := none, queue := match x.slot with | some k => setAt r.queue k fun _ => {} | none => r.queue }
  | none => r

/-- An attempt cut short uses one try (R370). -/
def Radio.cutShort (r : Radio) (e : Exchange) : Radio :=
  match e.attempt with
  | some k => { r with queue := setAt r.queue k fun q => { q with tries := min (q.tries + 1) 15 } }
  | none => r

/-- Nothing reported is in flight any more. -/
def Radio.landed (r : Radio) : Radio :=
  { r with
    queue := r.queue.map fun (q : QEntry) => { q with inFlight := false }
    digests := r.digests.map fun (g : Digest) => { g with inFlight := false }
    sentEst := [], sentTamper := none }

/-- The exchange in progress, if any, ends with its reassembly (R359). -/
def Radio.endExch (r : Radio) : Radio :=
  match r.exch with
  | some e => { ((r.cutShort e).dropReasm).landed with exch := none }
  | none => r

/-- Every open window closes: children's and the join window (R29). -/
def Radio.closeWindows (r : Radio) : Radio :=
  { r with joinOpen := false, children := r.children.map fun (c : Child) => { c with windowOpen := false, listenTo := none } }

/-- The reset state of the Ferryman (R27). -/
def Radio.clear (r : Radio) : Radio := ((r.endExch).dropReasm).closeWindows

/-! ## Pulses discarded (R181) -/

def PulseCh.discard (c : PulseCh) : PulseCh := { c with owed := 0, overrun := false }

/-- Disabled outputs: owed pulses are discarded and counted in `lost` (R181, R187). -/
def PulseOut.disabled (p : PulseOut) : PulseOut :=
  { p with ch0 := p.ch0.discard, ch1 := p.ch1.discard, lost := satAdd 32 p.lost (p.ch0.owed + p.ch1.owed) }

/-- A secondary whose pushed parameters are lost before they were sent is to be synchronised again (log 28). -/
def Secondary.unsent (x : Secondary) (lost : Bool) : Secondary :=
  if lost && x.state == 1 then { x with state := 2, resync := true } else x

/-- The Hawser's working state is lost: the exchange, the pushed parameters with `hfx_corr`, the job (R9, R27, R395). -/
def Hawser.clear (h : Hawser) : Hawser :=
  { h with out := none, loop := none, syncing := [], syncActive := false, wakeReq := false, attending := false, synced := false, pushed := []
           pushedThr := {}, pushedCls := 0, pushedTemp := {}, hfxCorr := 0, job := none, cycle := 0, sampling := false
           turn := 0, turnSent := 0, loopIdx := 0, loopSeq := none, cfgParts := [], loopDue := 0
           secs := (h.secs.zipIdx).map fun x => x.1.unsent (h.cfgParts.any fun p => p.1 == x.2 + 1) }

/-- The reset state of a function (R27): its working state is cleared, persistent data and objects are not. -/
def Device.resetFunc (s : Device) (k : Func) : Device :=
  match k with
  | .transit =>
    { s with tr := { s.tr with
      cyc := s.tr.cyc.clear
      tdc := { s.tr.tdc with stepsDone := 0, hits := [], build := {} }
      paths := s.tr.paths.map PathState.clear } }
  | .converter => { s with temp := { s.temp with running := false, parts := [], awaiting := [], ownPart := none } }
  | .ferryman => { s with radio := s.radio.clear }
  | .wmbus => { s with radio := { s.radio with lastTelegram := [] } }
  | .hawser => { s with haw := { s.haw.clear with ownEpoch := wrapU 8 (s.haw.ownEpoch + 1) } }
  | .display =>
    { s with disp := { s.disp with
      page := 0, pageUntil := none, timerRun := false, regions := s.disp.regions.map fun g => { resume := g.resume } } }
  | .optical => { s with opt := { s.opt with baud := 0, active := false } }
  | .pulseOut => { s with pulse := { s.pulse with ch0 := s.pulse.ch0.clear, ch1 := s.pulse.ch1.clear } }

/-- What a function gives up at once when it is disabled: the Ferryman's open windows (R29). -/
def Device.stopping (s : Device) (k : Func) : Device :=
  match k with
  | .ferryman => { s with radio := s.radio.closeWindows }
  | .transit | .converter | .wmbus | .hawser | .display | .optical | .pulseOut => s

/-- A function's state is replaced; one that comes ON starts from its reset state. -/
def Device.setFunc (s : Device) (k : Func) (v : FuncState) : Device :=
  let s1 := { s with fn := s.fn.set k v }
  if (s.fn.get k).st = .off ∧ v.st = .on then s1.resetFunc k
  else if (s.fn.get k).st = .on ∧ v.st = .stopping then s1.stopping k
  else s1

def Device.enable (s : Device) (k : Func) : Device := s.setFunc k (s.fn.get k).enable

def Device.disable (s : Device) (k : Func) : Device := s.setFunc k (s.fn.get k).disable

/-- A function that goes OFF to stay: the pulse outputs discard what they owe (R181). -/
def Device.wentOff (s : Device) (k : Func) : Device :=
  match k with
  | .pulseOut => { s with pulse := s.pulse.disabled }
  | .transit | .converter | .ferryman | .wmbus | .hawser | .display | .optical => s

/-- A function drains (R25, R29); the reset state is applied in the cycle of OFF. -/
def Device.drain (s : Device) (k : Func) : Device :=
  let v := (s.fn.get k).drained
  let s1 := { s with fn := s.fn.set k v }
  if (s.fn.get k).st = .stopping then (if v.cycling then s1.resetFunc k else (s1.resetFunc k).wentOff k) else s1

/-- STOPPING and back to ON, as a changed group asks (R541). -/
def Device.bounce (s : Device) (k : Func) : Device :=
  if s.on k then (s.disable k).enable k else s

/-- The function `k` is enabled or disabled by what configures it. -/
def Device.want (s : Device) (k : Func) (b : Bool) : Device := if b then s.enable k else s.disable k

/-! ## Pulses owed (R180 to R182) -/

/-- `n` pulses owed on an output, and how many are lost. -/
def PulseCh.owe (c : PulseCh) (n : Nat) : PulseCh × Nat :=
  let t := c.owed + n
  ({ c with owed := min t 65535, overrun := c.overrun || decide (65535 < t) }, t - 65535)

/-- `n` pulses owed on output `i`; PULSE_OVERRUN at the first lost one since the counter was below full (R182). -/
def Device.owe (s : Device) (i n : Nat) : Device :=
  let c := if i = 0 then s.pulse.ch0 else s.pulse.ch1
  let r := c.owe n
  let p := if i = 0 then { s.pulse with ch0 := r.1 } else { s.pulse with ch1 := r.1 }
  let s1 := { s with pulse := { p with lost := satAdd 32 p.lost r.2 } }
  if r.1.overrun && !c.overrun then s1.journal 0x10E i 0 else s1

/-- Pulses owed on every output whose mode is `m`. -/
def Device.oweMode (s : Device) (m n : Nat) : Device :=
  let s1 := if s.pulse.ch0.mode = m ∧ 0 < n then s.owe 0 n else s
  if s.pulse.ch1.mode = m ∧ 0 < n then s1.owe 1 n else s1

end Sys2Proof.Machine
end

