-- ==== Sys2Proof/Machine/Wire.lean ====
section
/-! DEFINITION. Hawser frames and their exchange (R391 to R393). -/

namespace Sys2Proof.Machine

/-! ## Frames (R391, R392) -/

/-- The CRC of R391. -/
def hwCrc (b : Bytes) : Nat := crcMsb 16 0x1021 0xFFFF b

/-- A frame from offset 0 to its CRC. -/
def hwFrame (dst src typ seq : Nat) (payload : Bytes) : Bytes :=
  let h := leBytes 1 (dst + 8 * src) ++ leBytes 1 typ ++ leBytes 1 seq ++ leBytes 1 payload.length ++ payload
  h ++ leBytes 2 (hwCrc h)

/-- A frame taken apart. -/
structure HwParts where
  dst : Nat
  src : Nat
  typ : Nat
  seq : Nat
  payload : Bytes
deriving DecidableEq, Repr

/-- The parts of a frame with a good CRC and a type of R392. -/
def hwParse (b : Bytes) : Option HwParts :=
  let n := getU b 3 1
  let h := b.take (4 + n)
  let typ := getU b 1 1
  if b.length = 6 + n ∧ getU b (4 + n) 2 = hwCrc h ∧ 1 ≤ typ ∧ typ ≤ 0x0E then
    some ⟨getU b 0 1 % 8, getU b 0 1 / 8 % 8, typ, getU b 2 1, h.drop 4⟩
  else none

/-- A frame that is dropped: CRC or reserved type (R391). -/
def Device.hwBad (s : Device) : Device := { s with haw := { s.haw with crcFail := satInc s.haw.crcFail } }

/-- Number under which this device is on the bus. -/
def Device.hwNo (s : Device) : Nat := if s.haw.role = 2 then s.haw.deviceNo else 0

/-- A frame of type `typ` that this device accepts: Hawser ON, addressed to it or to all. -/
def Device.hwAccept (s : Device) (typ : Nat) (f : HwFrame) : Option HwParts :=
  match hwParse f.bytes with
  | some p => if p.typ = typ ∧ (p.dst = s.hwNo ∨ p.dst = 7) then some p else none
  | none => none

/-- A frame addressed to this device, or the wake burst: a secondary is awake for 10 ms from here (R394). -/
def Device.attend (s : Device) : Device := { s with haw := { s.haw with lastFrame := s.land.osc, attending := true } }

/-- A FIRE has its answer; that of one flagged last of cycle lets a secondary return to NAP (R394). -/
def Device.fireAnswered (s : Device) (last : Bool) : Device :=
  { s with haw := { s.haw with attending := s.haw.attending && !last } }

/-- The Hawser works: its domain is powered and clocked, and no hold-up commit stops it (R470, R482). -/
def Device.hwLive (s : Device) : Bool := s.awake && !s.power.holdDue

/-- A received frame: bad ones are counted, others handled where they are accepted. -/
def Device.hwReceive (s : Device) (typ : Nat) (f : HwFrame) (h : HwParts → Device → Device) : Device :=
  if !s.on .hawser || !s.hwLive then s
  else if (hwParse f.bytes).isNone then s.hwBad
  else
    match s.hwAccept typ f with
    | some p => h p s.attend
    | none => s

/-! ## On the line (R390, R391, R394) -/

/-- The two chips of a bit, high first for 0; `true` is `HW_A` above `HW_B` (R390). -/
def lineChips (bit : Bool) : List Bool := if bit then [false, true] else [true, false]

/-- The chips of bytes, least significant bit first, 125 ns each (R390). -/
def chipsOf (b : Bytes) : List Bool :=
  b.flatMap fun x => (List.range 8).flatMap fun i => lineChips (bitAt x.toNat i)

/-- A frame on the line: preamble, `sync`, then its bytes (R391). -/
def frameChips (frame : Bytes) : List Bool := chipsOf (leBytes 1 0x55 ++ leBytes 1 0x55 ++ leBytes 2 0xD391 ++ frame)

/-- A wake burst of n pulses as levels with their duration in ns: a mark, the pulses, a mark (R394). -/
def burstLine (n : Nat) : List (Bool × Nat) :=
  (true, 2000) :: (List.range n).flatMap (fun _ => [(true, 500), (false, 500)]) ++ [(true, 2000)]

/-- The primary sends a wake burst of n pulses (R394). -/
def Device.hwBurst (s : Device) (n : Nat) : Device := { s with haw := { s.haw with burst := n } }

/-- A frame is sent. -/
def Device.hwSend (s : Device) (dst typ : Nat) (payload : Bytes) : Device :=
  Device.toRun { s with haw := { s.haw with
    seq := wrapU 8 (s.haw.seq + 1), lastTx := hwFrame dst s.hwNo typ s.haw.seq payload } }

/-- A request is sent, whose answer is awaited (R393). -/
def Device.hwAsk (s : Device) (dst typ : Nat) (payload : Bytes) : Device :=
  let s1 := s.hwSend dst typ payload
  { s1 with haw := { s1.haw with out := some ⟨dst, typ, 1, s1.haw.lastTx, 0⟩ } }

end Sys2Proof.Machine
end

