-- ==== Sys2Proof/Machine/Wake.lean ====
section
/-! DEFINITION. Waking the switched domain, and the Landing's events that it journals then (R331, R474). -/

namespace Sys2Proof.Machine

/-! ## Events and their journal (R331) -/

/-- One Landing event, journalled with the tick at which it occurred, and the tamper kind that it counts (R464). -/
def Device.journalLand (s : Device) (e : LandEvent) : Device :=
  let s1 := s.journalWith e.tick e.untrusted e.code e.arg0 e.arg1
  if e.code = 0x404 then s1.tamperWith 8 e.tick e.untrusted
  else if e.code = 0x406 then s1.tamperWith 6 e.tick e.untrusted
  else if e.code = 0x403 ∧ e.arg0 = 1 then s1.tamperWith 7 e.tick e.untrusted
  else s1

/-- Every event that waits is journalled, oldest first (R331). -/
def Device.flushEvents (s : Device) : Device :=
  s.land.queued.foldl Device.journalLand { s with land := { s.land with queued := [] } }

/-- A Landing event of the present tick; a domain that is up and awake journals it at once, otherwise it waits for
the next wake or start (R331). -/
def Device.landEvent (s : Device) (code arg0 arg1 : Nat) : Device :=
  let s1 := { s with land := { s.land with queued := s.land.queued ++ [⟨code, s.land.tick, arg0, arg1, !s.trusted⟩] } }
  if s1.up && s1.awake then s1.flushEvents else s1

/-- A Landing event with a signed argument of 64 bits. -/
def Device.landEventS (s : Device) (code : Nat) (v : Int) : Device :=
  s.landEvent code (bitsOf 64 v % 2 ^ 32) (bitsOf 64 v / 2 ^ 32)

/-! ## Wake (R472, R474) -/

/-- Source `src` of R474 can wake the device now; `hib` stands for HIBERNATE. The edges are the command itself. -/
def Device.wakes (s : Device) (src : Nat) (hib : Bool) : Bool :=
  match src with
  | 1 => s.land.alarms.any (·.fired)
  | 2 => !hib && s.tr.cyc.shotIn == some 0
  | 3 => !hib
  | 4 => !hib
  | 5 => true
  | 6 => !hib && s.haw.wakeReq
  | 7 => !s.land.fifo.isEmpty
  | 8 => s.sec.trstHigh && s.sec.lc != .sealed
  | _ => false

/-- A template comes back from its mirror (R125); learning whose captures are lost begins again (R120). -/
def PathState.fromMirror (x : PathState) : PathState := { x with tpl := x.mirror.unlearnt, work := { x.work with captures := [] } }

/-- The templates come back from their mirror. -/
def Device.reloadBank0 (s : Device) : Device :=
  { s with tr := { s.tr with paths := s.tr.paths.map PathState.fromMirror } }

/-- The domain comes to DOZE. The optical edge, and the button in HIBERNATE, hold it there for the idle time of R451
(R472). -/
def Device.wakeUp (s : Device) (src : Nat) (hib : Bool) : Device :=
  let s1 := if hib then s.reloadBank0 else s
  let o := s1.opt
  let s2 := { s1 with
    power := { s1.power with st := .doze, wakes := satInc s1.power.wakes, wakeSrc := src }
    haw := { (if src = 6 then s1.attend.haw else s1.haw) with wakeReq := s1.haw.wakeReq && src != 6 }
    opt := if src = 4 ∨ (src = 5 ∧ hib = true) then { o with active := true, lastChar := s1.land.osc } else o }
  (s2.pwrUpdate).flushEvents

/-- A source that can wake the sleeping domain has done so before what consumes it acts (R474): nothing of the switched
domain works in NAP or HIBERNATE (R470). -/
def Device.woken (s : Device) (src : Nat) : Device :=
  let hib := s.power.st == .hibernate
  if s.up && (hib || s.power.st == .nap) && s.wakes src hib then s.wakeUp src hib else s

end Sys2Proof.Machine
end

