-- ==== Sys2Proof/Machine/Toll.lean ====
section
/-! DEFINITION. Tollhouse arithmetic: the volume ledger, the Capstan, pricing and routing, gas conversion, fault time
and estimates (R173 to R179, R221 to R224, R232 to R244). -/

namespace Sys2Proof.Machine

/-! ## Configuration in force -/

def Conf.medium (c : Conf) : MediumP := c.g.medium.getD {}
def Conf.shot (c : Conf) : ShotP := c.g.shot.getD {}
def Conf.wiring (c : Conf) : WiringP := c.g.wiring.getD {}
def Conf.clamp (c : Conf) : ClampP := c.g.clamp.getD {}
def Conf.install (c : Conf) : InstallP := c.g.install.getD {}
def Conf.pathList (c : Conf) : PathListP := c.g.pathList.getD {}
def Conf.system (c : Conf) : SystemP := c.g.system.getD {}
def Conf.cls (c : Conf) : Nat := c.medium.cls

/-- Classes whose function is an energy function (R204, R227, R228). -/
def energyClass (cls : Nat) : Bool := 1 ≤ cls && cls ≤ 6
def liquidClass (cls : Nat) : Bool := cls ≤ 6
def gasClass (cls : Nat) : Bool := 7 ≤ cls

/-- Measuring functions of which none may be expert-pending for metering to run (R68, R171): every group that
measurement needs. -/
def Conf.measuringPending (c : Conf) : Bool :=
  c.g.medium.isNone || c.g.qTurn.isNone || c.g.pathList.isNone || c.g.shot.isNone || c.g.wiring.isNone ||
    c.g.clamp.isNone || c.g.install.isNone

/-- LEGAL_HOLD is in force (R518). -/
def SelfTest.legalHold (t : SelfTest) : Bool := t.holdKat || t.holdRom || t.holdEcc || t.holdVote

/-- Bit 4 of R241: the safe preset, a pending measuring function, calibration-pending or LEGAL_HOLD. -/
def Device.safeCond (s : Device) : Bool :=
  s.conf.safePreset || s.conf.measuringPending || s.conf.calibPending != 0 || s.st.legalHold

/-- Metering may run (R171, R543). -/
def Device.meteringAllowed (s : Device) : Bool :=
  !(s.conf.safePreset || s.conf.measuringPending || s.conf.calibPending != 0) && !s.secondary

/-! ## Channels of a sample (R193, R403) -/

/-- One channel with a role: its device, number, role and wires. -/
structure Chan where
  dev : Nat
  ch : Nat
  role : Nat
  wires : Nat
deriving DecidableEq, Repr

/-- The channels of one device, from its roles and wires. -/
def chansOf (dev : Nat) (roles wires : List Nat) : List Chan :=
  (List.range 4).map fun i => ⟨dev, i, roles.getD i 0, wires.getD i 4⟩

/-- Role and wires of channel i in the `wiring` of SYNC_RSP: bits [3:0] and [7:4] of its byte (DESIGN CHOICE,
log 16). -/
def wiringRole (w i : Nat) : Nat := field w (8 * i) 4
def wiringWires (w i : Nat) : Nat := field w (8 * i + 4) 4

/-- `wiring` of SYNC_RSP from roles and wires. -/
def wiringWord (roles wires : List Nat) : Nat :=
  sumNat ((List.range 4).map fun i => (roles.getD i 0 + 16 * wires.getD i 0) * 256 ^ i)

/-- The channels of a sample in the order of `theta0` to `theta3`: the channel numbers of a device alone, the
combined index of R403 in a cascade. -/
def Device.chans (s : Device) : List Chan :=
  let own := chansOf 0 s.conf.wiring.roles s.conf.wiring.wires
  if s.haw.role = 1 then
    let secs := (List.range 5).flatMap fun k =>
      let w := (s.haw.secs[k]?.map (·.wiring)).getD 0
      if bitAt s.haw.expected k then chansOf (k + 1) ((List.range 4).map (wiringRole w)) ((List.range 4).map (wiringWires w))
      else []
    ((own ++ secs).filter (·.role != 0)).take 4
  else own

def Device.roleIdx (s : Device) (r : Nat) : Option Nat := s.chans.findIdx? (·.role == r)

/-- Channel i is valid or held in the sample. -/
def TempSample.present (m : TempSample) (i : Nat) : Bool := m.valid.getD i false || m.held.getD i false

/-- θ of a role, where its channel is valid or held. -/
def Device.roleTemp (s : Device) (m : TempSample) (r : Nat) : Option Int :=
  match s.roleIdx r with
  | some i => if m.present i then some (m.theta.getD i 0) else none
  | none => none

/-- The channel that gives θ_m (R193). -/
def Device.thetaMIdx (s : Device) : Option Nat :=
  match s.roleIdx 1 with
  | some i => some i
  | none =>
    if liquidClass s.conf.cls then s.roleIdx (if s.conf.install.flowPos then 2 else 3) else s.roleIdx 2

/-- θ_m for flow reconstruction and the classifier: that of the latest sample since the cold start, else 20 °C
(R165). -/
def Device.thetaM (s : Device) : Int := if s.temp.any then s.temp.sample.thetaM else 20000000

/-! ## Pricing (R227, R228, R232) -/

/-- The density and enthalpy tables in force (R227, R228). -/
def Device.egTables (s : Device) : Bool := s.tr.cs.medium == .eg

/-- p of R227 for a sample. -/
def Device.waterP (s : Device) (m : TempSample) : Int :=
  if s.conf.install.bridgeUse = 1 ∧ (m.pValid || m.pHeld) = true then m.pAbs else s.conf.install.pNom

/-- The concentration in force (R228): `glycol_w` in a glycol class that gives one, else the stored `w_price`. -/
def Device.wInUse (s : Device) : Nat :=
  if 4 ≤ s.conf.cls ∧ s.conf.cls ≤ 6 ∧ s.conf.medium.glycolW ≠ 0 then s.conf.medium.glycolW else s.toll.now.wPrice

def Device.inDomain (s : Device) (th : Int) : Bool :=
  if s.conf.cls ≤ 3 then decide (1000000 ≤ th ∧ th ≤ 180000000)
  else decide (-20000000 ≤ th ∧ th ≤ 120000000) && decide (s.wInUse ≤ 39322)

def Device.rhoAt (s : Device) (m : TempSample) (th : Int) : Nat :=
  if s.conf.cls ≤ 3 then waterRho th (s.waterP m) else glycolRho s.egTables th s.wInUse

def Device.hAt (s : Device) (m : TempSample) (th : Int) : Int :=
  if s.conf.cls ≤ 3 then waterH th (s.waterP m) else glycolH s.egTables th s.wInUse

/-- ν of R230 for the medium in force; the concentration of glycol is `w_price`. -/
def Device.nuNow (s : Device) : Int :=
  let th := s.thetaM
  let m := s.temp.sample
  let cls := s.conf.cls
  if cls ≤ 3 then nuWater th
  else if cls ≤ 6 then nuGlycol s.egTables th s.wInUse
  else
    let p : Int := if s.conf.install.bridgeUse = 2 ∧ s.temp.any = true ∧ (m.pValid || m.pHeld) = true then m.pAbs
      else s.conf.install.pAtm
    nuGas (gasOf cls s.tr.cs.medium s.tr.cs.fraction) p th

/-- What a priceable sample gives (R232). -/
structure Pricing where
  side : Side
  rho : Nat
  hF : Int
  hR : Int
  dh : Int
deriving DecidableEq, Repr

/-- θ_FLOW, θ_RETURN and θ_m of a sample with FLOW and RETURN valid or held. -/
def Device.priceTemps (s : Device) (m : TempSample) : Option (Int × Int × Int) :=
  match s.roleTemp m 2, s.roleTemp m 3 with
  | some f, some r => some (f, r, m.thetaM)
  | _, _ => none

/-- The pricing of a priceable sample (R232). -/
def Device.priceOf (s : Device) (m : TempSample) : Option Pricing :=
  match s.priceTemps m with
  | none => none
  | some (f, r, tm) =>
    if s.inDomain f && s.inDomain r && s.inDomain tm then
      let go := fun (sd : Side) (sg : Int) =>
        let hF := s.hAt m f
        let hR := s.hAt m r
        some ⟨sd, s.rhoAt m tm, hF, hR, sg * (hF - hR)⟩
      match m.mode with
      | .heat => go .heat 1
      | .cool => go .cool (-1)
      | _ => none
    else none

/-- FLOW or RETURN absent, or no pricing sample yet (R232, R241 bit 1). -/
def Device.tempAbsent (s : Device) : Bool :=
  match s.temp.pricing with
  | none => true
  | some m => (s.priceTemps m).isNone

/-- A temperature of the pricing sample lies outside the domain (R241 bit 2). -/
def Device.outOfDomain (s : Device) : Bool :=
  match s.temp.pricing with
  | none => false
  | some m =>
    match s.priceTemps m with
    | none => false
    | some (f, r, tm) => !(s.inDomain f && s.inDomain r && s.inDomain tm)

/-! ## Conversion to base conditions (R238) -/

/-- The factor of R238 with its Z and Z_b, and whether it was taken disturbed. -/
structure ConvNow where
  factor : Int
  z : Int
  zB : Int
  disturbed : Bool
deriving DecidableEq, Repr

/-- Medium and fraction that conversion uses: one outside the class's expected set is replaced by the class default
(R139, R238). -/
def Device.convMedium (s : Device) : Medium × Nat :=
  if expected s.conf.cls s.tr.cs.medium then (s.tr.cs.medium, s.tr.cs.fraction) else (classDefault s.conf.cls, 0)

/-- The factor for a medium at p and θ. -/
def Device.convAt (s : Device) (md : Medium) (x : Nat) (p th : Int) (d : Bool) : ConvNow :=
  let i := s.conf.install
  let g := gasOf s.conf.cls md x
  let zb := zFactor g i.baseP (i.baseT * 1000 - 273150000)
  let z := zFactor g p th
  ⟨convFactor p i.baseP i.baseT th zb z, z, zb, d⟩

/-- The disturbed factor. -/
def Device.convDist (s : Device) : ConvNow :=
  s.convAt (classDefault s.conf.cls) 0 s.conf.install.pNom s.conf.install.thetaSub true

/-- The factor in force. -/
def Device.convNow (s : Device) : ConvNow :=
  match s.temp.pricing, s.thetaMIdx with
  | some m, some k =>
    if (m.pValid || m.pHeld) && m.present k && decide (-30000000 ≤ m.thetaM ∧ m.thetaM ≤ 70000000) then
      let mx := s.convMedium
      s.convAt mx.1 mx.2 m.pAbs m.thetaM false
    else s.convDist
  | _, _ => s.convDist

/-- The meter converts gas (R238). -/
def Device.converts (s : Device) : Bool := s.conf.install.bridgeUse == 2

/-! ## Conditions (R241, R242) -/

def Device.condMask (s : Device) : Nat :=
  let en := energyClass s.conf.cls
  let b1 := en && s.tempAbsent
  let b2 := en && s.outOfDomain && !b1
  let b3 := en && (match s.temp.pricing with | some m => m.mode == .neg | none => false) && !b1 && !b2
  bitVal s.tr.cs.flowFault 0 + bitVal b1 1 + bitVal b2 2 + bitVal b3 3 + bitVal s.safeCond 4 +
    bitVal (s.converts && s.convNow.disturbed) 5

/-! ## Energy ledgers (R233 to R236) -/

/-- The divisor of R233. -/
def energyDiv : Nat := 16777216000

/-- U of R234. -/
def energyUnit (mj : Bool) : Nat := if mj then 4294967296000000 else 15461882265600

/-- Quotient and remainder of R221. -/
def quot (num : Int) (rem div : Nat) : Int × Nat := ((num + rem) / div, ((num + rem) % div).toNat)

/-- dE on a billed side: net, reverse, high-water mark; and the rise to credit (R233). -/
def SideLedger.post (l : SideLedger) (dE : Int) : SideLedger × Nat :=
  let net := l.net + dE
  let rev := if dE < 0 then l.rev + dE.natAbs else l.rev
  if l.hwm < net then ({ l with net := net, rev := rev, hwm := net }, (net - l.hwm).toNat)
  else ({ l with net := net, rev := rev }, 0)

/-- credit of R234 in tariff k = 1 to 8. -/
def SideLedger.credit (l : SideLedger) (k u rise : Nat) : SideLedger :=
  let t := l.tar.getD (k - 1) 0 + rise
  { l with tar := l.tar.set (k - 1) t, reg := l.reg.set (k - 1) (t / u) }

/-- dE on an estimated side. -/
def EstSide.post (l : EstSide) (dE : Int) : EstSide :=
  { l with net := l.net + dE, hwm := max l.hwm (l.net + dE) }

def Ledgers.side (l : Ledgers) (d : Side) : SideLedger := match d with | .heat => l.heat | .cool => l.cool

def Ledgers.setSide (l : Ledgers) (d : Side) (v : SideLedger) : Ledgers :=
  match d with
  | .heat => { l with heat := v }
  | .cool => { l with cool := v }

def Ledgers.est (l : Ledgers) (d : Side) : EstSide := match d with | .heat => l.estHeat | .cool => l.estCool

def Ledgers.setEst (l : Ledgers) (d : Side) (v : EstSide) : Ledgers :=
  match d with
  | .heat => { l with estHeat := v }
  | .cool => { l with estCool := v }

/-- E_HEAT or E_COOL: the sum of a side's eight tariff registers (R234). -/
def SideLedger.total (l : SideLedger) : Nat := sumNat l.reg

/-- E_HEAT + E_COOL. -/
def Ledgers.total (l : Ledgers) : Nat := l.heat.total + l.cool.total

/-- Energy units that owe one pulse (R236). -/
def pulseUnits (mj : Bool) : Nat := if mj then 1 else 1000

/-- The rise of a billed side is credited to the tariff in force; energy pulses and demand follow (R234, R236,
R276). -/
def Device.creditRise (s : Device) (d : Side) (l : SideLedger) (rise : Nat) : Device :=
  let l1 := l.credit s.bill.now.tariff (energyUnit s.toll.unitMJ) rise
  let led := s.toll.led.setSide d l1
  let acc := led.pulseAcc + (l1.total - l.total)
  let n := pulseUnits s.toll.unitMJ
  let s1 := { s with
    toll := { s.toll with led := { led with pulseAcc := acc % n } }
    bill := { s.bill with dem := { s.bill.dem with accE := s.bill.dem.accE + rise } } }
  s1.oweMode 2 (acc / n)

/-- route(side, num, BILLED) of R233. -/
def Device.routeBilled (s : Device) (d : Side) (num : Int) : Device :=
  let l := s.toll.led.side d
  let q := quot num l.rem energyDiv
  let r := SideLedger.post { l with rem := q.2 } q.1
  if r.2 = 0 then { s with toll := { s.toll with led := s.toll.led.setSide d r.1 } } else s.creditRise d r.1 r.2

/-- route(side, num, ESTIMATED) of R233. -/
def Device.routeEst (s : Device) (d : Side) (num : Int) : Device :=
  let l := s.toll.led.est d
  let q := quot num l.rem energyDiv
  { s with toll := { s.toll with led := s.toll.led.setEst d (EstSide.post { l with rem := q.2 } q.1) } }

/-- Gas energy of R240: an undisturbed ib bills on the heat side with `gas_rem`, a disturbed one goes to the
estimated heat side with that ledger's own remainder (DEDUCED from R221, log 17). -/
def Device.routeGas (s : Device) (ib : Int) (cv : Nat) (billed : Bool) : Device :=
  let num := ib * cv * 1000
  if billed then
    let q := quot num s.toll.led.gasRem 65536
    let r := SideLedger.post s.toll.led.heat q.1
    let s1 := { s with toll := { s.toll with led := { s.toll.led with gasRem := q.2, heat := r.1 } } }
    if r.2 = 0 then s1 else s1.creditRise .heat r.1 r.2
  else
    let l := s.toll.led.estHeat
    let q := quot num l.rem 65536
    { s with toll := { s.toll with led := { s.toll.led with estHeat := EstSide.post { l with rem := q.2 } q.1 } } }

/-- Each undisturbed ib into GAS_E_INFO (R247). -/
def Ledgers.info (l : Ledgers) (ib : Int) (cv : Nat) : Ledgers :=
  let q := quot (ib * cv * 1000) l.gasInfoRem 65536
  { l with gasInfo := l.gasInfo + q.1, gasInfoRem := q.2 }

/-- Conversion of an increment (R239, R240, R247). `billed` marks a ledger increment; an estimated one is converted as
disturbed (R243). -/
def Device.convert (s : Device) (inc : Int) (billed : Bool) : Device :=
  if s.converts then
    let c := if billed then s.convNow else s.convDist
    let und := billed && !c.disturbed
    let l := s.toll.led
    let x := inc * c.factor + (if und then l.baseRem else l.distRem)
    let ib := x / 2 ^ 24
    let rm := (x % 2 ^ 24).toNat
    let l1 := if und then
        { l with baseNet := l.baseNet + ib, baseHwm := max l.baseHwm (l.baseNet + ib), baseRem := rm }
      else { l with distNet := l.distNet + ib, distHwm := max l.distHwm (l.distNet + ib), distRem := rm }
    let l2 := if und then l1.info ib s.toll.now.cvEst else l1
    let s1 := { s with toll := { s.toll with
      led := l2
      now := if billed then { s.toll.now with
          factor := fitU 1 32 c.factor, z := fitU 2 32 c.z, zB := fitU 3 32 c.zB, convSub := c.disturbed }
        else s.toll.now } }
    let md := s.conf.medium
    if md.cvSrc = 1 then s1.routeGas ib md.cvFixed und
    else if md.cvSrc = 2 then s1.routeGas ib s.toll.now.cvEst und
    else s1
  else s

/-- Power of R237. -/
def powerOf (q : Int) (rho : Nat) (dh : Int) : Nat := fitU 4 32 (rne ((q.natAbs * rho * dh.natAbs : Nat) : Int) (2 ^ 32 * 3600000))

/-- p_eval of a sample at its θ_m in whole pascal; its rounding is unstated (log 6). -/
def pEvalPa (th p : Int) : Nat :=
  let e := (pEval th p).1
  let n := e.1 / e.2
  let up := n * e.2 ≠ e.1 ∧ Config.roundUp 1 e.1 e.2 = true
  (if up then n + 1 else n).toNat

/-- The pressure floor of R227 applied at θ_FLOW, at θ_RETURN or at θ_m. -/
def Device.floored (s : Device) (m : TempSample) : Bool :=
  match s.priceTemps m with
  | some (f, r, tm) => [f, r, tm].any fun th => (pEval th (s.waterP m)).2
  | none => false

/-- `p_eval` and `p_floor` of THERMAL_NOW in a water class; 0 in the glycol classes, whose tables take no pressure. -/
def Device.pressureNow (s : Device) (m : TempSample) : Nat × Bool :=
  if s.conf.cls ≤ 3 then (pEvalPa m.thetaM (s.waterP m), s.floored m) else (0, false)

def Side.code (d : Side) : Nat := match d with | .heat => 1 | .cool => 2

/-- THERMAL_NOW at a priced increment (R256). -/
def ThermalNow.priced1 (n : ThermalNow) (p : Pricing) (q : Option Int) (nu : Int) : ThermalNow :=
  { n with
    nu := fitU 45 32 nu
    rho := p.rho, hFlow := p.hF, hReturn := p.hR, dh := p.dh
    side := p.side.code, priced := true
    power := (q.map fun v => powerOf v p.rho p.dh).getD 0 }

/-- The pricing sample of an increment is not priceable: no side, no power (R237, R256; log 33). -/
def Device.unpriced (s : Device) : Device :=
  { s with toll := { s.toll with now := { s.toll.now with side := 0, priced := false, power := 0 } } }

/-- Power is 0 while the pricing sample is not priceable (R237). -/
def Device.powerRule (s : Device) : Device :=
  if energyClass s.conf.cls && ((s.temp.pricing.bind s.priceOf).isNone) then
    { s with toll := { s.toll with now := { s.toll.now with power := 0 } } }
  else s

/-- A sample completes: a priceable one is the held pricing set, under any other power is 0 (R232, R237; log 33). What was
held before still serves the increments of this tick (R201, R223). -/
def Device.samplePriced (s : Device) : Device :=
  let s0 := { s with toll := { s.toll with led := { s.toll.led with holdBefore := s.toll.led.hold } } }
  if energyClass s.conf.cls && s.tolling then
    match s.temp.pricing with
    | none => s0
    | some m =>
      match s.priceOf m with
      | some p => { s0 with toll := { s0.toll with led := { s0.toll.led with hold := some ⟨p.side, p.rho, p.dh⟩ } } }
      | none => s0.powerRule
  else s0

/-- Pricing and routing of an admitted increment (R232, R233, R237); q is the flow in force once it is admitted. -/
def Device.routeEnergy (s : Device) (inc : Int) (q : Option Int) : Device :=
  if energyClass s.conf.cls then
    if s.tempAbsent || s.outOfDomain then
      match s.toll.led.hold with
      | some h => Device.unpriced (s.routeEst h.side (inc * h.rho * h.dh))
      | none => s.unpriced
    else
      match s.temp.pricing with
      | none => s.unpriced
      | some m =>
        match s.priceOf m with
        | none => s.unpriced
        | some p =>
          let pe := s.pressureNow m
          let s1 := { s with toll := { s.toll with
            led := { s.toll.led with hold := some ⟨p.side, p.rho, p.dh⟩ }
            now := { s.toll.now.priced1 p q s.nuNow with pEval := pe.1, pFloor := pe.2 } } }
          s1.routeBilled p.side (inc * p.rho * p.dh)
  else s

/-- Pricing of an estimated increment (R243). -/
def Device.routeEstEnergy (s : Device) (inc : Int) : Device :=
  if energyClass s.conf.cls then
    if s.tempAbsent || s.outOfDomain then
      match s.toll.led.hold with
      | some h => s.routeEst h.side (inc * h.rho * h.dh)
      | none => s
    else
      match s.temp.pricing with
      | none => s
      | some m =>
        match s.priceOf m with
        | none => s
        | some p => s.routeEst p.side (inc * p.rho * p.dh)
  else s

/-! ## Estimates (R243, R244) -/

/-- Numerator to increment by R169: quotient and remainder over 225. -/
def incOf (q : Int) (span rem : Nat) : Int × Nat := quot (q * (span : Int) * 32) rem 225

/-- q_e of R243; 0 or less for none. -/
def Device.estRate (s : Device) : Int :=
  let i := s.conf.install
  if i.estMode = 0 then s.flow.qe
  else if i.estMode = 1 then min i.qEst ((s.conf.calib.flow.map (·.qNom)).getD 0)
  else 0

/-- The estimate of a running FLOW_FAULT formed up to tick t (R243); nothing accrues under SAFE as it stood over the span
(R244). -/
def Device.accrueEst (s : Device) (t : Nat) : Device :=
  if s.tr.cs.flowFault then
    let l := s.toll.led
    if bitAt s.toll.ft.cond 4 || decide (s.estRate ≤ 0) then
      { s with toll := { s.toll with led := { l with tEst := t } } }
    else
      let i := incOf s.estRate (t - l.tEst) l.estVrem
      let s1 := { s with toll := { s.toll with
        led := { l with estVol := l.estVol + i.1, estVrem := i.2, tEst := t } } }
      (s1.routeEstEnergy i.1).convert i.1 false
  else s

/-- Counters and estimate brought to tick t (step 1 of R281, R482). -/
def Device.bringUp (s : Device) (t : Nat) : Device :=
  let s1 := s.accrueEst t
  { s1 with toll := { s1.toll with ft := s1.toll.ft.bring t } }

/-- The estimate is formed where SAFE begins or ends, so that none accrues under it (R243, R244; log 17). -/
def Device.safeEdge (s : Device) : Device :=
  if bitAt s.toll.ft.cond 4 = s.safeCond then s else s.accrueEst s.land.tick

/-- The conditions are evaluated afresh at the present tick (R242). -/
def Device.recond (s : Device) : Device :=
  if s.tolling then
    let s0 := s.safeEdge
    let f := s0.toll.ft.bring s.land.tick
    { s0 with toll := { s0.toll with ft := { f with cond := s0.condMask } } }
  else s

/-! ## Volume ledger (R173) -/

def VolLedger.add (l : VolLedger) (inc : Int) : VolLedger :=
  { l with net := l.net + inc, hwm := max l.hwm (l.net + inc), rev := if inc < 0 then l.rev + inc.natAbs else l.rev }

/-- VOL_FWD and VOL_REV. -/
def VolLedger.fwd (l : VolLedger) : Nat := (l.hwm / 2 ^ 32).toNat
def VolLedger.revL (l : VolLedger) : Nat := l.rev / 2 ^ 32

/-- The volume ledger takes an increment; an advance of VOL_REV may count REVERSE_FLOW (R464 kind 16). -/
def Device.addVolume (s : Device) (inc : Int) : Device :=
  let l := s.toll.led.vol
  let l1 := l.add inc
  let rise := (l1.hwm - l.hwm).toNat
  let s1 := { s with
    toll := { s.toll with led := { s.toll.led with vol := l1 } }
    bill := { s.bill with dem := { s.bill.dem with accV := s.bill.dem.accV + rise } } }
  if l.revL < l1.revL then
    let due := match s.toll.lastRev with
      | none => true
      | some t => l.revL == 0 || decide (t + tpd ≤ s.land.tick)
    let s2 := { s1 with toll := { s1.toll with lastRev := some s.land.tick } }
    if due then s2.tamper 16 else s2
  else s1

/-! ## Temperature rule of R11 -/

/-- Secondaries whose channels take part in a sample (R403). -/
def Device.sampleDevices (s : Device) : List Nat :=
  if s.haw.role = 1 ∧ s.on .hawser = true then
    ((s.chans.filter fun c => c.dev != 0 && c.role != 0).map (·.dev)).eraseDups.filter fun k =>
      (s.haw.secs.getD (k - 1) {}).state != 3
  else []

/-- A sample falls due: taken at once where the converter is ON, otherwise it stays due (R11, R202). In a cascade
SAMPLE_REQ goes out after a wake burst of 7, whether or not a secondary has channels (R403). -/
def Device.fallDue (s : Device) : Device :=
  if s.on .converter && !s.temp.running then
    let ks := s.sampleDevices
    let s1 := { s with
      cap := { s.cap with tempTurns := 0 }
      temp := { s.temp with due := false, running := true, lastDue := s.land.tick, awaiting := ks, parts := []
                            ownPart := none } }
    let s2 := s1.arm 3 (s.land.tick + s.conf.clamp.tMax * 2048) true
    if s.haw.role == 1 && s.on .hawser then (s2.hwBurst 7).hwSend 7 0x08 [] else s2
  else { s with temp := { s.temp with due := true } }

/-- The rule of R11 applied once, at the present tick. -/
def Device.tempRule (s : Device) : Device :=
  let c := s.conf.clamp
  let tMin := s.temp.lastDue + c.tMin * 2048
  if c.nTemp ≤ s.cap.tempTurns then
    if tMin ≤ s.land.tick then s.fallDue else s.arm 3 tMin true
  else s

/-! ## Shot rate (R178, R179) -/

/-- Largest n in 1 to N with num · |Q| · 2^(N + 1) ≥ den · q_nom · 2^n, or 0. -/
def rateLevel (q : Int) (qNom steps num den : Nat) : Nat :=
  ((List.range (steps + 1)).filter fun n =>
    decide (n ≠ 0) && decide (den * qNom * 2 ^ n ≤ num * q.natAbs * 2 ^ (steps + 1))).foldl max 0

/-- L_up and L_down of R178. -/
def levelUp (q : Int) (qNom steps : Nat) : Nat := rateLevel q qNom steps 1 1
def levelDown (q : Int) (qNom steps : Nat) : Nat := rateLevel q qNom steps 4 3

def Conf.qNom (c : Conf) : Nat := (c.calib.flow.map (·.qNom)).getD 0

/-- The rise of the level at an advance of `turns_hwm` (R179). A closing increment of R170 has no cycle and no Q to take the
level from, and raises none (DESIGN CHOICE, log 20). -/
def Device.rateRise (s : Device) (q : Option Int) : Device :=
  match q with
  | none => s
  | some v =>
    if s.conf.shot.external || s.conf.qNom == 0 then s
    else
      let n := levelUp v s.conf.qNom s.conf.shot.rateSteps
      { s with tr := { s.tr with cyc := { s.tr.cyc with level := max s.tr.cyc.level n } } }

/-! ## Capstan (R174 to R176) -/

/-- Multiples of n in (a, b]. -/
def multiplesIn (n a b : Nat) : Nat := if n = 0 then 0 else b / n - a / n

/-- What one turn above `turns_hwm` brings, in the order of R175: its volume pulses, then its milestone. `h` is the
mark that it reaches, by which its pulses and milestones fall. -/
def Device.turnMark (s : Device) (h : Nat) : Device :=
  let nMile := (s.conf.g.qTurn.getD {}).nMile
  let s1 := if s.pulse.nPulse != 0 && h % s.pulse.nPulse == 0 then s.oweMode 1 1 else s
  if nMile != 0 && h % nMile == 0 then s1.journal 0x10D h (h / 2 ^ 32) else s1

/-- The turns of (a, a + k] in ascending order (R175). -/
def Device.turnMarks (s : Device) (a : Nat) : Nat → Device
  | 0 => s
  | k + 1 => (Device.turnMarks s a k).turnMark (a + k + 1)

/-- Turns above `turns_hwm` (R175). `temp_turns` stays at its greatest value, the rule naming neither wrap nor saturation
(DESIGN CHOICE, log 20). -/
def Device.turnsUp (s : Device) (new : Nat) (q : Option Int) : Device :=
  let old := s.cap.hwm.toNat
  let s1 := { s with cap := { s.cap with
    hwm := new, tempTurns := satAdd 32 s.cap.tempTurns (new - old) } }
  ((s1.turnMarks old (new - old)).tempRule).rateRise q

/-- Turn boundaries crossed downward (R176); `rev_turns` wraps. -/
def Device.turnsDown (s : Device) (n : Nat) : Device :=
  let a := s.cap.revTurns
  let b := a + n
  let np := s.pulse.nPulse
  let m := if b < 2 ^ 32 then multiplesIn np a b
    else multiplesIn np a (2 ^ 32 - 1) + 1 + (b - 2 ^ 32) / max np 1
  let s1 := { s with cap := { s.cap with revTurns := wrapU 32 b } }
  s1.oweMode 3 m

/-- The Capstan takes a ledger increment (R174); with no `q_turn_n` in force it stands still. -/
def Device.turn (s : Device) (inc : Int) (q : Option Int) : Device :=
  if s.cap.qTurnN = 0 then s
  else
    let p : Nat := s.cap.qTurnN * 2 ^ 32
    let x := (s.cap.phase : Int) + 20 * inc
    let d := x / p
    let turns := s.cap.turns + d
    let s1 := { s with cap := { s.cap with turns := turns, phase := (x % p).toNat } }
    if s.cap.hwm < turns then s1.turnsUp turns.toNat q
    else if d < 0 then s1.turnsDown d.natAbs
    else s1

/-! ## Admission of one ledger increment (R223 step 2) -/

/-- A sample completed at the present tick does not price the increments of that tick (R201). -/
def Temp.pricingAt (m : Temp) (t : Nat) : Option TempSample :=
  match m.pricing with
  | some p => if p.tick = t then m.prevPricing else some p
  | none => none

/-- The latest sample completed at tick t. -/
def Temp.sampledAt (m : Temp) (t : Nat) : Bool := (m.pricing.map (·.tick)) == some t

/-- An increment stamped at the present tick, in the order of R223; under LEGAL_HOLD none is admitted (R518). -/
def Device.admitInc (s : Device) (inc : Int) (q : Option Int) : Device :=
  if s.st.legalHold then s
  else
    let same := s.temp.sampledAt s.land.tick
    let l := s.toll.led
    let s0 := { s with
      temp := { s.temp with pricing := s.temp.pricingAt s.land.tick }
      toll := { s.toll with led := { l with hold := if same then l.holdBefore else l.hold } } }
    let s1 := (((s0.addVolume inc).turn inc q).routeEnergy inc q).convert inc true
    let s2 := { s1 with
      temp := { s1.temp with pricing := s.temp.pricing }
      toll := { s1.toll with led := { s1.toll.led with
        hold := if same then l.hold else s1.toll.led.hold
        holdBefore := if same then s1.toll.led.hold else s1.toll.led.holdBefore } } }
    -- the sample of this tick prices what follows (step 3)
    Device.commit (if same then s2.powerRule else s2)

end Sys2Proof.Machine
end

