-- ==== Sys2Proof/Machine/Bill.lean ====
section
/-! DEFINITION. Tariffs, billing periods, demand and logs: the boundary transaction and its steps (R259 to R297). -/

namespace Sys2Proof.Machine

/-! ## Registers that snapshots copy (R273, R274) -/

def Device.registers (s : Device) : Registers :=
  let l := s.toll.led
  let u := energyUnit s.toll.unitMJ
  { volFwd := l.vol.fwd, volRev := l.vol.revL
    volEst := (l.estVol / 2 ^ 32).toNat
    eHeat := l.heat.total, eCool := l.cool.total
    eEstH := (l.estHeat.hwm / u).toNat, eEstC := (l.estCool.hwm / u).toNat
    volBase := if s.converts then (l.baseHwm / 2 ^ 32).toNat else 0, volBaseDist := (l.distHwm / 2 ^ 32).toNat
    gasInfo := fitU 5 64 (l.gasInfo / energyUnit false)
    eTariff := l.heat.reg ++ l.cool.reg
    tError := s.toll.ft.tError, tOff := s.toll.ft.tOff }

/-! ## Staging (R289) -/

def hourStaged (x : Staged) : Bool := match x with | .hour _ => true | .day _ _ => false

/-- An entry is staged, or dropped where the area is full; `hour_count` counts the hourly entries staged (DESIGN
CHOICE, log 18). -/
def Device.stage (s : Device) (e : Staged) : Device :=
  if s.bill.staged.length < 64 then
    { s with bill := { s.bill with
      staged := s.bill.staged ++ [e]
      lostJournalled := false
      hourCount := if hourStaged e then wrapU 32 (s.bill.hourCount + 1) else s.bill.hourCount } }
  else
    let n := satInc s.bill.logLost
    let s1 := { s with bill := { s.bill with logLost := n, lostJournalled := true } }
    if s.bill.lostJournalled then s1 else s1.journal 0x30B n 0

/-! ## Maximum demand (R276 to R279) -/

/-- R277: value of an accumulator over E ticks, in watt and in 2^-8 L/h. -/
def demandP (acc e : Nat) : Nat := fitU 6 32 (rne ((acc * 32768 : Nat) : Int) (e * 2 ^ 32))
def demandQ (acc e : Nat) : Nat := fitU 7 32 (rne ((acc * 32768 * 3600 * 2 ^ 8 : Nat) : Int) (e * 2 ^ 32))

/-- A maximum replaced where the value is strictly greater (R279). -/
def MaxEntry.take (m : MaxEntry) (v t : Nat) : MaxEntry := if m.value < v then ⟨v, t⟩ else m

def DemandMax.count (m : DemandMax) (k p q t : Nat) : DemandMax :=
  let up := fun (l : List MaxEntry) (v : Nat) => setAt (setAt l 0 (·.take v t)) k (·.take v t)
  { m with maxP := up m.maxP p, maxQ := up m.maxQ q }

/-- How a running sub-interval ends. -/
inductive EndKind where
  | boundary | split | powerOff
deriving DecidableEq, Repr

/-- A value formed over `e` ticks with its flags, counted or not (R279). -/
def Device.formValue (s : Device) (t e accE accV : Nat) (short bad : Bool) (k : EndKind) : Device :=
  let p := demandP accE e
  let q := demandQ accV e
  let invalid := bad || !s.trusted
  let counted := !short && !invalid && k != .split
  let d := { s.bill.dem with pLast := p, qLast := q, tLast := t, lastCounted := counted, lastShort := short,
                             lastTimeInvalid := invalid, lastSplit := k == .split }
  let mx := if counted then s.bill.max.count s.bill.now.tariff p q t
    else { s.bill.max with demInvalid := satInc s.bill.max.demInvalid }
  { s with bill := { s.bill with
    dem := d, max := mx
    dayMaxP := if counted then max s.bill.dayMaxP p else s.bill.dayMaxP
    hour := { s.bill.hour with pMax := if counted then max s.bill.hour.pMax p else s.bill.hour.pMax } } }

def sumE (w : List SubInterval) : Nat := sumNat (w.map (·.accE))
def sumV (w : List SubInterval) : Nat := sumNat (w.map (·.accV))
def sumEl (w : List SubInterval) : Nat := sumNat (w.map (·.elapsed))

/-- The running sub-interval ends at tick t (R277, R278); a new one is not begun here. -/
def Device.endSub (s : Device) (t : Nat) (k : EndKind) : Device :=
  let d := s.bill.dem
  let e := t - d.tSubStart
  if d.demSub = 0 then
    if e = 0 then s
    else s.formValue t e d.accE d.accV (decide (2 * e < subLen d.demLen d.demSub)) d.untrusted k
  else if d.startedAligned && k == .boundary && e != 0 then
    let n := demSubs d.demSub
    let w := (d.window ++ [⟨e, d.accE, d.accV, d.untrusted⟩])
    let w := w.drop (w.length - n)
    let s1 := { s with bill := { s.bill with dem := { d with window := w } } }
    if w.length = n then s1.formValue t (sumEl w) (sumE w) (sumV w) false (w.any (·.untrusted)) k else s1
  else { s with bill := { s.bill with dem := { d with window := [] } } }

/-- A sub-interval begins at tick t and ends at the next aligned boundary (R275). One that a small step over a boundary opens
did not begin at a boundary (DESIGN CHOICE, log 18). -/
def Device.beginSub (s : Device) (t : Nat) : Device :=
  let d := s.bill.dem
  let n := subLen d.demLen d.demSub
  { s with bill := { s.bill with dem := { d with
    accE := 0, accV := 0, tSubStart := t, untrusted := !s.trusted
    startedAligned := isAligned s.bill.calActive n t
    nextEnd := (nextAligned s.bill.calActive n t).toNat } } }

/-! ## Hourly log (R287, R288) -/

/-- The entry that the running hour closes with at tick t. -/
def Device.hourEntry (s : Device) (t : Nat) (k : EndKind) : HourEntry :=
  let h := s.bill.hour
  { tEnd := t
    timeInvalid := h.untrusted || !s.trusted
    split := k == .split, gap := false, powerOff := k == .powerOff
    degraded := h.degraded || s.power.deg.any
    tariff := s.bill.now.tariff
    volFwd := s.toll.led.vol.fwd
    eTotal := s.toll.led.total
    tErr := min ((s.toll.ft.tError - h.errRef) / 32768) 0xFFFF
    dthetaMean := if h.dthetaCount = 0 then 0 else fitS 8 16 (rne h.dthetaSum (h.dthetaCount * 10000))
    pMax := h.pMax }

/-- The running hourly entry closes and is staged. -/
def Device.endHour (s : Device) (t : Nat) (k : EndKind) : Device :=
  let e := s.hourEntry t k
  let s1 := s.stage (.hour e)
  -- R327: the pulse counts are mirrored in every transaction that closes an hourly entry
  { s1 with
    bill := { s1.bill with hour := { s1.bill.hour with last := some e } }
    land := { s1.land with plsMirror := s1.land.plsCount, mirrorTick := t } }

/-- A new hourly entry begins at tick t. -/
def Device.beginHour (s : Device) (t : Nat) : Device :=
  { s with bill := { s.bill with hour :=
    { tStart := t, nextEnd := (nextAligned s.bill.calActive hourLen t).toNat, untrusted := !s.trusted,
      degraded := s.power.deg.any, errRef := s.toll.ft.tError, last := s.bill.hour.last } } }

/-- Gap entry of R288 at t0, with the hours covered. Its tariff is that in force at `t_down`, its degraded flag that of t0
(DESIGN CHOICE, log 18). -/
def Device.gapEntry (s : Device) (t0 hours : Nat) : Device :=
  let r := s.bill.hour.last
  let e : HourEntry :=
    { tEnd := t0, timeInvalid := !s.trusted, split := false, gap := true, powerOff := false,
      degraded := s.power.deg.any, tariff := s.bill.now.tariff,
      volFwd := (r.map (·.volFwd)).getD s.toll.led.vol.fwd
      eTotal := (r.map (·.eTotal)).getD s.toll.led.total
      tErr := 0, dthetaMean := 0, pMax := hours }
  (s.stage (.hour e)).journal 0x30A hours 0

/-! ## Daily and billing ends (R268 to R274) -/

/-- A daily boundary is crossed at tick t (R274). -/
def Device.crossDay (s : Device) (t n : Nat) (last localDay : Int) (late : Bool) : Device :=
  let c := wrapU 32 (s.bill.st.dayCount + 1)
  let e : DaySnap :=
    { tSnap := t, late := late, flags := s.bill.dayFlags, localDay := localDay.toNat, maxPDay := s.bill.dayMaxP,
      regs := s.registers }
  let s1 := s.stage (.day c e)
  let s2 := { s1 with bill := { s1.bill with
    dayFlags := {}, dayMaxP := 0
    st := { s1.bill.st with dayCount := c, daySchedLast := last.toNat, dayPending := 0 } } }
  if late then s2.journal 0x303 c (n - 1) else s2

/-- Slot of a period's entry: (seq − 1) mod 36 (R273). -/
def BillSnap.slot (x : BillSnap) : Nat := (x.seq + 35) % 36

/-- A billing end is crossed at tick t (R272); its entry takes the place of the one in its slot (R273). -/
def Device.crossBill (s : Device) (t n : Nat) (last : Int) (late : Bool) : Device :=
  let b := s.bill.st
  let q := wrapU 32 (b.seqLast + 1)
  let snap : BillSnap :=
    { seq := q, tStart := b.tStart, tEnd := t, late := late, untrusted := b.flags.untrusted, step := b.flags.step,
      calAct := b.flags.calAct, powerOff := b.flags.powerOff, skipped := min (n - 1) 0xFFFF, regs := s.registers,
      dem := s.bill.max }
  let s1 := { s with bill := { s.bill with
    snaps := (snap :: s.bill.snaps.filter fun x => x.slot != snap.slot).take 36
    max := {}
    st := { b with seqLast := q, tStart := t, schedLast := last.toNat, pending := 0, flags := {} } } }
  if late then s1.journal 0x302 q (n - 1) else s1.journal 0x301 q 0

/-- R271: with `sched_last` 0 as time becomes trusted, or after a wipe in trusted time, it takes the latest scheduled end
at or before t; one before tick 0 is held as 0 (DESIGN CHOICE, log 18). -/
def Device.seedSched (s : Device) (t : Nat) : Device :=
  if s.trusted then
    let c := s.bill.calActive
    let b := s.bill.st
    { s with bill := { s.bill with st := { b with
      schedLast := if b.schedLast = 0 then (billEnd c (billMonthAt c t)).toNat else b.schedLast
      daySchedLast := if b.daySchedLast = 0 then (scheduleAt c (snapDayAt c t) c.dayMinute).toNat
        else b.daySchedLast } } }
  else s

/-- Daily boundary and billing end of the transaction at tick t (R269, R270, R285). An end that is not late is crossed at
its own tick, or at that of the step that passes it: it lies after the transaction before this one. -/
def Device.crossEnds (s : Device) (t : Nat) (late : Bool) : Device :=
  if s.trusted then
    let c := s.bill.calActive
    let from1 := fun (last : Nat) => if late then last else max last s.bill.lastTick
    let d := dayEndsIn c (from1 s.bill.st.daySchedLast) t
    let s1 := if 0 < d.1 then s.crossDay t d.1 d.2.1 d.2.2 late else s
    let b := billEndsIn c (from1 s1.bill.st.schedLast) t
    if 0 < b.1 then s1.crossBill t b.1 b.2 late else s1
  else s

/-! ## Calendars and the tariff -/

/-- Alarm slot 5 at the next scheduled refresh. -/
def Device.armRefresh (s : Device) : Device :=
  let e := (s.conf.g.display.getD {}).refreshEvery
  if e = 0 then s.disarm 5 else s.arm 5 (nextAligned s.bill.calActive (e * tps) s.land.tick).toNat false

/-- A refresh that waits follows another calendar's offset (R275, R423). -/
def Device.realignRefresh (s : Device) : Device := if s.armed 5 && !s.fired 5 then s.armRefresh else s

/-- The passive calendar activates (R266); the scheduled last values are raised. A sub-interval that runs stays complete only
where its start is aligned in the new calendar too (DESIGN CHOICE, log 18). -/
def Device.activate (s : Device) (t : Nat) (p : Calendar) : Device :=
  let old := s.bill.calActive
  let b := s.bill.st
  let d := s.bill.dem
  let n := subLen d.demLen d.demSub
  let s1 := { s with bill := { s.bill with
    calActive := { p with state := 2 }, calPassive := none, deferred := false
    st := { b with
      schedLast := max b.schedLast (billEnd p (billMonthAt p t)).toNat
      daySchedLast := max b.daySchedLast (scheduleAt p (snapDayAt p t) p.dayMinute).toNat
      flags := { b.flags with calAct := true } }
    dem := { d with nextEnd := (nextAligned p n t).toNat
                    startedAligned := d.startedAligned && isAligned p n d.tSubStart }
    hour := { s.bill.hour with nextEnd := (nextAligned p hourLen t).toNat } } }
  (s1.journal 0x305 p.name old.name).realignRefresh

/-- Step 7 of R281. -/
def Device.calStep (s : Device) (t : Nat) : Device :=
  match s.bill.calPassive with
  | none => s
  | some p =>
    if p.activateTick = 0 ∨ (s.trusted = true ∧ p.activateTick ≤ t) then s.activate t p
    else if !s.trusted && decide (p.activateTick ≤ t) && !s.bill.deferred then
      Device.journal { s with bill := { s.bill with deferred := true } } 0x306 p.name 0
    else s

/-- TARIFF_NOW for a tick (R263, R292). What no evaluation gives is free, taken from f (log 13): the index of a special
day where none is in force, the next switch where the calendar holds none, season, profile and switch index while time
is untrusted. -/
def Device.tariffAt (s : Device) (t f : Nat) : TariffNow :=
  let c := s.bill.calActive
  if s.trusted then
    let e := evalTariff c t
    let n := nextSwitch c t
    { tariff := e.tariff, season := e.season, special := e.special.isSome, defaultActive := false,
      profile := e.profile, specialIndex := e.special.getD (f % 64), swIndex := e.sw,
      nextSwitch := n.getD (f / 64 % 2 ^ 48), hasNext := n.isSome, calName := c.name }
  else
    { tariff := c.tariffDefault, defaultActive := true, season := f % 4, profile := f / 4 % 8,
      specialIndex := f / 32 % 64, swIndex := f / 2048 % 256, nextSwitch := 0, calName := c.name }

/-- The schedule fields of R293 at tick t. -/
def Device.schedule (s : Device) (t : Nat) : BillState :=
  let c := s.bill.calActive
  let b := s.bill.st
  if s.trusted then
    { b with schedNext := (nextBillEnd c (max t b.schedLast : Nat)).toNat
             daySchedNext := (nextDayEnd c (max t b.daySchedLast : Nat)).toNat, pending := 0, dayPending := 0 }
  else
    { b with schedNext := 0, daySchedNext := 0
             pending := if b.schedLast = 0 then 0 else wrapU 16 (billEndsIn c b.schedLast t).1
             dayPending := if b.daySchedLast = 0 then 0 else wrapU 16 (dayEndsIn c b.daySchedLast t).1 }

/-- Step 8 of R281, with the schedule fields of R293. -/
def Device.tariffStep (s : Device) (t : Nat) : Device :=
  let f := s.draw
  { f.2 with bill := { s.bill with now := s.tariffAt t f.1, st := s.schedule t } }

/-! ## The boundary transaction (R281) -/

/-- What brings a boundary transaction about: the cold start's t0, a clock step, a split of the running entries, a
step beyond `adj_limit`. -/
structure TxnCtx where
  cold : Bool := false
  step : Option Int := none
  split : Bool := false
  large : Bool := false
deriving DecidableEq, Repr

/-- The running period and day note untrusted time (R273, R274). -/
def Bill.markUntrusted (b : Bill) : Bill :=
  { b with
    st := { b.st with flags := { b.st.flags with untrusted := true } }
    dayFlags := { b.dayFlags with untrusted := true }
    dem := { b.dem with untrusted := true }
    hour := { b.hour with untrusted := true } }

/-- Step 2: a change of trust (R260). -/
def Device.trustStep (s : Device) : Device :=
  if s.trusted then { s with bill := { s.bill with trusted := true } }
  else
    let s1 := { s with bill := { s.bill.markUntrusted with trusted := false } }
    if s.bill.trusted then s1.journal 0x307 s.bill.calActive.tariffDefault 0 else s1

/-- Steps 3 and 4: demand sub-interval and hourly entry at tick t. -/
def Device.closeStep (s : Device) (t : Nat) (x : TxnCtx) : Device :=
  if x.split then
    let s1 := ((s.endSub t .split).beginSub t)
    let s2 := { s1 with bill := { s1.bill with dem := { s1.bill.dem with window := [] } } }
    (s2.endHour t .split).beginHour t
  else
    let s1 := if s.bill.dem.nextEnd ≤ t then (s.endSub t .boundary).beginSub t
      else { s with bill := { s.bill with dem := { s.bill.dem with
        nextEnd := (nextAligned s.bill.calActive (subLen s.bill.dem.demLen s.bill.dem.demSub) t).toNat } } }
    if s1.bill.hour.nextEnd ≤ t then (s1.endHour t .boundary).beginHour t
    else { s1 with bill := { s1.bill with hour := { s1.bill.hour with
      nextEnd := (nextAligned s1.bill.calActive hourLen t).toNat } } }

/-- The flag `step` of the running period and day, and INTERVAL_SPLIT (R286), whose seconds are the step's, truncated toward
zero (DESIGN CHOICE, log 18). -/
def Device.splitMarks (s : Device) (x : TxnCtx) : Device :=
  if x.split then
    let s1 := if x.large then
        { s with bill := { s.bill with
          st := { s.bill.st with flags := { s.bill.st.flags with step := true } }
          dayFlags := { s.bill.dayFlags with step := true } } }
      else s
    s1.journal 0x309 (bitsOf 32 (clampS 32 (Int.tdiv (x.step.getD 0) 32768))) 0
  else s

/-- Alarm slot 0 at the next boundary (R318). -/
def Device.armBoundary (s : Device) : Device :=
  let b := s.bill
  let t := s.land.tick
  let cands := [b.dem.nextEnd, b.hour.nextEnd] ++
    (if s.trusted then [b.st.schedNext, b.st.daySchedNext] ++ (if b.now.hasNext then [b.now.nextSwitch] else []) else []) ++
    (match b.calPassive with
      | none => []
      | some p => if b.deferred && !s.trusted then [] else [max p.activateTick (t + 1)])
  let later := cands.filter (fun c => t < c)
  match later with
  | [] => s.disarm 0
  | c :: cs => s.arm 0 (cs.foldl min c) false

/-- Slot 0 follows a changed calendar; one that has fired waits for its transaction, which arms it again. -/
def Device.rearmBoundary (s : Device) : Device := if s.fired 0 then s else s.armBoundary

/-- One boundary transaction at the present tick, in the order of R281. -/
def Device.transaction (s : Device) (x : TxnCtx) : Device :=
  let t := s.land.tick
  let became := s.trusted && !s.bill.trusted
  let s1 := ((s.loadShadow 0).bringUp t).trustStep
  let s2 := if x.cold then s1 else s1.closeStep t x
  let s3 := ((if became then s2.seedSched t else s2).crossEnds t (became || x.cold)).splitMarks x
  let s4 := (s3.calStep t).tariffStep t
  let s5 := if became then s4.journal 0x308 s4.bill.now.tariff 0 else s4
  let s6 := if x.cold then (s5.beginSub t).beginHour t else s5
  Device.commit (Device.armBoundary { s6 with bill := { s6.bill with lastTick := t } })

/-- The transaction of t0 (R284): gap entry, late ends, new running entries. -/
def Device.transactionT0 (s : Device) : Device :=
  let t0 := s.land.tick
  let d := s.bill.dem
  let y := s.conf.system
  let s0 := { s with bill := { s.bill with dem := { d with
    pLast := 0, qLast := 0, tLast := 0, lastCounted := false, lastShort := false, lastTimeInvalid := false,
    lastSplit := false, window := [], demLen := y.demLen, demSub := y.demSub } } }
  let hours := alignedIn s0.bill.calActive hourLen s0.power.tDown t0
  let s1 := if !s0.land.oscStopped && decide (0 < hours) && decide (s0.power.tDown ≤ t0) && s0.bill.hour.last.isSome then
      s0.gapEntry t0 hours
    else s0
  s1.transaction { cold := true }

/-- The hold-up closings of R283 at tick t. -/
def Device.holdClose (s : Device) (t : Nat) : Device :=
  let s1 := (s.endSub t .powerOff).endHour t .powerOff
  let b := s1.bill
  { s1 with bill := { b with
    dem := { b.dem with accE := 0, accV := 0, window := [] }
    st := { b.st with flags := { b.st.flags with powerOff := true } }
    dayFlags := { b.dayFlags with powerOff := true } } }

/-! ## Clock steps (R224, R285) -/

def addTick (t : Nat) (d : Int) : Nat := ((t : Int) + d).toNat

/-- Working ticks of the Transit Engine and the Resistance Converter move with a step as the Tollhouse's origins do
(DESIGN CHOICE, log 19). -/
def PathWork.shift (w : PathWork) (d : Int) : PathWork :=
  { w with lastNonVoid := w.lastNonVoid.map (addTick · d), activeSince := addTick w.activeSince d,
           lastValid := w.lastValid.map (addTick · d) }

def TempUnit.shift (u : TempUnit) (d : Int) : TempUnit :=
  { u with lastValid := u.lastValid.map fun p => (p.1, addTick p.2 d), runStart := u.runStart.map (addTick · d) }

/-- Every origin the Tollhouse holds is moved by σ (R224, R285). -/
def Device.shiftOrigins (s : Device) (d : Int) : Device :=
  let l := s.toll.led
  let cs := s.tr.cs
  { s with
    toll := { s.toll with
      led := { l with vol := { l.vol with tPrev := addTick l.vol.tPrev d }, tEst := addTick l.tEst d }
      ft := { s.toll.ft with tCond := addTick s.toll.ft.tCond d } }
    tr := { s.tr with
      cs := { cs with tLastFlow := if cs.tLastFlow = 0 then 0 else addTick cs.tLastFlow d
                      tFaultStart := if cs.flowFault then addTick cs.tFaultStart d else cs.tFaultStart }
      paths := s.tr.paths.map fun p => { p with work := p.work.shift d } }
    bill := { s.bill with
      dem := { s.bill.dem with tSubStart := addTick s.bill.dem.tSubStart d }
      hour := { s.bill.hour with tStart := addTick s.bill.hour.tStart d } }
    temp := { s.temp with
      lastDue := addTick s.temp.lastDue d
      negSince := s.temp.negSince.map (addTick · d)
      units := s.temp.units.map (·.shift d) } }

/-! ## BOUNDARY_TRANSACTION -/

/-- Alarm slot 0 has fired, or a change of trust has not been handled (R260, R281). -/
def Device.boundaryDue (s : Device) : Bool := s.tolling && (s.fired 0 || s.bill.trusted != s.trusted)

/-- What falls on the present tick for the calendar lane comes before its increments and its sample (R12, R223). -/
def Device.boundaryFirst (s : Device) : Device := if s.boundaryDue then s.transaction {} else s

/-- BOUNDARY_TRANSACTION (R281): one transaction at the tick on which calendar-lane boundaries fall. -/
def execBoundaryTransaction (dt : Nat) (s : State) : Host.Outcome State Fault Refusal :=
  let d := (s.dev.elapse dt).woken 1
  .next { s with dev := d.boundaryFirst }

end Sys2Proof.Machine
end

