-- ==== Sys2Proof/Machine/Medium.lean ====
section
/-! DEFINITION. Speed of sound of a cycle, the reference check and the medium classifier (R132 to R140, R247). -/

namespace Sys2Proof.Machine

/-- The default medium of a class (R139). -/
def defaultMedium (cls : Nat) : Medium :=
  if cls ≤ 3 then .water
  else if cls ≤ 6 then .pg
  else if cls = 8 then .ngL
  else if cls = 10 then .h2
  else if cls = 11 then .biogas
  else .ngH

/-- The state of a classifier that has adopted nothing, the glycol type not discriminated (R137, R139). -/
def CycleStatus.default (c : CycleStatus) (cls : Nat) : CycleStatus :=
  { c with medium := defaultMedium cls, fraction := 0, adopted := false
           glySeen := false, glyFound := false, glyEg := false, glyBuf := [], glyLow := none, glyHigh := none }

/-- Code of a medium (R141). -/
def Medium.code (m : Medium) : Nat :=
  match m with
  | .unknown => 0
  | .water => 1
  | .pg => 2
  | .eg => 3
  | .ngH => 4
  | .ngL => 5
  | .h2 => 6
  | .biogas => 7
  | .air => 8

/-- An entry of the path list that names a path: an index that the cascade map of R399 leaves free has none. -/
def PathP.configured (p : PathP) : Bool := decide (p.portUp < 10)

/-- Every configured path with its index. -/
def Conf.pathsIdx (c : Conf) : List (PathP × Nat) := (c.pathList.paths.zipIdx).filter (·.1.configured)

def Device.pathAt (s : Device) (i : Nat) : PathState := s.tr.paths.getD i {}

/-- A path is active when it is configured and not retired (R113). -/
def Device.activePaths (s : Device) : List Nat :=
  (s.conf.pathsIdx.map (·.2)).filter fun i =>
    let st := (s.pathAt i).health.state
    st == 1 || st == 2

/-- A configured path of a path list. -/
def PathListP.at? (l : PathListP) (i : Nat) : Option PathP :=
  match l.paths[i]? with
  | some p => if p.configured then some p else none
  | none => none

/-- What a path's entry depends on (R112, R539): its fields, the medium class, its calibration entry. -/
def Conf.pathKey (c : Conf) (i : Nat) : Option PathP × Nat × Option PathCal :=
  (c.pathList.at? i, c.cls, (c.calib.path.getD [])[i]?)

/-- Stored calibration of path i. -/
def Conf.pathCal (c : Conf) (i : Nat) : PathCal := ((c.calib.path.getD [])[i]?).getD ⟨0, 0, 0, 0⟩

/-- A measuring path (R160). -/
def Conf.measuring (c : Conf) (p : PathP × Nat) : Bool :=
  !(p.1.portUp == p.1.portDown && p.1.devUp == p.1.devDown) && !p.1.refPath && decide (0 < (c.pathCal p.2).pathAxial)

/-- Indices of the measuring paths. -/
def Conf.measuringPaths (c : Conf) : List Nat := ((c.pathsIdx).filter c.measuring).map (·.2)

/-- A mask from path indices. -/
def maskOf (l : List Nat) : Nat := sumNat (l.map (2 ^ ·))

/-- Path i delivered a pair of the given grade or better in the running cycle. -/
def Device.deliveredValid (s : Device) (i : Nat) : Bool :=
  (s.pathAt i).work.delivered && (s.pathAt i).res.grade == .valid

/-! ## Reference check (R132, R140) -/

/-- Index of the first reference path. -/
def Conf.refPaths (c : Conf) : List Nat := ((c.pathsIdx).filter (·.1.refPath)).map (·.2)

def Device.validRef (s : Device) : Option Nat := s.conf.refPaths.find? s.deliveredValid

/-- One counted cycle of R140 for a measuring path; true where it begins to fail. The 0.3 % are taken of the reference
path's speed of sound: the rule does not say of which (DESIGN CHOICE, log 20). -/
def PathWork.sosCheck (w : PathWork) (sos ref : Nat) : PathWork × Bool :=
  if 3 * ref < 1000 * ((sos : Int) - ref).natAbs then
    let n := w.sosDisagree + 1
    let f := decide (16 ≤ n)
    ({ w with sosDisagree := n, sosAgree := 0, sosFailing := w.sosFailing || f }, f && !w.sosFailing)
  else
    let n := w.sosAgree + 1
    ({ w with sosAgree := n, sosDisagree := 0, sosFailing := w.sosFailing && decide (n < 16) }, false)

def Device.setPath (s : Device) (i : Nat) (f : PathState → PathState) : Device :=
  { s with tr := { s.tr with paths := setAt s.tr.paths i f } }

/-- R140 over the measuring paths of a list. -/
def sosPaths (ref : Nat) : List Nat → Device → Device
  | [], s => s
  | i :: is, s =>
    if s.deliveredValid i then
      let r := (s.pathAt i).work.sosCheck (s.pathAt i).res.sos ref
      let s1 := s.setPath i fun p => { p with work := r.1 }
      sosPaths ref is (if r.2 then s1.journal 0x10A i 0 else s1)
    else sosPaths ref is s

/-- R140 at the end of a cycle. -/
def Device.sosCheck (s : Device) : Device :=
  match s.validRef with
  | none => s
  | some r =>
    let s1 := sosPaths (s.pathAt r).res.sos s.conf.measuringPaths s
    let fail := s1.tr.paths.any (·.work.sosFailing)
    { s1 with tr := { s1.tr with cs := { s1.tr.cs with sosCheckFail := fail } } }.degrade fun d => { d with sos := fail }

/-- c_cycle of R132. -/
def Device.cCycle (s : Device) : Option Nat :=
  match s.validRef with
  | some r => some (s.pathAt r).res.sos
  | none =>
    let l := (s.activePaths.filter s.deliveredValid).map fun i => ((s.pathAt i).res.sos : Int)
    (medianLower l).map (·.toNat)

/-! ## Adoption (R133, R138, R139, R228) -/

/-- `w_price` takes the classifier's fraction where the two differ by 0.005 or more (R228). -/
def Device.wPriceStep (s : Device) : Device :=
  let f := s.tr.cs.fraction
  if 4 ≤ s.conf.cls ∧ s.conf.cls ≤ 6 ∧ s.conf.medium.glycolW = 0 ∧ 328 ≤ ((f : Int) - s.toll.now.wPrice).natAbs then
    { s with toll := { s.toll with now := { s.toll.now with wPrice := f } } }
  else s

/-- A medium is adopted: journal, mismatch (R133, R139). -/
def Device.adopt (s : Device) (m : Medium) (frac : Nat) : Device :=
  let cs := s.tr.cs
  let ok := expected s.conf.cls m
  let s1 := { s with tr := { s.tr with cs := { cs with
    medium := m, fraction := frac, adopted := true, mismatch := !ok } } }
  let s2 := s1.journal 0x106 m.code frac
  (if ok then s2 else s2.journal 0x107 m.code s.conf.cls).wPriceStep

/-- Empty-pipe state begins (R138, R139). The two probes are two consecutive candidates of AIR (DEDUCED, log 20). -/
def Device.emptyOn (s : Device) : Device :=
  let s1 := if s.tr.cs.medium == .air then s else s.adopt .air 0
  let s2 := { s1 with tr := { s1.tr with cs := { s1.tr.cs with
    emptyPipe := true, airProbes := 0, candidate := .air, persist := 2 } } }
  (s2.journal 0x108 0 0).tamper 17

/-- A candidate of an acting cycle (R133); `persist` is the run of consecutive cycles of it (R141). -/
def Device.candidate (s : Device) (m : Medium) (frac : Nat) : Device :=
  let cs := s.tr.cs
  let n := if m = cs.candidate then cs.persist + 1 else 1
  let c1 := { cs with candidate := m, persist := min n 255 }
  if m = cs.medium then
    let isMix := m == .pg || m == .eg || m == .h2
    let s1 := { s with tr := { s.tr with cs := { c1 with fraction := if isMix then frac else cs.fraction } } }
    if isMix then s1.wPriceStep else s1
  else
    let s1 := { s with tr := { s.tr with cs := c1 } }
    if s.conf.medium.persist ≤ n then s1.adopt m frac else s1

/-! ## Gas classes (R134, R135) -/

/-- c20 of R134. -/
def c20Of (c : Nat) (th : Int) : Nat := sqrtRne (c * c * 293150000) (th + 273150000).toNat 0

/-- The decision of R134 by c20 in 2^-16 m/s. -/
def gasCandidate (cls c20 : Nat) : Medium :=
  let b := fun (x : Nat) => decide (x * 65536 ≤ c20)
  if cls = 11 then (if b 280 && !b 360 then .biogas else .unknown)
  else if !b 336 then .unknown
  else if !b 350 then .air
  else if !b 395 then .unknown
  else if cls = 10 then (if b 427 && !b 1330 then .h2 else .unknown)
  else if !b 427 then .ngL
  else if !b 450 then .ngH
  else if !b 520 then .h2
  else .unknown

/-- Points of R135: c20 in m/s at x = 0 %, 10 %, …. -/
def h2Points : List Nat := [435, 457, 483, 513, 549, 593, 649, 723, 828, 994, 1310]

/-- Interpolation between the points from number `k` on. -/
def h2Go (c20 : Nat) : Nat → List Nat → Nat
  | k, a :: b :: r =>
    if c20 < b * 65536 then
      let d := (b - a) * 65536
      min 0xFFFF (rneN (65536 * (k * d + (c20 - a * 65536))) (10 * d))
    else h2Go c20 (k + 1) (b :: r)
  | _, _ => 0xFFFF

/-- x of R135. -/
def h2Fraction (c20 : Nat) : Nat := if c20 < 435 * 65536 then 0 else h2Go c20 0 h2Points

/-! ## Liquid classes (R136, R137) -/

/-- k1, k2, k3 of a glycol in tenths (R136). -/
def glyK (eg : Bool) : Int × Int × Int := if eg then (3300, 32, -600) else (4200, 50, -1200)

/-- w (k1 − k2 θ) + k3 w² at w = n / d, times 10^7 · d²; θ in µK. -/
def glyPoly (eg : Bool) (th : Int) (n d : Nat) : Int :=
  let k := glyK eg
  (k.1 * 1000000 - k.2.1 * th) * (n * d : Nat) + k.2.2 * 1000000 * (n * n : Nat)

/-- The root lies at or below n / d: Δc in 2^-16 m/s does not exceed the polynomial there. -/
def glyAtMost (eg : Bool) (th dc : Int) (n d : Nat) : Bool :=
  decide (dc * 10000000 * (d * d : Nat) ≤ glyPoly eg th n d * 65536)

def glyBelow (eg : Bool) (th dc : Int) (n d : Nat) : Bool :=
  decide (dc * 10000000 * (d * d : Nat) < glyPoly eg th n d * 65536)

/-- Largest n up to `acc` + 2^k − 1 with the polynomial at n / 65536 not above Δc. -/
def glyRootGo (eg : Bool) (th dc : Int) : Nat → Nat → Nat
  | 0, acc => acc
  | k + 1, acc =>
    let t := acc + 2 ^ k
    glyRootGo eg th dc k (if glyPoly eg th t 65536 * 65536 ≤ dc * 10000000 * (65536 * 65536) then t else acc)

/-- w as u16 [2^-16]; its rounding is unstated (log 6). -/
def glyW (eg : Bool) (th dc : Int) : Nat :=
  let n := glyRootGo eg th dc 16 0
  let exact := glyPoly eg th n 65536 * 65536 == dc * 10000000 * (65536 * 65536) || decide (dc ≤ 0)
  if exact then n else if Config.roundUp 32 dc n then n + 1 else n

/-- The root under a hypothesis in 2^-64, from sums over sixteen of θ (µK) and Δc (2^-16 m/s), evaluated to that
place; none where there is none. -/
def glyRoot64 (eg : Bool) (p : GlyPoint) : Option Int :=
  let k := glyK eg
  -- a and Δc over 160 000 000 and 1 048 576
  let a := k.1 * 16000000 - k.2.1 * p.theta
  let disc := a * a * 1048576 + 4 * k.2.2 * p.dc * (160000000 * 16000000)
  if disc < 0 then none
  else
    let sq : Int := isqrt (disc.toNat * 2 ^ 128 / (160000000 * 160000000 * 1048576))
    let den := a * 2 ^ 64 / 160000000 + sq
    if den = 0 then none else some (2 * p.dc * 2 ^ 128 / 1048576 / den)

/-- How far the two points disagree under a hypothesis. -/
def glyDiff (eg : Bool) (lo hi : GlyPoint) : Option Nat :=
  match glyRoot64 eg lo, glyRoot64 eg hi with
  | some a, some b => some (a - b).natAbs
  | _, _ => none

/-- The type chosen, where the two differences differ by at least 0.01; a hypothesis without a root at a point loses
to one with a root at both. -/
def glyChoose (lo hi : GlyPoint) : Option Bool :=
  match glyDiff false lo hi, glyDiff true lo hi with
  | some a, some b => if 2 ^ 64 ≤ 100 * ((a : Int) - b).natAbs then some (decide (b < a)) else none
  | some _, none => some false
  | none, some _ => some true
  | none, none => none

/-- The sixteen latest acting cycles within 0.5 K of one another. -/
def glyTrim : Nat → List GlyPoint → List GlyPoint
  | 0, l => l
  | f + 1, l =>
    let ts := l.map (·.theta)
    let mx := ts.foldl max (ts.headD 0)
    let mn := ts.foldl min (ts.headD 0)
    if 16 < l.length ∨ 500000 < mx - mn then glyTrim f (l.drop 1) else l

/-- R137 for one acting cycle. -/
def CycleStatus.glyTrack (cs : CycleStatus) (th dc : Int) : CycleStatus :=
  if cs.glyFound then cs
  else
    let b := glyTrim 17 (cs.glyBuf ++ [⟨th, dc⟩])
    let c1 := { cs with glyBuf := b }
    if b.length < 16 then c1
    else
      let p : GlyPoint := ⟨sumInt (b.map (·.theta)), sumInt (b.map (·.dc))⟩
      let lo := match cs.glyLow with
        | some q => if p.theta < q.theta then p else q
        | none => p
      let hi := match cs.glyHigh with
        | some q => if q.theta < p.theta then p else q
        | none => p
      let c2 := { c1 with glyLow := some lo, glyHigh := some hi }
      if hi.theta - lo.theta < 16 * 8000000 then c2
      else
        match glyChoose lo hi with
        | some eg => { c2 with glyEg := eg, glyFound := true }
        | none => c2

/-- Whether the glycol in question is EG (R137). -/
def Device.glycolIsEg (s : Device) : Bool :=
  let g := s.conf.medium.glycolType
  if g = 0 then s.tr.cs.glyEg else g == 2

/-- The decision of R136 with a temperature channel. -/
def Device.liquidCandidate (s : Device) (th dc : Int) : Medium × Nat :=
  if dc < -6 * 65536 then (.unknown, 0)
  else if glyBelow false th dc 3 100 && glyBelow true th dc 3 100 then (.water, 0)
  else
    let eg := s.glycolIsEg
    if glyAtMost eg th dc 60 100 then (if eg then .eg else .pg, glyW eg th dc) else (.unknown, 0)

/-- A glycol candidate arises in this acting cycle, so that R137 keeps its points from it on. -/
def glycolArises (th dc : Int) : Bool :=
  decide (-6 * 65536 ≤ dc) && !(glyBelow false th dc 3 100 && glyBelow true th dc 3 100)

/-! ## One acting cycle -/

/-- `nu` at an acting cycle (R256). -/
def Device.nuStep (s : Device) : Device :=
  { s with toll := { s.toll with now := { s.toll.now with nu := fitU 45 32 s.nuNow } } }

/-- No channel of a liquid class (R136): `CFG0` code 0 with no role in use. -/
def Device.noChannel (s : Device) : Bool := s.conf.cls == 0 && s.conf.wiring.roles.all (· == 0)

/-- R132 to R137 and R247 for a cycle with a c_cycle. -/
def Device.classifyWith (s : Device) (c : Nat) : Device :=
  let cs := s.tr.cs
  let put := fun (c20 : Nat) (dc : Int) (x : CycleStatus) => { x with cCycle := c, c20 := c20, dcLiquid := dc }
  if liquidClass s.conf.cls then
    if s.noChannel then
      let m : Medium := if 1400 * 65536 ≤ c ∧ c ≤ 1560 * 65536 then .water else .unknown
      (Device.candidate { s with tr := { s.tr with cs := put 0 cs.dcLiquid cs } } m 0).nuStep
    else if !s.temp.any then s
    else
      let th := s.temp.sample.thetaM
      if th < 0 ∨ 50000000 < th then s
      else
        let dc : Int := c - waterC th (match s.temp.pricing with | some m => s.waterP m | none => s.conf.install.pNom)
        let c1 := { put 0 (fitS 33 32 dc) cs with glySeen := cs.glySeen || glycolArises th dc }
        let c2 := if c1.glySeen && s.conf.medium.glycolType == 0 then c1.glyTrack th dc else c1
        let s1 := { s with tr := { s.tr with cs := c2 } }
        let r := s1.liquidCandidate th dc
        (s1.candidate r.1 r.2).nuStep
  else if !s.temp.any then s
  else
    let c20 := c20Of c s.temp.sample.thetaM
    let s1 := { s with tr := { s.tr with cs := put c20 0 cs } }
    let m := gasCandidate s.conf.cls c20
    let s2 := s1.candidate m (if m = .h2 then h2Fraction c20 else 0)
    let i := s.conf.install
    let nu := fitU 45 32 s2.nuNow
    { s2 with toll := { s2.toll with now := { s2.toll.now with
      nu := nu
      cvEst := fitU 34 32 (cvEstimate s2.tr.cs.medium s2.tr.cs.fraction c20 i.baseP i.baseT) } } }

/-- The cycles of R138 in which every active path was VOID with cause 1 or 2. -/
def Device.voidCycle (s : Device) : Bool :=
  let a := s.activePaths
  !a.isEmpty && a.all fun i => (s.pathAt i).work.noArm

/-- A speed of sound in the liquid search band (R118, R139). -/
def liquidSos (c : Nat) : Bool := decide (1250 * 65536 ≤ c ∧ c ≤ 1850 * 65536)

/-- A pair of path i has been graded: a VALID one ends `no_signal`, and in the liquid search band the empty-pipe state
(R139, R141). -/
def Device.pairSeen (s : Device) (i : Nat) : Device :=
  if s.deliveredValid i then
    let cs := s.tr.cs
    let back := cs.emptyPipe && liquidSos (s.pathAt i).res.sos
    let s1 := { s with tr := { s.tr with cs := { cs with noSignal := false, emptyPipe := cs.emptyPipe && !back } } }
    if back then s1.journal 0x109 0 0 else s1
  else s

/-- The classifier at the end of a cycle (R132 to R140). -/
def Device.classify (s : Device) : Device :=
  let cs := s.tr.cs
  let s1 := { s with tr := { s.tr with cs := { cs with
    voidCycles := if liquidClass s.conf.cls && s.voidCycle then cs.voidCycles + 1 else 0 } } }
  let s3 := s1.sosCheck
  match s3.cCycle with
  | some c => s3.classifyWith c
  | none => s3

end Sys2Proof.Machine
end

