-- ==== Sys2Proof/Machine/Flow.lean ====
section
/-! DEFINITION. The end of a measurement cycle: retirement, flow reconstruction, the increment, gaps, the cycle brought
forward (R142 to R146, R160 to R172, R178, R179). -/

namespace Sys2Proof.Machine

/-! ## Retirement (R145, R146) -/

/-- The ports that a path uses, as (device, port) (R145, R155, R399). -/
def PathP.ports (p : PathP) : List (Nat × Nat) := [(p.devUp, p.portUp), (p.devDown, p.portDown)]

def Device.portAt (s : Device) (i : Nat) : Port := s.tr.ports.getD i {}

/-- A port of this device or, at a primary, of a secondary is retired. -/
def Device.portRetired (s : Device) (q : Nat × Nat) : Bool :=
  if q.1 = 0 then (s.portAt q.2).state == 2 else s.tr.secRetired.contains q

/-- A path uses a retired port, so that it is not fired (R81). -/
def Device.onRetired (s : Device) (i : Nat) : Bool := (s.conf.pathList.paths.getD i {}).ports.any s.portRetired

/-- Since when a path has had no non-VOID pair (R145). -/
def PathWork.since (w : PathWork) : Nat := w.lastNonVoid.getD w.activeSince

/-- A path meets the conditions of R145. -/
def Device.retireMeets (s : Device) (act : List Nat) (i : Nat) : Bool :=
  let l := s.conf.pathList
  let w := (s.pathAt i).work
  let other := act.any fun j => j != i && (match (s.pathAt j).work.lastValid with
    | some t => decide (w.since ≤ t)
    | none => false)
  decide (l.retirePairs ≤ (s.pathAt i).health.voidRun) && decide (w.since + l.retireTime * tps ≤ s.land.tick) &&
    other && !s.tr.cs.emptyPipe && !s.tr.cs.noSignal

/-- Paths of a list that use a port. -/
def Device.usersOf (s : Device) (act : List Nat) (q : Nat × Nat) : List Nat :=
  act.filter fun i => ((s.conf.pathList.paths.getD i {}).ports).contains q

def Device.setPort (s : Device) (p : Nat) (f : Port → Port) : Device :=
  { s with tr := { s.tr with ports := setAt s.tr.ports p f } }

/-- The state of a retired port (R148); the primary holds that of its secondaries' ports itself. -/
def Device.markPort (s : Device) (q : Nat × Nat) : Device :=
  if q.1 = 0 then s.setPort q.2 fun x => { x with state := 2 }
  else { s with tr := { s.tr with secRetired := s.tr.secRetired ++ [q] } }

/-- A port is retired (R146). -/
def Device.retirePort (s : Device) (q : Nat × Nat) (electrical : Bool) : Device :=
  let s1 := (s.markPort q).journal 0x10B q.2 (if q.1 = 0 then (s.portAt q.2).elec else 0)
  if electrical then s1.tamper 18 else s1

/-- A path is retired (R146). -/
def Device.retirePath (s : Device) (i cause : Nat) : Device :=
  (s.setPath i fun x => { x with health := { x.health with state := 3, retireCause := cause } }).journal 0x10C i cause

/-- Step 1 of R145 for one port: a fault in 8 consecutive path-pairs. The runs are those of this device's own ports
(R148); a secondary's frames name no port (DEDUCED, log 20). -/
def Device.retireFaulty (act : List Nat) (s : Device) (q : Nat × Nat) : Device :=
  if q.1 == 0 && !(s.usersOf act q).isEmpty && !s.portRetired q && decide (8 ≤ (s.portAt q.2).elecRun) then
    s.retirePort q true
  else s

/-- Step 2 of R145 for one port: two or more paths, all of which meet the conditions. -/
def Device.retireShared (act meets : List Nat) (s : Device) (q : Nat × Nat) : Device :=
  let us := s.usersOf act q
  if !s.portRetired q && decide (2 ≤ us.length) && us.all meets.contains then s.retirePort q false else s

/-- Step 3 of R145 for one active path. -/
def Device.retireUser (s : Device) (i : Nat) : Device := if s.onRetired i then s.retirePath i 2 else s

/-- Step 4 of R145 for one active path that meets the conditions and is not retired by now. -/
def Device.retireAlone (s : Device) (i : Nat) : Device :=
  if (s.pathAt i).health.state = 3 then s else s.retirePath i 1

/-- Every port that a list of paths uses, by device, then by number. -/
def Device.portsOf (s : Device) (act : List Nat) : List (Nat × Nat) :=
  let used := act.flatMap fun i => (s.conf.pathList.paths.getD i {}).ports
  ((List.range 6).flatMap fun d => (List.range 10).map fun p => (d, p)).filter used.contains

/-- Retirement at the end of a cycle (R145). -/
def Device.retire (s : Device) : Device :=
  let act := s.activePaths
  let meets := act.filter (s.retireMeets act)
  let ports := s.portsOf act
  let s0 := ports.foldl (Device.retireShared act meets) (ports.foldl (Device.retireFaulty act) s)
  let s1 := meets.foldl Device.retireAlone (act.foldl Device.retireUser s0)
  if s1.activePaths.length < act.length then s1.degrade fun d => { d with retiredPath := true } else s1

/-! ## Reconstruction (R160 to R168) -/

/-- v[i] of R162. -/
def pathVelocity (c : PathCal) (r : PathResult) : Int :=
  fitS 35 32 (rne ((c.pathLen * c.pathLen : Nat) * (r.dt - c.dtZero) * 3072000000) (2 * c.pathAxial * r.tUd * r.tDu))

/-- Re of R165. For a viscosity of 0 or less, for which the rule gives no quotient, it takes the largest value
(DESIGN CHOICE, log 15). -/
def reynolds (v : Int) (diam : Nat) (nu : Int) : Nat :=
  if nu ≤ 0 then 0xFFFFFFFF else min (rneN (v.natAbs * diam) (nu.toNat * 256)) 0xFFFFFFFF

/-- K of R165. -/
def profileK (prof : List Nat) (re : Nat) : Int :=
  if re < 10 then prof.getD 0 0
  else if 10000000 ≤ re then prof.getD 15 0
  else
    let u := (rne ((log10Fix re 1 - 2 ^ fixP) * 5 * 2 ^ 24) (2 * 2 ^ fixP)).toNat
    let j := u / 2 ^ 24
    let f : Int := (u % 2 ^ 24 : Nat)
    let a : Int := prof.getD j 0
    let b : Int := prof.getD (j + 1) 0
    a + rne ((b - a) * f) (2 ^ 24)

/-- e of R167 for |Qr|. -/
def errorCurve (q : List Nat) (e : List Int) (a : Nat) : Int :=
  if a ≤ q.getD 0 0 then e.getD 0 0
  else if q.getD 31 0 ≤ a then e.getD 31 0
  else
    let k := (q.filter fun x => decide (x ≤ a)).length - 1
    let x := q.getD k 0
    e.getD k 0 + rne ((e.getD (k + 1) 0 - e.getD k 0) * ((a - x : Nat) : Int)) (q.getD (k + 1) 0 - x)

/-- R168: the cut-off flag and the flow. -/
def cutOff (active : Bool) (qCut : Nat) (qc : Int) : Bool × Int :=
  if qCut = 0 then (active, qc)
  else
    let a := active && decide (qc.natAbs < qCut + qCut / 8)
    let b := a || decide (qc.natAbs < qCut)
    (b, if b then 0 else qc)

/-- D of R163: measuring paths delivered VALID or MARGINAL. One that is retired at the end of the cycle in which it delivered
is still in that cycle's D (DESIGN CHOICE, log 20). -/
def Device.deliveredMask (s : Device) : Nat :=
  maskOf (s.conf.measuringPaths.filter fun i => (s.pathAt i).work.delivered)

/-- Reconstruction with the weight set number `si` (R162 to R168). -/
def Device.reconstructWith (s : Device) (fc : FlowCal) (si : Nat) (w : WeightSet) : Device × Option Int :=
  let ids := s.conf.measuringPaths.filter fun i => bitAt w.mask i
  let v := fitS 36 32 (rne (sumInt (ids.map fun i => w.w.getD i 0 * pathVelocity (s.conf.pathCal i) (s.pathAt i).res))
    (2 ^ 30))
  let fb := w.mask != maskOf s.conf.measuringPaths
  let re := reynolds v fc.pipeDiam s.nuNow
  let k := profileK w.profK re
  let qr := rne (fc.pipeArea * v * k * 3600000) (2 ^ 78)
  let f1 := { s.flow with setIndex := si, noSet := false, fallback := fb
                          fallbackCycles := if fb then satInc s.flow.fallbackCycles else s.flow.fallbackCycles }
  if 0x7FFFFFFF < qr.natAbs then
    ({ s with flow := { f1 with overFmt := true, overCycles := satInc f1.overCycles } }, none)
  else
    let e := errorCurve fc.errQ fc.errE qr.natAbs
    let qc := fitS 37 32 (qr + rne (qr * e) (2 ^ 30))
    let c := cutOff s.flow.cutActive fc.qCut qc
    ({ s with flow := { f1 with overFmt := false, qRaw := qr, vMean := v, re := re, kProf := k.toNat, eCurve := e,
                                cutActive := c.1 } }, some c.2)

/-- The decision of R163: the device with FLOW_NOW, and the flow that the cycle yields. -/
def Device.reconstruct (s : Device) : Device × Option Int :=
  let d := s.deliveredMask
  let s1 := { s with flow := { s.flow with maskUsed := d } }
  if s.tr.cs.emptyPipe then
    ({ s1 with flow := { s1.flow with qRaw := 0, vMean := 0, re := 0, kProf := 0, eCurve := 0, noSet := false,
                                      fallback := false, overFmt := false } }, some 0)
  else
    match s.conf.calib.flow with
    | none => (s1, none)
    | some fc =>
      match fc.wsets.findIdx? (fun w => w.mask == d && d != 0) with
      | some i => s1.reconstructWith fc i (fc.wsets.getD i ⟨0, [], []⟩)
      | none =>
        ({ s1 with flow := { s1.flow with noSet := true, fallback := false, overFmt := false
                                          nosetCycles := satInc s1.flow.nosetCycles } }, none)

/-! ## Increments and gaps (R143, R169, R170) -/

/-- Metering is live: it has started and nothing suspends it (R171). -/
def Device.live (s : Device) : Bool := s.flow.metering && s.meteringAllowed && s.tolling

/-- `gap_hold` in ticks. -/
def Device.gapTicks (s : Device) : Nat := s.conf.shot.gapHold * tps

/-- t_g of R170. -/
def Device.tGap (s : Device) : Nat := s.toll.led.vol.tPrev + s.gapTicks

/-- Alarm slot 2 for the gap that begins at t_prev (R170, R318). -/
def Device.armGap (s : Device) : Device := s.arm 2 s.tGap true

/-- The increment of R169 over a span at the flow in force: remainder kept, and the increment. -/
def Device.formIncrement (s : Device) (q : Int) (span : Nat) : Device × Int :=
  let v := s.toll.led.vol
  let i := incOf q span v.incRem
  ({ s with toll := { s.toll with led := { s.toll.led with vol := { v with incRem := i.2 } } } }, i.1)

def Device.setPrev (s : Device) (t : Nat) : Device :=
  { s with toll := { s.toll with led := { s.toll.led with vol := { s.toll.led.vol with tPrev := t } } } }

/-- FLOW_FAULT ends at tick t (R143, R241 bit 0): the estimate and the counters are brought up first. -/
def Device.endFlowFault (s : Device) (t : Nat) : Device :=
  if s.tr.cs.flowFault then
    let s1 := s.bringUp t
    { s1 with tr := { s1.tr with cs := { s1.tr.cs with flowFault := false, tFaultStart := 0 } } }
  else s

/-- A cycle yields flow q at the present tick (R169, R170). -/
def Device.yieldFlow (s : Device) (q : Int) : Device :=
  let t := s.land.tick
  let s1 := match s.flow.qf with
    | some qf =>
      let f := s.formIncrement qf (t - s.toll.led.vol.tPrev)
      f.1.admitInc f.2 (some q)
    | none => s.endFlowFault t
  let s2 := s1.setPrev t
  let s3 := { s2 with
    flow := { s2.flow with qf := some q, gapWait := false }
    tr := { s2.tr with
      cs := { s2.tr.cs with flowHeld := false, tLastFlow := t, retryRun := 0 }
      cyc := { s2.tr.cyc with
        level := if s2.conf.shot.external then s2.tr.cyc.level
          else min s2.tr.cyc.level (levelDown q s2.conf.qNom s2.conf.shot.rateSteps) } } }
  s3.armGap

/-- The closing increment of R170 over the span up to t_g, stamped at the present tick; fault time runs from t_g. -/
def Device.closeGap (s : Device) : Device :=
  match s.flow.qf with
  | none => s
  | some qf =>
    let t := s.land.tick
    let tg := s.tGap
    let f := s.formIncrement qf (tg - s.toll.led.vol.tPrev)
    let s1 := (f.1.admitInc f.2 none).setPrev t
    let ft := s1.toll.ft.bring t
    let err := if s1.flow.gapWait then ft.gapErr + (t - tg)
      else if ft.cond = 0 then ft.tError + (t - tg) else ft.tError
    { s1 with
      flow := { s1.flow with qf := none, gapWait := false, qe := qf }
      tr := { s1.tr with cs := { s1.tr.cs with flowHeld := false, flowFault := true, tFaultStart := tg } }
      toll := { s1.toll with
        ft := { ft with tFlow := satAdd 64 ft.tFlow (t - tg), tError := min err (maxU 64) }
        now := { s1.toll.now with power := 0 }
        led := { s1.toll.led with tEst := tg } } }

/-- Top and present shot periods in oscillator cycles (R178). -/
def shotPeriod (p : ShotP) (n : Nat) : Nat := rneN (32768 * 16) (p.rateRest * 2 ^ n)

/-- A path of the coming cycle has a port on a secondary. -/
def Device.needsSecs (s : Device) : Bool :=
  s.haw.role == 1 && s.activePaths.any fun i =>
    let p := s.conf.pathList.paths.getD i {}
    p.devUp != 0 || p.devDown != 0

/-- Alarm slot 11 is armed 500 µs before a cycle that needs a secondary (R394); 17 oscillator cycles cover them. -/
def Device.armWake (s : Device) : Device :=
  match s.tr.cyc.shotIn with
  | some n => if s.needsSecs then s.arm 11 (s.land.tick + n - 17) true else s
  | none => s

/-- A cycle that yields no flow (R142, R143, R170). -/
def Device.noFlow (s : Device) : Device :=
  let s1 := if s.flow.gapWait then s.closeGap
    else if s.flow.qf.isSome then { s with tr := { s.tr with cs := { s.tr.cs with flowHeld := true } } }
    else s
  let p := s1.conf.shot
  let c := s1.tr.cyc
  match c.shotIn with
  | none => s1
  | some n =>
    let cand := (c.startOsc + shotPeriod p p.rateSteps) - s1.land.osc
    if !p.external && decide (s1.tr.cs.retryRun < p.retryMax) && decide (cand < n) then
      Device.armWake { s1 with tr := { s1.tr with cyc := { c with shotIn := some cand, broughtForward := true } } }
    else s1

/-- ADMIT_INCREMENT is due: a cycle has ended and waits for its admission. -/
def Device.admitDue (s : Device) : Bool := s.tr.cyc.complete && s.tolling

/-- The flow of a cycle that is live: yielded, or none (R165, R169). -/
def Device.flowStep (s : Device) : Device :=
  if s.live then
    let r := s.reconstruct
    match r.2 with
    | some q => r.1.yieldFlow q
    | none => r.1.noFlow
  else s

/-- The end of a cycle (R145, R133, R163, R169, R142, R242). Retirement comes first and leaves what the cycle delivered as it
is, so that D of this cycle still names a path retired here (DESIGN CHOICE, log 20). -/
def Device.endCycle (s : Device) : Device :=
  let s0 := { s with tr := { s.tr with cyc := { s.tr.cyc with complete := false, running := false } } }
  (s0.retire.classify.flowStep).recond

/-- A cycle that began at or before t_g still runs (R170); in the external mode, a path-pair is in flight. -/
def Device.cycleSpansGap (s : Device) : Bool :=
  if s.conf.shot.external then s.tr.cyc.inFlight.isSome
  else (s.tr.cyc.running || s.tr.cyc.complete) &&
    decide (s.land.tick - s.tGap ≤ s.land.osc - s.tr.cyc.startOsc)

/-- The decision of the gap at t_g (R170). -/
def Device.decideGap (s : Device) : Device :=
  let s1 := s.disarm 2
  if s.cycleSpansGap then
    let ft := if s1.toll.ft.tCond ≤ s.tGap then s1.toll.ft.bring s.tGap else s1.toll.ft
    { s1 with
      flow := { s1.flow with gapWait := true }
      toll := { s1.toll with ft := { ft with gapErr := ft.tError } } }
  else (s1.closeGap).recond

/-- Tick t_g has arrived and no cycle has yielded flow since t_prev. -/
def Device.gapDue (s : Device) : Bool := s.fired 2 && s.live && s.flow.qf.isSome && !s.flow.gapWait

end Sys2Proof.Machine
end

