-- ==== Sys2Proof/Machine/Pair.lean ====
section
/-! DEFINITION. One path-pair: stamps, arming, correlation, crossing selection, transit times, grades, gain, window
placement, template learning and the acquisition sweep (R82 to R131). -/

namespace Sys2Proof.Machine

/-! ## Drive and window arithmetic (R82 to R89, R118, R119) -/

/-- p(f) of R84. -/
def pOfFreq (f : Nat) : Nat := rneN 6144000000 f

/-- p(f_k) of the sweep frequency k (R86). -/
def sweepP (p : PathP) (k : Nat) : Nat :=
  if k = 0 then pOfFreq p.fLo
  else if k = 15 then pOfFreq p.fHi
  else (rne (6144000000 * 2 ^ fixP) (p.fLo * expFix (lnFix p.fHi p.fLo * k / 15)).toNat).toNat

/-- m of R88 at the drive frequency `f_lo` itself (R88, R109). -/
def decimLo (winLen fLo : Nat) : Nat :=
  if 24 * 48000000 ≤ winLen * fLo then 0
  else if 24 * 48000000 ≤ winLen * 2 * fLo then 1
  else if 24 * 48000000 ≤ winLen * 4 * fLo then 2
  else 3

/-- m of R88 for a drive period. -/
def decimOf (winLen pDrv : Nat) : Nat :=
  if 24 * pDrv ≤ winLen * 128 then 0
  else if 24 * pDrv ≤ winLen * 256 then 1
  else if 24 * pDrv ≤ winLen * 512 then 2
  else 3

/-- Length of a window in coarse cycles (R88). -/
def winCoarse (p : PathP) (m : Nat) : Nat := p.winLen * 2 ^ (m + 1)

/-- A path's two ports lie on different devices (R399). -/
def PathP.crossChip (p : PathP) : Bool := p.devUp != p.devDown

/-- Both ports lie on this primary or standalone device. -/
def PathP.isLocal (p : PathP) : Bool := p.devUp == 0 && p.devDown == 0

/-- Coarse count of the first drive edge in the counter that `win_open` counts in: 16 on this device (R82). With a secondary
it comes 256 coarse cycles after the timing edge of FIRE, 43.875 µs after the primary's counter has started; that of the
secondary starts 8.000 µs later (R400, R402; DEDUCED, log 28). -/
def PathP.driveAt (p : PathP) : Nat := if p.isLocal then 16 else if p.crossChip then 4468 else 3700

/-- By how many coarse cycles a secondary's counter starts after the primary's (R402). -/
def syncLag : Nat := 768

/-- Earliest opening of a window: the end of the port's own burst plus 2 µs (R89). -/
def earliestOpen (p : PathP) (pDrv : Nat) : Nat :=
  p.driveAt + cdiv ((2 * p.pulses + if p.brake then 1 else 0) * pDrv) 128 + 192

/-- Latest opening that keeps the close limit of R88. -/
def latestOpen (p : PathP) (m : Nat) : Nat := p.driveAt + 67200 - winCoarse p m

/-- Speed-of-sound search band of a class in m/s (R118). -/
def searchBand (cls : Nat) : Nat × Nat :=
  if cls ≤ 6 then (1250, 1850)
  else if cls ≤ 9 then (340, 520)
  else if cls = 10 then (340, 1400)
  else (260, 400)

/-- Opening of the first search window for the largest speed `c` (R119). -/
def firstOpen (p : PathP) (cal : PathCal) (pDrv m c : Nat) : Nat :=
  let a := p.driveAt + openRound 12 (cal.pathLen * 46875) (c * 8192) - (winCoarse p m / 8 : Nat)
  max (earliestOpen p pDrv) a.toNat

/-- Search position `k` before the close limit is applied. -/
def searchAt (p : PathP) (cal : PathCal) (cls pDrv m k : Nat) : Nat :=
  firstOpen p cal pDrv m (searchBand cls).2 + k * (3 * winCoarse p m / 4)

/-- Opening of search position `k`, no later than the close limit of R88 lets it. -/
def searchOpen (p : PathP) (cal : PathCal) (cls pDrv m k : Nat) : Nat :=
  min (searchAt p cal cls pDrv m k) (latestOpen p m)

/-- The search position after `k`, back to the first where the window would pass its end (R119), or where the window at
`k` closed at the limit of R88 already. -/
def nextSearch (p : PathP) (cal : PathCal) (cls pDrv m k : Nat) : Nat :=
  let o := searchAt p cal cls pDrv m (k + 1)
  if cal.pathLen * 46875 < (o - p.driveAt) * ((searchBand cls).1 * 8192) ∨ latestOpen p m ≤ searchAt p cal cls pDrv m k then 0
  else k + 1

/-- Window placement about an expected arrival, in half fine LSB from the counter's start, between its earliest and its
latest opening (R89). -/
def placeWindow (p : PathP) (pDrv m winOpen : Nat) (arr2 : Int) : Nat :=
  let len := winCoarse p m
  let x := arr2 - (winOpen : Int) * 16384
  let o := if 3 * len * 1024 ≤ x ∧ x ≤ 5 * len * 1024 then winOpen else (openRound 13 (arr2 - len * 4096) 16384).toNat
  min (max (earliestOpen p pDrv) o) (latestOpen p m)

/-! ## Stamps (R93, R95) -/

/-- k_span of R95; free while no span calibration has given a divisor. -/
def TdcSet.kSpan (t : TdcSet) : Nat :=
  if t.rawSpanNow = 0 then Config.outOfFormat 20 t.rawSpanRef 0 % 2 ^ 32
  else fitU 20 32 (openRound 14 (t.rawSpanRef * 65536 : Nat) t.rawSpanNow)

/-- A stamp in fine LSB (R95). -/
def TdcSet.stamp (t : TdcSet) (r : RawStamp) : Int :=
  let r2 := r.raw * t.kSpan / 65536
  let s := min (r2 / 128) 95
  let w := r2 - s * 128
  let a : Int := t.segEdge.getD s 0
  let b : Int := t.segEdge.getD (s + 1) 0
  (r.coarse : Int) * 8192 - rne (a + (b - a) * w / 128) 65536

/-- Gain band of a gain code (R96). -/
def gainBand (g : Nat) : Nat := min (g / 15) 7

/-! ## One received direction (R90, R127) -/

/-- What one chain gives once its arming is applied. -/
structure Recv where
  armed : Bool
  armAt : Nat
  xs : List Int
  stamps : List Int
  peak : Nat
  clipped : Bool
deriving DecidableEq, Repr

/-- A magnitude arms a chain (R90). -/
def armsAt (lastPeak mag : Nat) : Bool := if lastPeak = 0 then decide (256 < mag) else decide (lastPeak < 4 * mag)

/-- Arming and stamping of a chain (R90). -/
def receive (set : TdcSet) (p : PathP) (winOpen m lastPeak : Nat) (c : ChainCapture) : Recv :=
  let xs := c.samples.take p.winLen
  let pk := xs.foldl (fun a x => max a x.natAbs) 0
  let cl := xs.any fun x => decide (x ≤ -2048 ∨ 2047 ≤ x)
  match xs.findIdx? fun x => armsAt lastPeak x.natAbs with
  | none => ⟨false, 0, xs, [], pk, cl⟩
  | some i =>
    let a := winOpen + i * 2 ^ (m + 1)
    let e := winOpen + winCoarse p m
    let st := (c.crossings.map set.stamp).filter fun s => decide ((a : Int) * 8192 ≤ s ∧ s ≤ (e : Int) * 8192)
    ⟨true, a, xs, st.take 48, pk, cl⟩

/-! ## Correlation (R121) -/

/-- Every second element. -/
def everyOther : List Int → List Int
  | [] => []
  | [x] => [x]
  | x :: _ :: xs => x :: everyOther xs

/-- The capture points that a template at lag L meets; past the window's end there is none. -/
def lagPoints (xs : List Int) (l : Nat) : List Int := (everyOther (xs.drop l)).take 512

def dot (a b : List Int) : Int := sumInt (List.zipWith (· * ·) a b)

def energy (a : List Int) : Nat := (dot a a).toNat

/-- ρ of R121 in 2^-64, evaluated to that place; 0 where it is negative or the capture is silent. -/
def rhoAt64 (t : List Int) (te : Nat) (xs : List Int) (l : Nat) : Nat :=
  let x := lagPoints xs l
  let n := dot x t
  if n ≤ 0 then 0 else isqrt (n.toNat * n.toNat * 2 ^ 128 / (energy x * te))

/-- The pair (lag, ρ) of the largest ρ, the first of equals. -/
def bestLag (l : List (Nat × Nat)) : Nat × Nat :=
  l.foldl (fun b x => if b.2 < x.2 then x else b) (0, 0)

/-- Lags to search: ±1.5 drive periods about a predicted template start, or the whole window. -/
def lagRange (p : PathP) (pDrv m winOpen : Nat) (pred : Option Nat) : List Nat :=
  let all := List.range p.winLen
  match pred with
  | none => all
  | some c =>
    all.filter fun l => decide (128 * ((winOpen + l * 2 ^ (m + 1) : Nat) - (c : Int)).natAbs ≤ 3 * pDrv)

/-- L*, ρ(L*) and the slip margin. -/
def correlate (t : Template) (xs : List Int) (lags : List Nat) (pDrv m : Nat) : Nat × Nat × Nat :=
  let te := energy t.points
  let rs := lags.map fun l => (l, rhoAt64 t.points te xs l)
  let b := bestLag rs
  let far := rs.filter fun r => decide (pDrv ≤ ((r.1 : Int) - b.1).natAbs * 2 ^ (m + 1) * 128)
  (b.1, b.2, b.2 - (bestLag far).2)

/-- Selection of the sixteen crossings (R122): the index k where one is in reach, and whether it is ambiguous. -/
def selectCrossing (t : Template) (lag winOpen m pDrv : Nat) (st : List Int) : Option Nat × Bool :=
  let pred : Int := ((winOpen * 16 + (16 * lag + t.refPos) * 2 ^ (m + 1)) * 512 : Nat)
  let near := (List.range st.length).filter fun i => decide ((st.getD i 0 - pred).natAbs ≤ 32 * pDrv)
  match near with
  | [k] => (some k, false)
  | _ => (none, true)

/-- Noise as (sum of squares, samples): the samples that precede `start` by more than 16, or the previous figure,
or a free figure where the path has none (R127). -/
def noiseOf (xs : List Int) (start : Int) (prev : Option (Nat × Nat)) (free : Nat) : Nat × Nat :=
  let n := (start - 16).toNat
  let w := xs.take n
  if w.length < 32 then prev.getD (free, 1) else (energy w, w.length)

/-- SNR in 0.25 dB: the floor, and whether it is exact. A silent window is beyond every figure. -/
def snrOf (peak : Nat) (noise : Nat × Nat) : Int × Bool :=
  if peak = 0 then (-100000, true)
  else if noise.1 = 0 then (100000, true)
  else log40 (peak * peak * noise.2) noise.1

/-! ## Templates (R120, R123) -/

/-- Moving sum over `w` values centred on each. -/
def movingSum (w : Nat) (xs : List Nat) : List Nat :=
  let p := List.replicate (w / 2) 0 ++ xs
  (List.range xs.length).map fun i => sumNat ((p.drop i).take w)

/-- Index of the first largest value. -/
def argMax (l : List Nat) : Nat :=
  ((l.zipIdx).foldl (fun b x => if b.2 < x.1 then (x.2, x.1) else b) (0, 0)).1

/-- Start of the template in a capture that is learned from: 256 samples before its largest envelope value. -/
def learnStart (pDrv m : Nat) (xs : List Int) : Int :=
  let w := max 1 (openRound 15 pDrv (16 * 2 ^ (m + 1))).toNat
  (argMax (movingSum w (xs.map (·.natAbs))) : Int) - 256

/-- The 512 points of a capture from a start; a point outside the window is free (log 20). -/
def pointsFrom (xs : List Int) (start : Int) : List Int :=
  (List.range 512).map fun (j : Nat) =>
    let i : Int := start + 2 * (j : Int)
    if i < 0 then Config.beyondWindow xs i else xs.getD i.toNat (Config.beyondWindow xs i)

/-- The template's points from the aligned captures. -/
def meanTemplate (caps : List (List Int)) : List Int :=
  let s := (List.range 512).map fun j => sumInt (caps.map fun c => c.getD j 0)
  let mx := s.foldl (fun a x => max a x.natAbs) 0
  s.map fun x => rne (x * 16384) mx

/-- `ref_pos` of R120; free where the template has no such crossing. -/
def refPosOf (pDrv m : Nat) (t : List Int) : Nat :=
  let w := max 1 (openRound 15 pDrv (32 * 2 ^ (m + 1))).toNat
  let env := movingSum w (t.map (·.natAbs))
  let mx := env.foldl max 0
  let a := (env.findIdx? fun e => decide (mx ≤ 2 * e)).getD 0
  let js := (List.range 511).filter fun j => decide (a ≤ j ∧ t.getD j 0 < 0 ∧ 0 ≤ t.getD (j + 1) 0)
  match js with
  | j :: _ =>
    let x := t.getD j 0
    let y := t.getD (j + 1) 0
    fitU 21 16 (32 * j + openRound 16 (32 * -x) (y - x).toNat)
  | [] => Config.outOfFormat 21 pDrv m % 2 ^ 16

/-- One move of the template toward a capture at lag L (R123); the scale to the template's energy is evaluated to
2^-64, and a point past the window's end is free (log 20). -/
def moveTemplate (t : List Int) (xs : List Int) (lag : Nat) : List Int :=
  let x := lagPoints xs lag
  let g := isqrt (energy t * 2 ^ 128 / energy x)
  (t.zipIdx).map fun p => fitS 22 16 (p.1 + rne ((g : Int) * x.getD p.2 (Config.beyondWindow xs (lag + 2 * p.2 : Nat)) - p.1 * 2 ^ 64) (64 * 2 ^ 64))

/-- The template is discarded (R124). -/
def Template.discard (t : Template) : Template := { t with learned := false, learnCount := 0 }

/-! ## Measures of a learned path (R116, R117, R127 to R129) -/

/-- What correlation and crossing selection give for one direction. -/
structure DirMeasure where
  lag : Nat
  rho : Nat
  slip : Nat
  noise : Nat × Nat
  snr : Int × Bool
  ambiguous : Bool
  lacking : Bool
  sum16 : Int
  span15 : Int
deriving DecidableEq, Repr

def measureDir (p : PathP) (t : Template) (r : Recv) (pDrv m winOpen : Nat) (pred : Option Nat)
    (prev : Option (Nat × Nat)) (free : Nat) : DirMeasure :=
  let c := correlate t r.xs (lagRange p pDrv m winOpen pred) pDrv m
  let sel := selectCrossing t c.1 winOpen m pDrv r.stamps
  let noise := noiseOf r.xs c.1 prev free
  let six := match sel.1 with
    | some k => (r.stamps.drop k).take 16
    | none => []
  { lag := c.1, rho := c.2.1, slip := c.2.2, noise := noise, snr := snrOf r.peak noise
    ambiguous := sel.2
    lacking := sel.1.isSome && decide (six.length < 16)
    sum16 := sumInt six
    span15 := six.getD 15 0 - six.getD 0 0 }

/-- T of R116, in 2^-8 fine LSB. -/
def transitT (sum start : Int) (delay tOfs : Nat) : Int := 16 * sum - 256 * start - delay - 256 * tOfs

/-- Scaling of R102. -/
def scaleCorr (corr x : Int) : Int := x - rne (x * corr) (2 ^ 40)

/-- Speed of sound of R117. -/
def sosOf (pathLen : Nat) (sum : Int) : Nat := fitU 23 32 (rneI (2 * pathLen * 3072000000) sum)

/-- The imbalance of two peaks lies within `v` quarter-decibels. -/
def imbWithin (a b v : Nat) : Bool := decide ((max a b) ^ 80 ≤ 10 ^ v * (min a b) ^ 80)

/-- A transit time lies within 0.98 t_exp_min to 1.02 t_exp_max (R128). -/
def inRange (cls pathLen : Nat) (t : Int) : Bool :=
  let b := searchBand cls
  decide (98 * 46875 * (pathLen : Int) ≤ 100 * t * b.2 ∧ 100 * t * b.1 ≤ 102 * 46875 * (pathLen : Int))

/-- |Δt| within `dt_max_frac` of the mean transit time (R128). -/
def dtWithin (frac : Nat) (dt tUd tDu : Int) : Bool := decide (2 * (dt.natAbs : Int) ≤ frac * (tUd + tDu))

/-- Transit times, Δt and speed of sound, scaled by the correction. -/
structure Times where
  tUd : Int
  tDu : Int
  dt : Int
  sos : Nat
deriving DecidableEq, Repr

def timesOf (corr : Int) (pathLen : Nat) (bigUd bigDu : Int) : Times :=
  let tu := scaleCorr corr (rne bigUd 256)
  let td := scaleCorr corr (rne bigDu 256)
  ⟨tu, td, scaleCorr corr (bigDu - bigUd), sosOf pathLen (tu + td)⟩

/-- An echo path: one transit time, no Δt; what stands in the field of the direction that it does not measure is
open (log 20). -/
def timesEcho (corr : Int) (pathLen : Nat) (big : Int) : Times :=
  let t := scaleCorr corr (rne big 256)
  ⟨t, (Config.outOfFormat 24 t 1 % 2 ^ 48 : Nat), 0, sosOf pathLen (2 * t)⟩

/-- The grade of the pair measures that need both directions (R128): causes and MARGINAL. -/
structure Verdicts where
  causes : List Nat
  marginal : Bool
deriving DecidableEq, Repr

/-- ρ, in 2^-k, lies below `rho_valid`, 0.90 itself at the basic level (R128, R157). -/
def PathListP.rhoLow (l : PathListP) (rho k : Nat) : Bool :=
  if l.basic then decide (10 * rho < 9 * 2 ^ k) else decide (rho * 2 ^ 16 < l.rhoValid * 2 ^ k)

/-- A slip margin in 2^-64 lies below `slip_min`, 0.04 itself at the basic level. -/
def PathListP.slipLow (l : PathListP) (slip : Nat) : Bool :=
  if l.basic then decide (100 * slip < 4 * 2 ^ 64) else decide (slip < l.slipMin * 2 ^ 56)

/-- Causes 4 to 7 and MARGINAL of one direction. -/
def DirMeasure.verdicts (d : DirMeasure) (l : PathListP) : Verdicts :=
  { causes :=
      (if d.snr.1 < l.snrVoid then [4] else []) ++ (if d.rho < l.rhoVoid * 2 ^ 48 then [5] else []) ++
      (if d.ambiguous || l.slipLow d.slip then [6] else []) ++ (if d.lacking then [7] else [])
    marginal := decide (d.snr.1 < l.snrValid) || l.rhoLow d.rho 64 }

/-- Causes 8 to 10 and MARGINAL of a pair of directions. -/
def pairVerdicts (l : PathListP) (cls pathLen pUd pDu : Nat) (x : Times) : Verdicts :=
  { causes :=
      (if imbWithin pUd pDu l.imbVoid then [] else [8]) ++
      (if inRange cls pathLen x.tUd && inRange cls pathLen x.tDu then [] else [9]) ++
      (if dtWithin l.dtMaxFrac x.dt x.tUd x.tDu then [] else [10])
    marginal := !imbWithin pUd pDu l.imbMarg }

/-- Electrical result of a driver current in µA (R144): 0 none, 1 open, 2 short. -/
def elecOf (ua : Nat) : Nat := if ua < 1000 then 1 else if 150000 < ua then 2 else 0

/-! ## Gain and level (R83, R91) -/

/-- step(level) of R83. -/
def levelStep (l : Nat) : Int := if l = 1 then 12 else if l = 2 then 7 else if l = 3 then 5 else 0

/-- R91: gain and level from the largest magnitude and whether a sample clipped. -/
def nextGain (p : PathP) (g level peak : Nat) (clipped : Bool) : Nat × Nat :=
  let g0 : Int := g
  let g1 : Int := if clipped then g0 - 12
    else if 1843 < peak then g0 - 4
    else if peak < 512 then g0 + min 24 (fixMul (log10Fix 1024 (max peak 1)) 40 1)
    else g0
  let a : Int × Nat := if 120 < g1 then
      if level < p.driveMax then (g1 - levelStep (level + 1), level + 1) else (120, level)
    else (g1, level)
  let b : Int × Nat := if a.1 < 24 ∧ p.driveStart < a.2 then (a.1 + levelStep a.2, a.2 - 1) else a
  ((max 0 (min b.1 120)).toNat, b.2)

/-! ## Resonance tracking and sweeps (R85, R86) -/

/-- The sweep starts: 16 shots from f_0, none restarted yet. -/
def PathState.startSweep (s : PathState) : PathState :=
  { s with
    tune := { s.tune with acquiring := true }
    work := { s.work with sweeping := true, sweepStep := 0, sweepRestarts := 0, sweepBestPeak := 0, sweepBestK := 0 } }

/-- R85 after a VALID pair: the received period as `num` / `den` units of 1/64 coarse cycle. -/
def PathState.track (s : PathState) (p : PathP) (num : Int) (den : Nat) : PathState :=
  if p.trackEn then
    let a := pOfFreq p.fHi
    let b := pOfFreq p.fLo
    let q := (max (a : Int) (min (s.tune.pDrv + rne (num - s.tune.pDrv * den) (8 * den)) b)).toNat
    let run := if q = a ∨ q = b then s.tune.edgeRun + 1 else 0
    let s1 := { s with tune := { s.tune with pDrv := q, edgeRun := wrapU 16 run } }
    if run = 64 then s1.startSweep else s1
  else s

/-- The sweep ends with the strongest frequency (R86); true where the template is discarded (R124). -/
def PathState.endSweep (s : PathState) (p : PathP) : PathState × Bool :=
  let q := sweepP p s.work.sweepBestK
  let far := s.tpl.learned && decide (4 * s.tpl.pLearn < 100 * ((q : Int) - s.tpl.pLearn).natAbs)
  ({ s with
     tune := { s.tune with pDrv := q, decim := decimOf p.winLen q, edgeRun := 0, acquiring := false }
     tpl := if far then s.tpl.discard else s.tpl
     work := { s.work with sweeping := false, captures := if far then [] else s.work.captures } }, far)

/-- One sweep shot is counted (R86). Of equal peaks the lowest k stands: the rule names none (DESIGN CHOICE, log 20). -/
def PathState.sweepShot (s : PathState) (p : PathP) (peak : Nat) (clipped : Bool) : PathState × Bool :=
  let w := s.work
  if clipped && w.sweepRestarts < 4 then
    ({ s with work := { w with sweepStep := 0, sweepRestarts := w.sweepRestarts + 1, sweepBestPeak := 0,
                               sweepBestK := 0 } }, false)
  else
    let pk := if clipped then 2048 else peak
    let better := w.sweepStep = 0 || decide (w.sweepBestPeak < pk)
    let w1 := { w with sweepBestPeak := if better then pk else w.sweepBestPeak
                       sweepBestK := if better then w.sweepStep else w.sweepBestK
                       sweepStep := w.sweepStep + 1 }
    let s1 := { s with work := w1 }
    if w1.sweepStep = 16 then s1.endSweep p else (s1, false)

/-! ## Reinitialisation (R112, R119) -/

/-- A path's tuning, template and search at reinitialisation. For a tracked path the sweep that follows sets `p_drv`
and m; until then they stand at f_lo (DESIGN CHOICE, log 20). -/
def reinitPath (p : PathP) (cal : Option PathCal) (cls now : Nat) (s : PathState) : PathState :=
  let q := pOfFreq p.fLo
  let m := decimLo p.winLen p.fLo
  let open0 := match cal with
    | some c => searchOpen p c cls q m 0
    | none => 0
  let s1 : PathState :=
    { s with
      tune := { pDrv := q, gain := p.gainInit, level := p.driveStart, decim := m }
      tpl := {}, mirror := {}
      work := { winOpen := open0, activeSince := now } }
  if p.trackEn then s1.startSweep else s1

/-! ## The pair as a whole (R115) -/

/-- What a pair is measured with. -/
structure PairCtx where
  idx : Nat
  p : PathP
  l : PathListP
  cal : PathCal
  cls : Nat
  set : TdcSet
  corr : Int
  seq : Nat
  now : Nat
  free : Nat
  /-- the drive period that the pair was fired with, where a FIRE frame gave it (R400) -/
  drive : Option Nat := none
deriving DecidableEq, Repr

/-- What a completed pair changes: the path's state, and the cause of a TEMPLATE_RELEARN (0 none, R124); the received
period of a VALID pair as `num` / `den` units of 1/64 coarse cycle (R85). -/
structure PairDone where
  s : PathState
  relearn : Nat := 0
  num : Int := 0
  den : Nat := 1
deriving DecidableEq, Repr

def PathP.echo (p : PathP) : Bool := p.portUp == p.portDown && p.devUp == p.devDown

/-- Chain A receives ud: with parity 1, as `port_down` then takes it; on an echo path, whose one port is `port_up`, with
parity 0 (R78, R79). -/
def PathP.udOnA (p : PathP) (parity : Bool) : Bool := if p.echo then !parity else parity

/-- Drive period of the path's next pair. -/
def PathState.nextDrive (s : PathState) (p : PathP) : Nat :=
  if s.work.sweeping then sweepP p s.work.sweepStep else s.tune.pDrv

/-- Drive period of the pair that completes. -/
def PairCtx.fired (c : PairCtx) (s : PathState) : Nat := c.drive.getD (s.nextDrive c.p)

/-- Peaks, lower figures and times for PATH_RESULT (R131). -/
structure Diag where
  snr : Int × Bool
  rho : Nat
  slip : Nat
  peakUd : Nat
  peakDu : Nat
deriving DecidableEq, Repr

def resultOf (c : PairCtx) (g : Grade) (cause : Nat) (x : Times) (d : Diag) : PathResult :=
  let v := g == Grade.void
  { tUd := if v then 0 else fitU 25 48 x.tUd
    tDu := if v then 0 else fitU 26 48 x.tDu
    dt := if v then 0 else fitS 27 32 x.dt
    sos := if v then 0 else x.sos
    grade := g
    voidCause := if v then cause else 0
    snr := fitU 28 8 (if d.snr.2 then d.snr.1 else if Config.roundUp 17 d.snr.1 1 then d.snr.1 + 1 else d.snr.1)
    rho := fitU 29 16 (openRound 18 d.rho (2 ^ 48))
    peakUd := d.peakUd, peakDu := d.peakDu
    cycleSeq := wrapU 16 c.seq
    slip := fitU 30 8 (openRound 19 d.slip (2 ^ 56)) }

/-- Runs and counters of PATH_HEALTH and of the search after a graded pair (R119, R124, R145, R147). -/
def PathState.book (s : PathState) (c : PairCtx) (g : Grade) (sweep : Bool) (cause : Nat) : PathState :=
  let h := s.health
  let w := s.work
  let void := g == Grade.void
  let vr := if sweep then h.voidRun else if void then satAdd 16 h.voidRun 1 else 0
  let sr := if void then w.searchVoidRun + 1 else 0
  let lost := decide (256 ≤ sr)
  { s with
    health := { h with
      pairs := satInc h.pairs
      voidPairs := if void then satInc h.voidPairs else h.voidPairs
      marginalPairs := if g == Grade.marginal then satInc h.marginalPairs else h.marginalPairs
      voidRun := vr
      state := if s.tpl.learned && !s.tune.acquiring then 1 else 2 }
    work := { w with
      searchVoidRun := if lost then 0 else sr
      found := w.found && !lost
      validT := if lost then false else w.validT || !void
      searchStep := if lost then 0 else w.searchStep
      winOpen := if lost then searchOpen c.p c.cal c.cls (s.nextDrive c.p) s.tune.decim 0 else w.winOpen
      sinceGood := if void then w.sinceGood.map (· + 1) else some 0
      lastNonVoid := if void then w.lastNonVoid else some c.now
      lastValid := if g == Grade.valid then some c.now else w.lastValid
      delivered := !void
      noArm := void && (cause == 1 || cause == 2) } }

/-- Window of the next pair, for the drive period and m that it will have: the search goes on, or the arrival is kept in
its band (R89, R119). -/
def PathState.place (s : PathState) (c : PairCtx) (armedAll : Bool) (armMean2 : Int) (delivered : Bool) (t2 : Int) :
    PathState :=
  let q := s.nextDrive c.p
  let m := s.tune.decim
  let w := s.work
  if w.found || armedAll then
    let a : Int := if delivered then c.p.driveAt * 16384 + t2 else if w.found then w.arrival2 else armMean2
    { s with work := { w with found := true, arrival2 := a, winOpen := placeWindow c.p q m w.winOpen a } }
  else
    let k := nextSearch c.p c.cal c.cls q m w.searchStep
    { s with work := { w with searchStep := k, winOpen := searchOpen c.p c.cal c.cls q m k } }

/-- Parity, peak, gain and level after a fired pair (R79, R91, R112). -/
def PathState.gainAfter (s : PathState) (p : PathP) (armedAny : Bool) (peak : Nat) (clipped : Bool) : PathState :=
  let t := { s.tune with parity := !s.tune.parity }
  if armedAny then
    let g := nextGain p t.gain t.level peak clipped
    { s with tune := { t with gain := g.1, level := g.2, lastPeak := min peak 65535 } }
  else { s with tune := t }

/-- Learning from one pair (R120): the captures of both directions join, and the sixteenth pair makes the template. -/
def PathState.learn (s : PathState) (caps : List (List Int)) : PathState :=
  let cs := s.work.captures ++ caps
  let n := s.tpl.learnCount + 1
  if n < 16 then { s with tpl := { s.tpl with learnCount := n }, work := { s.work with captures := cs } }
  else
    let pts := meanTemplate cs
    let t : Template :=
      { refPos := refPosOf s.tune.pDrv s.tune.decim pts, learnCount := 16, learned := true, pLearn := s.tune.pDrv,
        decim := s.tune.decim, updates := 0, points := pts }
    { s with tpl := t, mirror := t, work := { s.work with captures := [] } }

/-- The two receivers of a pair by direction, where chain A receives ud or not (R79); an echo path has one. -/
def recvUd (onA : Bool) (a b : Recv) : Recv := if onA then a else b
def recvDu (echo onA : Bool) (a b : Recv) : Recv := if onA == echo then a else b

/-- Delay of the chain that receives a direction. -/
def delayUd (set : TdcSet) (onA : Bool) (band : Nat) : Nat := (if onA then set.delayA else set.delayB).getD band 0
def delayDu (set : TdcSet) (onA : Bool) (band : Nat) : Nat := (if onA then set.delayB else set.delayA).getD band 0

/-- Template start predicted for the lag range: that of a VALID or MARGINAL pair among the last 16 (R121). -/
def PathWork.predict (w : PathWork) (good : Nat) : Option Nat :=
  match w.sinceGood with
  | some n => if n < 16 then some good else none
  | none => none

/-- The low-correlation run of R124: true where it discards the template. -/
def PathState.rhoRun (s : PathState) (low : Bool) : PathState × Bool :=
  let n := if low then s.work.lowRhoRun + 1 else 0
  if n = 64 then
    ({ s with tpl := s.tpl.discard, work := { s.work with lowRhoRun := 0, captures := [] } }, true)
  else ({ s with work := { s.work with lowRhoRun := n } }, false)

/-- The lower of two SNR figures. -/
def lowerSnr (a b : Int × Bool) : Int × Bool := if b.1 < a.1 then b else a

/-- A pair of two directions, or of one on an echo path, on a path whose template is learned. -/
structure Formed where
  causes : List Nat
  marginal : Bool
  x : Times
  diag : Diag
  ud : DirMeasure
  du : DirMeasure
deriving DecidableEq, Repr

/-- Measures and times of a pair (R116, R117, R127, R128). -/
def formPair (c : PairCtx) (s : PathState) (pDrv : Nat) (startU startD : Int) (ud du : Recv) : Formed :=
  let t := s.tune
  let w := s.work
  let band := gainBand t.gain
  let mu := measureDir c.p s.tpl ud pDrv t.decim w.winOpen (w.predict w.goodUd) w.noiseUd c.free
  let md := measureDir c.p s.tpl du pDrv t.decim w.winOpen (w.predict w.goodDu) w.noiseDu (c.free + 1)
  let onA := c.p.udOnA t.parity
  let bu := transitT mu.sum16 startU (delayUd c.set onA band) c.cal.tOfs
  let bd := transitT md.sum16 startD (delayDu c.set onA band) c.cal.tOfs
  let vu := mu.verdicts c.l
  if c.p.echo then
    let x := timesEcho c.corr c.cal.pathLen bu
    { causes := vu.causes ++ if inRange c.cls c.cal.pathLen x.tUd then [] else [9]
      marginal := vu.marginal
      x := x
      diag := ⟨mu.snr, mu.rho, mu.slip, ud.peak, Config.outOfFormat 31 c.idx 1 % 2 ^ 16⟩
      ud := mu, du := mu }
  else
    let vd := md.verdicts c.l
    let x := timesOf c.corr c.cal.pathLen bu bd
    let vp := pairVerdicts c.l c.cls c.cal.pathLen ud.peak du.peak x
    { causes := vu.causes ++ vd.causes ++ vp.causes
      marginal := vu.marginal || vd.marginal || vp.marginal
      x := x
      diag := ⟨lowerSnr mu.snr md.snr, min mu.rho md.rho, min mu.slip md.slip, ud.peak, du.peak⟩
      ud := mu, du := md }

/-- The measures of a pair without a learned template (R120, R127): SNR with the noise that precedes the place where the
capture would be learned from, the rule giving no L* (DESIGN CHOICE, log 20), and the imbalance. ρ and slip margin have no
value: what the entry shows for them is free (log 20). -/
def roughPair (c : PairCtx) (s : PathState) (pDrv : Nat) (ud du : Recv) : Formed :=
  let m := s.tune.decim
  let dir := fun (r : Recv) (prev : Option (Nat × Nat)) (free : Nat) =>
    let n := noiseOf r.xs (learnStart pDrv m r.xs) prev free
    ({ lag := 0, rho := Config.outOfFormat 47 c.free 1 % 2 ^ 16 * 2 ^ 48, slip := Config.outOfFormat 48 c.free 1 % 2 ^ 8 * 2 ^ 56
       noise := n, snr := snrOf r.peak n, ambiguous := false, lacking := false, sum16 := 0, span15 := 0 } : DirMeasure)
  let mu := dir ud s.work.noiseUd c.free
  let md := if c.p.echo then mu else dir du s.work.noiseDu (c.free + 1)
  { causes :=
      (if mu.snr.1 < c.l.snrVoid ∨ md.snr.1 < c.l.snrVoid then [4] else []) ++
      (if c.p.echo || imbWithin ud.peak du.peak c.l.imbVoid then [] else [8])
    marginal := false
    x := ⟨0, 0, 0, 0⟩
    diag := ⟨lowerSnr mu.snr md.snr, mu.rho, mu.slip, ud.peak, if c.p.echo then Config.outOfFormat 31 c.idx 1 % 2 ^ 16 else du.peak⟩
    ud := mu, du := md }

/-- The lowest cause present; 0 where there is none (R129). -/
def lowest (l : List Nat) : Nat :=
  match l with
  | [] => 0
  | x :: xs => xs.foldl min x

/-- The template after a VALID pair: it moves toward the capture of each direction in turn (R123), and every 4096 updates
it is mirrored (R125). -/
def PathState.adapt (s : PathState) (caps : List (List Int × Nat)) : PathState :=
  let pts := caps.foldl (fun (t : List Int) (x : List Int × Nat) => moveTemplate t x.1 x.2) s.tpl.points
  let tp := { s.tpl with points := pts, updates := satInc s.tpl.updates }
  { s with tpl := tp, mirror := if tp.updates % 4096 = 0 then tp else s.mirror }

/-- Causes that no measure gives: a chain that did not arm, a clipped sample, overflow, a port's electrical fault, a sweep,
no template (R129). -/
def plainCauses (ud du : Recv) (echo overflow elec sweep learned : Bool) : List Nat :=
  (if ud.armed then [] else [1]) ++ (if du.armed || echo then [] else [2]) ++
    (if ud.clipped || du.clipped then [3] else []) ++ (if overflow then [11] else []) ++ (if elec then [13] else []) ++
    (if sweep then [14] else []) ++ (if learned then [] else [15])

/-- A path-pair completes (R115 steps 9 and 10): `elec` is the electrical result of its two ports together. A sweep pair
neither counts in the run of low-ρ pairs of R124 nor ends it (DESIGN CHOICE, log 20). -/
def pairDone (c : PairCtx) (s : PathState) (cap : PairCapture) (elec : Bool) : PairDone :=
  let t := s.tune
  let w := s.work
  let sweep := w.sweeping
  let pDrv := c.fired s
  let ra := receive c.set c.p w.winOpen t.decim t.lastPeak cap.chainA
  let rb := receive c.set c.p w.winOpen t.decim t.lastPeak cap.chainB
  let echo := c.p.echo
  let onA := c.p.udOnA t.parity
  let ud := recvUd onA ra rb
  let du := recvDu echo onA ra rb
  let armedAll := ud.armed && du.armed
  let clipped := ud.clipped || du.clipped
  let peak := max ud.peak du.peak
  let armMean2 : Int := ((ud.armAt + du.armAt) * 8192 : Nat)
  let f := if s.tpl.learned then formPair c s pDrv (c.set.stamp cap.startUp) (c.set.stamp cap.startDown) ud du
    else roughPair c s pDrv ud du
  let causes := plainCauses ud du echo cap.overflow elec sweep s.tpl.learned ++ f.causes
  let g : Grade := if causes ≠ [] then .void else if f.marginal then .marginal else .valid
  let cause := lowest causes
  let good := g != Grade.void
  let snrOk := decide ((c.l.snrValid : Int) ≤ f.ud.snr.1 ∧ (c.l.snrValid : Int) ≤ f.du.snr.1)
  let low := snrOk && (c.l.rhoLow f.ud.rho 64 || c.l.rhoLow f.du.rho 64)
  let s1 := { s with
    res := resultOf c g cause f.x f.diag
    work := { w with
      noiseUd := some f.ud.noise, noiseDu := some f.du.noise
      goodUd := if good then w.winOpen + f.ud.lag * 2 ^ (t.decim + 1) else w.goodUd
      goodDu := if good then w.winOpen + f.du.lag * 2 ^ (t.decim + 1) else w.goodDu } }
  -- only VALID pairs move the template and the drive period (R130)
  let s2 := if g = .valid then s1.adapt ((ud.xs, f.ud.lag) :: if echo then [] else [(du.xs, f.du.lag)])
    else if !sweep && !s.tpl.learned && armedAll && !clipped && snrOk then
      s1.learn (pointsFrom ud.xs (learnStart pDrv t.decim ud.xs) ::
        (if echo then [] else [pointsFrom du.xs (learnStart pDrv t.decim du.xs)]))
    else s1
  let num := if echo then f.ud.span15 else f.ud.span15 + f.du.span15
  let den := if echo then 1920 else 3840
  let s3 := s2.gainAfter c.p (ud.armed || du.armed) peak clipped
  let r := if sweep then s3.sweepShot c.p peak clipped
    else if g = .valid then (s3.track c.p num den, false) else (s3, false)
  let s4 := r.1.place c armedAll armMean2 good (if echo then 2 * f.x.tUd else f.x.tUd + f.x.tDu)
  let q := if s.tpl.learned && !sweep then s4.rhoRun low else (s4, false)
  { s := q.1.book c g sweep cause, relearn := if r.2 then 2 else if q.2 then 1 else 0, num := num, den := den }

/-! ## One half of a cross-chip pair (R402) -/

/-- What one device gives of a cross-chip pair: its causes, the direction's measures and T parts. -/
structure Half where
  s : PathState
  relearn : Bool := false
  causes : List Nat
  marginal : Bool
  m : DirMeasure
  recv : Recv
deriving DecidableEq, Repr

/-- The direction that this device receives, `unarmed` 1 for ud and 2 for du: graded, learned from or updated with its
own capture. A direction that is VALID by its own measures moves the template (DEDUCED, log 20). `mate` says of the other
direction, where this device knows it, whether it armed without a clipped sample, its SNR and its ρ (R120, R124); a
secondary does not know it, and learns from its own direction (DEDUCED, log 28). -/
def halfPair (c : PairCtx) (s : PathState) (r : Recv) (unarmed : Nat) (base : List Nat) (sweep : Bool)
    (mate : Option (Bool × Nat × Nat)) : Half :=
  let t := s.tune
  let pDrv := c.fired s
  let w := s.work
  let learned := s.tpl.learned
  let m := if learned then measureDir c.p s.tpl r pDrv t.decim w.winOpen (w.predict w.goodUd) w.noiseUd c.free
    else (roughPair c s pDrv r r).ud
  let v := if learned then m.verdicts c.l else ⟨if m.snr.1 < c.l.snrVoid then [4] else [], false⟩
  let causes := (if r.armed then [] else [unarmed]) ++ (if r.clipped then [3] else []) ++ base ++
    (if sweep then [14] else []) ++ (if learned then [] else [15]) ++ v.causes
  let s1 := { s with work := { w with
    noiseUd := some m.noise
    goodUd := if causes.isEmpty then w.winOpen + m.lag * 2 ^ (t.decim + 1) else w.goodUd } }
  let o := mate.getD (true, 255, 65535)
  let snrOk := decide ((c.l.snrValid : Int) ≤ m.snr.1) && decide (c.l.snrValid ≤ o.2.1)
  let s2 := if causes.isEmpty && !v.marginal then s1.adapt [(r.xs, m.lag)]
    else if !sweep && !learned && r.armed && !r.clipped && o.1 && snrOk then
      s1.learn [pointsFrom r.xs (learnStart pDrv t.decim r.xs)]
    else s1
  let low := snrOk && (c.l.rhoLow m.rho 64 || c.l.rhoLow o.2.2 16)
  let q := if learned && !sweep then s2.rhoRun low else (s2, false)
  { s := q.1, relearn := q.2, causes := causes, marginal := v.marginal, m := m, recv := r }

/-- T of R401 for the direction that the secondary receives: numerator over `den` = r2 − r1. -/
def tSecRx (tf tm startP d sSum r1 r2 : Int) (delay tOfs : Nat) : Int :=
  (256 * (tf - startP) + d - delay - 256 * tOfs) * (r2 - r1) + (tm - tf) * (16 * sSum - 256 * r1)

/-- T of R401 for the direction that the primary receives, over the same divisor. -/
def tPriRx (tf tm sP d start r1 r2 : Int) (delayP tOfs : Nat) : Int :=
  (16 * sP - 256 * tf - d - delayP - 256 * tOfs) * (r2 - r1) - 256 * (tm - tf) * (start - r1)

/-! ## The entry of PATH_RESULT in bytes (R131) -/

def Grade.code (g : Grade) : Nat := match g with | .void => 0 | .marginal => 1 | .valid => 2

def PathResult.bytes (r : PathResult) : Bytes :=
  leBytes 6 r.tUd ++ leBytes 6 r.tDu ++ leBytesS 4 r.dt ++ leBytes 4 r.sos ++
  leBytes 1 (r.grade.code + 4 * r.voidCause) ++ leBytes 1 r.snr ++ leBytes 2 r.rho ++ leBytes 2 r.peakUd ++
  leBytes 2 r.peakDu ++ leBytes 2 r.cycleSeq ++ leBytes 1 r.slip ++ leBytes 1 0

/-- The entry that bytes spell. -/
def PathResult.ofBytes (b : Bytes) : PathResult :=
  let g := getU b 20 1
  { tUd := getU b 0 6, tDu := getU b 6 6, dt := getS b 12 4, sos := getU b 16 4
    grade := if g % 4 = 2 then .valid else if g % 4 = 1 then .marginal else .void
    voidCause := g / 4, snr := getU b 21 1, rho := getU b 22 2, peakUd := getU b 24 2, peakDu := getU b 26 2
    cycleSeq := getU b 28 2, slip := getU b 30 1 }

end Sys2Proof.Machine
end

