-- ==== Sys2Proof/Machine/HawserOps.lean ====
section
/-! DEFINITION. What the primary knows of its secondaries (R393, R399, R405). -/

namespace Sys2Proof.Machine

/-! ## Secondaries -/

/-- Secondary k, 1 to 5, as the primary sees it. -/
def Device.sec1 (s : Device) (k : Nat) : Secondary := s.haw.secs.getD (k - 1) {}

def Device.setSec (s : Device) (k : Nat) (f : Secondary → Secondary) : Device :=
  if k = 0 then s else { s with haw := { s.haw with secs := setAt s.haw.secs (k - 1) f } }

/-- The request has its answer. -/
def Device.hwDone (s : Device) : Device := { s with haw := { s.haw with out := none } }

/-- A valid answer of secondary k (R405, R407): the running cycle is not one without an answer. -/
def Device.hwAnswered (s : Device) (k : Nat) : Device :=
  s.setSec k fun x => { x with missRun := 0, missSeq := some s.tr.cyc.seq }

/-- The devices other than the primary on which a path's ports lie. -/
def PathP.remotes (p : PathP) : List Nat := ([p.devUp, p.devDown].filter (· != 0)).eraseDups

/-- A path can be fired in this cycle: no port of it is retired (R81), the Hawser is ON for a secondary that takes part,
which is synchronised, and one across devices has an accepted delay (R397, R404, R406). -/
def Device.fireable (s : Device) (i : Nat) : Bool :=
  let p := s.conf.pathList.paths.getD i {}
  !s.onRetired i && p.remotes.all fun k =>
    s.on .hawser && (s.sec1 k).state == 1 && (!p.crossChip || (s.sec1 k).hasD)

/-- The channels of secondary k are retired. -/
def Device.retireChannels (s : Device) (k : Nat) : Device :=
  let idx := ((s.chans.zipIdx).filter fun c => c.1.dev == k && c.1.role != 0).map (·.2)
  { s with temp := { s.temp with
    units := (s.temp.units.zipIdx).map fun u => if idx.contains u.2 then { u.1 with state := 3 } else u.1 } }

/-- Paths that no FIRE is sent for any more in the running cycle (R405). -/
def Device.dropFires (s : Device) (l : List Nat) : Device :=
  { s with tr := { s.tr with cyc := { s.tr.cyc with toFire := s.tr.cyc.toFire.filter fun i => !l.contains i } } }

/-- A secondary is lost (R405): its ports, paths and channels are retired. -/
def Device.loseSecondary (s : Device) (k : Nat) : Device :=
  let m := (s.sec1 k).missRun
  let s1 := s.setSec k fun x => { x with state := 3, resync := false, fresh := false }
  let s2 := { s1 with haw := { s1.haw with retired := s1.haw.retired ||| 2 ^ (k - 1) } }
  let hit := s2.activePaths.filter fun i => ((s2.conf.pathList.paths.getD i {}).remotes).contains k
  let s3 := (s2.journal 0x602 k m).tamper 21
  let ports := (s3.portsOf hit).filter fun q => q.1 == k && !s3.portRetired q
  let s4 := hit.foldl (fun (x : Device) i => x.retirePath i 2)
    (ports.foldl (fun (x : Device) q => x.retirePort q false) (s3.dropFires hit |>.retireChannels k))
  (s4.degrade fun d => { d with secLost := true, retiredPath := d.retiredPath || !hit.isEmpty })

/-- A request of the running cycle got no answer from secondary k (R405). -/
def Device.hwMissed (s : Device) (k : Nat) : Device :=
  let x := s.sec1 k
  if x.state = 3 ∨ x.missSeq = some s.tr.cyc.seq then s
  else
    let since := if x.missRun = 0 then s.land.osc else x.missSince
    let n := satAdd 16 x.missRun 1
    let s1 := s.setSec k fun y => { y with missRun := n, missSince := since, missSeq := some s.tr.cyc.seq }
    let y := s.conf.system
    if y.secLostCycles ≤ n ∧ y.secLostTime * tps ≤ s.land.osc - since ∧ bitAt s.haw.expected (k - 1) = true then
      s1.loseSecondary k
    else s1

/-! ## Pushed parameters (R395, log 28): the blocks of CFG -/

/-- A path entry in the layout of R540. -/
def PathP.bytes (p : PathP) : Bytes :=
  leBytes 1 p.portUp ++ leBytes 1 p.portDown ++ leBytes 1 p.devUp ++ leBytes 1 p.devDown ++ leBytes 4 p.fLo ++
  leBytes 4 p.fHi ++ leBytes 1 p.pulses ++ leBytes 1 p.driveStart ++ leBytes 1 p.driveMax ++ leBytes 1 p.gainInit ++
  leBytes 2 p.winLen ++ leBytes 1 (bitVal p.brake 0 + bitVal p.trackEn 1 + bitVal p.refPath 2) ++ leBytes 1 0

/-- The thresholds of R158 in the layout of R540. -/
def PathListP.thresholds (l : PathListP) : Bytes :=
  leBytes 2 l.rhoValid ++ leBytes 2 l.rhoVoid ++ leBytes 1 l.snrValid ++ leBytes 1 l.snrVoid ++ leBytes 1 l.slipMin ++
  leBytes 1 l.imbMarg ++ leBytes 1 l.imbVoid ++ leBytes 1 l.dtMaxFrac ++ leBytes 2 l.retirePairs ++ leBytes 2 l.retireTime

/-- Coefficients of one channel in the layout of R539. -/
def ChanCal.bytes (c : ChanCal) : Bytes :=
  leBytes 4 c.r0 ++ leBytes 4 c.leadOhm ++ leBytesS 8 c.cvdA ++ leBytesS 8 c.cvdB ++ leBytesS 8 c.cvdC

/-- Stored coefficients of channel `ch` of secondary k: those at its combined index (log 28). -/
def Device.secChan (s : Device) (k ch : Nat) : Option ChanCal :=
  match s.chans.findIdx? fun c => c.dev == k && c.ch == ch with
  | some i => (s.conf.calib.temp.getD {}).chans.getD i none
  | none => none

/-- Part `n` for secondary k: 0 `hfx_corr`, 1 thresholds, medium class and whether the defaults of R157 themselves hold,
16 + i path i with `t_ofs` and `path_len`, 64 + x the coefficients of channel x. -/
def Device.cfgPart (s : Device) (k n : Nat) : Bytes :=
  if n = 0 then leBytesS 4 (s.sec1 k).hfxCorr
  else if n = 1 then s.conf.pathList.thresholds ++ leBytes 1 s.conf.cls ++ leBytes 1 (bitVal s.conf.pathList.basic 0)
  else if n < 64 then
    let c := s.conf.pathCal (n - 16)
    (s.conf.pathList.paths.getD (n - 16) {}).bytes ++ leBytes 4 c.tOfs ++ leBytes 4 c.pathLen
  else
    match s.secChan k (n - 64) with
    | some c => c.bytes
    | none => []

/-- The parts that secondary k needs. -/
def Device.cfgPartsOf (s : Device) (k : Nat) : List (Nat × Nat) :=
  let ps := (s.conf.pathsIdx.filter fun q => q.1.remotes.contains k).map fun q => (k, 16 + q.2)
  let cs := ((List.range 4).filter fun x => (s.secChan k x).isSome).map fun x => (k, 64 + x)
  [(k, 0), (k, 1)] ++ ps ++ cs

/-! ## The primary's own exchanges: synchronisation, CFG, loop calibration (R393, R395, R398) -/

/-- The bus is free for an exchange of the primary's own: nothing outstanding, no path-pair in flight. -/
def Device.hwFree (s : Device) : Bool :=
  s.on .hawser && s.haw.role == 1 && s.haw.out.isNone && s.tr.cyc.inFlight.isNone

/-- The gap before the next cycle is at least `n` oscillator cycles long; before t0 there are no cycles. -/
def Device.gapOf (s : Device) (n : Nat) : Bool :=
  !s.up ||
    (match s.tr.cyc.shotIn with
      | some k => decide (n ≤ k)
      | none => true)

/-- An exchange that a path-pair interrupts is begun again later. -/
def Device.hwShelve (s : Device) : Device :=
  match s.haw.out with
  | none => s
  | some o =>
    if o.typ = 0x01 then { s with haw := { s.haw with out := none, syncing := o.dst :: s.haw.syncing } }
    else if o.typ = 0x03 then
      { s with haw := { s.haw with out := none, cfgParts := (o.dst, getU o.bytes 4 1) :: s.haw.cfgParts } }
    else { s with haw := { s.haw with out := none } }

/-- A frame is sent once more (R393). -/
def Device.hwAgain (s : Device) (o : Outstanding) : Device :=
  { s with haw := { s.haw with lastTx := o.bytes, out := some { o with tries := o.tries + 1 } } }

/-- The next LOOPCAL of a run, or again the one that was not answered. -/
def Device.loopAsk (s : Device) (r : LoopRun) : Device :=
  if r.bytes = [] then
    let s1 := s.hwAsk r.dst 0x0A []
    { s1 with haw := { s1.haw with loop := some { r with bytes := s1.haw.lastTx } } }
  else
    { s with haw := { s.haw with lastTx := r.bytes, loop := some r, out := some ⟨r.dst, 0x0A, 1, r.bytes, 0⟩ } }

/-- The first secondary of a mask that is synchronised. -/
def Device.loopNext (s : Device) : Option Nat :=
  ((List.range 5).map (· + 1)).find? fun k => bitAt s.haw.loopDue (k - 1) && (s.sec1 k).state == 1

/-- Loop calibration in a gap of 400 µs or more, or in its reserved slot (R398, R508). -/
def Device.loopPump (s : Device) : Device :=
  if !(s.gapOf 14 || s.store.due.getD 2 false) then s
  else
    match s.haw.loop with
    | some r => if (s.sec1 r.dst).state = 1 then s.loopAsk r else { s with haw := { s.haw with loop := none } }
    | none =>
      match s.loopNext with
      | some k =>
        Device.loopAsk { s with haw := { s.haw with loopDue := s.haw.loopDue - 2 ^ (k - 1) } } { dst := k }
      | none => { s with haw := { s.haw with loopDue := 0 } }

/-- The next exchange of the primary's own, if the bus is free for it. -/
def Device.hwPump (s : Device) : Device :=
  if !s.hwFree then s
  else
    match s.haw.syncing with
    | k :: ks => Device.hwAsk (Device.hwBurst { s with haw := { s.haw with syncing := ks } } k) k 0x01 []
    | [] =>
      match s.haw.cfgParts.filter fun p => (s.sec1 p.1).state == 1 with
      | (k, n) :: ps =>
        Device.hwAsk { s with haw := { s.haw with cfgParts := ps } } k 0x03 (leBytes 1 n ++ s.cfgPart k n)
      | [] => Device.loopPump { s with haw := { s.haw with cfgParts := [] } }

/-- In a gap: secondaries that have asked for it are synchronised again where the gap is 2 ms or more (R404). -/
def Device.hwGap (s : Device) : Device :=
  let ks := ((List.range 5).map (· + 1)).filter fun k => (s.sec1 k).resync && (s.sec1 k).state != 3
  if s.hwFree && !s.haw.syncActive && !ks.isEmpty && s.gapOf 66 then
    Device.hwPump { s with haw := { s.haw with syncActive := true, syncing := ks, asked := ks } }
  else s.hwPump

end Sys2Proof.Machine
end

