-- ==== Sys2Proof/Machine/PathInit.lean ====
section
/-! DEFINITION. What a configuration brings to paths and ports (R81, R92, R112, R119, R125, R146, R148). -/

namespace Sys2Proof.Machine

/-- A path's state after a cold start, before it is reinitialised: the template from its mirror, where learning that was
under way begins again, results and runs cleared, an interrupted sweep begun again (R86, R120, R125, R131, R147). -/
def PathState.coldLoad (x : PathState) (now : Nat) : PathState :=
  let y : PathState := { x with
    tpl := x.mirror.unlearnt, res := {}
    health := { x.health with state := 0, retireCause := 0, voidRun := 0 }
    work := { winOpen := x.work.winOpen, activeSince := now, stale := x.work.stale } }
  if x.tune.acquiring then y.startSweep else y

/-- State of PATH_HEALTH for a path in service; a retired one stays so until a cold start (R146). -/
def PathState.inService (x : PathState) : PathState :=
  { x with health := { x.health with
    state := if x.health.state = 3 then 3 else if x.tpl.learned && !x.tune.acquiring then 1 else 2 } }

/-- A path that the list does not name: its entry of PATH_TUNE and its template read 0, what PATH_RESULT and PATH_HEALTH
keep until a cold start stays (R112, R131, R146, R147). -/
def PathState.unused (x : PathState) (cold : Bool) : PathState :=
  let h := x.health
  if cold then { health := { pairs := h.pairs, voidPairs := h.voidPairs, marginalPairs := h.marginalPairs } }
  else { res := x.res, health := { h with state := if h.state = 3 then 3 else 0 } }

/-- First search window of a path that has no transit time yet (R119). -/
def Device.firstWindow (s : Device) (i : Nat) (p : PathP) (x : PathState) : PathState :=
  match (s.conf.calib.path.getD [])[i]? with
  | some c => { x with work := { x.work with winOpen := searchOpen p c s.conf.cls (x.nextDrive p) x.tune.decim 0 } }
  | none => x

/-- Path i under the configuration in force, `old` being what its entry rested on before. A secondary has no list of its
own; it keeps what it has learned of the paths that the primary assigns (R125, R155, R402). -/
def Device.initPath (s : Device) (old : Option PathP × Nat × Option PathCal) (cold : Bool) (i : Nat) (x : PathState) :
    PathState :=
  match s.conf.pathList.at? i with
  | none => if s.secondary then (if cold then x.coldLoad s.land.tick else x) else x.unused cold
  | some p =>
    let y := if cold then s.firstWindow i p (x.coldLoad s.land.tick) else x
    let changed := decide (old ≠ s.conf.pathKey i) || x.tune.pDrv == 0 || x.work.stale
    let z := if changed then reinitPath p ((s.conf.calib.path.getD [])[i]?) s.conf.cls s.land.tick y else y
    z.inService

/-- A path under a new configuration: one whose pair is in flight keeps what the pair was fired with until it is over
(R92). -/
def Device.reconfPath (s : Device) (old : Conf) (cold : Bool) (i : Nat) (x : PathState) : PathState :=
  if !cold && s.tr.cyc.inFlight == some i then
    { x with work := { x.work with stale := x.work.stale || decide (old.pathKey i ≠ s.conf.pathKey i) } }
  else s.initPath (old.pathKey i) cold i x

/-- Port n serves a path: one of this device's list, or on a secondary one that the primary has pushed (R148, R155). -/
def Device.usesPort (s : Device) (n : Nat) : Bool :=
  if s.secondary then s.haw.pushed.any fun q => q.p.ports.contains (s.haw.deviceNo, n)
  else s.conf.pathsIdx.any fun q => q.1.ports.contains (0, n)

/-- A port as the configuration uses it; a retired one stays so until a cold start, which returns every unit to service
(R81, R146, R148). -/
def Port.service (x : Port) (cold used : Bool) : Port :=
  let st := if used then 1 else 0
  if cold then { state := st } else { x with state := if x.state = 2 then 2 else st }

def Device.initPorts (s : Device) (cold : Bool) : Device :=
  { s with tr := { s.tr with
    ports := (s.tr.ports.zipIdx).map fun x => x.1.service cold (s.usesPort x.2)
    secRetired := if cold then [] else s.tr.secRetired } }

def Device.initPaths (s : Device) (old : Conf) (cold : Bool) : Device :=
  Device.initPorts { s with tr := { s.tr with
    paths := (s.tr.paths.zipIdx).map fun x => s.reconfPath old cold x.2 x.1 } } cold

/-- The pair of path i is over: what a commit changed meanwhile takes effect (R92). -/
def Device.settle (s : Device) (i : Nat) : Device :=
  let x := s.pathAt i
  if x.work.stale then s.setPath i fun y => s.initPath (s.conf.pathKey i) false i y else s

end Sys2Proof.Machine
end

