-- ==== Sys2Proof/Machine/Transit.lean ====
section
/-! DEFINITION. The Transit Engine: shot timer, `SHOT` input, path-pairs, probes, external reference, TDC calibration,
ageing correction (R78 to R112, R113 to R131, R138, R149 to R154). -/

namespace Sys2Proof.Machine

/-! ## Firing (R113, R115, R149, R400) -/

/-- Gain, level and window opening that the coming pair of path i is fired with: the path's own, or those of a probe
(R138). -/
def Device.shotSettings (s : Device) (i : Nat) (probe : Bool) : Nat × Nat × Nat :=
  let p := s.conf.pathList.paths.getD i {}
  let x := s.pathAt i
  if probe then (120, p.driveMax, firstOpen p (s.conf.pathCal i) x.tune.pDrv x.tune.decim 360)
  else (x.tune.gain, x.tune.level, x.work.winOpen)

/-- The payload of FIRE (R392). A probe asks for no result: it has no template (R138; DEDUCED, log 20). `win_open` counts in
the secondary's own counter, so that both windows of a path across devices open together (R402; DEDUCED, log 28). -/
def Device.fireFrame (s : Device) (i : Nat) (last probe : Bool) : Bytes :=
  let p := s.conf.pathList.paths.getD i {}
  let x := s.pathAt i
  let t := x.tune
  let g := s.shotSettings i probe
  leBytes 1 i ++ leBytes 1 (bitVal t.parity 0 + bitVal p.brake 1 + bitVal last 2 + bitVal (x.work.sweeping || probe) 3) ++
  leBytes 2 (if probe then t.pDrv else x.nextDrive p) ++ leBytes 1 g.1 ++ leBytes 1 g.2.1 ++ leBytes 1 p.pulses ++
  leBytes 1 t.decim ++ leBytes 1 (p.winLen / 256) ++ leBytes 3 (if p.crossChip then g.2.2 - syncLag else g.2.2)

/-- Paths that accepted pulses of the external mode fire: the active ones that can be fired, and could as the running cycle
began (R149, R404, R406). -/
def Device.extPaths (s : Device) : List Nat :=
  (s.activePaths.filter s.fireable).filter fun i => !(s.tr.cyc.running && s.tr.cyc.barred.contains i)

/-- Paths that the cycle has still to fire after path i. -/
def Device.stillToFire (s : Device) (i : Nat) : List Nat :=
  if s.conf.shot.external then s.extPaths.filter fun j => j != i && !s.tr.cyc.fired.contains j
  else s.tr.cyc.toFire

/-- FIRE, and MARK after it on a path across devices (R400). "Last of cycle" is said of the secondary that it addresses,
which may rest after it (R392, R394; DEDUCED, log 28). -/
def Device.fireRemote (s : Device) (i : Nat) : Device :=
  let p := s.conf.pathList.paths.getD i {}
  match p.remotes with
  | [] => s
  | k :: _ =>
    let last := !(s.stillToFire i).any fun j => ((s.conf.pathList.paths.getD j {}).remotes).contains k
    let s1 := s.hwShelve.hwAsk k 0x04 (s.fireFrame i last s.tr.cyc.probe)
    if p.crossChip then s1.hwSend k 0x05 [] else s1

/-- Path i goes into flight, with what it is fired with (R92). -/
def Device.launch (s : Device) (i : Nat) : Device :=
  let c := s.tr.cyc
  let probe := c.probePath == some i
  let s1 := { s with tr := { s.tr with cyc := { c with inFlight := some i, probe := probe, key := some (s.conf.pathKey i) } } }
  s1.toRun.fireRemote i

/-- The next path of the cycle, or its end (R113). -/
def Device.fireNext (s : Device) : Device :=
  match s.tr.cyc.toFire with
  | [] => { s with tr := { s.tr with cyc := { s.tr.cyc with complete := true } } }
  | i :: is => Device.launch { s with tr := { s.tr with cyc := { s.tr.cyc with toFire := is } } } i

/-- Nothing is in flight on path i any more, and what a commit changed meanwhile takes effect (R92). -/
def Device.landPair (s : Device) (i : Nat) : Device :=
  Device.settle { s with tr := { s.tr with cyc := { s.tr.cyc with
    inFlight := none, probe := false, extPair := false, key := none } } } i

/-- The gap that has waited for the pair in flight closes, after what the calendar lane has at the tick; while metering is not
live nothing is admitted (R12, R170, R171, R223, R244). -/
def Device.closeWaiting (s : Device) : Device := if s.live then (s.boundaryFirst.closeGap).recond else s

/-- The path-pair in flight is over: the next one starts, or the cycle ends (R113, R114, R149). In the external mode a
path that cannot be fired is not waited for. -/
def Device.endPair (s : Device) : Device :=
  let c := s.tr.cyc
  match c.inFlight with
  | none => s
  | some i =>
    let s1 := s.landPair i
    if s.conf.shot.external then
      let f := c.fired ++ [i]
      if s1.extPaths.all f.contains then
        { s1 with tr := { s1.tr with
          cyc := { s1.tr.cyc with fired := [], complete := true }
          ext := { s1.tr.ext with nextPath := 0 } } }
      else
        let s2 := { s1 with tr := { s1.tr with cyc := { s1.tr.cyc with fired := f } } }
        if s2.flow.gapWait then s2.closeWaiting else s2
    else if s.on .transit then s1.fireNext
    else { s1 with tr := { s1.tr with cyc := { s1.tr.cyc with toFire := [], complete := true } } }

/-- The end of a path-pair, and the Hawser's use of the gap that may follow. -/
def Device.afterPair (s : Device) : Device := s.endPair.hwGap

/-! ## Start of a cycle (R97, R102 to R106, R138) -/

/-- The probe of the coming cycle: the lowest active path on which its window closes in time (R138). -/
def Device.probeChoice (s : Device) : Option Nat :=
  let v := s.tr.cs.voidCycles
  if liquidClass s.conf.cls && !s.tr.cs.emptyPipe && decide (8 ≤ v) && decide ((v - 6) % 16 = 0) then
    s.activePaths.find? fun i =>
      let p := s.conf.pathList.paths.getD i {}
      let t := (s.pathAt i).tune
      decide (firstOpen p (s.conf.pathCal i) t.pDrv t.decim 360 ≤ latestOpen p t.decim)
  else none

/-- A calibration set completed before becomes active (R97), and the ageing correction in force is taken: a secondary's is
the value pushed last (R102, R395). -/
def Device.takeSets (s : Device) : Device :=
  let t := s.tr
  { s with tr := { t with
    tdc := if t.tdc.shadowReady then { t.tdc with act := t.tdc.shadow, shadowReady := false } else t.tdc
    tb := { t.tb with corrInForce := if s.secondary then s.haw.hfxCorr else t.tb.hfxCorr } } }

/-- What a cycle takes at its start; it is numbered, and its deliveries start empty. -/
def Device.openCycle (s0 : Device) : Device :=
  let s := s0.takeSets
  let t := s.tr
  let pr := s.probeChoice
  { s with tr := { t with
    cyc := { t.cyc with seq := t.cyc.seq + 1, running := true, startOsc := s.land.osc, probePath := pr }
    paths := (t.paths.zipIdx).map fun p =>
      { p.1 with work := { p.1.work with delivered := false, noArm := p.1.work.noArm && pr == some p.2 } } } }

/-- The check of R103: the HFX count over 256 edges, none where they did not arrive in time. -/
def refPass (ref : Option Nat) : Bool :=
  match ref with
  | some n => decide (1534 ≤ n ∧ n ≤ 1538)
  | none => false

/-- Fallback begins (R105). -/
def Device.enterFallback (s : Device) : Device :=
  let b := s.tr.tb
  let n := satInc b.lossCount
  let s1 := { s with tr := { s.tr with tb := { b with
    refinActive := false, fallback := true, lossCount := n, passRun := 0 } } }
  (s1.degrade fun d => { d with refin := true }).journal 0x103 n 0

/-- Fallback ends at the 64th pass; the relock follows at the next cycle (R105). -/
def Device.leaveFallback (s : Device) : Device :=
  let s1 := { s with tr := { s.tr with tb := { s.tr.tb with fallback := false, relock := true, passRun := 0 } } }
  (s1.degrade fun d => { d with refin := false }).journal 0x104 0 0

/-- A failed check is counted (R105). -/
def Device.refFailed (s : Device) : Device :=
  let b := s.tr.tb
  let s1 := { s with tr := { s.tr with tb := { b with
    failRun := satAdd 8 b.failRun 1, failCount := satInc b.failCount, passRun := 0 } } }
  if !b.fallback && s.conf.system.refinFallbackEn && decide (8 ≤ s1.tr.tb.failRun) then s1.enterFallback else s1

/-- The reference at the start of a cycle: the device, and whether the cycle runs (R103 to R106). A check that passes ends
the run of failed ones, also in a cycle that loses `REF_IN` later (R104), whose loss begins a new run (DESIGN CHOICE,
log 20). -/
def Device.refCheck (s : Device) (ref : Option Nat) : Device × Bool :=
  if !s.tr.tb.refinSel then (s, true)
  else
    let b := s.tr.tb
    let s0 := if b.relock then { s with tr := { s.tr with tb := { b with relock := false, refinActive := true } } } else s
    if refPass ref then
      let b := s0.tr.tb
      let n := b.passRun + 1
      let s1 := { s0 with tr := { s0.tr with tb := { b with failRun := 0, passRun := n } } }
      (if b.fallback && n == 64 then s1.leaveFallback else s1, true)
    else
      let s1 := s0.refFailed
      (s1, s1.tr.tb.fallback)

/-- The shot timer has expired in the internal mode. -/
def Device.shotDue (s : Device) : Bool :=
  s.tolling && !s.conf.shot.external && s.tr.cyc.shotIn == some 0

/-- In a cycle that finds the Hawser of a primary not ON no secondary answers, and each expected one misses (R405, R517). -/
def Device.hwSilent (s : Device) : Device :=
  if s.haw.role = 1 ∧ s.on .hawser = false then
    (((List.range 5).map (· + 1)).filter fun k => bitAt s.haw.expected (k - 1)).foldl Device.hwMissed s
  else s

/-- A measurement cycle begins (R113). -/
def Device.beginCycle (s : Device) (ref : Option Nat) : Device :=
  let s1 := s.openCycle.hwSilent
  let r := s1.refCheck ref
  if r.2 then
    let fire := r.1.activePaths.filter r.1.fireable
    Device.fireNext { r.1 with tr := { r.1.tr with cyc := { r.1.tr.cyc with toFire := fire } } }
  else { r.1 with tr := { r.1.tr with cyc := { r.1.tr.cyc with running := false, probePath := none } } }

/-- The shot timer restarts with the period of the level in force (R179); a brought-forward cycle counts (R142). -/
def Device.restartShot (s : Device) : Device :=
  let c := s.tr.cyc
  let cs := s.tr.cs
  Device.armWake { s with tr := { s.tr with
    cyc := { c with shotIn := some (shotPeriod s.conf.shot c.level), broughtForward := false }
    cs := if c.broughtForward then { cs with retryRun := satAdd 8 cs.retryRun 1 } else cs } }

/-- The shot timer expires: with the Transit Engine not ON no cycle starts (R26). -/
def Device.shotExpire (s : Device) (ref : Option Nat) : Device :=
  let s1 := s.restartShot
  if s1.on .transit && !s1.tr.cyc.running then s1.beginCycle ref else s1

/-- SHOT_TIMER_EXPIRY (R113); `ref` is the count of R103. -/
def execShotTimerExpiry (dt : Nat) (ref : Option Nat) (s : State) : Host.Outcome State Fault Refusal :=
  let d := (s.dev.elapse dt).woken 2
  .next { s with dev := if d.shotDue then d.shotExpire ref else d }

/-! ## External `SHOT` (R149 to R152) -/

/-- The next path of the external mode: the first active one at or after `next_path`, wrapping. -/
def Device.extPath (s : Device) : Option Nat :=
  let a := s.extPaths
  match a.find? (fun i => decide (s.tr.ext.nextPath ≤ i)) with
  | some i => some i
  | none => a.head?

/-- `next_path` as EXT_SHOT shows it: 0 as a cycle begins, otherwise the path that the next accepted pulse fires (R154). -/
def Device.nextShown (s : Device) : Nat := if s.tr.ext.nextPath = 0 then 0 else s.extPath.getD 0

/-- A cycle of the external mode that is not run: its check has failed (R105). -/
def Device.extSkip (s : Device) : Device :=
  { s with tr := { s.tr with cyc := { s.tr.cyc with running := false, probePath := none } } }

/-- Path i is fired for an accepted pulse, and `next_path` moves on among the paths that can be fired (R149, R154). -/
def Device.extFire (s : Device) (i : Nat) : Device :=
  let nxt := (s.extPaths.find? fun j => decide (i < j)).getD 0
  Device.launch { s with tr := { s.tr with
    cyc := { s.tr.cyc with extPair := true }, ext := { s.tr.ext with nextPath := nxt } } } i

/-- A cycle of the external mode begins with the paths that can be fired now (R406). -/
def Device.barCycle (s : Device) : Device :=
  { s with tr := { s.tr with cyc := { s.tr.cyc with barred := s.activePaths.filter fun i => !s.fireable i } } }

/-- An accepted pulse (R150). The first of a cycle begins the cycle, with the check of R103; where that fails, and where no
active path can be fired, which the rules do not speak of, the pulse is accepted and its token gone, and no pair is fired;
`BUSY`, high for the pulse, falls with the skipped cycle within the same command (R49, R150; DESIGN CHOICE, log 20). -/
def Device.extAccept (s : Device) (ref : Option Nat) : Device :=
  let e := s.tr.ext
  let s0 := { s with tr := { s.tr with ext := { e with tokens := e.tokens - 65536, accepted := satInc e.accepted } } }
  match s0.extPath with
  | none => s0
  | some i =>
    if s0.tr.cyc.running then s0.extFire i
    else
      let r := s0.barCycle.openCycle.refCheck ref
      if r.2 then r.1.extFire i else r.1.extSkip

/-- A pulse refused under a field of EXT_SHOT. -/
def Device.extRefuse (s : Device) (f : ExtShot → ExtShot) : Device :=
  Device.refuse { s with tr := { s.tr with ext := f s.tr.ext } } 0

/-- A due background item holds the Transit Engine (R507): a calibration step. -/
def Device.bgHolds (s : Device) : Bool := s.store.due.getD 0 false

/-- The tests of R150 in their order. -/
def Device.shotEdge (s : Device) (ref : Option Nat) : Device :=
  if !s.on .transit then s.refuse 8
  else if !s.conf.shot.external then s.extRefuse fun e => { e with refusedMode := satInc e.refusedMode }
  else if s.tr.cyc.inFlight.isSome then s.extRefuse fun e => { e with refusedBusy := satInc e.refusedBusy }
  else if s.bgHolds then s.extRefuse fun e => { e with refusedBg := satInc e.refusedBg }
  else if s.tr.ext.tokens < 65536 then s.extRefuse fun e => { e with refusedRate := satInc e.refusedRate }
  else s.extAccept ref

/-- SHOT_RISING_EDGE (R150). In HIBERNATE, in SHIP and without supply `SHOT` is not sampled (R34). -/
def execShotRisingEdge (e : ShotEdge) (s : State) : Host.Outcome State Fault Refusal :=
  let d := (s.dev.elapse e.dt).woken 3
  let sampled := match d.power.st with
    | .nap | .doze | .run => true
    | _ => false
  .next { s with dev := if sampled && !d.power.holdDue then d.shotEdge e.ref else d }

/-! ## PATH_PAIR_DONE (R115 to R131) -/

/-- A stamp of a Hawser timing edge in fine LSB, under the active calibration set (R93, R95, R391). -/
def Device.edge (s : Device) (r : RawStamp) : Nat := (s.tr.tdc.act.stamp r).toNat

/-- What the pair of path i was fired with: the path's fields, the medium class, the calibration entry (R92). -/
def Device.flightKey (s : Device) (i : Nat) : Option PathP × Nat × Option PathCal :=
  s.tr.cyc.key.getD (s.conf.pathKey i)

/-- What a pair of path i is measured with at a primary or a standalone device. -/
def Device.pairCtx (s : Device) (i : Nat) : PairCtx :=
  let k := s.flightKey i
  { idx := i, p := k.1.getD {}, l := s.conf.pathList, cal := k.2.2.getD ⟨0, 0, 0, 0⟩, cls := k.2.1,
    set := s.tr.tdc.act, corr := if s.tr.tb.refinActive then 0 else s.tr.tb.corrInForce, seq := s.tr.cyc.seq,
    now := s.land.tick, free := Config.freeValue s.free }

/-- What a pair of path i is measured with at a secondary: pushed parameters (R395, R400). -/
def Device.jobCtx (s : Device) (j : FireJob) : PairCtx :=
  let p := (s.haw.pushed.find? (·.path == j.path)).getD { path := j.path }
  { idx := j.path
    p := { p.p with pulses := j.pulses, brake := j.brake, winLen := j.winLen }
    l := s.haw.pushedThr, cal := ⟨p.tOfs, p.pathLen, 0, 0⟩, cls := s.haw.pushedCls, set := s.tr.tdc.act,
    corr := if s.tr.tb.refinActive then 0 else s.tr.tb.corrInForce, seq := s.tr.cyc.seq, now := s.land.tick
    free := Config.freeValue s.free, drive := some j.pDrv }

/-- The record of a port after a pair (R144, R148). -/
def Port.note (p : Port) (e : Nat) : Port :=
  { p with elec := e, elecRun := if e = 0 then 0 else if e = p.elec then satAdd 8 p.elecRun 1 else 1 }

/-- Electrical results of a pair's two ports, recorded (R144); an echo path drives one port. -/
def Device.notePorts (s : Device) (p : PathP) (no : Nat) (cap : PairCapture) : Device × Bool :=
  let up := p.devUp == no
  let down := p.devDown == no && !p.echo
  let a := if up then elecOf cap.currentUp else 0
  let b := if down then elecOf cap.currentDown else 0
  let s1 := if up then s.setPort p.portUp (·.note a) else s
  let s2 := if down then s1.setPort p.portDown (·.note b) else s1
  (s2, a != 0 || b != 0)

/-- Counts of the pairs that bring calibration on, and of coarse overflows (R96, R99). -/
def Device.countPair (s : Device) (overflow : Bool) : Device :=
  { s with
    free := s.free + 2
    tr := { s.tr with
      tdc := { s.tr.tdc with pairsSpan := s.tr.tdc.pairsSpan + 1, pairsFull := s.tr.tdc.pairsFull + 1 }
      tb := if overflow then { s.tr.tb with tdcOvf := satInc s.tr.tb.tdcOvf } else s.tr.tb } }

/-- An ordinary pair of a path of this device. -/
def Device.ownPair (s : Device) (i : Nat) (cap : PairCapture) : Device :=
  let c := s.pairCtx i
  let n := s.notePorts c.p 0 cap
  let r := pairDone c (s.pathAt i) cap n.2
  let s1 := ((n.1.countPair cap.overflow).setPath i fun _ => r.s).pairSeen i
  if r.relearn = 0 then s1 else s1.journal 0x105 i r.relearn

/-- Speed of sound of an empty-pipe probe: sixteen crossings from the first stamped, gain band 7 (R116, R117, R138);
none without an arrival in both directions, or with a pair that is VOID for overflow or an electrical fault. -/
def probeSos (c : PairCtx) (s : PathState) (start : RawStamp × RawStamp) (ud du : Recv) : Option Nat :=
  let six := fun (r : Recv) => r.stamps.take 16
  let onA := c.p.udOnA s.tune.parity
  if (six ud).length != 16 || (six du).length != 16 then none
  else
    let bu := transitT (sumInt (six ud)) (c.set.stamp start.1) (delayUd c.set onA 7) c.cal.tOfs
    let bd := transitT (sumInt (six du)) (c.set.stamp start.2) (delayDu c.set onA 7) c.cal.tOfs
    if c.p.echo then some (timesEcho c.corr c.cal.pathLen bu).sos else some (timesOf c.corr c.cal.pathLen bu bd).sos

/-- A probe pair is over: parity and count of fired pairs (R79, R147); where a chain armed, the peak, and gain and level
reckoned from those that the probe was fired with (R91, R112). -/
def PathState.probed (x : PathState) (p : PathP) (armed : Bool) (peak : Nat) (clipped : Bool) : PathState :=
  let y := { x with health := { x.health with pairs := satInc x.health.pairs } }
  let t := { y.tune with gain := if armed then 120 else y.tune.gain, level := if armed then p.driveMax else y.tune.level }
  PathState.gainAfter { y with tune := t } p armed peak clipped

/-- The outcome of a probe (R138). That two good probes are consecutive though other cycles, or the end of a run of probes,
lie between them is the model's reading (DEDUCED, log 20). -/
def Device.probeEnd (s : Device) (good : Bool) : Device :=
  let cs := s.tr.cs
  if good then
    let s1 := { s with tr := { s.tr with cs := { cs with airProbes := cs.airProbes + 1, noSignal := false } } }
    if 2 ≤ s1.tr.cs.airProbes ∧ s1.tr.cs.emptyPipe = false then s1.emptyOn else s1
  else { s with tr := { s.tr with cs := { cs with airProbes := 0, noSignal := true } } }

/-- A speed of sound that is that of air (R138). -/
def Device.isAir (s : Device) (sos : Option Nat) : Bool :=
  match sos with
  | some c => let x := c20Of c s.thetaM; decide (336 * 65536 ≤ x ∧ x ≤ 350 * 65536)
  | none => false

/-- A probe pair of this device completes (R138). -/
def Device.probePair (s : Device) (i : Nat) (cap : PairCapture) : Device :=
  let c := s.pairCtx i
  let x := s.pathAt i
  let n := s.notePorts c.p 0 cap
  let o := firstOpen c.p c.cal x.tune.pDrv x.tune.decim 360
  let ra := receive c.set c.p o x.tune.decim x.tune.lastPeak cap.chainA
  let rb := receive c.set c.p o x.tune.decim x.tune.lastPeak cap.chainB
  let onA := c.p.udOnA x.tune.parity
  let ud := recvUd onA ra rb
  let du := recvDu c.p.echo onA ra rb
  let sos := if cap.overflow || n.2 then none else probeSos c x (cap.startUp, cap.startDown) ud du
  let s1 := (n.1.countPair cap.overflow).setPath i fun y =>
    y.probed c.p (ud.armed || du.armed) (max ud.peak du.peak) (ud.clipped || du.clipped)
  s1.probeEnd (s1.isAir sos)

/-- A probe of path i that a secondary took part in, or that was voided, has no arrival: no frame carries the first
crossing after arming (R138, R392; DEDUCED, log 20). -/
def Device.probeLost (s : Device) (i : Nat) : Device :=
  (s.setPath i fun y => y.probed (s.pairCtx i).p false 0 false).probeEnd false

/-- The tuning that a FIRE frame gives takes the place of the path's own at a secondary. The first FIRE after a sweep
whose drive period lies more than 4 % from that of the template discards the template (R124); a single FIRE without result
is a probe (R138; DEDUCED, log 28). -/
def PathState.forJob (p : PathState) (j : FireJob) : PathState :=
  let far := decide (16 ≤ p.work.sweepShots) && !j.noResult && p.tpl.learned &&
    decide (4 * p.tpl.pLearn < 100 * ((j.pDrv : Int) - p.tpl.pLearn).natAbs)
  { p with
    tpl := if far then p.tpl.discard else p.tpl
    tune := { p.tune with pDrv := j.pDrv, gain := j.gain, level := j.level, decim := j.decim, parity := j.parity }
    work := { p.work with winOpen := j.winOpen, found := true, sweeping := j.noResult, sweepStep := 0
                          sweepShots := if j.noResult then min (p.work.sweepShots + 1) 16 else 0 } }

/-- RESULT goes to the primary (R400). -/
def Device.sendResult (s : Device) (i prx : Nat) (r : PathResult) : Device :=
  s.hwSend 0 0x07 (leBytes 1 i ++ leBytes 2 prx ++ r.bytes)

/-- RESULT of a path wholly on this secondary (R400). -/
def Device.jobResult (s : Device) (j : FireJob) (cap : PairCapture) : Device :=
  let c := s.jobCtx j
  let n := s.notePorts c.p s.haw.deviceNo cap
  let r := pairDone c ((s.pathAt j.path).forJob j) cap n.2
  let prx := if r.s.res.grade == Grade.valid then rne r.num r.den else j.pDrv
  let s1 := (n.1.countPair cap.overflow).setPath j.path fun _ =>
    { r.s with work := { r.s.work with sweeping := j.noResult } }
  s1.sendResult j.path (fitU 38 16 prx) r.s.res

/-- HALF of a path across devices (R400, R402), once MARK has been stamped. -/
def Device.jobHalf (s : Device) (j : FireJob) (r2 : Nat) (cap : PairCapture) : Device :=
  let c := s.jobCtx j
  let n := s.notePorts c.p s.haw.deviceNo cap
  let up := c.p.devUp == s.haw.deviceNo
  -- port_up receives du on chain A with parity 0, port_down receives ud on chain B (R79)
  let onA := if up then !j.parity else j.parity
  let rc := receive c.set c.p j.winOpen j.decim (s.pathAt j.path).tune.lastPeak (if onA then cap.chainA else cap.chainB)
  let h := halfPair c ((s.pathAt j.path).forJob j) rc (if up then 2 else 1)
    ((if cap.overflow then [11] else []) ++ if n.2 then [13] else []) j.noResult none
  let start := c.set.stamp (if up then cap.startUp else cap.startDown)
  let band := gainBand j.gain
  let delay := (if onA then c.set.delayA else c.set.delayB).getD band 0
  let st := h.s
  -- the pair's own grade is the primary's; here the direction that this device receives is booked (R121, R147; log 28)
  let g : Grade := if h.causes ≠ [] then .void else if h.marginal then .marginal else .valid
  let s1 := (n.1.countPair cap.overflow).setPath j.path fun _ =>
    PathState.book { st with
      tune := { st.tune with lastPeak := if rc.armed then min rc.peak 65535 else st.tune.lastPeak } } c g j.noResult
      (lowest h.causes)
  s1.hwSend 0 0x06 (leBytes 1 j.path ++ leBytes 1 (lowest h.causes) ++ leBytes 6 h.m.sum16.toNat ++
    leBytes 6 start.toNat ++ leBytes 6 j.r1 ++ leBytes 6 r2 ++ leBytes 4 delay ++ leBytes 2 rc.peak ++
    leBytes 1 (fitU 28 8 h.m.snr.1) ++ leBytes 2 (fitU 29 16 (openRound 18 h.m.rho (2 ^ 48))) ++
    leBytes 1 (fitU 30 8 (openRound 19 h.m.slip (2 ^ 56))) ++ leBytes 2 (fitU 38 16 (rne h.m.span15 1920)))

/-- A pair that this secondary runs for the primary completes, and is answered; one across devices whose MARK did not come
has no answer. -/
def Device.jobDone (s : Device) (j : FireJob) (cap : PairCapture) : Device :=
  let s1 := Device.fireAnswered { s with haw := { s.haw with job := none } } j.last
  let p := (s.haw.pushed.find? (·.path == j.path)).getD { path := j.path }
  if p.p.crossChip then
    match j.r2 with
    | some r2 => s1.jobHalf j r2 cap
    | none => (s1.notePorts p.p s.haw.deviceNo cap).1.countPair cap.overflow
  else s1.jobResult j cap

/-- PATH_PAIR_DONE (R115): the pair in flight completes. A pair that involves a secondary completes at the primary with
RESULT or HALF. -/
def execPathPairDone (dt : Nat) (cap : PairCapture) (s : State) : Host.Outcome State Fault Refusal :=
  let d := s.dev.elapse dt
  .next { s with dev :=
    if d.secondary then
      match d.haw.job with
      | some j => d.jobDone j cap
      | none => d
    else
      match d.tr.cyc.inFlight with
      | some i =>
        if ((d.flightKey i).1.getD {}).isLocal then
          (if d.tr.cyc.probe then d.probePair i cap else d.ownPair i cap).afterPair
        else d
      | none => d }

/-! ## REF_IN_LOSS (R104) -/

/-- The entry of a pair that is voided with cause 12. It has no capture, so its diagnostic fields are free (log 5). -/
def lostResult (v seq : Nat) : PathResult :=
  { grade := .void, voidCause := 12, snr := v % 256, rho := v / 256 % 65536, peakUd := v / 2 ^ 24 % 65536
    peakDu := v / 2 ^ 40 % 65536, slip := v / 2 ^ 56 % 256, cycleSeq := wrapU 16 seq }

/-- The pair in flight is voided with cause 12: it was fired and counts as a VOID pair, and a
search goes on (R79, R104, R119, R129). -/
def PathState.refLost (p : PathState) (c : PairCtx) (v : Nat) : PathState :=
  let q : PathState := { p with tune := { p.tune with parity := !p.tune.parity }, res := lostResult v c.seq }
  (q.place c false 0 false 0).book c .void p.work.sweeping 12

/-- A loss of the reference during a shot: the pair is voided, the rest is not fired, the cycle counts as a failed
check (R104, R105). In the external mode the cycle ends with it (R154). -/
def Device.refLoss (s : Device) (i : Nat) : Device :=
  let v := s.draw
  let s1 := if s.tr.cyc.probe then s.probeLost i else v.2.setPath i fun p => p.refLost (s.pairCtx i) v.1
  let s2 := (s1.countPair false).landPair i
  let s3 := { s2 with tr := { s2.tr with
    cyc := { s2.tr.cyc with toFire := [], fired := [], complete := true }
    ext := { s2.tr.ext with nextPath := 0 } } }
  s3.refFailed

/-- On a secondary the pair of the running job is voided, and later ones of the primary's cycle are not run: its answer
carries cause 12, and free values where nothing was measured (R104, R131, R147, R155; log 5). -/
def Device.refLossJob (s : Device) (j : FireJob) : Device :=
  let v := s.draw
  let c := s.jobCtx j
  let s0 := v.2.setPath j.path fun p => (p.forJob j).refLost c v.1
  let s1 := ((Device.countPair { s0 with haw := { s0.haw with
    job := none, cycle := if s0.haw.cycle = 0 then 0 else 2 } } false).fireAnswered j.last).refFailed
  if c.p.crossChip then
    s1.hwSend 0 0x06 (leBytes 1 j.path ++ leBytes 1 12 ++ leBytes 6 v.1 ++ leBytes 6 (Config.freeValue (s.free + 1)) ++
      leBytes 6 j.r1 ++ leBytes 6 (j.r2.getD (j.r1 + 65536 * 8192)) ++ leBytes 4 (v.1 / 2 ^ 48) ++
      leBytes 2 (v.1 / 2 ^ 80) ++ leBytes 1 (v.1 / 2 ^ 96) ++ leBytes 2 (v.1 / 2 ^ 104) ++ leBytes 1 (v.1 / 2 ^ 120) ++
      leBytes 2 (v.1 / 2 ^ 128))
  else s1.sendResult j.path j.pDrv (lostResult v.1 s.tr.cyc.seq)

/-- REF_IN_LOSS (R104): during a shot on `REF_IN`, eight HFX cycles pass without a rising edge. -/
def execRefInLoss (dt : Nat) (s : State) : Host.Outcome State Fault Refusal :=
  let d := s.dev.elapse dt
  .next { s with dev :=
    if d.tr.tb.refinActive then
      match d.tr.cyc.inFlight, d.haw.job with
      | some i, _ => d.refLoss i
      | none, some j => d.refLossJob j
      | none, none => d
    else d }

/-! ## Ageing correction (R101) -/

/-- eps of R101 as rounded to hfx_corr, before the clamp: ln within 1 LSB of 2^-40. -/
def ageEps (a : AgeCal) (d : Nat) : Int :=
  let tau := max a.tau 1
  let l0 := lnFix (tau + d) tau / 2 ^ (fixP - 40)
  let l := if Config.lnUp d tau then l0 + 1 else l0
  -- eps0 + lin d + log × l 2^-40, rounded once
  rne ((a.eps0 + a.lin * d) * 2 ^ 40 + a.log * l) (2 ^ 40)

/-- d of R101 at a tick. -/
def ageDays (a : AgeCal) (t : Nat) : Nat := (t - a.calTime) / tpd

/-- The clamp of R101: ±100 ppm. -/
def corrMax : Int := 109951163

def clampCorr (x : Int) : Int := max (-corrMax) (min x corrMax)

/-- Each secondary's value, recomputed and pushed in a CFG frame of part 0 (R395). -/
def Device.pushCorr (s : Device) : Device :=
  let val := fun (k : Nat) => let a := s.conf.calib.secClock.getD k {}; clampCorr (ageEps a (ageDays a s.land.tick))
  let ks := (List.range 5).filter fun k => (s.sec1 (k + 1)).state == 1
  let old := s.haw.cfgParts.filter fun p => p.2 != 0
  Device.hwPump { s with haw := { s.haw with
    secs := (s.haw.secs.zipIdx).map fun x => { x.1 with hfxCorr := val x.2 }
    cfgParts := old ++ ks.map fun k => (k + 1, 0) } }

/-- The correction is computed afresh while time is trusted, held otherwise (R101). Days beyond 65 535 show in
`hfx_age_days` modulo 2^16: the rule names neither wrap nor saturation (DESIGN CHOICE, log 20). -/
def Device.ageRecompute (s : Device) : Device :=
  if s.secondary then s
  else if s.trusted then
    let a := s.conf.calib.age
    let n := ageDays a s.land.tick
    let e := ageEps a n
    let c := clampCorr e
    let beyond := e != c
    let s1 := { s with tr := { s.tr with tb := { s.tr.tb with
      hfxCorr := c, ageDays := wrapU 16 n, corrHeld := false, corrClamped := beyond } } }
    let s2 := if beyond then s1.journal 0x102 (bitsOf 32 c) n else s1
    if s2.haw.role = 1 then s2.pushCorr else s2
  else { s with tr := { s.tr with tb := { s.tr.tb with corrHeld := true } } }

/-- Alarm slot 1 waits for the next 00:00:00 UTC (R101, R318; log 22). -/
def Device.armMidnight (s : Device) : Device :=
  if s.secondary then s else s.arm 1 ((s.land.tick / tpd + 1) * tpd) false

/-- HFX_CORR_RECOMPUTE (R101, R318): alarm slot 1 has fired; the other occasions belong to the steps that bring them. -/
def execHfxCorrRecompute (dt : Nat) (s : State) : Host.Outcome State Fault Refusal :=
  let d := (s.dev.elapse dt).woken 1
  .next { s with dev := if d.up && !d.secondary && d.fired 1 then d.ageRecompute.armMidnight else d }

/-! ## TDC calibration (R96 to R98) -/

/-- The triggers of R96: 1 a span run, 2 a full run. -/
def Tdc.trigger (t : Tdc) (temp : Int) : Nat :=
  if 2 ^ 20 ≤ t.pairsFull ∨ 8 * 256 ≤ (temp - t.fullTemp).natAbs then 2
  else if 4096 ≤ t.pairsSpan ∨ 2 * 256 ≤ (temp - t.spanTemp).natAbs then 1
  else 0

/-- A calibration becomes background work of the Transit Engine. -/
def Device.calDue (s : Device) (kind : Nat) : Device :=
  { s with tr := { s.tr with tdc := { s.tr.tdc with due := max s.tr.tdc.due kind } } }

/-- TDC_CAL_TRIGGER (R96): a trigger of the pair counts or of the on-die temperature, in 2^-8 °C. -/
def execTdcCalTrigger (dt : Nat) (dieTemp : Int) (s : State) : Host.Outcome State Fault Refusal :=
  let d := s.dev.elapse dt
  let k := d.tr.tdc.trigger dieTemp
  .next { s with dev :=
    if d.up && d.on .transit && k != 0 then
      Device.calDue { d with land := { d.land with dieTemp := dieTemp } } k
    else d }

/-- `seg_edge` from the hits gathered (R96). -/
def segEdges (hits : List Nat) : List Nat :=
  (List.range 97).map fun s => sumNat (hits.take s) * 8192

/-- A run is over: the set that it built is rejected, or becomes the shadow set (R97, R98). -/
def Device.endCalRun (s : Device) (full ok : Bool) : Device :=
  let t := s.tr.tdc
  let t1 := { t with due := 0, stepsDone := 0, hits := [], build := {} }
  if ok then
    let temp := s.land.dieTemp
    let t2 := if full then
        { t1 with
          shadow := { t.build with calTick := s.land.tick, calDieTemp := clampS 8 (openRound 39 temp 256) }
          calCount := satInc t1.calCount, failRun := 0, fault := false, pairsFull := 0, pairsSpan := 0
          fullTemp := temp, spanTemp := temp, shadowReady := true }
      else { t1 with shadow := t.build, pairsSpan := 0, spanTemp := temp, shadowReady := true }
    let s1 := { s with tr := { s.tr with tdc := t2 } }
    if full then s1.degrade fun d => { d with tdcFault := false } else s1
  else
    let n := satAdd 7 t1.failRun 1
    let s1 := { s with tr := { s.tr with tdc := { t1 with failRun := n, due := if full then 2 else 1 } } }
    if 3 ≤ n ∧ t1.fault = false then
      ({ s1 with tr := { s1.tr with tdc := { s1.tr.tdc with fault := true } } }.degrade
        fun d => { d with tdcFault := true }).journal 0x101 n 0
    else s1

/-- The set that a run builds on: at its start the one that waits, or else the active set. -/
def Tdc.base (t : Tdc) : TdcSet :=
  if t.stepsDone = 0 then (if t.shadowReady then t.shadow else t.act) else t.build

/-- `raw_span_now` is acceptable (R98). A full run sets the reference anew, so that only its range binds before a
reference exists. -/
def spanOk (act : TdcSet) (raw : Nat) : Bool :=
  decide (8192 ≤ raw ∧ raw ≤ 12287) &&
    (act.rawSpanRef == 0 || decide (50 * ((raw : Int) - act.rawSpanRef).natAbs ≤ act.rawSpanRef))

/-- One step of a calibration (R96): steps come as span, density 1 to 16, loopback of bands 0 to 7. -/
def Device.calStepRun (s : Device) (x : CalStep) : Device :=
  let t := s.tr.tdc
  let full := t.due == 2
  let n := t.stepsDone
  let b := t.base
  let put := fun (sh : TdcSet) (hits : List Nat) (done : Nat) =>
    { s with tr := { s.tr with tdc := { t with build := sh, hits := hits, stepsDone := done } } }
  match x with
  | .span raw =>
    if n = 0 then
      if spanOk t.act raw then
        let s1 := put { b with rawSpanNow := raw } [] 1
        if full then s1 else s1.endCalRun false true
      else s.endCalRun full false
    else s
  | .density _ hits =>
    if full ∧ 1 ≤ n ∧ n ≤ 16 then
      let h := if n = 1 then hits.take 96 else List.zipWith (· + ·) t.hits (hits.take 96)
      if n = 16 then
        if h.length = 96 ∧ h.all (fun v => v != 0) = true then
          put { b with segEdge := segEdges h, rawSpanRef := b.rawSpanNow } [] 17
        else s.endCalRun true false
      else put b h (n + 1)
    else s
  | .loopback band da db =>
    if full ∧ 17 ≤ n ∧ n ≤ 24 ∧ band = n - 17 then
      let s1 := put { b with delayA := b.delayA.set band da, delayB := b.delayB.set band db } [] (n + 1)
      if n = 24 then s1.endCalRun true true else s1
    else s

/-- A calibration step can run: between path-pairs, in a gap of 400 µs or more, which 14 oscillator cycles cover, or in
the slot reserved for it (R96, R114, R508). -/
def Device.calGap (s : Device) : Bool :=
  s.tr.cyc.inFlight.isNone && s.haw.job.isNone && (s.gapOf 14 || s.store.due.getD 0 false)

/-- TDC_CAL_STEP (R96). -/
def execTdcCalStep (dt : Nat) (step : CalStep) (s : State) : Host.Outcome State Fault Refusal :=
  let d := s.dev.elapse dt
  .next { s with dev :=
    if d.up && d.on .transit && d.tr.tdc.due != 0 && d.calGap then (d.calStepRun step).stepRan 0 else d }

end Sys2Proof.Machine
end

