-- ==== Sys2Proof/Machine/Landing.lean ====
section
/-! DEFINITION. The Landing: corrections, trust, time sets, supply switchover, pulse inputs, tamper inputs (R298 to
R331). -/

namespace Sys2Proof.Machine

/-! ## Awake or asleep -/

/-- The Landing works: it has supply and the device is not in SHIP (R28, R322). -/
def Device.landed (s : Device) : Bool := s.land.supply != .lost && s.power.st != .ship

/-! ## PWR_EN (R325) -/

/-- A wake that an armed alarm schedules lies at most `n` cycles ahead. -/
def Landing.alarmWithin (l : Landing) (n : Nat) : Bool :=
  l.alarms.any fun a => a.armed && !a.fired && decide (a.target ≤ l.tick + n)

/-- An alarm, or outside HIBERNATE the shot timer, wakes the domain within the lead of R325. -/
def Device.wakeAhead (s : Device) : Bool :=
  s.land.alarmWithin s.land.pwrEnLead ||
    (s.power.st != .hibernate && (match s.tr.cyc.shotIn with | some n => decide (n ≤ s.land.pwrEnLead) | none => false))

/-- PWR_EN_LEAD (R325): in mode 2 the Landing raises `PWR_EN` `pwr_en_lead` cycles before a scheduled wake of the
domain that sleeps. -/
def execPwrEnLead (dt : Nat) (s : State) : Host.Outcome State Fault Refusal :=
  let d := s.dev.elapse dt
  let asleep := d.power.st == .nap || d.power.st == .hibernate
  let c := d.land.supply == .bat && d.land.pwrEnMode == 2 && asleep && d.wakeAhead
  .next { s with dev := if c then { d with land := { d.land with pwrEn := true } } else d }

/-! ## Corrections (R299, R301, R302) -/

/-- An alarm that only the advance of the present cycle reached waits again (R319). -/
def Alarm.unreach (a : Alarm) : Alarm := if a.fresh then { a with fired := false, fresh := false } else a

/-- A correction slot: one correction of the sign of `corr_owed`. A skip leaves the count where it stood before the
advance of its cycle, and takes back the alarms that only that advance reached. -/
def Landing.correct (l : Landing) : Landing :=
  if 0 < l.corrOwed then
    Landing.fireAlarms { l with corrAt := l.osc, corrOwed := l.corrOwed - 1, tick := min (l.tick + 1) tickMax }
  else if l.corrOwed < 0 then
    { l with corrAt := l.osc, corrOwed := l.corrOwed + 1, tick := l.prev, alarms := l.alarms.map Alarm.unreach }
  else { l with corrAt := l.osc }

/-- The slot of a correction: every 256th oscillator cycle of the divider, once. -/
def Landing.correctionDue (l : Landing) : Bool := (l.osc - l.divAt) % 256 == 0 && l.osc != l.corrAt

/-- The SHOT bucket follows the ticks that a correction adds or skips (R151). -/
def Device.correctTokens (s : Device) : Device :=
  let e := s.tr.ext
  let p := s.conf.g.shot.getD {}
  if 0 < s.land.corrOwed then { s with tr := { s.tr with ext := e.refill p 1 } }
  else if s.land.corrOwed < 0 then { s with tr := { s.tr with ext := e.unfill } }
  else s

/-- The correction of a slot: the count, and what counts ticks. -/
def Device.correct (s : Device) : Device := { s.correctTokens with land := s.land.correct }

/-- CORRECTION_APPLY (R299). -/
def execCorrectionApply (dt : Nat) (s : State) : Host.Outcome State Fault Refusal :=
  let d := s.dev.elapse dt
  .next { s with dev := if d.ticking && d.land.correctionDue then d.correct else d }

/-- The window W of R301. -/
def LfCal.window (l : LfCal) : Nat := 2 ^ (l.trimK + 15)

/-- One trim correction taken from the accumulator. -/
def Landing.trim (l : Landing) : Landing :=
  { l with trimAcc := l.trimAcc - l.lf.window
           corrOwed := if 0 < l.lf.trimN then l.corrOwed + 1 else if l.lf.trimN < 0 then l.corrOwed - 1 else l.corrOwed }

/-- TRIM_CORRECTION (R301): the accumulator has reached or passed W. -/
def execTrimCorrection (dt : Nat) (s : State) : Host.Outcome State Fault Refusal :=
  let d := s.dev.elapse dt
  .next { s with dev :=
    if d.ticking && decide (d.land.lf.window ≤ d.land.trimAcc) then { d with land := d.land.trim } else d }

/-- The compensation of R302 with a die temperature in 2^-8 °C. -/
def Landing.compensate (l : Landing) (dieTemp : Int) : Landing :=
  let dt := clampS 16 dieTemp
  let delta := dt - l.lf.theta0
  let x := l.compAcc + rne (-l.lf.beta * (delta * delta) * 32) 1000000
  { l with compAt := l.osc, dieTemp := dt, corrOwed := l.corrOwed + x / 65536, compAcc := x % 65536 }

/-- TEMP_COMPENSATION (R302): every 2 097 152 oscillator cycles. -/
def execTempCompensation (dt : Nat) (dieTemp : Int) (s : State) : Host.Outcome State Fault Refusal :=
  let d := s.dev.elapse dt
  let c := d.ticking && (d.land.osc - d.land.divAt) % 2097152 == 0 && d.land.osc != d.land.compAt
  .next { s with dev := if c then { d with land := d.land.compensate dieTemp } else d }

/-! ## LFX (R303) -/

/-- Time becomes untrusted: the ageing correction holds its last value (R101), which is the primary's on a secondary. -/
def Device.corrHold (s : Device) : Device :=
  if s.secondary then s else { s with tr := { s.tr with tb := { s.tr.tb with corrHeld := true } } }

/-- LFX_STOP (R303): the count and every interval timer hold, and `osc_stopped` is set. -/
def execLfxStop (dt : Nat) (s : State) : Host.Outcome State Fault Refusal :=
  let d := s.dev.elapse dt
  .next { s with dev :=
    if d.landed && d.land.lfxRunning then
      Device.landEvent (Device.corrHold { d with land := { d.land with lfxRunning := false, oscStopped := true } }) 0x403 1 0
    else d }

/-- LFX_RESTART (R303): the count resumes from the value it held; `osc_stopped` stays. -/
def execLfxRestart (dt : Nat) (s : State) : Host.Outcome State Fault Refusal :=
  let d := s.dev.elapse dt
  .next { s with dev := if d.landed then { d with land := { d.land with lfxRunning := true } } else d }

/-! ## TIME_NOW (R308, R309) -/

/-- The calendar interpreter's fields for the tick count. -/
def Device.updateTimeNow (s : Device) : Device :=
  { s with land := { s.land with cal := timeNow s.bill.calActive s.land.tick } }

/-- TIME_NOW_UPDATE (R308). -/
def execTimeNowUpdate (dt : Nat) (s : State) : Host.Outcome State Fault Refusal :=
  let d := s.dev.elapse dt
  .next { s with dev := if d.ticking then d.updateTimeNow else d }

/-- ADJ_DAY_RESET (R315): at 00:00:00 UTC `adj_day` returns to 0. -/
def execAdjDayReset (dt : Nat) (s : State) : Host.Outcome State Fault Refusal :=
  let d := s.dev.elapse dt
  .next { s with dev :=
    if d.ticking && decide (d.land.tick % tpd < tps) then { d with land := { d.land with adjDay := 0 } } else d }

/-! ## Time sets (R312 to R317, R320, R360) -/

def Child.shift (c : Child) (d : Int) : Child :=
  { c with tSync := addTick c.tSync d, tNext := addTick c.tNext d, tExp := c.tExp + 64 * d,
           lastFrame := addTick c.lastFrame d, listenTo := c.listenTo.map (addTick · d) }

def QEntry.shift (q : QEntry) (d : Int) : QEntry :=
  if q.state = 0 then q
  else { q with tExpiry := addTick q.tExpiry d, tAnswer := if q.tAnswer = 0 then 0 else addTick q.tAnswer d }

/-- Every origin of the Ferryman moves with a step (R360). -/
def Radio.shift (r : Radio) (d : Int) : Radio :=
  { r with
    tContact := addTick r.tContact d, txWindow := addTick r.txWindow d, searchPeriod := addTick r.searchPeriod d
    joinUntil := if r.joinOpen then addTick r.joinUntil d else r.joinUntil
    lastTime := r.lastTime.map (addTick · d)
    wmbusNext := addTick r.wmbusNext d
    children := r.children.map (·.shift d)
    queue := r.queue.map (·.shift d)
    digests := r.digests.map fun g => { g with tick := addTick g.tick d } }

/-- Working ticks of the other blocks move in the same way (DESIGN CHOICE, log 19). -/
def Device.shiftWorking (s : Device) (d : Int) : Device :=
  { s with
    radio := s.radio.shift d
    straps := { s.straps with lastRead := addTick s.straps.lastRead d }
    store := { s.store with scrubTick := addTick s.store.scrubTick d }
    toll := { s.toll with lastRev := s.toll.lastRev.map (addTick · d) }
    sec := { s.sec with tamper := s.sec.tamper.map fun e => { e with journalled := e.journalled.map (addTick · d) } }
    disp := { s.disp with budgetStart := addTick s.disp.budgetStart d, pageUntil := s.disp.pageUntil.map (addTick · d) }
    haw := { s.haw with lastBroadcast := addTick s.haw.lastBroadcast d, loopTick := addTick s.haw.loopTick d } }

/-- The count is loaded; elapsed alarms that wait move with it (R319, R320). Alarms compare the count after the set: one that
only the advance of the set's own cycle reached waits again (R321). -/
def Landing.load (l : Landing) (new : Nat) (sigma : Int) : Landing :=
  Landing.fireAlarms { l with
    tick := new, prev := new
    alarms := l.alarms.map fun a =>
      let b := a.unreach.settle
      if b.armed && b.elapsed && !b.fired then { b with target := min (addTick a.target sigma) tickMax } else b }

/-- Prescaler reset applies (R314). -/
def Device.prescaler (s : Device) (p : PendSet) : Bool :=
  match p with
  | .rel _ => false
  | .since _ _ => !s.trusted
  | .abs _ => !s.trusted || s.sec.lc == .manufacture || s.sec.lc == .calibrate || s.sec.tap == .board || s.sec.tap == .debug

/-- The value a set loads into the count, which would otherwise stand at `tick` (R313, R314). -/
def Device.setTarget (s : Device) (p : PendSet) : Nat :=
  match p with
  | .abs t => min (if s.prescaler p then t / 32768 * 32768 else t) tickMax
  | .since ts st =>
    let t := ts + (s.land.tick - st)
    min (if s.prescaler p then t / 32768 * 32768 else t) tickMax
  | .rel d => min (addTick s.land.tick d) tickMax

/-- The classes of R315; `none` for a relative set that finds time untrusted when it is applied, to which no row of
R315 applies (log 22). -/
inductive SetClass where
  | trusting | small | large | none
deriving DecidableEq, Repr

/-- A set is absolute (R310, R357). -/
def PendSet.absolute (p : PendSet) : Bool :=
  match p with
  | .abs _ | .since _ _ => true
  | .rel _ => false

/-- The class of the set `p` with step σ (R315). -/
def Device.classOf (s : Device) (p : PendSet) (sigma : Int) : SetClass :=
  let lim := s.land.adjLimit * 32768
  if !s.trusted then (if p.absolute then .trusting else .none)
  else if sigma.natAbs ≤ lim ∧ s.land.adjDay + sigma.natAbs ≤ lim then .small
  else .large

/-- The Landing's own effects of a set by class (R315). -/
def Landing.applyClass (l : Landing) (k : SetClass) (sigma : Int) : Landing :=
  let c := { l.cnt with stepSeq := wrapU 32 (l.cnt.stepSeq + 1), lastSigma := signedOf 48 (bitsOf 48 sigma) }
  match k with
  | .trusting => { l with cnt := c, neverSet := false, oscStopped := false }
  | .small => { l with cnt := { c with adjCount := satInc c.adjCount, adjSum := signedOf 64 (bitsOf 64 (c.adjSum + sigma)) }
                       adjDay := l.adjDay + sigma.natAbs }
  | .large => { l with cnt := { c with stepCount := satInc c.stepCount } }
  | .none => { l with cnt := c }

/-- A step forward over 00:00:00 UTC begins the sum of `adj_day` anew, the step's own magnitude in it (R315; log 22). -/
def Landing.newDay (l : Landing) (old : Nat) (k : SetClass) (sigma : Int) : Landing :=
  { l with adjDay := if old / tpd < l.tick / tpd then (if k = .small then sigma.natAbs else 0) else l.adjDay }

/-- The events of a set by class (R315, R464 kind 15). -/
def Device.classEvent (s : Device) (k : SetClass) (sigma : Int) : Device :=
  match k with
  | .trusting => s.landEventS 0x402 sigma
  | .small | .none => s
  | .large => (s.landEventS 0x401 sigma).tamper 15

/-- The boundary transaction of a step's tick (R281, R285, R286). -/
def Device.stepTransaction (s : Device) (k : SetClass) (sigma : Int) : Device :=
  if s.tolling then s.transaction { step := some sigma, split := k != .small, large := k == .large } else s

/-- A set leaves alarm slot 1, while it waits, at the next 00:00:00 UTC of the new count (R101; log 22). -/
def Device.rearmMidnight (s : Device) : Device := if s.armed 1 && !s.fired 1 then s.armMidnight else s

/-- Prescaler reset restarts the divider of oscillator cycles: the slots of R299 and R302 are counted from it (R314). -/
def Landing.redivide (l : Landing) : Landing := { l with divAt := l.osc, corrAt := l.osc, compAt := l.osc }

/-- The count loaded, and the divider where the prescaler is reset (R313, R314). -/
def Device.loadSet (s : Device) (p : PendSet) (new : Nat) (sigma : Int) : Landing :=
  let l := s.land.load new sigma
  { (if s.prescaler p then l.redivide else l) with pendSet := none }

/-- A set is applied at the present tick (R313 to R316). -/
def Device.applySet (s : Device) (p : PendSet) : Device :=
  let new := s.setTarget p
  let sigma : Int := (new : Int) - s.land.tick
  let k := s.classOf p sigma
  let l := (s.loadSet p new sigma).applyClass k sigma
  let s1 := { s with land := l.newDay s.land.tick k sigma }
  let s2 := ((s1.shiftOrigins sigma).shiftWorking sigma).updateTimeNow
  let s3 := ((s2.classEvent k sigma).stepTransaction k sigma).rearmMidnight
  if k = .trusting then s3.ageRecompute else s3

/-- TIME_SET_APPLY (R313, R316): the pending set, while lockout is released. -/
def execTimeSetApply (dt : Nat) (s : State) : Host.Outcome State Fault Refusal :=
  let d := s.dev.elapse dt
  .next { s with dev :=
    match d.land.pendSet with
    | some p => if d.ticking && d.land.supply == .bat && !d.secondary then d.applySet p else d
    | none => d }

/-! ## The tamper inputs (R328 to R330) -/

/-- A change of state enters the FIFO, or is lost where it is full (R330). -/
def Device.tamperIn (s : Device) (k : TamperIn) : Device :=
  if s.land.fifo.length < 8 then { s with land := { s.land with fifo := s.land.fifo ++ [⟨k, s.land.tick, s.land.untrusted⟩] } }
  else
    let n := satInc s.land.cnt.tinLost
    Device.landEvent { s with land := { s.land with cnt := { s.land.cnt with tinLost := n } } } 0x408 n 0

/-- The seal changes state. -/
def Device.setSeal (s : Device) (v : SealState) : Device :=
  if s.land.sealSt = v then s
  else
    let s1 := { s with land := { s.land with sealSt := v } }
    match v with
    | .ok => s1.tamperIn .sealOk
    | .opened => s1.tamperIn .sealOpen
    | .short => s1.tamperIn .sealShort
    | .notMonitored => s1

/-- The seal, case and magnet are watched (R330, R335). -/
def Device.watching (s : Device) : Bool := s.landed && !s.secondary

/-- One probe: two consecutive failures open the seal, two good ones with `SEAL_B` high between them restore it
(R328). -/
def Device.probe (s : Device) (high between : Bool) : Device :=
  let l := { s.land with probeIn := 0 }
  if high then
    let s1 := { s with land := { l with sealFail := min (l.sealFail + 1) 2, sealGood := 0 } }
    if 2 ≤ l.sealFail + 1 then s1.setSeal .opened else s1
  else
    let n := if l.sealGood = 0 then 1 else if between then 2 else 1
    let s1 := { s with land := { l with sealFail := 0, sealGood := n } }
    if n = 2 then s1.setSeal .ok else s1

/-- SEAL_PROBE (R328): every `seal_period` oscillator cycles. -/
def execSealProbe (dt : Nat) (high highBetween : Bool) (s : State) : Host.Outcome State Fault Refusal :=
  let d := s.dev.elapse dt
  let c := d.watching && d.land.sealEn && decide (d.land.sealPeriod ≤ d.land.probeIn)
  .next { s with dev := if c then d.probe high highBetween else d }

/-- `SEAL_B` has had 33 oscillator cycles since the last probe, in which it can have been low (R328, R48). -/
def Landing.shortDue (l : Landing) : Bool := decide (33 ≤ l.probeIn)

/-- SEAL_SHORT_DETECT (R328): low for 33 consecutive cycles outside a probe. -/
def execSealShortDetect (dt : Nat) (s : State) : Host.Outcome State Fault Refusal :=
  let d := s.dev.elapse dt
  .next { s with dev := if d.watching && d.land.sealEn && d.land.shortDue then d.setSeal .short else d }

/-- Level of `SEAL_A`: low for the one cycle of a probe, which ends as the probe's sample is taken, high at every other
time (R328). -/
def Landing.sealA (l : Landing) : Bool := !(l.sealEn && decide (l.sealPeriod ≤ l.probeIn + 1))

/-- The case or the magnet sensor changes state. -/
def Device.setCaseMag (s : Device) (pin : CaseMag) (high : Bool) : Device :=
  match pin with
  | .casePin =>
    if s.land.caseOpen = high then s
    else Device.tamperIn { s with land := { s.land with caseOpen := high } } (if high then .caseOpen else .caseClosed)
  | .magPin =>
    if s.land.mag = high then s
    else Device.tamperIn { s with land := { s.land with mag := high } } (if high then .magOn else .magOff)

/-- Oscillator cycle of the last change of `CASE` or `MAG`. -/
def Landing.pinAt (l : Landing) (pin : CaseMag) : Nat :=
  match pin with
  | .casePin => l.caseAt
  | .magPin => l.magAt

def Landing.notePin (l : Landing) (pin : CaseMag) : Landing :=
  match pin with
  | .casePin => { l with caseAt := l.osc }
  | .magPin => { l with magAt := l.osc }

/-- A new level can have been stable for the 33 cycles of R48 since the last change. -/
def Landing.pinStable (l : Landing) (pin : CaseMag) : Bool := decide (l.pinAt pin + 33 ≤ l.osc)

/-- CASE_MAG_CHANGE (R329): the level that has stood for 33 consecutive cycles. -/
def execCaseMagChange (dt : Nat) (pin : CaseMag) (high : Bool) (s : State) : Host.Outcome State Fault Refusal :=
  let d := s.dev.elapse dt
  .next { s with dev :=
    if d.watching && d.land.pinStable pin then
      Device.setCaseMag { d with land := d.land.notePin pin } pin high
    else d }

/-- The tamper kind that an entry of the FIFO counts (R464). -/
def TamperIn.kind (k : TamperIn) : Option Nat :=
  match k with
  | .sealOpen => some 0
  | .sealShort => some 1
  | .caseOpen => some 2
  | .magOn => some 3
  | .sealOk | .caseClosed | .magOff => none

/-- One entry of the FIFO is recorded with the tick it carries (R465). -/
def Device.serveTamper (s : Device) (e : TamperEvt) : Device :=
  match e.kind.kind with
  | some k => s.tamperWith k e.tick e.untrusted
  | none => s

/-- TAMPER_FIFO_SERVICE (R330): the controller empties the FIFO. -/
def execTamperFifoService (dt : Nat) (s : State) : Host.Outcome State Fault Refusal :=
  let d := (s.dev.elapse dt).woken 7
  .next { s with dev :=
    if d.up && d.writable then d.land.fifo.foldl Device.serveTamper { d with land := { d.land with fifo := [] } } else d }

/-! ## Pulse inputs (R326, R327) -/

/-- Since the last pulse counted on input `n`, a high level and then a low one can each have been stable for `pls_db[n]`
cycles, and for the 3 of the pin filter (R48, R326). -/
def Landing.plsReady (l : Landing) (n : Nat) : Bool :=
  decide (l.plsAt.getD n 0 + 2 * max 3 (l.plsDb.getD n 3) ≤ l.osc)

/-- One pulse on input `n` (R326). -/
def Landing.countPulse (l : Landing) (n : Nat) : Landing :=
  { l with plsCount := setAt l.plsCount n fun c => wrapU 48 (c + 1)
           plsAt := setAt l.plsAt n fun _ => l.osc }

/-- PULSE_IN_COUNT (R326): one debounced pulse on an enabled input. -/
def execPulseInCount (dt : Nat) (input : Nat) (s : State) : Host.Outcome State Fault Refusal :=
  let d := s.dev.elapse dt
  .next { s with dev :=
    if d.watching && decide (input < 4) && bitAt d.land.plsEn input && d.land.plsReady input then
      { d with land := d.land.countPulse input }
    else d }

/-- The counts are mirrored to FRAM (R327, R333). -/
def Device.mirrorPulses (s : Device) : Device :=
  { s with land := { s.land with plsMirror := s.land.plsCount, mirrorTick := s.land.tick } }

/-! ## Supply switchover (R322 to R324) -/

/-- The switched domain is powered. -/
def Device.powered (s : Device) : Bool :=
  match s.power.st with
  | .unpowered | .ship => false
  | _ => true

/-- A set that waits is discarded (R316). -/
def Device.discardSet (s : Device) : Device :=
  match s.land.pendSet with
  | some _ =>
    { s with land := { s.land with
      pendSet := none, queued := s.land.queued ++ [⟨0x409, s.land.tick, s.land.cnt.stepSeq, 0, s.land.untrusted⟩] } }
  | none => s

/-- SUPPLY_BKP (R322): `VBAT` below 2.00 V. -/
def execSupplyBkp (dt : Nat) (s : State) : Host.Outcome State Fault Refusal :=
  let d := s.dev.elapse dt
  .next { s with dev :=
    if d.landed && d.land.supply == .batLock then
      let l := d.land
      { d with land := { l with
        supply := .bkp, bkpSince := l.tick, cnt := { l.cnt with bkpCount := satInc l.cnt.bkpCount }
        queued := l.queued ++ [⟨0x404, l.tick, 0, 0, l.untrusted⟩] } }
    else d }

/-- LANDING_LOST (R324): `VBKP` below 1.50 V. Every register of the Landing is lost; what the restart reloads from
FRAM stays in its mirror. -/
def execLandingLost (dt : Nat) (s : State) : Host.Outcome State Fault Refusal :=
  let d := s.dev.elapse dt
  .next { s with dev :=
    if d.landed && d.land.supply == .bkp then { d with land := { d.land with supply := .lost, lfxRunning := false } } else d }

/-- The Landing restarts from its reset state: count reloaded, `osc_stopped` set, alarms disarmed (R305, R324). -/
def Landing.restart (l : Landing) (t : Nat) : Landing :=
  { l with
    tick := t, prev := t, oscStopped := true, lfxRunning := false, osc := 0, trimAcc := 0, corrOwed := 0, compAcc := 0
    corrAt := 0, compAt := 0, divAt := 0, plsAt := [0, 0, 0, 0], caseAt := 0, magAt := 0, dieTemp := 6400, adjDay := 0, cnt := l.cntMirror, supply := .bat, debounce := false
    bkpSince := 0, fifo := [], sealFail := 0, sealGood := 0, probeIn := 0, alarms := List.replicate 12 {}
    pendSet := none, pwrEn := false, plsCount := l.plsMirror, queued := [] }

/-- The tamper inputs are evaluated afresh, and each abnormal state enters the FIFO (R330). -/
def Device.evalPins (s : Device) (p : PinLevels) : Device :=
  if s.secondary then s
  else
    let s0 := { s with land := { s.land with
      sealSt := if s.land.sealEn then .ok else .notMonitored, caseOpen := false, mag := false } }
    let s1 := if s0.land.sealEn then
        (if p.sealOpen then s0.setSeal .opened else if p.sealShort then s0.setSeal .short else s0)
      else s0
    (s1.setCaseMag .casePin p.caseHigh).setCaseMag .magPin p.magHigh

/-- Owed pulses are lost with the Landing (R187, R324). -/
def PulseOut.lose (p : PulseOut) : PulseOut :=
  { p with ch0 := { p.ch0.clear with owed := 0, overrun := false }, ch1 := { p.ch1.clear with owed := 0, overrun := false } }

/-- The restart of the Landing after LOST, or after SHIP (R305, R324, R478): `cause` is the argument of
TIME_UNTRUSTED, 2 or 3. -/
def Device.landRestart (s : Device) (pins : PinLevels) (cause : Nat) : Device :=
  let t := s.store.latestCommit
  let l := s.land.restart t
  let lost := cause == 2
  let l1 := if lost then { l with plsLost := l.plsLost ||| l.plsEn, cnt := { l.cnt with lostCount := satInc l.cnt.lostCount } }
    else l
  let ev := (if lost then [(⟨0x406, t, t % 2 ^ 32, t / 2 ^ 32, true⟩ : LandEvent)] else []) ++ [⟨0x403, t, cause, 0, true⟩] ++
    (if lost && l.plsEn != 0 then [⟨0x407, t, l.plsEn, 0, true⟩] else [])
  let s1 := { s with land := { l1 with queued := ev }, pulse := s.pulse.lose
                     power := { s.power with landRestarted := true, resetUntil := 0 } }
  (s1.updateTimeNow).evalPins pins

/-- A cold start falls due, with its cause (R479, R490). -/
def Device.coldFor (s : Device) (cause : Nat) : Device :=
  { s with power := { s.power with coldDue := true, startCause := cause } }

/-- BAT from BAT_LOCK: lockout is released. -/
def Landing.unlock (l : Landing) : Landing := { l with supply := .bat, debounce := false }

/-- BAT from BKP: the stay is added and SUPPLY_BAT waits for the next start. -/
def Landing.leaveBkp (l : Landing) : Landing :=
  let n := l.tick - l.bkpSince
  { l.unlock with cnt := { l.cnt with bkpTicks := satAdd 64 l.cnt.bkpTicks n }
                  queued := l.queued ++ [⟨0x405, l.tick, min (n / 32768) (maxU 32), 0, l.untrusted⟩] }

/-- The return to BAT, with `PWR_EN` as its mode gives (R325), and a cold start. -/
def Device.supplyBack (s : Device) (pins : PinLevels) : Device :=
  match s.land.supply with
  | .bat => s
  | .batLock => Device.coldFor (Device.pwrUpdate { s with land := s.land.unlock }) 1
  | .bkp => Device.coldFor (Device.pwrUpdate { s with land := s.land.leaveBkp }) 1
  | .lost => Device.coldFor (s.landRestart pins 2).pwrUpdate 1

/-- SUPPLY_BAT (R322, R324): `VBAT` above 2.20 V for 2 ms. -/
def execSupplyBat (dt : Nat) (pins : PinLevels) (s : State) : Host.Outcome State Fault Refusal :=
  let d := s.dev.elapse dt
  .next { s with dev := if d.power.st == .ship then d else d.supplyBack pins }

end Sys2Proof.Machine
end

