-- ==== Sys2Proof/Machine/PulseOut.lean ====
section
/-! DEFINITION. The pulse outputs, emitted by the Landing (R180, R181). -/

namespace Sys2Proof.Machine

def PulseOut.ch (p : PulseOut) (i : Nat) : PulseCh := if i = 0 then p.ch0 else p.ch1

def PulseOut.setCh (p : PulseOut) (i : Nat) (c : PulseCh) : PulseOut := if i = 0 then { p with ch0 := c } else { p with ch1 := c }

/-- An owed pulse may begin: none in progress, the gap has passed (R181). -/
def PulseCh.ready (c : PulseCh) : Bool :=
  match c.phase with
  | .idle => decide (0 < c.owed)
  | .gap => decide (0 < c.owed) && c.remain == 0
  | .low => false

/-- The output is pulled low for `width` cycles. -/
def PulseCh.start (c : PulseCh) (width : Nat) : PulseCh :=
  { c with owed := c.owed - 1, overrun := false, emitted := satInc c.emitted, phase := .low, remain := width, low := true }

/-- The output is released for `gap` cycles. -/
def PulseCh.release (c : PulseCh) (gap : Nat) : PulseCh := { c with phase := .gap, remain := gap, low := false }

/-- A pulse output works: the function is ON, the Landing works. -/
def Device.pulsing (s : Device) (i : Nat) : Bool := decide (i < 2) && s.landed && s.land.lfxRunning

/-- PULSE_OUT_START (R181). -/
def execPulseOutStart (dt : Nat) (output : Nat) (s : State) : Host.Outcome State Fault Refusal :=
  let d := s.dev.elapse dt
  let c := d.pulse.ch output
  let ok := d.pulsing output && d.on .pulseOut && c.ready
  .next { s with dev := if ok then { d with pulse := d.pulse.setCh output (c.start d.pulse.width) } else d }

/-- PULSE_OUT_RELEASE (R181): the width has passed. -/
def execPulseOutRelease (dt : Nat) (output : Nat) (s : State) : Host.Outcome State Fault Refusal :=
  let d := s.dev.elapse dt
  let c := d.pulse.ch output
  let ok := d.pulsing output && c.phase == .low && c.remain == 0
  .next { s with dev := if ok then { d with pulse := d.pulse.setCh output (c.release d.pulse.gap) } else d }

/-- A pulse pulls its output low; a fault output is also low while bit 0 or 1 of `cond` is set (R246). In SHIP the pin
is not driven (R34). -/
def Device.pulseLow (s : Device) (i : Nat) : Bool :=
  let c := s.pulse.ch i
  s.power.st != .ship && (c.low || (c.mode == 4 && (bitAt s.toll.ft.cond 0 || bitAt s.toll.ft.cond 1)))

/-- A new mode for output `i`; a change discards the owed pulses, counted in `lost` (R181). A pulse in progress
completes its width and its gap. -/
def PulseOut.setMode (p : PulseOut) (i m : Nat) : PulseOut :=
  let c := p.ch i
  if c.mode = m then p
  else { (p.setCh i { c.discard with mode := m }) with lost := satAdd 32 p.lost c.owed }

/-! ## Draining and restarting (R25, R27, R29) -/

/-- The function's current item of work has finished or has been abandoned (R29). A cycle that has ended and on which the
decision of a gap waits is taken first (R170). -/
def Device.drainedOf (s : Device) (f : Func) : Bool :=
  match f with
  | .transit => s.tr.cyc.inFlight.isNone && s.haw.job.isNone && !(s.flow.gapWait && s.tr.cyc.complete)
  | .pulseOut => s.pulse.ch0.phase != .low && s.pulse.ch1.phase != .low
  | .display => s.disp.regions.all fun r => r.run.isNone
  | .converter | .ferryman | .wmbus | .hawser | .optical => true

/-- FUNCTION_DRAINED (R25, R29). -/
def execFunctionDrained (dt : Nat) (f : Func) (s : State) : Host.Outcome State Fault Refusal :=
  let d := s.dev.elapse dt
  .next { s with dev := if d.drainedOf f then d.drain f else d }

/-- A function still in its cycle of OFF when LFX edges have come: it is ON with the first of them (R25). -/
def Device.restarted (s : Device) (dt : Nat) (f : Func) : Device :=
  if s.ticking && dt != 0 then { s with fn := s.fn.set f (s.fn.get f).restart } else s

/-- FUNCTION_RESTART (R25, R27): the LFX edge that ends the cycle of OFF, the first of the `dt` cycles that pass; the
reset state was applied at the drain. Without an edge the function stays OFF. -/
def execFunctionRestart (dt : Nat) (f : Func) (s : State) : Host.Outcome State Fault Refusal :=
  .next { s with dev := (s.dev.elapse dt).restarted dt f }

end Sys2Proof.Machine
end

