-- ==== Sys2Proof/Machine/Temp.lean ====
section
/-! DEFINITION. The Resistance Converter and the sample: conversions, roots, holds, retirement, thermal mode, bridge
(R192 to R213, R403). -/

namespace Sys2Proof.Machine

/-! ## From ratio to temperature (R198 to R200) -/

/-- Nominal R0 in ohm (R200). -/
def nominalR0 (sensor : Nat) : Nat := if sensor = 0 then 100 else if sensor = 1 then 500 else 1000

/-- IEC 60751 defaults of R200. -/
def iecChan (sensor : Nat) : ChanCal :=
  { r0 := nominalR0 sensor * 2 ^ 20, leadOhm := 0
    cvdA := rne (39083 * 2 ^ 48) 10000000
    cvdB := rne (-5775 * 2 ^ 56) (10 ^ 10)
    cvdC := rne (-4183 * 2 ^ 72) (10 ^ 15) }

/-- `r0` fits the sensor type (R200, R543). -/
def r0Fits (sensor r0 : Nat) : Bool :=
  decide (9 * nominalR0 sensor * 2 ^ 20 ≤ 10 * r0 ∧ 10 * r0 ≤ 11 * nominalR0 sensor * 2 ^ 20)

/-- Coefficients with which a channel is converted (R543). -/
def chanCal (t : Option TempCal) (sensor x : Nat) : ChanCal :=
  match t with
  | none => iecChan sensor
  | some c =>
    match c.chans.getD x none with
    | some k => if r0Fits sensor k.r0 then k else iecChan sensor
    | none => iecChan sensor

/-- Resistance over R0 at θ = n / 10^7 °C, times 2^72 · 10^28 (R199). -/
def cvd (c : ChanCal) (n : Int) : Int :=
  2 ^ 72 * 10 ^ 28 + c.cvdA * 2 ^ 24 * n * 10 ^ 21 + c.cvdB * 2 ^ 16 * n * n * 10 ^ 14 +
    (if n < 0 then c.cvdC * (n - 1000000000) * n * n * n else 0)

/-- θ at or above n / 10^7 °C gives a resistance no greater than r. -/
def cvdAtMost (c : ChanCal) (r : Int) (n : Int) : Bool := decide ((c.r0 : Int) * cvd c n ≤ r * (2 ^ 72 * 10 ^ 28))

/-- Largest n from `lo` up to lo + 2^k − 1 with cvd at most r. -/
def cvdRootGo (c : ChanCal) (r : Int) : Nat → Int → Int
  | 0, acc => acc
  | k + 1, acc => cvdRootGo c r k (if cvdAtMost c r (acc + 2 ^ k) then acc + 2 ^ k else acc)

/-- θ of R199 in µK; none outside −50 °C to +200 °C (R207). Where the exact root lies within 0.1 µK of a half, R199 leaves
the direction open (log 21). -/
def thetaOf (c : ChanCal) (r : Int) : Option Int :=
  if !cvdAtMost c r (-500000010) then none
  else
    let n := cvdRootGo c r 32 (-500000010)
    let q := n / 10
    let f := n % 10
    let th := if f ≤ 3 then q else if 6 ≤ f then q + 1 else if Config.roundUp 40 n 10 then q + 1 else q
    if th < -50000000 ∨ 200000000 < th then none else some th

/-- One channel conversion: θ and fault (R194, R198, R207). -/
def convChannel (c : ChanCal) (sensor wires refOhm : Nat) (v : Conv) : Int × Nat :=
  if !v.excOk || decide (98 * 2 ^ 32 ≤ 100 * v.ratio) then (0, 1)
  else
    let r := rne ((v.ratio * refOhm : Nat) : Int) (2 ^ 32) - (if wires = 2 then (c.leadOhm : Int) else 0)
    if 2 * r < nominalR0 sensor * 2 ^ 20 then (0, 2)
    else if wires = 4 ∧ v.senseOk = false then (0, 3)
    else
      match thetaOf c r with
      | some th => (th, 0)
      | none => (0, 4)

/-- Reference in ohm for a sensor type (R194). -/
def refOhmOf (t : TempCal) (sensor : Nat) : Nat := if sensor = 2 then t.refbOhm else t.refaOhm

/-- The reference check of one attempt differs by more than 200 ppm (R196). -/
def refOff (t : TempCal) (ratio : Nat) : Bool :=
  decide ((t.refaOhm : Int) * 2 ^ 32 < 5000 * ((ratio : Int) * t.refbOhm - t.refaOhm * 2 ^ 32).natAbs)

/-- A bridge attempt's first tests (R213). -/
def bridgeFault (b : BridgeConv) : Nat :=
  if b.excUa < 100 then 1 else if 2500 < b.excUa then 6 else if 2 ^ 27 < b.r.natAbs then 4 else 0

/-- What the converter gives for one sample. `skip` marks the channel numbers that are not converted. -/
def convertPart (temp : Option TempCal) (sensor : Nat) (wires : List Nat) (skip : Nat → Bool) (bridge : Bool)
    (m : SampleInput) : OwnPart :=
  let t := temp.getD {}
  let bad1 := refOff t m.ref1
  let bad := bad1 && refOff t m.ref2
  let one := fun (x : Nat) =>
    if skip x then (0, 0)
    else if bad then (0, 5)
    else
      let a := m.chans.getD x (⟨0, false, false⟩, ⟨0, false, false⟩)
      let c := chanCal temp sensor x
      let r1 := convChannel c sensor (wires.getD x 4) (refOhmOf t sensor) a.1
      if r1.2 = 0 then r1 else convChannel c sensor (wires.getD x 4) (refOhmOf t sensor) a.2
  let br := if bridge then some ((m.bridge.1.r, bridgeFault m.bridge.1), (m.bridge.2.r, bridgeFault m.bridge.2)) else none
  { chans := (List.range 4).map one, bridge := br, refRatio := if bad1 then m.ref2 else m.ref1, refBad := bad }

/-! ## Holds and retirement (R208, R209) -/

/-- One unit after a conversion: its new state, the value carried, whether TEMP_CHANNEL_FAULT and retirement arise. -/
structure UnitStep where
  u : TempUnit
  value : Option Int
  valid : Bool
  faulted : Bool := false
  retired : Bool := false
deriving DecidableEq, Repr

def TempUnit.step (u : TempUnit) (w : WiringP) (now : Nat) (v : Int) (fault : Nat) : UnitStep :=
  if fault = 0 then
    { u := { u with state := 1, failRun := 0, lastValid := some (v, now), runStart := none, runCount := 0
                    wasValid := true, lastFault := u.lastFault }
      value := some v, valid := true }
  else
    let own := fault != 5 && fault != 7
    let start := u.runStart.getD now
    let n := if own then u.runCount + 1 else u.runCount
    let gone := own && decide (3 ≤ n) && decide (start + w.tempRetire * tps ≤ now)
    let u1 := { u with
      lastFault := fault, failRun := satAdd 8 u.failRun 1, failCount := satInc u.failCount
      runStart := if own then some start else u.runStart
      runCount := n, wasValid := false, state := if gone then 3 else 2 }
    let keep := match u.lastValid with
      | some p => if now < p.2 + w.tempHold * tps then some p.1 else none
      | none => none
    { u := u1, value := if gone then none else keep, valid := false, faulted := u.wasValid, retired := gone }

/-- One unit's step with its journal entries and tamper count. -/
def Device.unitStep (s : Device) (x : Nat) (v : Int) (fault : Nat) : Device × Option Int × Bool :=
  let r := (s.temp.units.getD x {}).step s.conf.wiring s.land.tick v fault
  let s1 := { s with temp := { s.temp with units := setAt s.temp.units x fun _ => r.u } }
  let s2 := if r.faulted then s1.journal 0x202 x fault else s1
  let s3 := if r.retired then
      let a := (s2.degrade fun d => { d with retiredTemp := true }).journal 0x203 x fault
      if fault = 1 ∨ fault = 2 then a.tamper 19 else a
    else s2
  (s3, r.value, r.valid)

/-- Channels of the sample in index order: the device, and (value, valid) so far. -/
def unitSteps : List (Nat × Option (Int × Nat)) → Device → List (Option Int × Bool) → Device × List (Option Int × Bool)
  | [], s, acc => (s, acc)
  | (x, some p) :: r, s, acc =>
    let u := s.unitStep x p.1 p.2
    unitSteps r u.1 (acc ++ [u.2])
  | (_, none) :: r, s, acc => unitSteps r s (acc ++ [(none, false)])

/-! ## Thermal mode, swap, checks (R204 to R206) -/

/-- Side (true COOL) of R204. -/
def sideOf (m : MediumP) (known cool : Bool) (flow : Int) : Bool :=
  if m.cls = 1 ∨ m.cls = 4 then false
  else if m.cls = 2 ∨ m.cls = 5 then true
  else if !known then decide (flow < m.thetaSwitch)
  else if m.thetaSwitch + m.thetaHyst ≤ flow then false
  else if flow ≤ m.thetaSwitch - m.thetaHyst then true
  else cool

/-- Mode of R204 from the side and Δθ. -/
def modeOf (m : MediumP) (cool : Bool) (dth : Int) : ThermalMode :=
  let d := if cool then -dth else dth
  if (m.dthetaZero : Int) ≤ d then (if cool then .cool else .heat)
  else if -(m.dthetaNeg : Int) < d then .none
  else .neg

/-- R205 for one sample; on other than an energy meter no sample is NEG, so that what was set clears. A flow in force that is
absent (R170) is taken as a flow of 0, which breaks the run (DESIGN CHOICE, log 17). -/
def Device.swapStep (s : Device) (mode : ThermalMode) : Device :=
  let t := s.temp
  let flowing := match s.flow.qf with
    | some q => q != 0
    | none => false
  if mode == .neg && flowing then
    let since := t.negSince.getD s.land.tick
    let s1 := { s with temp := { t with negSince := some since, nonNegRun := 0 } }
    if t.sample.swapSuspect = false ∧ since + s.conf.medium.swapTime * tps ≤ s.land.tick then
      let s2 := { s1 with temp := { s1.temp with sample := { s1.temp.sample with swapSuspect := true } } }
      ((s2.degrade fun d => { d with swap := true }).journal 0x204 0 0).tamper 20
    else s1
  else if mode == .neg then { s with temp := { t with negSince := none, nonNegRun := 0 } }
  else
    let n := t.nonNegRun + 1
    let s1 := { s with temp := { t with negSince := none, nonNegRun := n } }
    if t.sample.swapSuspect = true ∧ 16 ≤ n then
      { s1 with temp := { s1.temp with sample := { s1.temp.sample with swapSuspect := false } } }.degrade
        fun d => { d with swap := false }
    else s1

/-- The role with which a role is compared (R206). -/
def checkTarget (gas : Bool) (role : Nat) : Option Nat :=
  if gas then (if role = 3 ∨ role = 5 ∨ role = 6 then some 2 else none)
  else if role = 5 then some 2
  else if role = 6 then some 3
  else none

/-- One compared sample of a pair: its runs, and whether it begins to disagree. -/
def CheckRun.step (c : CheckRun) (beyond : Bool) : CheckRun × Bool :=
  if beyond then
    let n := c.exceed + 1
    ({ c with exceed := n, agree := 0, failing := c.failing || decide (16 ≤ n) }, !c.failing && decide (16 ≤ n))
  else
    let n := c.agree + 1
    ({ c with exceed := 0, agree := n, failing := c.failing && decide (n < 16) }, false)

/-- The pair in which a channel is compared: its role, and the index of its target (R206). -/
def Device.pairOf (s : Device) (c : Chan) : Option (Nat × Nat) :=
  ((checkTarget (gasClass s.conf.cls) c.role).bind s.roleIdx).map fun t => (c.role, t)

/-- The runs of a pair: those of a channel that was compared in another pair are not its own (R206). -/
def CheckRun.ofPair (c : CheckRun) (p : Nat × Nat) : CheckRun := if c.pair = some p then c else { pair := some p }

/-- R206 over the channels of a sample. -/
def checkSteps (vals : List (Option Int × Bool)) : List (Chan × Nat) → Device → Device
  | [], s => s
  | (c, x) :: r, s =>
    match s.pairOf c with
    | none => checkSteps vals r s
    | some p =>
      match vals.getD x (none, false), vals.getD p.2 (none, false) with
      | (some a, true), (some b, true) =>
        let k := ((s.temp.checks.getD x {}).ofPair p).step (decide (s.conf.medium.checkTol < (a - b).natAbs))
        let s1 := { s with temp := { s.temp with checks := setAt s.temp.checks x fun _ => k.1 } }
        checkSteps vals r (if k.2 then s1.journal 0x205 x p.2 else s1)
      | _, _ => checkSteps vals r s

/-- A pair that is compared under the roles in force disagrees. -/
def Device.disagrees (s : Device) : Bool :=
  (s.chans.zipIdx).any fun c =>
    let k := s.temp.checks.getD c.2 {}
    k.failing && k.pair.isSome && k.pair == s.pairOf c.1

/-- `check_fail` and its cause of the degraded flag, after the comparisons and after a commit (R206). -/
def Device.checkFlag (s : Device) : Device :=
  let f := s.disagrees
  { s with temp := { s.temp with sample := { s.temp.sample with checkFail := f } } }.degrade
    fun d => { d with check := f }

/-! ## Bridge (R210 to R213) -/

/-- p_abs of R211: θ_b − 20 °C as tn / td. -/
def bridgeP (c : BridgeCal) (r tn : Int) (td : Nat) (gauge : Bool) (pAtm : Nat) : Int :=
  let num := (c.c0 * 2 ^ 62 + c.c1 * r * 2 ^ 31 + c.c2 * r * r) * td + (c.d0 * 2 ^ 31 + c.d1 * r) * 2 ^ 31 * tn
  rne num (2 ^ 78 * td) + if gauge then (pAtm : Int) else 0

/-- One attempt at the bridge: p_abs and its fault (R211, R213). -/
def Device.bridgeTry (s : Device) (c : BridgeCal) (a : Int × Nat) (thetaM : Int) : Int × Nat :=
  let i := s.conf.install
  let anyRole := s.chans.any (·.role != 0)
  let tn := if anyRole then thetaM - 20000000 else s.land.dieTemp - 5120
  let p := bridgeP c a.1 tn (if anyRole then 1000000 else 256) i.gauge i.pAtm
  (p, if a.2 ≠ 0 then a.2 else if p ≤ 0 ∨ 2 ^ 32 ≤ p then 4 else 0)

/-- The bridge of a sample: its step and the fields of the sample. A first attempt that fails gives way to the second
(R213). `bridge_r` is that of the attempt taken, of the second where both fail, and keeps its value where a declared bridge
is not converted (DESIGN CHOICE, log 17). -/
def Device.bridgeStep (s : Device) (b : Option ((Int × Nat) × (Int × Nat))) (thetaM : Int) : Device × TempSample :=
  let i := s.conf.install
  let m := s.temp.sample
  let absent := { m with pAbs := i.pNom, pValid := false, pHeld := false }
  match b, s.conf.calib.bridge with
  | some (a1, a2), some c =>
    let t1 := s.bridgeTry c a1 thetaM
    let r := if t1.2 = 0 then a1.1 else a2.1
    let t := if t1.2 = 0 then t1 else s.bridgeTry c a2 thetaM
    let u := s.unitStep 4 t.1 t.2
    match u.2.1 with
    | some v => (u.1, { u.1.temp.sample with pAbs := v.toNat, pValid := u.2.2, pHeld := !u.2.2, bridgeR := r })
    | none => (u.1, { u.1.temp.sample with pAbs := i.pNom, pValid := false, pHeld := false, bridgeR := r })
  | _, _ => (s, { absent with bridgeR := if i.bridgeUse = 0 then 0 else m.bridgeR })

/-! ## Channels in use (R215) -/

/-- Roles in the order of the stored coefficients: by channel number, or by the combined index (R200, R403). -/
def Device.rolesUsed (s : Device) : List Nat := s.chans.map (·.role)

/-- Index i has a channel in use, or is that of the bridge in use. -/
def Device.unitUsed (s : Device) (i : Nat) : Bool :=
  if i = 4 then s.conf.install.bridgeUse != 0 else (s.chans[i]?.map (·.role != 0)).getD false

/-- Units follow the channels that the configuration uses: one that comes into use has no valid conversion yet, one that
leaves it is unused; a retired one stays so, and faults and runs stay, until a cold start (R208, R215). -/
def TempUnit.use (u : TempUnit) (used : Bool) : TempUnit :=
  if u.state = 3 then u else if !used then { u with state := 0 } else if u.state = 0 then { u with state := 2 } else u

def Device.useUnits (s : Device) : Device :=
  { s with temp := { s.temp with
    units := (s.temp.units.zipIdx).map fun (u : TempUnit × Nat) => u.1.use (s.unitUsed u.2) } }

/-- The sample with the bridge absent (R211). -/
def TempSample.noBridge (m : TempSample) (pNom : Nat) : TempSample := { m with pAbs := pNom, pValid := false, pHeld := false }

/-- A bridge that is declared while the calibration in force carries no BRIDGE section is absent from here on (R211). -/
def Device.dropBridge (s : Device) : Device :=
  if s.conf.install.bridgeUse != 0 && s.conf.calib.bridge.isNone then
    let gone := fun (m : TempSample) => m.noBridge s.conf.install.pNom
    { s with temp := { s.temp with
      units := setAt s.temp.units 4 fun u => if u.state = 1 then { u with state := 2 } else u
      sample := gone s.temp.sample, pricing := s.temp.pricing.map gone } }
  else s

/-! ## Completion of a sample (R201, R223 step 3) -/

/-- Results by index of `chans`: none for a channel that is unused or retired. -/
def Device.partResults (s : Device) (own : OwnPart) : List (Nat × Option (Int × Nat)) :=
  (s.chans.zipIdx).map fun c =>
    let st := (s.temp.units.getD c.2 {}).state
    (c.2,
      if c.1.role = 0 ∨ st = 3 then none
      else if c.1.dev = 0 then own.chans[c.1.ch]?
      else
        match s.temp.parts.find? (·.1 == c.1.dev) with
        | some p => some (p.2.getD c.1.ch (0, 7))
        | none => some (0, 7))

/-- R196: the reference fault of the sample. -/
def Device.refStep (s : Device) (own : OwnPart) : Device :=
  let was := s.temp.sample.refFault
  let s1 := { s with temp := { s.temp with sample := { s.temp.sample with
    refFault := own.refBad, refRatio := own.refRatio } } }
  if own.refBad && !was then (s1.degrade fun d => { d with refResistor := true }).journal 0x201 own.refRatio 0
  else if was && !own.refBad then s1.degrade fun d => { d with refResistor := false }
  else s1

/-- The sample completes at the present tick from the parts. θ_m keeps its value where channels have roles and the one that
R193 chooses is not assigned (DESIGN CHOICE, log 17). A sample without Δθ decides no side: the first decision of
R204 waits for one that has it (DESIGN CHOICE, log 17). -/
def Device.completeSample (s : Device) (own : OwnPart) : Device :=
  let now := s.land.tick
  let s0 := s.refStep own
  let r := unitSteps (s0.partResults own) s0 []
  let s1 := r.1
  let vals := r.2
  let val := fun (i : Option Nat) => i.bind fun k => (vals.getD k (none, false)).1
  let anyRole := s1.chans.any (·.role != 0)
  let thetaM := if !anyRole then 20000000 else (val s1.thetaMIdx).getD s1.temp.sample.thetaM
  let f := val (s1.roleIdx 2)
  let rt := val (s1.roleIdx 3)
  let md := s1.conf.medium
  let dth := match f, rt with
    | some a, some b => some (a - b)
    | _, _ => none
  let cool := match f, dth with
    | some a, some _ => if energyClass md.cls then sideOf md s1.temp.sideKnown s1.temp.sample.coolSide a
        else s1.temp.sample.coolSide
    | _, _ => s1.temp.sample.coolSide
  let mode := match dth with
    | some d => if energyClass md.cls then modeOf md cool d else .none
    | none => .none
  let b := s1.bridgeStep own.bridge thetaM
  let s2 := b.1
  let m : TempSample := { b.2 with
    theta := (List.range 4).map fun k => ((vals.getD k (none, false)).1).getD 0
    dtheta := fitS 41 32 (dth.getD 0)
    thetaM := thetaM
    tick := now
    valid := (List.range 4).map fun k => (vals.getD k (none, false)).2
    held := (List.range 4).map fun k => let v := vals.getD k (none, false); v.1.isSome && !v.2
    mode := mode, coolSide := cool, seq := wrapU 16 (s2.temp.sample.seq + 1) }
  let s3 := { s2 with temp := { s2.temp with
    sample := m, any := true, running := false, parts := [], awaiting := [], ownPart := none
    sideKnown := s2.temp.sideKnown || (dth.isSome && energyClass md.cls) } }
  let s4 := (checkSteps vals (s3.chans.zipIdx) (s3.swapStep mode)).checkFlag
  let s5 := { s4 with
    temp := { s4.temp with prevPricing := s4.temp.pricing, pricing := some s4.temp.sample }
    bill := match dth with
      | some d => { s4.bill with hour := { s4.bill.hour with
          dthetaSum := s4.bill.hour.dthetaSum + d, dthetaCount := s4.bill.hour.dthetaCount + 1 } }
      | none => s4.bill }
  Device.commit s5.samplePriced.recond

/-- The bridge is converted (R211). -/
def Device.bridgeOn (s : Device) : Bool :=
  s.conf.install.bridgeUse != 0 && s.conf.calib.bridge.isSome && (s.temp.units.getD 4 {}).state != 3

/-- This device's own conversions, at a primary or standalone. -/
def Device.ownConvert (s : Device) (m : SampleInput) : OwnPart :=
  let idx := fun (x : Nat) => s.chans.findIdx? fun c => c.dev == 0 && c.ch == x && c.role != 0
  -- in a cascade the stored coefficients are those of the combined index (log 28)
  let at1 := fun (t : TempCal) (x : Nat) => match idx x with
    | some i => t.chans.getD i none
    | none => none
  let remap := fun (t : TempCal) => ({ t with chans := (List.range 4).map (at1 t) } : TempCal)
  let cal := if s.haw.role = 1 then s.conf.calib.temp.map remap else s.conf.calib.temp
  convertPart cal s.conf.clamp.sensorType s.conf.wiring.wires
    (fun x => match idx x with
      | some i => (s.temp.units.getD i {}).state == 3
      | none => true)
    s.bridgeOn m

/-- The sample of a cascade completes once every part is in (R403). -/
def Device.trySample (s : Device) : Device :=
  match s.temp.ownPart with
  | some p => if s.temp.awaiting.isEmpty then s.boundaryFirst.completeSample p else s
  | none => s

/-- One channel of a secondary's own TEMP_HEALTH; holds and retirement are the primary's (R208; log 28). -/
def TempUnit.secondaryStep (u : TempUnit) (fault : Nat) : TempUnit :=
  if fault = 0 then { u with state := 1, failRun := 0 }
  else { u with state := 2, lastFault := fault, failRun := satAdd 8 u.failRun 1, failCount := satInc u.failCount }

/-- A secondary's own TEMP_SAMPLE and TEMP_HEALTH after its conversions, by channel number (R214, R215; log 28). -/
def Device.secondarySample (s : Device) (p : OwnPart) : Device :=
  let w := s.conf.wiring
  let used := fun (x : Nat) => w.roles.getD x 0 != 0
  let ok := fun (x : Nat) => used x && (p.chans.getD x (0, 0)).2 == 0
  let t := s.temp
  { s with temp := { t with
    any := true
    units := (t.units.zipIdx).map fun (u : TempUnit × Nat) =>
      if decide (u.2 < 4) && used u.2 then u.1.secondaryStep (p.chans.getD u.2 (0, 0)).2 else u.1
    sample := { t.sample with
      theta := (List.range 4).map fun x => if ok x then (p.chans.getD x (0, 0)).1 else 0
      valid := (List.range 4).map ok, held := [false, false, false, false]
      refRatio := p.refRatio, refFault := p.refBad, tick := s.land.tick, seq := wrapU 16 (t.sample.seq + 1) } } }

/-- SAMPLE_RSP of a secondary (R392): θ and fault of each channel in use, then the reference ratio. -/
def Device.sampleAnswer (s : Device) (m : SampleInput) : Device :=
  let w := s.conf.wiring
  let p := convertPart (some s.haw.pushedTemp) s.conf.clamp.sensorType w.wires (fun x => w.roles.getD x 0 == 0) false m
  let used := (List.range 4).filter fun x => w.roles.getD x 0 != 0
  let body := used.flatMap fun x => let v := p.chans.getD x (0, 0); leBytesS 4 v.1 ++ leBytes 1 v.2
  let s1 := s.secondarySample p
  Device.hwSend { s1 with haw := { s1.haw with sampling := false } } 0 0x09 (body ++ leBytes 4 p.refRatio)

/-- SAMPLE_COMPLETE (R201): this device's conversions are done. -/
def execSampleComplete (dt : Nat) (m : SampleInput) (s : State) : Host.Outcome State Fault Refusal :=
  let d := s.dev.elapse dt
  .next { s with dev :=
    if d.secondary then (if d.haw.sampling && d.on .converter then d.sampleAnswer m else d)
    else if d.up && d.temp.running && d.on .converter then
      Device.trySample { d with temp := { d.temp with ownPart := some (d.ownConvert m) } }
    else d }

/-- TEMP_SAMPLE_DUE (R11, R202): alarm slot 3 has fired, or a sample stayed due while the converter was not ON. -/
def execTempSampleDue (dt : Nat) (s : State) : Host.Outcome State Fault Refusal :=
  let d := (s.dev.elapse dt).woken 1
  .next { s with dev := if d.tolling && (d.fired 3 || d.temp.due) then d.fallDue else d }

end Sys2Proof.Machine
end

