-- ==== Sys2Proof/Machine/Params.lean ====
section
/-! DEFINITION. Strap decoding, the presets of the basic level, the PARAM_EXPERT groups and the CALIB sections with
their ranges, and the tests of an image (R56 to R74, R107 to R109, R158 to R161, R189, R190, R200, R217, R218, R258,
R297, R336, R386, R409, R436, R492, R538 to R541, R543). -/

namespace Sys2Proof.Machine

/-! ## The Skemond ladder (R58, R59) -/

/-- Lower and upper band edge of each code in 0.1 Ω. -/
def strapBands : List (Nat × Nat) :=
  [(2291, 2689), (3054, 3586), (4168, 4892), (5695, 6685), (7590, 8910), (10396, 12204), (13800, 16200),
   (18860, 22140), (25208, 29592), (34408, 40392), (45908, 53892), (62652, 73548), (83628, 98172),
   (114080, 133920), (155480, 182520), (207920, 244080)]

/-- The measured resistance in 2^-20 Ω: the ratio of the strap's voltage to that of `REFB`, in 2^-20, times 2000 Ω (R59). -/
def strapOhm (ratio : Nat) : Nat := ratio * 2000

/-- The code whose band contains the resistance that a ratio gives. -/
def strapCode (ratio : Nat) : Option Nat :=
  let r := strapOhm ratio
  strapBands.findIdx? fun b => b.1 * 2 ^ 20 ≤ 10 * r && 10 * r ≤ b.2 * 2 ^ 20

/-- One strap: the first of at most three pairs whose conversions decode alike (R59). -/
def readStrap : Nat → List (Nat × Nat) → Option Nat
  | 0, _ => none
  | _, [] => none
  | k + 1, p :: ps =>
    match strapCode p.1, strapCode p.2 with
    | some a, some b => if a = b then some a else readStrap k ps
    | _, _ => readStrap k ps

/-- A code that decodes and is reserved (R63, R66). -/
def strapReserved (n c : Nat) : Bool :=
  match n with
  | 0 => 12 ≤ c && c ≤ 14
  | 2 => c == 14
  | 4 => 9 ≤ c && c ≤ 14
  | 6 => 12 ≤ c && c ≤ 14
  | 7 => c == 14
  | 8 => c == 14
  | 10 => 13 ≤ c && c ≤ 14
  | 11 => c == 14
  | _ => false

/-- One read of all twelve straps: `codes` and `bad_mask` of R75. -/
structure StrapImage where
  codes : Nat
  bad : Nat
deriving DecidableEq, Repr

def decodeStraps (r : StrapReads) : StrapImage :=
  let cs := (List.range 12).map fun n => readStrap 3 (r.getD n [])
  { codes := sumNat ((cs.zipIdx).map fun c => (c.1.getD 0) * 16 ^ c.2)
    bad := sumNat ((cs.zipIdx).map fun c => match c.1 with
      | none => 2 ^ c.2
      | some v => if strapReserved c.2 v then 2 ^ c.2 else 0) }

/-- Code of strap `n` in an image. -/
def codeOf (codes n : Nat) : Nat := field codes (4 * n) 4

/-! ## Presets (R63 to R67, R107, R157, R188, R192, R216, R257, R335, R344, R385, R409, R435) -/

/-- `q_turn` in 0.05 L. -/
def presetQTurn (c : Nat) : QTurnP :=
  { qTurnN := [2, 4, 5, 8, 10, 20, 40, 50, 80, 100, 200, 400, 500, 1000, 2000].getD c 2 }

/-- Ports of each path of a map (R63, R64). -/
def mapPorts (c : Nat) : List (Nat × Nat) :=
  let chord := fun n => (List.range n).map fun i => (2 * i, 2 * i + 1)
  match c with
  | 0 | 1 | 2 => chord 1
  | 3 | 4 => chord 2
  | 5 => chord 3
  | 6 | 7 => chord 4
  | 8 => chord 5
  | 9 => chord 2
  | 10 => chord 4 ++ [(0, 3), (4, 7)]
  | 11 => chord 5 ++ [(0, 3), (4, 7), (6, 9)]
  | 12 => chord 5 ++ [(0, 3), (2, 5), (4, 7), (6, 9), (8, 1)]
  | _ => []

/-- The front end of a medium class (R107). -/
def frontEnd (cls : Nat) : PathP :=
  if cls ≤ 6 then {}
  else if cls = 10 then
    { fLo := 150000, fHi := 600000, pulses := 6, driveStart := 3, driveMax := 3, gainInit := 100, winLen := 1024 }
  else { fLo := 150000, fHi := 450000, pulses := 4, driveStart := 2, driveMax := 3, gainInit := 100, winLen := 1024 }

/-- The cascade map (R399): ports 0, 1 and 2, 3 of the primary and of each secondary in the expected mask, at the
index that its device number gives. -/
def cascadePaths (fe : PathP) (expected : Nat) : List PathP :=
  (List.range 12).map fun i =>
    let k := i / 2
    if k = 0 ∨ bitAt expected (k - 1) then
      { fe with portUp := 2 * (i % 2), portDown := 2 * (i % 2) + 1, devUp := k, devDown := k }
    else { fe with portUp := 255, portDown := 255 }

def presetPaths (c cls expected : Nat) : PathListP :=
  let fe := frontEnd cls
  if c = 13 then { paths := cascadePaths fe expected }
  else { paths := ((mapPorts c).zipIdx).map fun p =>
          { fe with portUp := p.1.1, portDown := p.1.2, refPath := c == 9 && p.2 == 1 } }

/-- Rest rate in 2^-4 Hz and steps to the top rate (R63, R178). -/
def presetShot (c : Nat) : ShotP :=
  if c = 14 then { external := true }
  else
    let p := [(4, 2), (8, 2), (16, 1), (16, 2), (32, 1), (32, 2), (64, 1), (64, 2), (128, 1), (128, 2), (256, 1),
              (256, 2), (32, 0), (128, 0)].getD c (4, 2)
    { rateRest := p.1, rateSteps := p.2 }

def presetWiring (c : Nat) : WiringP :=
  let w := if c = 2 ∨ c = 4 ∨ c = 7 then 2 else 4
  let r := match c with
    | 1 | 2 => [1, 0, 0, 0]
    | 3 | 4 => [2, 3, 0, 0]
    | 5 => [2, 3, 4, 0]
    | 6 | 7 => [2, 3, 5, 6]
    | 8 => [3, 2, 0, 0]
    | _ => [0, 0, 0, 0]
  { roles := r, wires := [w, w, w, w] }

/-- Sensor type and the clamp presets A to E of R65, in 1/16 s. -/
def presetClamp (c : Nat) : ClampP :=
  let p := [(1, 32, 480), (4, 64, 960), (16, 128, 1920), (64, 240, 4800), (1, 8, 160)].getD (c % 5) (1, 32, 480)
  { sensorType := c / 5, nTemp := p.1, tMin := p.2.1, tMax := p.2.2 }

def presetInstall (c : Nat) : InstallP := { bridgeUse := c % 3, flowPos := c / 3 % 2 == 1, eUnitMJ := c / 6 == 1 }

/-- The preset of `CFG7` (R66, R188); codes 0 and 13, for which R66 gives no `n_pulse`, take 1 (DESIGN CHOICE, log 25). -/
def presetPulse (c : Nat) : PulseP :=
  if c = 0 then {}
  else if c = 13 then { mode0 := 2 }
  else
    let n := if c ≤ 4 then 1 else if c ≤ 8 then 10 else 100
    { mode0 := 1, mode1 := [0, 2, 3, 4].getD ((c - 1) % 4) 0, nPulse := n }

/-- Channels and budget of a band and power (R344). -/
def basicChannels (band : Nat) (pa20 : Bool) (r : RadioP) : RadioP :=
  if band = 1 then { r with band := 1, pa20 := pa20, chFirst := 0, chCount := 129, txDuty := 0 }
  else if pa20 then { r with band := 0, pa20 := true, chFirst := 32, chCount := 1, txDuty := 100 }
  else { r with band := 0, pa20 := false, chFirst := 25, chCount := 3, txDuty := 10 }

def presetRadio (c : Nat) : RadioP :=
  if c < 8 then basicChannels (c / 4) (c % 2 == 1) { role := if c / 2 % 2 = 1 then 2 else 1 }
  else
    let role := if c = 8 ∨ c = 9 then 1 else if c = 10 then 2 else 0
    let wm := if c = 8 ∨ c = 10 ∨ c = 11 then 1 else if c = 9 ∨ c = 12 then 2 else 0
    basicChannels 0 false { role := role, wmbus := wm }

def presetPhy (c : Nat) : PhyP := { phy := c / 5, contactEvery := [900, 1800, 3600, 14400, 86400].getD (c % 5) 900 }

/-- Codes 1 to 12 of `CFG10` (R66). -/
def presetDisplay (c : Nat) : DisplayP :=
  let k := c - 1
  { refreshEvery := [0, 3600, 900].getD (k % 3) 0, redEn := k / 3 % 2 == 1, drive := k / 6 % 2 }

def presetSystem (c : Nat) : SystemP :=
  let k := c % 7
  { timeBase := c / 7, role := if k = 0 then 0 else if k = 1 then 1 else 2, deviceNo := k - 1 }

/-! ## Blocks (R538) -/

/-- A body cut into its blocks: ids strictly ascending, the body filled exactly. -/
def parseBlocks : Nat → Option Nat → Bytes → Option (List (Nat × Bytes))
  | 0, _, b => if b.isEmpty then some [] else none
  | k + 1, last, b =>
    if b.isEmpty then some []
    else
      let id := getU b 0 1
      let n := getU b 2 2
      let asc := match last with
        | none => true
        | some l => decide (l < id)
      if b.length < 4 + n ∨ asc = false then none
      else (parseBlocks k (some id) (b.drop (4 + n))).map fun r => (id, (b.drop 4).take n) :: r

/-- Size of the contents of a PARAM_EXPERT block from its own count fields; none for an unknown id (R540). -/
def pagesSize : Nat → Nat → Bytes → Nat
  | 0, _, _ => 0
  | k + 1, off, b => let n := 4 + 24 * getU b off 1; n + pagesSize k (off + n) b

def groupSize (id : Nat) (b : Bytes) : Option Nat :=
  match id with
  | 0 => some 36
  | 1 => some 8
  | 2 => some (16 + 20 * getU b 14 1)
  | 3 => some 10
  | 4 => some 16
  | 5 => some 8
  | 6 => some 32
  | 7 => some 8
  | 8 => some 8
  | 9 => some (24 + 6 * getU b 11 1)
  | 10 => some (12 + pagesSize (getU b 7 1) 12 b)
  | 11 => some 32
  | _ => none

/-- Size of the contents of a CALIB block (R539). -/
def sectionSize (id : Nat) (b : Bytes) : Option Nat :=
  match id with
  | 1 => some (4 + 16 * getU b 0 1)
  | 2 => some (276 + 148 * getU b 272 1)
  | 3 => some 140
  | 4 => some 40
  | 5 => some 32
  | 6 => some (1484 + 34 * getU b 2 2)
  | 7 => some 124
  | _ => none

/-- The blocks of a body whose sizes all fit. -/
def blocksOf (size : Nat → Bytes → Option Nat) (body : Bytes) : Option (List (Nat × Bytes)) :=
  match parseBlocks 13 none body with
  | some bs => if bs.all fun b => size b.1 b.2 == some b.2.length then some bs else none
  | none => none

def blockOf (bs : List (Nat × Bytes)) (id : Nat) : Option Bytes := (bs.find? (·.1 == id)).map (·.2)

/-- A value within its range. -/
def inR (lo hi v : Nat) : Bool := decide (lo ≤ v ∧ v ≤ hi)
def inRI (lo hi v : Int) : Bool := decide (lo ≤ v ∧ v ≤ hi)

/-! ## PARAM_EXPERT groups: contents, then ranges (R540) -/

def mediumOf (b : Bytes) : MediumP :=
  { cls := getU b 0 1, glycolType := getU b 1 1, persist := getU b 2 1, thetaSwitch := getS b 4 4
    thetaHyst := getU b 8 4, dthetaZero := getU b 12 4, dthetaNeg := getU b 16 4, swapTime := getU b 20 4
    checkTol := getU b 24 4, glycolW := getU b 28 2, cvSrc := getU b 30 1, cvFixed := getU b 32 4 }

def MediumP.ok (m : MediumP) : Bool :=
  inR 0 11 m.cls && inR 0 2 m.glycolType && inR 1 64 m.persist && inRI 5000000 50000000 m.thetaSwitch &&
  inR 100000 5000000 m.thetaHyst && inR 0 3000000 m.dthetaZero && inR 10000 3000000 m.dthetaNeg &&
  inR 60 86400 m.swapTime && inR 10000 2000000 m.checkTol && (m.glycolW == 0 || inR 1311 39322 m.glycolW) &&
  inR 0 2 m.cvSrc && (m.cvFixed == 0 || inR 327680 3932160 m.cvFixed) && !(m.cvSrc == 1 && m.cvFixed == 0)

def qTurnOf (b : Bytes) : QTurnP := { qTurnN := getU b 0 4, nMile := getU b 4 4 }

def QTurnP.ok (q : QTurnP) : Bool := inR 2 2000 q.qTurnN && decide (1 ≤ q.nMile)

def pathOf (b : Bytes) : PathP :=
  { portUp := getU b 0 1, portDown := getU b 1 1, devUp := getU b 2 1, devDown := getU b 3 1, fLo := getU b 4 4
    fHi := getU b 8 4, pulses := getU b 12 1, driveStart := getU b 13 1, driveMax := getU b 14 1
    gainInit := getU b 15 1, winLen := getU b 16 2, brake := bitAt (getU b 18 1) 0, trackEn := bitAt (getU b 18 1) 1
    refPath := bitAt (getU b 18 1) 2 }

/-- Ranges of R108, and the rule of R399 that a path across devices has a port on device 0. -/
def PathP.ok (p : PathP) : Bool :=
  inR 0 9 p.portUp && inR 0 9 p.portDown && inR 0 5 p.devUp && inR 0 5 p.devDown && inR 100000 4000000 p.fLo &&
  (!p.trackEn || (inR 100000 4000000 p.fHi && inR p.fLo (4 * p.fLo) p.fHi)) && inR 1 31 p.pulses &&
  inR 0 3 p.driveStart && inR p.driveStart 3 p.driveMax && inR 0 120 p.gainInit && inR 256 2048 p.winLen &&
  p.winLen % 256 == 0 && (p.devUp == p.devDown || p.devUp == 0 || p.devDown == 0)

def pathListOf (b : Bytes) : PathListP :=
  { basic := false, rhoValid := getU b 0 2, rhoVoid := getU b 2 2, snrValid := getU b 4 1, snrVoid := getU b 5 1
    slipMin := getU b 6 1, imbMarg := getU b 7 1, imbVoid := getU b 8 1, dtMaxFrac := getU b 9 1
    retirePairs := getU b 10 2, retireTime := getU b 12 2
    paths := (List.range (getU b 14 1)).map fun i => pathOf (b.drop (16 + 20 * i)) }

def PathListP.ok (l : PathListP) : Bool :=
  inR 32768 64880 l.rhoValid && inR 19661 l.rhoValid l.rhoVoid && inR 0 240 l.snrValid && inR 0 l.snrValid l.snrVoid &&
  inR 3 64 l.slipMin && inR 4 120 l.imbVoid && inR 4 l.imbVoid l.imbMarg && inR 3 128 l.dtMaxFrac &&
  inR 16 1024 l.retirePairs && inR 10 3600 l.retireTime && inR 1 20 l.paths.length && l.paths.all (·.ok)

def shotOf (b : Bytes) : ShotP :=
  { external := getU b 0 1 == 1, retryMax := getU b 1 1, extBurst := getU b 2 1, rateSteps := getU b 3 1
    rateRest := getU b 4 2, extRateMax := getU b 6 2, gapHold := getU b 8 2 }

/-- Ranges of R158 and R189, and the condition of R190. -/
def shotOk (b : Bytes) : Bool :=
  let p := shotOf b
  inR 0 1 (getU b 0 1) && inR 0 3 p.retryMax && inR 1 16 p.extBurst && inR 0 6 p.rateSteps && inR 1 16000 p.rateRest &&
  inR 1 1000 p.extRateMax && inR 1 60 p.gapHold && decide (16 ≤ p.gapHold * p.rateRest)

def wiringOf (b : Bytes) : WiringP :=
  { roles := (List.range 4).map fun i => getU b i 1, wires := (List.range 4).map fun i => getU b (4 + i) 1
    tempHold := getU b 8 2, secMask := getU b 10 1, tempRetire := getU b 12 4 }

def WiringP.has (w : WiringP) (r : Nat) : Bool := w.roles.contains r

/-- Ranges of R217. -/
def WiringP.ok (w : WiringP) : Bool :=
  (w.roles.zip w.wires).all (fun x => inR 0 6 x.1 && (x.1 == 0 || x.2 == 2 || x.2 == 4)) &&
  inR 10 3600 w.tempHold && inR 60 86400 w.tempRetire

/-- The conditions of R218 that need no medium class. -/
def WiringP.rolesFit (w : WiringP) : Bool :=
  [1, 2, 3].all (fun r => w.roles.count r ≤ 1) && !(w.has 1 && (w.has 2 || w.has 3)) &&
  !(w.has 5 && !w.has 2) && !(w.has 6 && !w.has 3)

def clampOf (b : Bytes) : ClampP :=
  { sensorType := getU b 0 1, nTemp := getU b 2 2, tMin := getU b 4 2, tMax := getU b 6 2 }

def ClampP.ok (c : ClampP) : Bool :=
  inR 0 2 c.sensorType && decide (1 ≤ c.nTemp) && inR 8 9600 c.tMin && inR c.tMin 57600 c.tMax

def installOf (b : Bytes) : InstallP :=
  { eUnitMJ := getU b 0 1 == 1, flowPos := getU b 1 1 == 1, bridgeUse := getU b 2 1, gauge := getU b 3 1 == 1
    estMode := getU b 4 1, pAtm := getU b 8 4, pNom := getU b 12 4, baseP := getU b 16 4, baseT := getU b 20 4
    thetaSub := getS b 24 4, qEst := getS b 28 4 }

/-- Ranges of R217 and R258; `q_est` is held against the `q_nom` of the stored calibration. -/
def installOk (qNom : Option Nat) (b : Bytes) : Bool :=
  let p := installOf b
  inR 0 1 (getU b 0 1) && inR 0 1 (getU b 1 1) && inR 0 2 p.bridgeUse && inR 0 1 (getU b 3 1) && inR 0 2 p.estMode &&
  inR 80000 110000 p.pAtm && inR 100000 4000000 p.pNom && inR 100000 102000 p.baseP &&
  [273150, 288150, 293150].contains p.baseT && inRI (-20000000) 50000000 p.thetaSub && decide (0 ≤ p.qEst) &&
  (match qNom with
    | some q => decide (p.qEst ≤ q)
    | none => true)

def pulseOf (b : Bytes) : PulseP :=
  { mode0 := getU b 0 1, mode1 := getU b 1 1, nPulse := getU b 2 2, width := getU b 4 2, gap := getU b 6 2 }

def PulseP.ok (p : PulseP) : Bool :=
  inR 0 4 p.mode0 && inR 0 4 p.mode1 && decide (1 ≤ p.nPulse) && decide (33 ≤ p.width) && decide (33 ≤ p.gap)

def radioOf (b : Bytes) : RadioP :=
  { band := getU b 0 1, role := getU b 1 1, pa20 := getU b 2 1 == 1, wmbus := getU b 3 1, chFirst := getU b 4 1
    chCount := getU b 5 1, txDuty := getU b 6 2 }

def radioOk (b : Bytes) : Bool :=
  let r := radioOf b
  inR 0 1 r.band && inR 0 2 r.role && inR 0 1 (getU b 2 1) && inR 0 2 r.wmbus && decide (1 ≤ r.chCount) &&
  decide (r.chFirst + r.chCount ≤ if r.band = 0 then 65 else 129) && inR 0 1000 r.txDuty

def phyOf (b : Bytes) : PhyP :=
  { phy := getU b 0 1, preamble := getU b 1 1, exchMax := getU b 2 1, dlTries := getU b 3 1
    contactEvery := getU b 4 4, uplinkEvery := getU b 8 1, driftUnc := getU b 9 1, driftUnc0 := getU b 10 1
    objs := some ((List.range (getU b 11 1)).map fun n =>
      let e := b.drop (24 + 6 * n)
      ⟨getU e 0 2, getU e 2 3, getU e 5 1⟩)
    searchCap := getU b 12 2, orphanContacts := getU b 14 2, evictDays := getU b 16 2, proxyHold := getU b 20 4 }

def PhyP.ok (p : PhyP) : Bool :=
  inR 0 2 p.phy && inR 4 64 p.preamble && inR 4 32 p.exchMax && inR 1 8 p.dlTries && inR 60 86400 p.contactEvery &&
  decide (1 ≤ p.uplinkEvery) && inR 1 20 p.driftUnc && inR 5 100 p.driftUnc0 && inR 0 16 ((p.objs.getD []).length) &&
  inR 0 600 p.searchCap && inR 8 1024 p.orphanContacts && inR 1 365 p.evictDays && inR 3600 604800 p.proxyHold

def fieldOf (b : Bytes) : PageField :=
  let fl := getU b 3 1
  { kind := getU b 0 1, ink := getU b 1 1, dens := getU b 2 1, signed := bitAt fl 0, leadZero := bitAt fl 1
    hex := bitAt fl 2, inv := bitAt fl 3, obj := getU b 4 2, seg := getU b 6 1, nCells := getU b 7 1, off := getU b 8 3
    len := getU b 11 1, shr := getU b 12 1, decimals := getU b 13 1, bit := getU b 14 1, divisor := getU b 16 4
    modulo := getU b 20 4 }

/-- Ranges of R424. -/
def PageField.ok (f : PageField) : Bool :=
  inR 0 2 f.kind && inR 0 2 f.ink &&
  (f.kind != 0 || (inR 1 8 f.len && inR 0 32 f.shr && inR 1 1000000000 f.divisor &&
    (f.modulo == 0 || inR 2 1000000000 f.modulo) && inR 1 16 f.nCells && inR 0 7 f.decimals)) &&
  (f.kind != 1 || inR 0 7 f.bit)

def pagesOf : Nat → Bytes → List (List PageField)
  | 0, _ => []
  | k + 1, b =>
    let n := getU b 0 1
    ((List.range n).map fun f => fieldOf (b.drop (4 + 24 * f))) :: pagesOf k (b.drop (4 + 24 * n))

def displayOf (b : Bytes) : DisplayP :=
  { refreshEvery := getU b 0 4, redEn := getU b 4 1 == 1, drive := getU b 5 1, bgDens := getU b 6 1
    pageTimeout := getU b 8 2, updCap := getU b 10 2, pages := some (pagesOf (getU b 7 1) (b.drop 12)) }

def displayOk (b : Bytes) : Bool :=
  let d := displayOf b
  (d.refreshEvery == 0 || inR 60 86400 d.refreshEvery) && inR 0 1 (getU b 4 1) && inR 0 1 d.drive &&
  inR 10 3600 d.pageTimeout && inR 1 3600 d.updCap && inR 1 12 (getU b 7 1) &&
  (d.pages.getD []).all fun p => decide (p.length ≤ 8) && p.all (·.ok)

def systemOf (b : Bytes) : SystemP :=
  { timeBase := getU b 0 1, refinFallbackEn := getU b 1 1 == 1, role := getU b 2 1, deviceNo := getU b 3 1
    demLen := getU b 4 1, demSub := getU b 5 1, pwrEnMode := getU b 6 1, sealEn := getU b 7 1 == 1
    shipEn := getU b 8 1 == 1, plsEn := getU b 9 1 % 16, secLostCycles := getU b 10 2, secLostTime := getU b 12 2
    pwrEnLead := getU b 14 2, adjLimit := getU b 16 2, plsDb := (List.range 4).map fun i => getU b (20 + 2 * i) 2
    sealPeriod := getU b 28 4 }

def systemOk (b : Bytes) : Bool :=
  let y := systemOf b
  inR 0 1 y.timeBase && inR 0 1 (getU b 1 1) && inR 0 2 y.role && (y.role != 2 || inR 1 5 y.deviceNo) &&
  inR 0 4 y.demLen && inR 0 3 y.demSub && inR 0 2 y.pwrEnMode && inR 0 1 (getU b 7 1) && inR 0 1 (getU b 8 1) &&
  inR 4 1024 y.secLostCycles && inR 1 600 y.secLostTime && inR 1 3600 y.adjLimit && y.plsDb.all (inR 3 65535) &&
  inR 4096 327680 y.sealPeriod

/-- Every group that the blocks carry, contents only. -/
def groupsOf (bs : List (Nat × Bytes)) : Groups :=
  { medium := (blockOf bs 0).map mediumOf, qTurn := (blockOf bs 1).map qTurnOf, pathList := (blockOf bs 2).map pathListOf
    shot := (blockOf bs 3).map shotOf, wiring := (blockOf bs 4).map wiringOf, clamp := (blockOf bs 5).map clampOf
    install := (blockOf bs 6).map installOf, pulse := (blockOf bs 7).map pulseOf, radio := (blockOf bs 8).map radioOf
    phy := (blockOf bs 9).map phyOf, display := (blockOf bs 10).map displayOf, system := (blockOf bs 11).map systemOf }

/-- Each field of each block lies within its range (R109, R541). -/
def groupInRange (qNom : Option Nat) (b : Nat × Bytes) : Bool :=
  match b.1 with
  | 0 => (mediumOf b.2).ok
  | 1 => (qTurnOf b.2).ok
  | 2 => (pathListOf b.2).ok
  | 3 => shotOk b.2
  | 4 => (wiringOf b.2).ok
  | 5 => (clampOf b.2).ok
  | 6 => installOk qNom b.2
  | 7 => (pulseOf b.2).ok
  | 8 => radioOk b.2
  | 9 => (phyOf b.2).ok
  | 10 => displayOk b.2
  | 11 => systemOk b.2
  | _ => false

/-- The body of a stored record between its header and its signatures. -/
def recBody (r : Bytes) : Bytes := (r.drop 16).take (r.length - 16 - 66 * getU r 1 1)

/-- The groups of a stored PARAM_EXPERT record; none of them where none is stored. -/
def storedGroups (r : Bytes) : Groups := groupsOf ((blocksOf groupSize (recBody r)).getD [])

/-! ## CALIB sections (R539) -/

def pathCalOf (b : Bytes) : PathCal :=
  { tOfs := getU b 0 4, pathLen := getU b 4 4, pathAxial := getU b 8 4, dtZero := getS b 12 4 }

/-- Ranges of R159: 1 mm to 1 m in 2^-24 m. -/
def PathCal.ok (c : PathCal) : Bool :=
  inR 16778 16777216 c.pathLen && inR 0 c.pathLen c.pathAxial && inRI (-1048576) 1048576 c.dtZero

def pathCalsOf (b : Bytes) : List PathCal := (List.range (getU b 0 1)).map fun i => pathCalOf (b.drop (4 + 16 * i))

def wsetOf (b : Bytes) : WeightSet :=
  { mask := getU b 0 4, w := (List.range 20).map fun i => getS b (4 + 4 * i) 4
    profK := (List.range 16).map fun j => getU b (84 + 4 * j) 4 }

def flowCalOf (b : Bytes) : FlowCal :=
  { pipeDiam := getU b 0 4, pipeArea := getU b 4 4, qNom := getU b 8 4, qCut := getU b 12 4
    errQ := (List.range 32).map fun k => getU b (16 + 4 * k) 4, errE := (List.range 32).map fun k => getS b (144 + 4 * k) 4
    wsets := (List.range (getU b 272 1)).map fun s => wsetOf (b.drop (276 + 148 * s)) }

def ascending : List Nat → Bool
  | a :: b :: r => decide (a < b) && ascending (b :: r)
  | _ => true

def WeightSet.ok (w : WeightSet) : Bool :=
  decide (w.mask < 2 ^ 20) &&
  ((List.range 20).all fun i => !bitAt w.mask i || inRI (-(2 ^ 31)) (2 ^ 31 - 1) (w.w.getD i 0)) &&
  w.profK.all (inR (2 ^ 29) (3 * 2 ^ 29))

/-- Ranges of R159. ±0.1 is ±107 374 182.4 in 2^-30. -/
def FlowCal.ok (f : FlowCal) : Bool :=
  inR 83887 16777216 f.pipeDiam && decide (1 ≤ f.pipeArea) && decide (256 ≤ f.qNom) && decide (16 * f.qCut ≤ f.qNom) &&
  ascending f.errQ && f.errE.all (inRI (-107374182) 107374182) && inR 1 16 f.wsets.length && f.wsets.all (·.ok)

def chanCalOf (b : Bytes) : ChanCal :=
  { r0 := getU b 0 4, leadOhm := getU b 4 4, cvdA := getS b 8 8, cvdB := getS b 16 8, cvdC := getS b 24 8 }

def tempCalOf (b : Bytes) : TempCal :=
  { refaOhm := getU b 4 4, refbOhm := getU b 8 4
    chans := (List.range 4).map fun x => if bitAt (getU b 0 1) x then some (chanCalOf (b.drop (12 + 32 * x))) else none }

/-- a ≤ v / 2^k · 10^e ≤ b, for the coefficient ranges of R200. -/
def coefIn (v : Int) (k e : Nat) (a b : Int) : Bool := decide (a * 2 ^ k ≤ v * 10 ^ e ∧ v * 10 ^ e ≤ b * 2 ^ k)

/-- Ranges of R200 that do not depend on the configuration. -/
def ChanCal.ok (c : ChanCal) : Bool :=
  coefIn c.cvdA 48 4 38 40 && coefIn c.cvdB 56 8 (-70) (-45) && coefIn c.cvdC 72 12 (-6) (-2) &&
  inR 0 (20 * 2 ^ 20) c.leadOhm

def TempCal.ok (t : TempCal) : Bool :=
  decide (9999 * 2 ^ 20 ≤ 10 * t.refaOhm ∧ 10 * t.refaOhm ≤ 10001 * 2 ^ 20) &&
  decide (19998 * 2 ^ 20 ≤ 10 * t.refbOhm ∧ 10 * t.refbOhm ≤ 20002 * 2 ^ 20) &&
  t.chans.all fun c => match c with
    | some x => x.ok
    | none => true

def bridgeCalOf (b : Bytes) : BridgeCal :=
  { c0 := getS b 0 8, c1 := getS b 8 8, c2 := getS b 16 8, d0 := getS b 24 8, d1 := getS b 32 8 }

def ageCalOf (b : Bytes) : AgeCal :=
  { calTime := getU b 0 6, tau := getU b 6 2, eps0 := getS b 8 4, lin := getS b 12 4, log := getS b 16 4 }

def AgeCal.ok (a : AgeCal) : Bool := inR 1 3650 a.tau

def lfCalOf (b : Bytes) : LfCal := { trimN := getS b 20 4, beta := getS b 24 2, theta0 := getS b 26 2, trimK := getU b 28 1 }

/-- Ranges of R301. -/
def LfCal.ok (l : LfCal) : Bool := inR 5 20 l.trimK && decide (l.trimN.natAbs ≤ 2 ^ (l.trimK + 4))

def nibbles (bs : Bytes) : List Nat := bs.flatMap fun b => [b.toNat % 16, b.toNat / 16]

def dispCalOf (b : Bytes) : DispCal :=
  { waveDrive := getU b 0 1, segUsed := getU b 4 14, segRegion := nibbles (slice b 18 56)
    dens := (slice b 74 9).map (·.toNat), cells := (List.range 16).map fun c => (slice b (84 + 8 * c) 8).map (·.toNat)
    icons := (slice b 212 24).map (·.toNat), waveIdx := (slice b 236 1248).map (·.toNat)
    library := (List.range (getU b 2 2)).map fun n => (List.range 17).map fun j => getU b (1484 + 34 * n + 2 * j) 2 }

def secClockOf (b : Bytes) : List AgeCal :=
  (List.range 5).map fun k => if bitAt (getU b 0 1) (k + 1) then ageCalOf (b.drop (4 + 24 * k)) else {}

/-- Every section that the blocks carry; the defaults of R101, R200, R335 and R417 where one is absent. -/
def calibOf (bs : List (Nat × Bytes)) : CalibP :=
  { path := (blockOf bs 1).map pathCalsOf, flow := (blockOf bs 2).map flowCalOf, temp := (blockOf bs 3).map tempCalOf
    bridge := (blockOf bs 4).map bridgeCalOf, age := ((blockOf bs 5).map ageCalOf).getD {}
    lf := ((blockOf bs 5).map lfCalOf).getD {}, disp := (blockOf bs 6).map dispCalOf
    secClock := ((blockOf bs 7).map secClockOf).getD [{}, {}, {}, {}, {}] }

def storedCalib (r : Bytes) : CalibP := calibOf ((blocksOf sectionSize (recBody r)).getD [])

/-! ## Tests of a path (R109) -/

/-- Numerator and denominator of the shortest or longest expected transit time in coarse cycles (R118). -/
def expectedCoarse (pathLen c : Nat) : Nat × Nat := (pathLen * 96000000, 2 ^ 24 * c)

/-- Burst length at f_lo in coarse cycles, over 2 f_lo. -/
def burstCoarse (p : PathP) : Nat × Nat := ((2 * p.pulses + (if p.brake then 1 else 0)) * 96000000, 2 * p.fLo)

/-- a ≥ b, as fractions. -/
def fracGe (a b : Nat × Nat) : Bool := decide (b.1 * a.2 ≤ a.1 * b.2)
def fracAdd (a : Nat × Nat) (n : Nat) : Nat × Nat := (a.1 + n * a.2, a.2)
def fracSub (a : Nat × Nat) (n : Nat) : Nat × Nat := (a.1 - n * a.2, a.2)

/-- The two tests of R109 for a path of length `len` in a class. -/
def pathFits (p : PathP) (cls len : Nat) : Bool :=
  let band := searchBand cls
  let m := decimLo p.winLen p.fLo
  let ready := fracAdd (burstCoarse p) 192
  let short := expectedCoarse len band.2
  let open1 := fracSub (expectedCoarse len band.1) (p.winLen * 2 ^ m / 2)
  let open2 := if fracGe ready open1 then ready else open1
  fracGe short ready && fracGe (67200, 1) (fracAdd open2 (p.winLen * 2 ^ (m + 1)))

/-! ## Resolution and tests of an image (R68, R69, R71, R72) -/

/-- A strap's group: the preset of its code, the stored group at code 15, none for a bad strap. -/
def pick {α : Type} (img : StrapImage) (n : Nat) (preset : Nat → α) (stored : Option α) : Option α :=
  if bitAt img.bad n then none
  else if codeOf img.codes n = 15 then stored
  else some (preset (codeOf img.codes n))

/-- The role that an image gives the device (R67, R388). -/
def Groups.role (g : Groups) : Nat := (g.system.map (·.role)).getD 0

/-- On a secondary only `CFG4`, `CFG5` and `CFG11` act; the codes of the other straps have no effect (R67). -/
def Groups.acting (g : Groups) : Groups :=
  if g.role = 2 then { wiring := g.wiring, clamp := g.clamp, system := g.system } else g

/-- The groups that an image brings in force. -/
def resolve (img : StrapImage) (st : Groups) (expected : Nat) : Groups :=
  let med := pick img 0 (fun c => ({ cls := c } : MediumP)) st.medium
  let cls := (med.getD {}).cls
  Groups.acting
  { medium := med
    qTurn := pick img 1 presetQTurn st.qTurn
    pathList := pick img 2 (fun c => presetPaths c cls expected) st.pathList
    shot := pick img 3 presetShot st.shot
    wiring := pick img 4 presetWiring st.wiring
    clamp := pick img 5 presetClamp st.clamp
    install := pick img 6 presetInstall st.install
    pulse := pick img 7 presetPulse st.pulse
    radio := pick img 8 presetRadio st.radio
    phy := pick img 9 presetPhy st.phy
    display := pick img 10 presetDisplay st.display
    system := pick img 11 presetSystem st.system }

/-- Straps that act: on a secondary only `CFG4`, `CFG5` and `CFG11` (R67). -/
def Groups.acts (g : Groups) (n : Nat) : Bool := g.role != 2 || n == 4 || n == 5 || n == 11

def Groups.present (g : Groups) (n : Nat) : Bool :=
  match n with
  | 0 => g.medium.isSome
  | 1 => g.qTurn.isSome
  | 2 => g.pathList.isSome
  | 3 => g.shot.isSome
  | 4 => g.wiring.isSome
  | 5 => g.clamp.isSome
  | 6 => g.install.isSome
  | 7 => g.pulse.isSome
  | 8 => g.radio.isSome
  | 9 => g.phy.isSome
  | 10 => g.display.isSome
  | 11 => g.system.isSome
  | _ => false

/-- Functions that are expert-pending (R68): bit n for strap n at code 15 without a group. -/
def pendingOf (img : StrapImage) (g : Groups) : Nat :=
  sumNat ((List.range 12).map fun n =>
    if codeOf img.codes n = 15 ∧ bitAt img.bad n = false ∧ g.present n = false ∧ g.acts n = true then 2 ^ n else 0)

/-- An option holds, or its group is not there to be checked. -/
def checked {α : Type} (o : Option α) (f : α → Bool) : Bool :=
  match o with
  | some a => f a
  | none => true

/-- The wiring that a medium class needs (R72, R218). -/
def wiringFits (cls : Nat) (w : WiringP) : Bool :=
  if energyClass cls then w.has 2 && w.has 3 else if gasClass cls then w.has 1 || w.has 2 else true

/-- The rows of R72, and R218. On a secondary `CFG0` does not act (R67), so that no medium class is in force. -/
def consistent (img : StrapImage) (g : Groups) : Bool :=
  (checked g.wiring (·.rolesFit)) &&
  (g.role == 2 ||
  (checked g.medium fun m =>
    (checked g.wiring (wiringFits m.cls)) &&
    (checked g.install fun i => (i.bridgeUse != 1 || liquidClass m.cls) && (i.bridgeUse != 2 || gasClass m.cls)) &&
    (checked g.pulse fun p => (p.mode0 != 2 && p.mode1 != 2) || energyClass m.cls)) &&
  (codeOf img.codes 2 != 13 || bitAt img.bad 2 || checked g.system fun y => y.role == 1))

/-- The load of R71 in 1/64 path-pairs per second; none where it cannot be formed. -/
def loadOf (img : StrapImage) (g : Groups) (expected : Nat) (known : Bool) : Option Nat :=
  match g.shot with
  | none => none
  | some p =>
    let top := p.rateRest * 2 ^ p.rateSteps
    if p.external then some (64 * p.extRateMax)
    else
      match g.pathList with
      | none => none
      | some l =>
        if codeOf img.codes 2 = 15 then
          some (top * sumNat (l.paths.map fun q => if q.devUp = q.devDown then 4 else 5))
        else if codeOf img.codes 2 = 13 then
          let n := if known then 1 + ((List.range 5).filter (bitAt expected)).length else 6
          some (top * 8 * n)
        else some (top * 4 * l.paths.length)

/-- The load exceeds the sustainable 1000 path-pairs per second; a load that cannot be formed is passed over. -/
def overLoad (l : Option Nat) : Bool :=
  match l with
  | some x => decide (64000 < x)
  | none => false

inductive ImageVerdict where
  | pass | fault | refused
deriving DecidableEq, Repr

/-- The validation of R71. -/
def validate (img : StrapImage) (g : Groups) (expected : Nat) (known : Bool) : ImageVerdict :=
  if img.bad != 0 then .fault
  else if !consistent img g then .fault
  else if g.role != 2 && overLoad (loadOf img g expected known) then .refused
  else .pass

/-! ## A calibration that fits (R161, R539, R543) -/

/-- The primary set names every measuring path, and no set names another (R161). -/
def wsetsFit (measuring : Nat) (f : FlowCal) : Bool :=
  f.wsets.any (·.mask == measuring) && decide ((f.wsets.map (·.mask)).eraseDups.length = f.wsets.length) &&
  f.wsets.all fun w => w.mask ||| measuring == measuring

/-- The tests of a PATH section against the path list. -/
def pathSectionFits (g : Groups) (c : List PathCal) : Bool :=
  inR 1 20 c.length && c.all (·.ok) && decide ((g.pathList.getD {}).paths.length ≤ c.length)

/-- Mask of the measuring paths that a path list and a PATH section give (R160). -/
def measuringMask (conf : Conf) (g : Groups) (c : CalibP) : Nat := maskOf { conf with g := g, calib := c }.measuringPaths

/-- A channel in use has an `r0` near the nominal of its sensor (R200); `roles` are those of its entries, by the combined
index in a cascade (R403). -/
def r0sFit (roles : List Nat) (g : Groups) (t : Option TempCal) : Bool :=
  checked t fun x => (List.range 4).all fun i =>
    checked (x.chans.getD i none) fun c => roles.getD i 0 == 0 || r0Fits (g.clamp.getD {}).sensorType c.r0

/-- Cause of R543 with which a calibration leaves measurement pending; 0 where it fits. -/
def calibCause (roles : List Nat) (conf : Conf) (g : Groups) (c : CalibP) : Nat :=
  match c.path, c.flow with
  | none, _ => 1
  | some _, none => 2
  | some p, some f =>
    if pathSectionFits g p && f.ok && wsetsFit (measuringMask conf g c) f && r0sFit roles g c.temp then 0 else 3

/-- A fitting PATH section lets the Transit Engine measure (R543). -/
def pathUsable (g : Groups) (c : CalibP) : Bool := match c.path with | some p => pathSectionFits g p | none => false

end Sys2Proof.Machine
end

