-- ==== Sys2Proof/Machine/Ledger.lean ====
section
/-! DEFINITION. The Ledger: every object of the catalogue in bytes, who may read it, and one piece of one read (R523 to
R530, with the layout rule of each object); the pin `ALERT`. -/

namespace Sys2Proof.Machine

/-! ## The pins ALERT (R74, R466, R480, R512, R519) and BUSY (R153) -/

/-- Sources of R466. -/
def Device.tamperAlert (s : Device) : Bool :=
  s.sec.lc.sealedOrService &&
    ((match s.land.sealSt with
      | .opened | .short => true
      | .ok | .notMonitored => false) || s.land.caseOpen || s.land.mag)

/-- `ALERT` is asserted; in SHIP the pin is not driven (R34). The 100 ms of R512 are told by LFX, and where it stands by
the checks, one every 1 ms. -/
def Device.alert (s : Device) : Bool :=
  s.power.st != .ship &&
    (s.conf.safePreset || s.tamperAlert || s.st.legalHold || s.st.failed != 0 || s.power.waitAlert ||
      (s.st.condWait && (decide (s.power.waitOsc + 3277 ≤ s.land.osc) || decide (100 ≤ s.power.waitChecks))))

/-- The pin `BUSY`: high from the start of a path-pair until its result is formed (R153), at a secondary while it runs
its part of one. -/
def Device.busyPin (s : Device) : Bool := s.tr.cyc.inFlight.isSome || s.haw.job.isSome

/-! ## Bits and bytes -/

def uB (n v : Nat) : Bytes := leBytes n v
def sB (n : Nat) (v : Int) : Bytes := leBytesS n v

/-- Flags packed from bit 0 up. -/
def packFlags (l : List Bool) : Nat := sumNat ((l.zipIdx).map fun x => bitVal x.1 x.2)

/-- A list of entries at `n` places, each of its own bytes. -/
def entries {α : Type} (n : Nat) (l : List α) (d : α) (f : α → Bytes) : Bytes :=
  (List.range n).flatMap fun k => f (l.getD k d)

/-! ## Tollhouse objects -/

def VolLedger.bytes (l : VolLedger) : Bytes :=
  sB 16 l.net ++ sB 16 l.hwm ++ uB 16 l.rev ++ uB 1 l.incRem ++ uB 1 0 ++ uB 6 l.tPrev

def Ledgers.eBytes (l : Ledgers) : Bytes :=
  sB 16 l.heat.net ++ sB 16 l.heat.hwm ++ uB 16 l.heat.rev ++ sB 16 l.cool.net ++ sB 16 l.cool.hwm ++ uB 16 l.cool.rev ++
  uB 8 l.heat.rem ++ uB 8 l.cool.rem ++ uB 4 l.gasRem ++ uB 2 l.pulseAcc ++ uB 2 0 ++
  (match l.hold with
    | none => List.replicate 11 0#8
    | some h => uB 4 h.rho ++ sB 6 h.dh ++ uB 1 (match h.side with | .heat => 1 | .cool => 2)) ++ uB 1 0

def Ledgers.estBytes (l : Ledgers) : Bytes :=
  sB 16 l.estVol ++ sB 16 l.estHeat.net ++ sB 16 l.estHeat.hwm ++ sB 16 l.estCool.net ++ sB 16 l.estCool.hwm ++
  uB 8 l.estHeat.rem ++ uB 8 l.estCool.rem ++ uB 1 l.estVrem ++ uB 1 0 ++ uB 6 l.tEst

def FaultTime.bytes (f : FaultTime) : Bytes :=
  uB 8 f.tFlow ++ uB 8 f.tTemp ++ uB 8 f.tRange ++ uB 8 f.tNeg ++ uB 8 f.tSafe ++ uB 8 f.tConv ++ uB 8 f.tError ++ uB 8 f.tOff ++
  uB 4 f.offUnknown ++ uB 2 f.cond ++ uB 6 f.tCond

def Ledgers.baseBytes (l : Ledgers) : Bytes :=
  sB 16 l.baseNet ++ sB 16 l.baseHwm ++ sB 16 l.distNet ++ sB 16 l.distHwm ++ uB 4 l.baseRem ++ uB 4 l.distRem

def ThermalNow.bytes (n : ThermalNow) : Bytes :=
  uB 4 n.rho ++ sB 6 n.hFlow ++ sB 6 n.hReturn ++ sB 6 n.dh ++ uB 2 n.wPrice ++ uB 4 n.power ++ uB 4 n.z ++ uB 4 n.zB ++
  uB 4 n.factor ++ uB 4 n.nu ++ uB 4 n.cvEst ++ uB 4 n.pEval ++
  uB 2 (n.side + bitVal n.priced 2 + bitVal n.pFloor 3 + bitVal n.convSub 4)

/-! ## Billing and logs -/

def maxBytes (l : List MaxEntry) : Bytes := entries 9 l {} fun m => uB 4 m.value ++ uB 6 m.tick

def DemandMax.bytes (d : DemandMax) : Bytes := uB 4 d.demInvalid ++ maxBytes d.maxP ++ maxBytes d.maxQ

def BillSnap.bytes (b : BillSnap) : Bytes :=
  let r := b.regs
  uB 4 b.seq ++ uB 6 b.tStart ++ uB 6 b.tEnd ++ uB 2 (packFlags [b.late, b.untrusted, b.step, b.calAct, b.powerOff]) ++
  uB 2 b.skipped ++ uB 8 r.volFwd ++ uB 8 r.volRev ++ uB 8 r.volEst ++ uB 8 r.eHeat ++ uB 8 r.eCool ++ uB 8 r.eEstH ++
  uB 8 r.eEstC ++ uB 8 r.volBase ++ uB 8 r.volBaseDist ++ uB 8 r.gasInfo ++ entries 16 r.eTariff 0 (uB 8) ++ uB 8 r.tError ++
  uB 8 r.tOff ++ b.dem.bytes ++ List.replicate 20 0#8

def BillState.bytes (b : BillState) : Bytes :=
  uB 4 b.seqLast ++ uB 6 b.tStart ++ uB 6 b.schedLast ++ uB 6 b.schedNext ++ uB 2 b.pending ++
  uB 2 (packFlags [b.flags.untrusted, b.flags.step, b.flags.calAct, b.flags.powerOff]) ++ uB 6 b.daySchedLast ++
  uB 6 b.daySchedNext ++ uB 2 b.dayPending ++ uB 4 b.dayCount

def DaySnap.bytes (d : DaySnap) : Bytes :=
  let r := d.regs
  uB 6 d.tSnap ++ uB 2 (packFlags [d.late, d.flags.untrusted, d.flags.step, d.flags.powerOff]) ++ uB 4 d.localDay ++
  uB 4 d.maxPDay ++ uB 8 r.volFwd ++ uB 8 r.volRev ++ uB 8 r.volEst ++ uB 8 r.eHeat ++ uB 8 r.eCool ++ uB 8 r.volBase

def HourEntry.bytes (e : HourEntry) : Bytes :=
  uB 6 e.tEnd ++ uB 1 (packFlags [e.timeInvalid, e.split, e.gap, e.powerOff, e.degraded]) ++ uB 1 (e.tariff % 16) ++
  uB 8 e.volFwd ++ uB 8 e.eTotal ++ uB 2 e.tErr ++ sB 2 e.dthetaMean ++ uB 4 e.pMax

def JEntry.bytes (e : JEntry) : Bytes :=
  uB 6 e.tick ++ uB 2 (e.code % 4096 + bitVal e.timeInvalid 12) ++ uB 4 e.arg0 ++ uB 4 e.arg1

def TariffNow.bytes (t : TariffNow) : Bytes :=
  uB 1 (t.tariff + 16 * t.season + bitVal t.special 6 + bitVal t.defaultActive 7) ++ uB 1 t.profile ++ uB 1 t.specialIndex ++
  uB 1 t.swIndex ++ uB 6 t.nextSwitch ++ uB 4 t.calName ++ uB 2 0

/-- Complete sub-intervals in the window (R294). -/
def DemandNow.fill (d : DemandNow) : Nat := min d.window.length 15

def DemandNow.bytes (d : DemandNow) : Bytes :=
  uB 16 d.accE ++ uB 8 d.accV ++ uB 6 d.tSubStart ++ uB 4 d.pLast ++ uB 4 d.qLast ++ uB 6 d.tLast ++
  uB 1 (d.fill + 16 * packFlags [d.lastCounted, d.lastShort, d.lastTimeInvalid, d.lastSplit]) ++
  uB 1 (d.demLen + 8 * d.demSub) ++ uB 2 0

def Bill.logBytes (b : Bill) (j : Journal) : Bytes :=
  uB 4 j.seq ++ uB 4 b.hourCount ++ uB 4 b.logLost ++ uB 1 b.staged.length ++ uB 3 0

/-- A TARIFF_CAL body (R537). -/
def Calendar.body (c : Calendar) : Bytes :=
  uB 4 c.name ++ uB 6 c.activateTick ++ uB 1 c.tariffDefault ++ uB 1 c.seasons.length ++ uB 1 c.profiles.length ++
  uB 1 c.specials.length ++ uB 1 c.billDay ++ uB 1 c.billEvery ++ uB 2 c.billMinute ++ uB 1 c.billAnchor ++
  uB 1 (if c.dstEn then 1 else 0) ++ uB 2 c.dayMinute ++ sB 2 c.tzStd ++ uB 1 c.dstDelta ++
  uB 1 c.dstStart.month ++ uB 1 c.dstStart.week ++ uB 1 c.dstStart.wday ++ uB 2 c.dstStart.minute ++
  uB 1 c.dstEnd.month ++ uB 1 c.dstEnd.week ++ uB 1 c.dstEnd.wday ++ uB 1 0 ++ uB 2 c.dstEnd.minute ++
  entries 4 (c.seasons.map fun s => uB 1 s.month ++ uB 1 s.day ++ entries 7 s.week 0 (uB 1)) (uB 9 0) id ++
  entries 8 (c.profiles.map fun p => uB 1 p.length ++ entries 12 p ⟨0, 0⟩ fun w => uB 2 w.minute ++ uB 1 w.tariff) (uB 37 0) id ++
  entries 64 c.specials ⟨0, 0, 0, 0⟩ fun d => uB 2 d.year ++ uB 1 d.month ++ uB 1 d.day ++ uB 1 d.profile ++ uB 1 0

def Calendar.bytes (c : Calendar) : Bytes := c.body ++ uB 4 c.seq ++ uB 1 c.state ++ uB 3 0

/-! ## Straps, Transit Engine, flow -/

def Straps.image (x : Straps) : Bytes :=
  uB 6 x.codes ++ uB 2 (x.badMask + 4096 * packFlags [x.loadRefused, x.safeBit, x.expertPendingBit, x.sealMismatch])

def Straps.last (x : Straps) : Bytes := uB 6 x.lastCodes ++ uB 2 x.lastBad

def TimeBase.bytes (t : TimeBase) : Bytes :=
  sB 4 t.hfxCorr ++ uB 2 t.ageDays ++ uB 1 (packFlags [t.refinSel, t.refinActive, t.fallback, t.corrHeld, t.corrClamped]) ++
  uB 1 t.failRun ++ uB 4 t.lossCount ++ uB 4 t.tdcOvf ++ uB 4 t.failCount

def Tdc.bytes (t : Tdc) : Bytes :=
  uB 6 t.act.calTick ++ uB 2 t.act.rawSpanRef ++ uB 2 t.act.rawSpanNow ++ sB 1 t.act.calDieTemp ++
  uB 1 (t.failRun + bitVal t.fault 7) ++ uB 4 t.calCount ++
  ((List.range 8).flatMap fun b => uB 4 (t.act.delayA.getD b 0) ++ uB 4 (t.act.delayB.getD b 0)) ++
  entries 97 t.act.segEdge 0 (uB 4)

def Tune.bytes (t : Tune) : Bytes :=
  uB 2 t.pDrv ++ uB 1 t.gain ++ uB 1 (t.level + 4 * t.decim + bitVal t.acquiring 4 + bitVal t.parity 5) ++ uB 2 t.edgeRun ++
  uB 2 t.lastPeak

def Template.bytes (t : Template) : Bytes :=
  uB 2 t.refPos ++ uB 1 t.learnCount ++ uB 1 (bitVal t.learned 0) ++ uB 2 t.pLearn ++ uB 1 t.decim ++ uB 1 0 ++ uB 4 t.updates ++
  uB 4 0 ++ entries 512 t.points 0 (sB 2)

def PathHealth.bytes (h : PathHealth) : Bytes :=
  uB 1 (h.state + 4 * h.retireCause) ++ uB 1 0 ++ uB 2 h.voidRun ++ uB 4 h.pairs ++ uB 4 h.voidPairs ++ uB 4 h.marginalPairs

def Port.bytes (p : Port) : Bytes := uB 1 (p.state + 4 * p.elec) ++ uB 1 p.elecRun ++ uB 2 0

/-- `glycol_provisional`: the medium in force is a glycol whose type is automatic and not yet discriminated (R137, R139;
log 20). -/
def Device.glycolProvisional (s : Device) : Bool :=
  (s.tr.cs.medium == .pg || s.tr.cs.medium == .eg) && s.conf.medium.glycolType == 0 && !s.tr.cs.glyFound

def CycleStatus.bytes (c : CycleStatus) (provisional : Bool) : Bytes :=
  uB 4 c.cCycle ++ uB 4 c.c20 ++ sB 4 c.dcLiquid ++ uB 1 c.medium.code ++ uB 1 c.candidate.code ++ uB 1 c.persist ++
  uB 1 (packFlags [provisional, c.mismatch, c.emptyPipe, c.sosCheckFail, c.noSignal, false, c.flowHeld, c.flowFault]) ++
  uB 2 c.fraction ++ uB 1 c.retryRun ++ uB 1 0 ++ uB 6 c.tLastFlow ++ uB 6 c.tFaultStart

def ExtShot.bytes (e : ExtShot) : Bytes :=
  uB 4 e.accepted ++ uB 4 e.refusedBusy ++ uB 4 e.refusedRate ++ uB 4 e.refusedBg ++ uB 4 e.refusedMode ++ uB 4 e.tokens ++
  uB 1 e.nextPath ++ uB 1 0

def FlowNow.bytes (f : FlowNow) (level : Nat) : Bytes :=
  sB 4 (f.qf.getD 0) ++ sB 4 f.qRaw ++ sB 4 f.vMean ++ uB 4 f.re ++ uB 4 f.kProf ++ sB 4 f.eCurve ++
  uB 4 (f.maskUsed + 2 ^ 20 * f.setIndex + 2 ^ 24 * packFlags [f.cutActive, f.noSet, f.fallback, f.overFmt]) ++ uB 1 level ++
  uB 3 0 ++ uB 4 f.fallbackCycles ++ uB 4 f.nosetCycles ++ uB 4 f.overCycles

def Capstan.bytes (c : Capstan) : Bytes :=
  sB 8 c.turns ++ sB 8 c.hwm ++ uB 8 c.phase ++ uB 4 c.qTurnN ++ uB 4 c.tempTurns ++ uB 4 c.revTurns ++ uB 6 c.restartTick ++ uB 2 0

def PulseOut.bytes (p : PulseOut) : Bytes :=
  uB 2 p.ch0.owed ++ uB 2 p.ch1.owed ++ uB 4 p.ch0.emitted ++ uB 4 p.ch1.emitted ++ uB 4 p.lost ++ uB 2 p.width ++ uB 2 p.gap ++
  uB 1 (p.ch0.mode + 16 * p.ch1.mode) ++ uB 1 0 ++ uB 2 p.nPulse

/-! ## Temperature -/

def ThermalMode.code (m : ThermalMode) : Nat :=
  match m with
  | .none => 0
  | .heat => 1
  | .cool => 2
  | .neg => 3

def TempSample.bytes (t : TempSample) : Bytes :=
  entries 4 t.theta 0 (sB 4) ++ sB 4 t.dtheta ++ sB 4 t.thetaM ++ uB 4 t.pAbs ++ sB 4 t.bridgeR ++ uB 4 t.refRatio ++ uB 6 t.tick ++
  uB 1 (packFlags (t.valid.take 4) + 16 * packFlags (t.held.take 4)) ++
  uB 1 (packFlags [t.pValid, t.pHeld] + 4 * t.mode.code + 16 * packFlags [t.coolSide, t.refFault, t.checkFail, t.swapSuspect]) ++
  uB 2 t.seq ++ uB 2 0

def TempUnit.bytes (x : TempUnit) : Bytes := uB 1 (x.state + 4 * x.lastFault) ++ uB 1 x.failRun ++ uB 2 0 ++ uB 4 x.failCount

/-! ## Landing -/

/-- `TIME_NOW` (R332) as a reader's shadow holds it (R309). -/
def Shadow.bytes (x : Shadow) : Bytes :=
  let c := x.cal
  uB 6 x.tick ++ uB 1 (packFlags [x.oscStopped, x.neverSet, !x.oscStopped && !x.neverSet, c.dst] + 16 * c.utcWday) ++ uB 1 0 ++ uB 4 c.utcDay ++ uB 4 c.utcSec ++
  uB 2 c.year ++ uB 1 c.month ++ uB 1 c.day ++ uB 2 c.minute ++ uB 1 c.second ++ uB 1 c.wday ++ sB 2 c.offset ++ uB 2 0

def Landing.statusBytes (l : Landing) : Bytes :=
  let sup := match l.supply with
    | .bat => 0
    | .batLock => 1
    | .bkp => 2
    | .lost => 2
  let sl := match l.sealSt with
    | .ok => 0
    | .opened => 1
    | .short => 2
    | .notMonitored => 3
  uB 1 (sup + bitVal l.debounce 2 + 8 * sl + bitVal l.caseOpen 5 + bitVal l.mag 6) ++ uB 1 l.fifo.length ++ sB 2 l.corrOwed ++
  sB 4 l.compAcc ++ sB 2 l.dieTemp ++ uB 2 0 ++ uB 4 l.cnt.adjCount ++ sB 8 l.cnt.adjSum ++ uB 4 l.adjDay ++ uB 4 l.cnt.stepCount ++
  uB 4 l.cnt.stepSeq ++ uB 2 0 ++ sB 6 l.cnt.lastSigma ++ uB 4 l.cnt.bkpCount ++ uB 8 l.cnt.bkpTicks ++ uB 4 l.cnt.lostCount ++
  uB 4 l.cnt.tinLost

def Landing.pulseBytes (l : Landing) : Bytes :=
  entries 4 l.plsCount 0 (uB 6) ++ uB 1 (l.plsEn + 16 * l.plsLost) ++ uB 1 0 ++ uB 6 l.mirrorTick ++ entries 4 l.plsDb 0 (uB 2)

/-! ## Ferryman -/

def Radio.joined (r : Radio) : Nat := (r.children.filter (!·.search)).length

def Radio.statusBytes (r : Radio) : Bytes :=
  uB 1 (r.role + 4 * r.phy + 16 * r.band + bitVal r.pa20 5 + 64 * r.wmbus) ++
  uB 1 (r.link + bitVal r.joinOpen 2 + bitVal r.budgetExhausted 3) ++ uB 2 r.ownShort ++ uB 8 r.parentEui ++ uB 4 r.fcntTx ++
  uB 4 r.upH ++ uB 8 r.upBitmap ++ uB 6 r.tContact ++ uB 1 r.nextCh ++ uB 1 (min r.orphanRun 255) ++ sB 1 r.rssiUp ++ uB 2 r.joined ++ uB 1 0 ++
  uB 4 (r.txUs / 1000) ++ uB 4 r.searchMs

def Radio.notesFor (r : Radio) (short : Nat) : Bool :=
  ((r.queue.take 8).any fun q => q.state == 1 && !q.reserved && q.child == short)

def Radio.readsFor (r : Radio) (short : Nat) : Bool := ((r.queue.drop 8).any fun q => q.state == 1 && q.child == short)

def Radio.childBytes (r : Radio) (c : Child) : Bytes :=
  uB 8 c.eui ++ uB 2 (c.idx + 1) ++
  uB 1 ((if c.search then 2 else 1) + 4 * packFlags [c.driftValid, r.notesFor (c.idx + 1), r.readsFor (c.idx + 1), c.timeUntrusted,
    c.skippedLast]) ++
  uB 1 c.phy ++ uB 4 c.fcntH ++ uB 8 c.bitmap ++ uB 4 c.contactEvery ++ uB 6 c.tSync ++ uB 6 c.tNext ++ sB 4 c.d ++
  uB 1 (min c.missRun 15 + 16 * c.searchLevel) ++ sB 1 c.rssi ++ uB 1 c.nextCh ++ uB 1 0

def Radio.tableEntry (r : Radio) (k : Nat) : Bytes :=
  match r.children.find? (·.idx == k) with
  | some c => r.childBytes c
  | none => uB 48 0

def QEntry.bytes (q : QEntry) : Bytes :=
  uB 1 (q.state + 16 * q.tries) ++ uB 1 q.id ++ uB 2 q.child ++ uB 2 q.length ++ uB 1 q.childStatus ++ uB 1 0 ++ uB 6 q.tExpiry ++ uB 2 0

/-- UPLINK_DIGEST (R379). -/
def Device.digest (s : Device) : Bytes :=
  let l := s.toll.led
  let gas := gasClass s.conf.cls
  let cs := s.tr.cs
  let t := s.temp.sample
  uB 6 s.land.tick ++
  uB 1 (packFlags [s.power.deg.any, s.conf.safePreset, s.trusted, s.straps.expertPendingBit, s.st.legalHold, s.sec.tamperNew,
    s.alert, s.conf.calibPending != 0]) ++
  uB 1 (s.bill.now.tariff + 16 * t.mode.code) ++ uB 8 l.heat.total ++ uB 8 l.cool.total ++
  uB 8 (if s.converts then (l.baseHwm / 2 ^ 32).toNat else l.vol.fwd) ++ uB 8 l.vol.revL ++ sB 4 (s.flow.qf.getD 0) ++
  uB 4 s.toll.now.power ++ sB 4 (if gas then t.thetaM else (s.roleTemp t 2).getD 0) ++
  sB 4 (if gas then (t.pAbs : Int) else (s.roleTemp t 3).getD 0) ++ uB 1 cs.medium.code ++
  uB 1 (packFlags [cs.mismatch, cs.emptyPipe, cs.sosCheckFail, cs.noSignal, cs.flowFault, t.checkFail, t.swapSuspect, t.refFault]) ++
  uB 2 cs.fraction ++ uB 4 (s.toll.ft.tError / 32768)

/-! ## Hawser, display -/

def Secondary.bytes (x : Secondary) : Bytes :=
  uB 1 x.state ++ uB 1 x.epoch ++ uB 2 x.missRun ++ sB 4 x.d ++ sB 4 x.lambdaPpb ++ uB 4 x.refusals

def Hawser.bytes (h : Hawser) : Bytes :=
  uB 1 (h.deviceNo + 8 * h.role) ++
  (if h.role = 2 then uB 3 0 else uB 1 h.expected ++ uB 1 h.retired ++ uB 1 h.cfgFault) ++ uB 4 h.crcFail ++ uB 8 0 ++
  (if h.role = 2 then uB 80 0 else entries 5 h.secs {} Secondary.bytes)

def Region.resumeWord (g : Region) : Nat :=
  match g.resume with
  | some r => r.1 + 512 * r.2 + 4096
  | none => 0

def Display.statusBytes (d : Display) : Bytes :=
  uB 1 (d.page + 16 * packFlags [d.timerRun, d.redEn, d.drive == 1, d.romTables]) ++ uB 1 (packFlags (d.regions.map (·.run.isSome))) ++
  uB 1 (packFlags (d.regions.map (·.next.isSome))) ++ uB 1 d.bandLast ++ uB 4 d.updates ++ uB 4 d.replaced ++ uB 4 d.tempClamped ++
  uB 2 d.budgetUsed ++ uB 2 0 ++ entries 8 d.regions {} fun g => uB 2 g.resumeWord

def Display.imageBytes (d : Display) : Bytes := entries 112 d.image (12, 12) fun x => uB 1 (x.1 + 16 * x.2)

/-! ## Security, power, Store, self-test -/

def Tamper.bytes (t : Tamper) : Bytes := uB 4 t.count ++ uB 6 t.tFirst ++ uB 6 t.tLast

def tapCode (t : TapLevel) : Nat :=
  match t with
  | .closed => 0
  | .observe => 1
  | .board => 2
  | .debug => 3

def Security.statusBytes (x : Security) : Bytes :=
  let k := x.keys
  uB 1 (x.lc.code + 8 * packFlags [x.fuseP, x.fuseS, x.fuseX] + 64 * tapCode x.tap) ++
  uB 1 (packFlags [k.maker.isSome, k.auth.isSome, k.oper0.isSome, k.oper1.isSome, k.kek.isSome, k.net0.isSome || k.net1.isSome,
    k.wmbus.isSome, x.devEui.isSome]) ++ uB 6 x.sealTick ++ uB 4 x.seqGlaelm ++ uB 4 x.seqMaker ++ uB 4 x.seqAuth ++ uB 4 x.seqOper ++
  uB 8 (x.devEui.getD 0) ++ uB 4 x.serviceCount ++ uB 4 0

def Verdict.bytes (v : Verdict) : Bytes :=
  uB 6 v.tick ++ uB 1 v.recType ++ uB 1 v.cause ++ uB 4 v.recSeq ++ uB 1 (v.signer1 % 16 + 16 * (v.signer2 % 16)) ++ uB 1 (bitVal v.air 0) ++
  uB 2 0

/-- Slot k of a ring of `n` whose newest entry has number `seq`: the entry with number (slot + 1) mod n. -/
def ringSlot {α : Type} (n seq : Nat) (newest : List α) (k : Nat) : Option α := newest[(seq + n - 1 - k) % n]?

def Security.recBytes (x : Security) : Bytes :=
  ((List.range 8).flatMap fun k => match ringSlot 8 x.verdictSeq x.verdicts k with
    | some v => v.bytes
    | none => uB 16 0) ++ uB 4 x.verdictSeq

def Power.bytes (p : Power) : Bytes :=
  uB 1 (p.rest + bitVal p.vext 3 + bitVal p.vholdLow 4) ++ uB 1 (p.banks + 16 * p.startCause) ++ uB 1 p.wakeSrc ++ uB 1 0 ++
  uB 6 p.tDown ++ uB 2 p.holdUs ++ uB 4 p.wakes ++ uB 4 p.edgeLost ++ uB 4 p.holdCommits ++ uB 4 p.coldStarts ++ uB 2 p.vholdMv ++ uB 2 0

/-- Pool sectors that are erased or can be erased (R505). -/
def Store.spare (x : Store) : Nat := x.poolErased.length + x.poolDirty.length

def Store.bytes (x : Store) : Bytes :=
  uB 4 x.framCorrected ++ uB 4 x.framUncorrectable ++ uB 4 x.copyRepairs ++ uB 4 x.scrubPasses ++ uB 4 x.txnCommits ++
  uB 2 x.rolledForward ++ uB 2 x.rolledBack ++ uB 2 x.flashBad ++ uB 2 x.spare ++ uB 4 x.eraseMax ++ uB 4 x.flashErases ++
  entries 6 x.bgDue 0 (uB 4) ++ uB 8 0

def SelfTest.bytes (t : SelfTest) : Bytes :=
  uB 1 (packFlags [t.holdKat, t.holdRom, t.holdEcc, t.holdVote, t.legalHold, t.clockFault, t.secIsolated, t.condWait]) ++ uB 1 0 ++
  uB 2 t.failed ++ sB 2 t.hfxPpm ++ uB 2 t.vcoreMv ++ uB 4 t.rounds ++ uB 4 t.failCount ++ uB 4 t.condDefer ++ entries 10 t.misr 0 (uB 4)

/-! ## PROPERTY_ROM (R226) -/

def waterTable (t : Nat) : Bytes := (List.range 18).flatMap fun g => (List.range 7).flatMap fun k => sB 8 (Config.waterCoef t g k)

def glycolTable (t : Nat) : Bytes :=
  (List.range 14).flatMap fun g => (List.range 6).flatMap fun k => (List.range 4).flatMap fun j => sB 8 (Config.glycolCoef t g k j)

def GasEntry.bytes (g : GasEntry) : Bytes := sB 4 g.zk0 ++ sB 4 g.zk1 ++ sB 4 g.mu20 ++ sB 4 g.molar

def romBody : Bytes :=
  waterTable 0 ++ waterTable 1 ++ waterTable 2 ++ waterTable 3 ++ waterTable 4 ++ glycolTable 0 ++ glycolTable 1 ++
  glycolTable 2 ++ glycolTable 3 ++ gasNgH.bytes ++ gasNgL.bytes ++ gasH2.bytes ++ gasBio.bytes ++ gasAir.bytes ++
  sB 4 (glyVisc false).1 ++ sB 4 (glyVisc false).2 ++ sB 4 (glyVisc true).1 ++ sB 4 (glyVisc true).2 ++ waterTable 5 ++ waterTable 6

def propertyRom : Bytes := uB 2 1 ++ uB 2 0 ++ uB 4 (crc32 romBody) ++ romBody

/-! ## The catalogue (R524, R526) -/

/-- Objects that are readable on every path (access code A); the others of the catalogue are O. -/
inductive Access where
  | every | opticalOnly
deriving DecidableEq, Repr

/-- Access code of an object; none for an unknown number (R526). -/
def objAccess (n : Nat) : Option Access :=
  if [0x0E30, 0x0E31, 0x0E51, 0x0E52, 0x0E53, 0x0E8F, 0x0EA2, 0x0EC1].contains n then some .opticalOnly
  else if [0x0200, 0x0201, 0x0202, 0x0210, 0x0211, 0x0212, 0x0213, 0x0214, 0x0220, 0x0221, 0x0222, 0x0223, 0x0230, 0x0231,
    0x0232, 0x0233, 0x0240, 0x0300, 0x0301, 0x0310, 0x0311, 0x0312, 0x0320, 0x0321, 0x0330, 0x0340, 0x0350, 0x0351, 0x0400,
    0x0E20, 0x0E21, 0x0E22, 0x0E32, 0x0E40, 0x0E50, 0x0E54, 0x0E55, 0x0E56, 0x0E57, 0x0E58, 0x0E60, 0x0E61, 0x0E62, 0x0E70,
    0x0E71, 0x0E80, 0x0E90, 0x0E91, 0x0EA0, 0x0EA1, 0x0EA3, 0x0EA4, 0x0EB0, 0x0EC0, 0x0ED0, 0x0ED1, 0x0EE0, 0x0EF0,
    0x0EF1].contains n then some .every
  else none

/-- Objects of the Tollhouse, the tariffs, the logs, the Ferryman and the display, unknown on a secondary (R524). -/
def secondaryUnknown (n : Nat) : Bool :=
  (0x0200 ≤ n && n ≤ 0x0233) || (0x0300 ≤ n && n ≤ 0x0351) || (0x0E60 ≤ n && n ≤ 0x0E62) || n == 0x0E80 || n == 0x0E8F || n == 0x0E32 ||
    (0x0EA0 ≤ n && n ≤ 0x0EA4) || (0x0EC0 ≤ n && n ≤ 0x0EC1)

/-- Access code of an object on this device. -/
def Device.objAccess (s : Device) (n : Nat) : Option Access :=
  if s.secondary && secondaryUnknown n then none else Machine.objAccess n

/-- Size of one entry of the objects that are read entry by entry. -/
def entrySize (n : Nat) : Option (Nat × Nat) :=
  match n with
  | 0x0300 => some (448, 36)
  | 0x0330 => some (64, 400)
  | 0x0340 => some (32, 131400)
  | 0x0350 => some (16, 2048)
  | 0x0E53 => some (1040, 20)
  | 0x0EA2 => some (48, 500)
  | _ => none

def ringBytes (l : List (Nat × Bytes)) (n k : Nat) : Bytes :=
  match l.find? (·.1 == k) with
  | some e => e.2
  | none => uB n 0

/-- Entry k of such an object. -/
def Device.objEntry (s : Device) (n k : Nat) : Bytes :=
  match n with
  | 0x0300 => match s.bill.snaps.find? (·.slot == k) with
    | some b => b.bytes
    | none => uB 448 0
  | 0x0330 => ringBytes s.store.dayRing 64 k
  | 0x0340 => ringBytes s.store.hourRing 32 k
  | 0x0350 => match ringSlot 2048 s.jnl.seq s.jnl.entries k with
    | some e => e.bytes
    | none => uB 16 0
  | 0x0E53 => (s.tr.paths.getD k {}).tpl.bytes
  | 0x0EA2 => s.radio.tableEntry k
  | _ => []

/-- The whole of every other object. -/
def Device.objWhole (s : Device) (n : Nat) : Bytes :=
  let l := s.toll.led
  match n with
  | 0x0200 => uB 8 l.vol.fwd
  | 0x0201 => uB 8 l.vol.revL
  | 0x0202 => l.vol.bytes
  | 0x0210 => uB 8 l.heat.total
  | 0x0211 => uB 8 l.cool.total
  | 0x0212 => l.eBytes
  | 0x0213 => entries 8 l.heat.reg 0 (uB 8) ++ entries 8 l.cool.reg 0 (uB 8)
  | 0x0214 => entries 8 l.heat.tar 0 (uB 16) ++ entries 8 l.cool.tar 0 (uB 16)
  | 0x0220 => uB 8 (l.estVol / 2 ^ 32).toNat
  | 0x0221 => uB 8 s.registers.eEstH ++ uB 8 s.registers.eEstC
  | 0x0222 => l.estBytes
  | 0x0223 => s.toll.ft.bytes
  | 0x0230 => uB 8 (l.baseHwm / 2 ^ 32).toNat
  | 0x0231 => uB 8 (l.distHwm / 2 ^ 32).toNat
  | 0x0232 => l.baseBytes
  | 0x0233 => uB 8 s.registers.gasInfo ++ sB 16 l.gasInfo ++ uB 4 l.gasInfoRem
  | 0x0240 => s.land.pulseBytes
  | 0x0301 => s.bill.st.bytes
  | 0x0310 => s.bill.calActive.bytes
  | 0x0311 => match s.bill.calPassive with
    | some c => c.bytes
    | none => uB 760 0
  | 0x0312 => s.bill.now.bytes
  | 0x0320 => s.bill.dem.bytes
  | 0x0321 => s.bill.max.bytes
  | 0x0351 => s.bill.logBytes s.jnl
  | 0x0400 => entries 24 s.sec.tamper {} Tamper.bytes
  | 0x0E20 => s.straps.image
  | 0x0E21 => s.straps.last
  | 0x0E22 => uB 6 s.straps.sealCodes
  | 0x0E30 => s.conf.calibStored
  | 0x0E31 => s.conf.expertStored
  | 0x0E32 => s.radio.cfg
  | 0x0E40 => entries 16 s.refusals 0 (uB 4)
  | 0x0E50 => s.tr.tb.bytes
  | 0x0E51 => s.tr.tdc.bytes
  | 0x0E52 => entries 20 s.tr.paths {} fun p => p.tune.bytes
  | 0x0E54 => entries 20 s.tr.paths {} fun p => p.res.bytes
  | 0x0E55 => entries 20 s.tr.paths {} fun p => p.health.bytes
  | 0x0E56 => entries 10 s.tr.ports {} Port.bytes
  | 0x0E57 => s.tr.cs.bytes s.glycolProvisional
  | 0x0E58 => ({ s.tr.ext with nextPath := s.nextShown } : ExtShot).bytes
  | 0x0E60 => s.flow.bytes s.tr.cyc.level
  | 0x0E61 => s.cap.bytes
  | 0x0E62 => s.pulse.bytes
  | 0x0E70 => s.temp.sample.bytes
  | 0x0E71 => entries 5 s.temp.units {} TempUnit.bytes
  | 0x0E80 => ThermalNow.bytes { s.toll.now with wPrice := s.wInUse }
  | 0x0E8F => propertyRom
  | 0x0E90 => s.land.shown.bytes
  | 0x0E91 => s.land.statusBytes
  | 0x0EA0 => s.radio.statusBytes
  | 0x0EA1 => entries 18 s.radio.counters 0 (uB 4)
  | 0x0EA3 => entries 24 s.radio.queue {} QEntry.bytes
  | 0x0EA4 => s.digest
  | 0x0EB0 => s.haw.bytes
  | 0x0EC0 => s.disp.statusBytes
  | 0x0EC1 => s.disp.imageBytes
  | 0x0ED0 => s.sec.statusBytes
  | 0x0ED1 => s.sec.recBytes
  | 0x0EE0 => s.power.bytes
  | 0x0EF0 => s.store.bytes
  | 0x0EF1 => s.st.bytes
  | _ => []

/-- The size of an object (R526, R529). -/
def Device.objSize (s : Device) (n : Nat) : Nat :=
  match entrySize n with
  | some e => e.1 * e.2
  | none => if n = 0x0E8F then 17912 else (s.objWhole n).length

/-- `len` bytes from offset `off` of an object. -/
def Device.objSlice (s : Device) (n off len : Nat) : Bytes :=
  match entrySize n with
  | some e =>
    let k0 := off / e.1
    let k1 := cdiv (off + len) e.1
    let b := ((List.range (k1 - k0)).map (· + k0)).flatMap fun k => s.objEntry n k
    (b.drop (off - k0 * e.1)).take len
  | none => ((s.objWhole n).drop off).take len

/-- The reason for which a read is refused, or the piece (R524). -/
inductive Piece where
  | refused (reason : Nat)
  | piece (b : Bytes)
deriving DecidableEq, Repr

/-- One piece of one read on Itwen Air (`air`) or on the optical port. -/
def Device.readPiece (s : Device) (air : Bool) (n off len : Nat) : Piece :=
  match s.objAccess n with
  | none => .refused 1
  | some a =>
    if air && a == .opticalOnly then .refused 2
    else if s.objSize n < off + len then .refused 3
    else .piece (s.objSlice n off len)

end Sys2Proof.Machine
end

