-- ==== Sys2Proof/Machine/Display.lean ====
section
/-! DEFINITION. The segment display: waveforms, the composer, requests, frame boundaries (R410 to R436). -/

namespace Sys2Proof.Machine

/-! ## Waveforms (R413 to R415) -/

/-- Oscillator cycles of a frame (R413). -/
def frameCycles : Nat := 524

/-- Phases of a library entry up to its end. -/
def wavePhases (e : List Nat) : List Nat := ((e.drop 1).take (e.getD 0 0 % 256)).takeWhile fun p => p % 8 != 7

/-- Frames of a library entry. -/
def waveFrames (e : List Nat) : Nat := sumNat ((wavePhases e).map fun p => field p 3 9 + 1)

/-- The weight of a phase code (R413). -/
def phaseWeight (code : Nat) : Int :=
  match code with
  | 1 => 1
  | 2 => -1
  | 3 => 2
  | 4 => -2
  | _ => 0

def waveBalance (e : List Nat) : Int := sumInt ((wavePhases e).map fun p => phaseWeight (p % 8) * (field p 3 9 + 1 : Nat))

/-- Index into `wave_idx` (R414). -/
def waveIndex (band old ink level : Nat) : Nat := ((band * 13 + old) * 3 + ink) * 4 + level

/-- Frames of the waveform from one state to another. -/
def DispCal.frames (t : DispCal) (band old new : Nat) : Nat :=
  waveFrames (t.library.getD (t.waveIdx.getD (waveIndex band old (new / 4) (new % 4)) 0) [])

def segNamed (t : DispCal) (x : Nat) : Bool := x == 255 || (decide (x < 112) && bitAt t.segUsed x)

/-- The tests of R415, with the range of `wave_drive` and of the library's size. -/
def DispCal.ok (t : DispCal) : Bool :=
  decide (t.waveDrive ≤ 1) && ((List.range 112).all fun x => !bitAt t.segUsed x || decide (t.segRegion.getD x 0 ≤ 7)) &&
  decide (1 ≤ t.library.length ∧ t.library.length ≤ 256) &&
  (t.library.getD 0 []).getD 0 0 % 256 == 0 &&
  ((t.waveIdx.eraseDups).all fun n =>
    decide (n < t.library.length) &&
    let e := t.library.getD n []
    decide (e.getD 0 0 % 256 ≤ 16) && waveBalance e == 0 && decide (waveFrames e ≤ 512) &&
    (wavePhases e).all fun p => p % 8 != 6 && (t.waveDrive == 0 || (p % 8 != 3 && p % 8 != 4))) &&
  (t.cells.all fun c => c.all (segNamed t)) && t.icons.all (segNamed t) &&
  [0, 1, 2].all fun k => ascending ((t.dens.drop (3 * k)).take 3)

/-! ## The glass (R410, R411) -/

def DispCal.used (t : DispCal) (x : Nat) : Bool := bitAt t.segUsed x

def DispCal.region (t : DispCal) (x : Nat) : Nat := t.segRegion.getD x 0

/-- The used segments of a region. -/
def DispCal.segs (t : DispCal) (r : Nat) : List Nat := (List.range 112).filter fun x => t.used x && t.region x == r

/-- The level of a density on the curve of an ink (R411). -/
def DispCal.level (t : DispCal) (ink dens : Nat) : Nat := (((t.dens.drop (3 * ink)).take 3).filter (· ≤ dens)).length

/-- A segment that a field inks. -/
structure Inked where
  seg : Nat
  ink : Nat
  dens : Nat
deriving DecidableEq, Repr

/-- The target state of a segment: the last field that inks it, or the background (R411, R424). -/
def Display.stateOf (d : Display) (bg : Nat) (l : List Inked) (x : Nat) : Nat :=
  let k := match (l.filter (·.seg == x)).getLast? with
    | some y => (if y.ink = 2 ∧ d.redEn = false then 1 else y.ink, y.dens)
    | none => (0, bg)
  4 * k.1 + d.tables.level k.1 k.2

/-! ## Numbers (R425) -/

/-- Segments a to g of each digit, and of the minus sign at 16, bit 0 for a. -/
def fontSegs : List (List Nat) :=
  [[0, 1, 2, 3, 4, 5], [1, 2], [0, 1, 3, 4, 6], [0, 1, 2, 3, 6], [1, 2, 5, 6], [0, 2, 3, 5, 6], [0, 2, 3, 4, 5, 6], [0, 1, 2],
   [0, 1, 2, 3, 4, 5, 6], [0, 1, 2, 3, 5, 6], [0, 1, 2, 4, 5, 6], [2, 3, 4, 5, 6], [0, 3, 4, 5], [1, 2, 3, 4, 6],
   [0, 3, 4, 5, 6], [0, 4, 5, 6], [6]]

/-- A glyph in a cell. -/
def DispCal.glyph (t : DispCal) (cell g ink dens : Nat) : List Inked :=
  ((fontSegs.getD g []).map fun k => (t.cells.getD cell []).getD k 255).filterMap
    fun x => if x = 255 then none else some ⟨x, ink, dens⟩

/-- How a number is shown. -/
structure NumStyle where
  first : Nat
  n : Nat
  decimals : Nat := 0
  lead : Bool := false
  hex : Bool := false
  ink : Nat := 1
  dens : Nat := 255
deriving DecidableEq, Repr

/-- A number m in its cells. -/
def DispCal.number (t : DispCal) (y : NumStyle) (m : Int) : List Inked :=
  let b := if y.hex then 16 else 10
  let v := m.natAbs
  let last := y.first + y.n - 1
  let digits := (List.range (if m < 0 then y.n - 1 else y.n)).flatMap fun k =>
    let show1 := decide (k ≤ y.decimals) || y.lead || decide (b ^ k ≤ v)
    if show1 then t.glyph (last - k) (v / b ^ k % b) y.ink y.dens else []
  let sign := if m < 0 then t.glyph y.first 16 y.ink y.dens else []
  let dp := (t.cells.getD (last - y.decimals) []).getD 7 255
  digits ++ sign ++ (if 0 < y.decimals ∧ y.decimals ≤ last ∧ dp ≠ 255 then [⟨dp, y.ink, y.dens⟩] else [])

/-- The number that a field forms from its bytes: shift and quotient toward zero, then the residue. -/
def PageField.value (f : PageField) (b : Bytes) : Int :=
  let v : Int := if f.signed then getS b 0 f.len else (getU b 0 f.len : Int)
  let m := Int.tdiv (v / 2 ^ f.shr) f.divisor
  if f.modulo = 0 then m else m % (f.modulo : Int)

/-- One field of an expert page (R424). -/
def Device.fieldInks (s : Device) (f : PageField) : List Inked :=
  let t := s.disp.tables
  match f.kind with
  | 0 =>
    let y : NumStyle := ⟨f.seg, f.nCells, f.decimals, f.leadZero, f.hex, f.ink, f.dens⟩
    t.number y (f.value (s.objSlice f.obj f.off f.len))
  | 1 =>
    let b := bitAt (getU (s.objSlice f.obj f.off 1) 0 1) f.bit
    if b != f.inv then [⟨f.seg, f.ink, f.dens⟩] else []
  | _ => [⟨f.seg, f.ink, f.dens⟩]

/-! ## Pages (R426, R427, R429) -/

def DispCal.icon (t : DispCal) (role ink : Nat) : List Inked :=
  match t.icons[role]? with
  | some x => if x = 255 then [] else [⟨x, ink, 255⟩]
  | none => []

/-- Roles 8 to 17, on every page (R427). -/
def Device.statusIcons (s : Device) : List Inked :=
  let t := s.disp.tables
  let m := s.temp.sample.mode
  let on := fun (b : Bool) (role ink : Nat) => if b then t.icon role ink else []
  on (m == .heat) 8 1 ++ on (m == .cool) 9 1 ++ on (decide ((s.flow.qf.getD 0) < 0)) 10 2 ++ on s.power.deg.any 11 2 ++
  on s.alert 12 2 ++ on s.sec.tamperNew 13 2 ++ on (!s.trusted) 14 2 ++ on (s.radio.link == 1) 15 2 ++
  on s.tr.cs.emptyPipe 16 2 ++ on s.st.legalHold 17 2

/-- A value of a built-in page: value, decimals, unit icon. -/
structure MainLine where
  value : Int
  decimals : Nat
  icon : Nat
deriving DecidableEq, Repr

inductive BuiltIn where
  | value (m : MainLine)
  | date
  | clock
deriving DecidableEq, Repr

def Device.energyLine (s : Device) (v : Nat) : MainLine := if s.toll.unitMJ then ⟨v, 3, 3⟩ else ⟨v / 1000, 0, 2⟩

def thetaLine (v : Int) : MainLine := ⟨Int.tdiv v 10000, 2, 5⟩

/-- Built-in page p; none where its register does not exist for the class (R426). -/
def Device.builtIn (s : Device) (p : Nat) : Option BuiltIn :=
  let c := s.conf.cls
  let l := s.toll.led
  let t := s.temp.sample
  let val := fun m => some (BuiltIn.value m)
  let litres := fun (v : Nat) => val ⟨v, 3, 1⟩
  match p with
  | 0 =>
    if energyClass c then val (s.energyLine (if c = 2 ∨ c = 5 then l.cool.total else l.heat.total))
    else if gasClass c && s.converts then litres (l.baseHwm / 2 ^ 32).toNat
    else litres l.vol.fwd
  | 1 =>
    if energyClass c then (if c = 3 ∨ c = 6 then val (s.energyLine l.cool.total) else litres l.vol.fwd)
    else if gasClass c then (if s.converts then litres l.vol.fwd else none)
    else litres l.vol.revL
  | 2 => val ⟨(s.flow.qf.getD 0) / 256, 0, 0⟩
  | 3 =>
    if energyClass c then val ⟨s.toll.now.power, 3, 4⟩
    else if gasClass c then val (thetaLine t.thetaM)
    else none
  | 4 =>
    if energyClass c then val (thetaLine ((s.roleTemp t 2).getD 0))
    else if gasClass c && s.conf.install.bridgeUse != 0 then val ⟨t.pAbs / 100, 3, 6⟩
    else none
  | 5 => if energyClass c then val (thetaLine ((s.roleTemp t 3).getD 0)) else none
  | 6 => val ⟨s.toll.ft.tError / 2 ^ 15 / 3600, 0, 7⟩
  | 7 => some .date
  | 8 => some .clock
  | _ => none

/-- The page exists and is not skipped (R426, R436). -/
def Device.pageShown (s : Device) (p : Nat) : Bool :=
  match (s.conf.g.display.getD {}).pages with
  | some l => decide (p < l.length)
  | none => (s.builtIn p).isSome

def Device.pageCount (s : Device) : Nat :=
  match (s.conf.g.display.getD {}).pages with
  | some l => l.length
  | none => 9

/-- Two cells of a built-in page. -/
def twoCells (p k : Nat) (lead : Bool) : NumStyle := { first := Config.pageCell p k, n := 2, lead := lead }

/-- What a built-in page inks. -/
def Device.builtInInks (s : Device) (p : Nat) : List Inked :=
  let t := s.disp.tables
  let c := (s.land.shadows.getD 2 {}).cal
  let body := match s.builtIn p with
    | some (.value m) => t.number { first := 0, n := 8, decimals := m.decimals } m.value ++ t.icon m.icon 1
    | some .date =>
      t.number (twoCells 7 0 true) (c.year % 100 : Nat) ++ t.number (twoCells 7 1 true) c.month ++
      t.number (twoCells 7 2 true) c.day
    | some .clock =>
      t.number (twoCells 8 0 (Config.pageLead 8 0)) (c.minute / 60 : Nat) ++
      t.number (twoCells 8 1 (Config.pageLead 8 1)) (c.minute % 60 : Nat)
    | none => []
  body ++ t.number { first := 8, n := 2, lead := Config.pageLead 9 0 } p

/-- The fault layout of R429. -/
def Device.faultInks (s : Device) : List Inked :=
  let t := s.disp.tables
  t.number { first := 4, n := 4, hex := true, lead := true } (getU s.straps.image 6 2 : Nat) ++ t.glyph 0 14 1 255 ++ t.icon 12 2

/-- Everything that the current page inks. -/
def Device.pageInks (s : Device) : List Inked :=
  if s.conf.safePreset then s.faultInks
  else
    match (s.conf.g.display.getD {}).pages with
    | some l => s.statusIcons ++ (l.getD s.disp.page []).flatMap s.fieldInks
    | none => s.builtInInks s.disp.page ++ s.statusIcons

/-! ## Composition (R419, R420, R423) -/

/-- A composition reaches one region: its targets become the region's pending update, which a region that is not
running starts at the next boundary. A region that is to resume counts as running (R431). -/
def Region.compose (g : Region) (image targets : List (Nat × Nat)) (full : Bool) (accepted : Nat) : Region × Bool :=
  let same := targets.all fun x => (image.getD x.1 (12, 12)).1 == x.2
  let carried := (g.next.map (·.accepted)).getD 0
  if targets.isEmpty then (g, false)
  else if g.run.isNone && g.resume.isNone && same && !full then ({ g with next := none }, g.next.isSome)
  else ({ g with next := some ⟨targets, full, carried + accepted⟩ }, g.next.isSome)

def Display.busy (d : Display) : Bool := d.regions.any fun g => g.run.isSome || g.next.isSome

/-- DISPLAY_COMPOSE: the current page is composed from one state. A frame timer that it starts has its first boundary one
frame later (R420). -/
def Device.displayCompose (s : Device) (full : Bool) (accepted : Nat) : Device :=
  let s1 := s.loadShadow 2
  let d := s1.disp
  let inks := s1.pageInks
  let bg := (s1.conf.g.display.getD {}).bgDens
  let all := full || d.fullNext
  let rs : List (Region × Bool) := (d.regions.zipIdx).map fun g =>
    g.1.compose d.image ((d.tables.segs g.2).map fun x => (x, d.stateOf bg inks x)) all accepted
  let d1 := { d with regions := rs.map Prod.fst, fullNext := false, replaced := satAdd 32 d.replaced (rs.filter Prod.snd).length }
  let s2 := { s1 with disp := { d1 with
    timerRun := d1.timerRun || d1.busy
    frameAt := if d1.timerRun then d1.frameAt else s1.land.osc + frameCycles } }
  if s2.disp.timerRun then s2.toRun else s2

/-! ## Frame boundaries (R413, R416, R418, R420, R431) -/

/-- The band of a die temperature in 2^-8 °C, and whether it is clamped (R416). -/
def bandOf (temp : Int) : Nat × Bool :=
  if temp < -2560 then (0, true)
  else if 12800 ≤ temp then (7, true)
  else (((temp + 2560) / 1920).toNat, false)

/-- A segment's target becomes its shown state. -/
def settleSeg (im : List (Nat × Nat)) (x : Nat) : List (Nat × Nat) := setAt im x fun (y : Nat × Nat) => (y.2, y.2)

/-- A segment gets a target. -/
def aimSeg (im : List (Nat × Nat)) (x : Nat × Nat) : List (Nat × Nat) := setAt im x.1 fun (y : Nat × Nat) => (y.1, x.2)

/-- Shown states of a region become its targets, and are committed. -/
def Display.settle (d : Display) (r : Nat) : Display :=
  { d with
    image := (d.tables.segs r).foldl settleSeg d.image
    regions := setAt d.regions r fun g => { g with run := none, accepted := 0 } }

/-- The longest waveform of a region at a band. -/
def Display.longest (d : Display) (r band : Nat) (full : Bool) : Nat :=
  ((d.tables.segs r).map fun x =>
    let y := d.image.getD x (12, 12)
    d.tables.frames band (if full then 12 else y.1) y.2).foldl max 0

/-- An update starts at a boundary. -/
def Display.start (d : Display) (temp : Int) (r : Nat) (up : Update) : Display :=
  let b := bandOf temp
  let d1 := { d with
    image := up.targets.foldl aimSeg d.image
    bandLast := b.1, updates := satInc d.updates
    tempClamped := if b.2 then satInc d.tempClamped else d.tempClamped }
  let n := d1.longest r b.1 up.full
  let d2 := { d1 with regions := setAt d1.regions r fun g =>
    { g with run := some ⟨0, n, b.1, up.full⟩, next := none, accepted := up.accepted } }
  if n = 0 then d2.settle r else d2

/-- A region resumes from its recorded frame (R431). The record does not say whether the update was full: the shown states
are the old ones (log 24). -/
def Display.resume (d : Display) (r : Nat) (x : Nat × Nat) : Display :=
  let n := d.longest r x.2 false
  let d1 := { d with
    bandLast := x.2
    regions := setAt d.regions r fun g => { g with run := some ⟨x.1, n, x.2, false⟩, resume := none } }
  if n ≤ x.1 then d1.settle r else d1

/-- One region at a frame boundary: the frame shown ends; the waveform may end with it; what waits may start. -/
def Display.regionStep (d : Display) (on : Bool) (temp : Int) (r : Nat) : Display :=
  let g := d.regions.getD r {}
  let d1 := match g.run with
    | none => d
    | some w =>
      if w.len ≤ w.frame + 1 then d.settle r
      else { d with regions := setAt d.regions r fun g => { g with run := some { w with frame := w.frame + 1 } } }
  let g1 := d1.regions.getD r {}
  if g1.run.isSome then d1
  else
    match g1.resume, g1.next with
    | some x, _ => d1.resume r x
    | none, some up =>
      if on then d1.start temp r up
      else { d1 with regions := setAt d1.regions r fun g => { g with next := none } }
    | none, none => d1

/-- Regions whose recorded update resumes at this boundary: their mask and the most frames that remain. -/
def Display.resuming (d : Display) : Nat × Nat :=
  (d.regions.zipIdx).foldl (fun a g => match g.1.resume with
    | some x => if g.1.run.isNone then (a.1 + 2 ^ g.2, max a.2 (d.longest g.2 x.2 false - x.1)) else a
    | none => a) (0, 0)

/-- The driver under its group and the calibration, and the cause of ROM tables, 0 for none (R417). -/
def Device.displayPick (s : Device) : Display × Nat :=
  let y := s.conf.g.display.getD {}
  let rom := { dispCalOf (Config.romDisplay y.drive) with dens := [64, 128, 192, 64, 128, 192, 64, 128, 192] }
  let d := { s.disp with redEn := y.redEn, drive := y.drive, retable := false }
  match s.conf.calib.disp with
  | none => ({ d with tables := rom, romTables := true }, 1)
  | some t =>
    if t.waveDrive = y.drive then ({ d with tables := t, romTables := false }, 0)
    else ({ d with tables := rom, romTables := true }, 2)

/-- The tables in force for the drive set (R417). -/
def Device.displayTables (s : Device) : Device :=
  let p := s.displayPick
  let s1 := { s with disp := p.1 }
  (if p.2 = 0 then s1 else s1.journal 0x703 p.2 0).degrade fun g => { g with display := p.2 == 2 }

/-- New tables wait for the waveforms that run, which finish as they started (R419). -/
def Device.displayRetable (s : Device) : Device :=
  if s.disp.regions.any (·.run.isSome) then { s with disp := { s.disp with retable := true } } else s.displayTables

/-- The frame timer has come to its next boundary, 524 oscillator cycles after the one before (R300, R413, R420). At the
entry to SHIP the running waveforms finish (R29, R430). -/
def Device.frameDue (s : Device) : Bool :=
  (s.up || (s.started && s.power.shipping)) && s.disp.timerRun && decide (s.disp.frameAt ≤ s.land.osc)

/-- The frame timer's boundary. -/
def Device.frameBoundary (s : Device) : Device :=
  let m := s.disp.resuming
  let d := (List.range 8).foldl (fun d r => Display.regionStep d (s.on .display) s.land.dieTemp r) s.disp
  let s0 := { s with disp := { d with timerRun := d.busy || d.regions.any (·.resume.isSome), frameAt := d.frameAt + frameCycles } }
  let s1 := if s0.disp.retable then s0.displayRetable else s0
  let s2 := if d.image = s.disp.image then s1 else s1.commit
  if m.1 = 0 then s2 else s2.journal 0x701 m.1 m.2

/-- DISPLAY_FRAME_BOUNDARY (R413, R418, R420). -/
def execDisplayFrameBoundary (dt : Nat) (s : State) : Host.Outcome State Fault Refusal :=
  let d := s.dev.elapse dt
  .next { s with dev := if d.frameDue then d.frameBoundary else d }

/-! ## Refresh (R423) -/

/-- DISPLAY_REFRESH (R423): a scheduled refresh recomposes the current page; a driver that is not ON makes none (R26). -/
def execDisplayRefresh (dt : Nat) (s : State) : Host.Outcome State Fault Refusal :=
  let d := (s.dev.elapse dt).woken 1
  let d1 := d.armRefresh
  .next { s with dev :=
    if d.tolling && d.fired 5 then (if d.on .display then d1.displayCompose false 0 else d1) else d }

/-! ## Requests (R421, R428) -/

/-- A refusal for the budget (R421). -/
def Device.budgetRefused (s : Device) : Device :=
  let s1 := s.refuse 5
  if s.disp.budgetRefused then s1
  else Device.journal { s1 with disp := { s1.disp with budgetRefused := true } } 0x702 s.disp.budgetUsed 0

/-- Admission of a press or a DISPLAY_REQ, and what it does once accepted. -/
def Device.displayAdmit (s : Device) (f : Device → Device) : Device :=
  if !s.on .display then s.refuse 8
  else if s.disp.budgetUsed < (s.conf.g.display.getD {}).updCap then
    f { s with disp := { s.disp with budgetUsed := s.disp.budgetUsed + 1 } }
  else s.budgetRefused

/-- The page that a press moves to. -/
def Device.nextPage (s : Device) : Nat :=
  let n := s.pageCount
  let order := (List.range n).map fun k => (s.disp.page + 1 + k) % n
  (order.find? s.pageShown).getD 0

/-- A page is shown until a tick. -/
def Device.showPage (s : Device) (p seconds : Nat) : Device :=
  { s with disp := { s.disp with page := p, pageUntil := if p = 0 then none else some (s.land.tick + seconds * tps) } }

/-- BUTTON_PRESS (R48, R421, R428): debounced and released within 3 s. -/
def execButtonPress (dt : Nat) (held : Nat) (s : State) : Host.Outcome State Fault Refusal :=
  let d0 := s.dev.elapse dt
  let d := if 656 ≤ held then d0.woken 5 else d0
  let press := decide (656 ≤ held ∧ held < 98304)
  let go := fun (x : Device) =>
    (if x.conf.safePreset then x else x.showPage x.nextPage (x.conf.g.display.getD {}).pageTimeout).displayCompose false 1
  .next { s with dev := if d.up && press then d.displayAdmit go else d }

/-- An accepted DISPLAY_REQ record handed to the driver (R428, R534). -/
def Device.displayRequest (s : Device) (page : Nat) (full : Bool) (hold : Nat) : Device :=
  s.displayAdmit fun x => (x.showPage page hold).displayCompose full 1

/-- PAGE_TIMEOUT (R428): the driver returns to page 0, which draws nothing from the budget; a driver
that is not ON makes no return (R26). -/
def execPageTimeout (dt : Nat) (s : State) : Host.Outcome State Fault Refusal :=
  let d := s.dev.elapse dt
  .next { s with dev :=
    match d.disp.pageUntil with
    | some t =>
      if d.tolling && decide (t ≤ d.land.tick) then
        if d.on .display then (d.showPage 0 0).displayCompose false 0
        else { d with disp := { d.disp with pageUntil := none } }
      else d
    | none => d }

/-- DISPLAY_BUDGET_WINDOW (R421): windows of 117 964 800 ticks from the cold start. -/
def execDisplayBudgetWindow (dt : Nat) (s : State) : Host.Outcome State Fault Refusal :=
  let d := s.dev.elapse dt
  let n := (d.land.tick - d.disp.budgetStart) / 117964800
  let w := { d.disp with budgetUsed := 0, budgetRefused := false, budgetStart := d.disp.budgetStart + n * 117964800 }
  .next { s with dev := if d.tolling && decide (0 < n) then { d with disp := w } else d }

/-! ## Tables, start and lockout (R417, R431, R432) -/

/-- What a cold start at tick `t` clears (R432); windows of the budget count from it (R421). -/
def Display.cold (d : Display) (t : Nat) : Display :=
  { d with
    retable := false, page := 0, pageUntil := none, bandLast := 0, budgetUsed := 0, budgetRefused := false, budgetStart := t, timerRun := false
    regions := d.regions.map fun g => { resume := g.resume } }

/-- The driver begins service; recorded regions are to resume (R431). -/
def Device.displayStart (s : Device) : Device :=
  let s1 := s.displayTables
  let run := s1.disp.regions.any (·.resume.isSome)
  let s2 := Device.armRefresh { s1 with disp := { s1.disp with timerRun := run, frameAt := s1.land.osc + frameCycles } }
  if run then s2.toRun else s2

/-- A running region records its frame and band. -/
def Region.lockout (g : Region) : Region :=
  { resume := match g.run with
      | some w => some (w.frame, w.band)
      | none => g.resume }

/-- Pending updates that carry an accepted press or DISPLAY_REQ (R24, R431). -/
def Display.pendingAccepted (d : Display) : Nat :=
  (d.regions.filter fun g => match g.next with
    | some up => decide (0 < up.accepted)
    | none => false).length

/-- The regions that run, as a mask. -/
def Display.runMask (d : Display) : Nat := packFlags (d.regions.map fun g => g.run.isSome)

/-- Lockout (R431): the driver stops at once, running regions are recorded, pending ones are abandoned. -/
def Display.lockout (d : Display) : Display := { d with timerRun := false, regions := d.regions.map Region.lockout }

/-- Pending updates are dropped; running waveforms go on (R29). -/
def Display.dropPending (d : Display) : Display :=
  { d with regions := d.regions.map fun g => { g with next := none } }

end Sys2Proof.Machine
end

