-- ==== Sys2Proof/Machine/Air.lean ====
section
/-! DEFINITION. Itwen Air on the wire: airtime, frames, keys, the frame counter, transmission and its budget, replay, and
the items of a DATA frame (R339 to R354, R363, R379, R385). -/

namespace Sys2Proof.Machine

/-! ## The PHY (R339 to R341, R343) -/

/-- The PHR of a frame whose PSDU has `n` bytes in the order of transmission (R340; the places of its fields are the
standard's, PRESUMED, log 12): mode switch 0, two reserved bits, the 2-byte FCS, whitening 1, the length in 11 bits, most
significant first. -/
def phrSent (n : Nat) : List Bool :=
  [false, false, false, true, true] ++ (List.range 11).map fun i => bitAt n (10 - i)

/-- Bytes as bits, least significant first. -/
def bitsLsb (b : Bytes) : List Bool := b.flatMap fun x => (List.range 8).map fun i => bitAt x.toNat i

/-- The SFD of coded frames (R340; the standard's, PRESUMED, log 12), in the order of transmission. -/
def codedSfd : List Bool := (List.range 16).map fun i => bitAt 0x6F4E (15 - i)

/-- The rate-1/2 non-recursive non-systematic code of constraint length 4 (R340; its polynomials are the standard's,
PRESUMED, log 12): two bits for each, from it and the three before. -/
def convGo : Bool → Bool → Bool → List Bool → List Bool
  | _, _, _, [] => []
  | a, b, c, x :: xs => xor (xor x a) (xor b c) :: xor (xor x a) c :: convGo x a b xs

def convCode (l : List Bool) : List Bool := convGo false false false l

/-- Interleaving over 16 dibits: dibit k goes out at 15 − 4 (k mod 4) − k / 4 (PRESUMED, log 12). -/
def interleave (l : List Bool) : List Bool :=
  (List.range (l.length / 32)).flatMap fun i => (List.range 16).flatMap fun k =>
    (l.drop (32 * i + 2 * (15 - 4 * (k % 4) - k / 4))).take 2

/-- The PN9 sequence from its nine bits, newest first (PRESUMED, log 12). -/
def pn9Go : Nat → List Bool → List Bool
  | 0, _ => []
  | n + 1, r => let x := xor (r.getD 8 false) (r.getD 3 false); x :: pn9Go n (x :: r.take 8)

def pn9 (n : Nat) : List Bool := pn9Go n (List.replicate 9 true)

/-- PN9 whitening of the coded PSDU. -/
def whiten (l : List Bool) : List Bool := (l.zip (pn9 l.length)).map fun x => xor x.1 x.2

/-- Everything that goes on the air for a PSDU (R340): preamble, SFD, and PHR, PSDU and the tail byte coded and interleaved,
the PSDU whitened. Its length is what R341 counts. -/
def airSignal (preamble : Nat) (psdu : Bytes) : List Bool :=
  let c := interleave (convCode (phrSent psdu.length ++ bitsLsb psdu ++ List.replicate 8 false))
  bitsLsb (List.replicate preamble 0x55#8) ++ codedSfd ++ c.take 32 ++ whiten (c.drop 32)

/-- Centre of channel n in kHz (R343). -/
def channelKHz (band n : Nat) : Nat := (if band = 0 then 863100 else 902200) + 200 * n

/-- The enabled channels in ascending order (R343, R344, R386). -/
def RadioP.channels (r : RadioP) : List Nat := (List.range r.chCount).map (r.chFirst + ·)

/-- The channel at a list index, taken modulo the length of the list (R344). -/
def RadioP.chanAt (r : RadioP) (i : Nat) : Nat := r.chFirst + i % max 1 r.chCount

/-- The channel of the frame that answers one on channel `c` (R344). -/
def RadioP.answerChan (r : RadioP) (c : Nat) : Nat := r.chanAt (c - r.chFirst + 1)

/-! ## Airtime (R339, R341) -/

/-- Duration of one channel bit in microseconds: GL12, SUN-FSK 50, SUN-FSK 100. -/
def bitUs (phy : Nat) : Nat := [80, 20, 10].getD phy 80

/-- Airtime of a PSDU of `n` bytes in microseconds. -/
def airtimeUs (preamble phy n : Nat) : Nat := ((preamble + 2) * 8 + (n + 3) * 16) * bitUs phy

/-- SHR time in microseconds. -/
def shrUs (preamble phy : Nat) : Nat := (preamble + 2) * 8 * bitUs phy

/-- Microseconds in ticks, rounded up. -/
def usTicks (us : Nat) : Nat := cdiv (us * 32768) 1000000

def Device.phyP (s : Device) : PhyP := s.conf.g.phy.getD {}
def Device.radioP (s : Device) : RadioP := s.conf.g.radio.getD {}

/-- Airtime of a PSDU of `n` bytes under the configuration in force. -/
def Device.airUs (s : Device) (n : Nat) : Nat := airtimeUs s.phyP.preamble s.radio.phy n

/-- What the device's latest command put on the air (R340). -/
def Device.signals (s : Device) : List (List Bool) := s.radio.out.map (airSignal s.phyP.preamble)

def Device.shr (s : Device) : Nat := shrUs s.phyP.preamble s.radio.phy

/-- Transmit budget of a window in microseconds, none where there is none (R344, R386). -/
def RadioP.budgetUs (r : RadioP) : Option Nat := if r.txDuty = 0 then none else some (r.txDuty * 3600000)

/-! ## Frames (R347, R348) -/

structure AirHeader where
  typ : Nat
  longSrc : Bool := false
  down : Bool := false
  pending : Bool := false
  keyId : Nat := 0
  timeReq : Bool := false
  netId : Nat
  dst : Nat
  src : Nat
deriving DecidableEq, Repr

def AirHeader.fc (h : AirHeader) : Nat :=
  h.typ + bitVal h.longSrc 6 + bitVal h.down 7 + bitVal h.pending 8 + h.keyId * 512 + bitVal h.timeReq 10

/-- The header of a frame with counter `fcnt`. -/
def AirHeader.bytes (h : AirHeader) (fcnt : Nat) : Bytes :=
  leBytes 2 h.fc ++ leBytes 2 h.netId ++ leBytes 2 h.dst ++ leBytes (if h.longSrc then 8 else 2) h.src ++ leBytes 4 fcnt

/-- The nonce of R350 (PRESUMED, log 12). -/
def airNonce (eui fcnt : Nat) : Bytes := beBytes 8 eui ++ beBytes 4 fcnt ++ [0x05#8]

/-- The 2-byte FCS of R340 (PRESUMED, log 12). -/
def fcs16 (b : Bytes) : Nat := crcLsb 16 0x1021 0 b

/-- A PSDU: header, encrypted payload, MIC, FCS. -/
def airFrame (key : Bytes) (eui : Nat) (h : AirHeader) (fcnt : Nat) (payload : Bytes) : Bytes :=
  let a := h.bytes fcnt
  let c := ccmSeal key (airNonce eui fcnt) a payload
  let b := a ++ c.1 ++ c.2
  b ++ leBytes 2 (fcs16 b)

/-- A received PSDU taken apart. -/
structure AirParts where
  hdr : AirHeader
  version : Nat
  fcnt : Nat
  head : Bytes
  cipher : Bytes
  mic : Bytes
deriving DecidableEq, Repr

/-- The FCS is good (R340: either type). -/
def fcsGood (psdu : Bytes) (n : Nat) : Bool :=
  let k := psdu.length - n
  if n = 2 then getU psdu k 2 == fcs16 (psdu.take k)
  else if n = 4 then getU psdu k 4 == crc32 (psdu.take k)
  else false

/-- The parts of a PSDU whose FCS has `n` bytes; none where it is too short. -/
def airParse (psdu : Bytes) (n : Nat) : Option AirParts :=
  let fc := getU psdu 0 2
  let long := bitAt fc 6
  let hl := if long then 18 else 12
  let e := psdu.length - n - 4
  if psdu.length < hl + 4 + n then none
  else some
    { hdr := { typ := fc % 16, longSrc := long, down := bitAt fc 7, pending := bitAt fc 8, keyId := field fc 9 1
               timeReq := bitAt fc 10, netId := getU psdu 2 2, dst := getU psdu 4 2
               src := getU psdu 6 (if long then 8 else 2) }
      version := field fc 4 2, fcnt := getU psdu (hl - 4) 4, head := psdu.take hl
      cipher := (psdu.take e).drop hl, mic := (psdu.drop e).take 4 }

/-! ## Keys (R350, R387) -/

/-- Key slot `k` of a network: that of this device's own, or that of its upper side (R337, R387). A NODE's upper side
is the network of `net_id`. -/
def Device.netKey (s : Device) (up : Bool) (k : Nat) : Option Bytes :=
  let y := s.sec.keys
  if up && s.radio.role == 2 then (if k = 0 then y.up0 else y.up1)
  else if k = 0 then y.net0
  else y.net1

/-- Network of the upper side of a link. -/
def Device.linkNet (s : Device) (up : Bool) : Nat := if up && s.radio.role == 2 then s.radio.upNetId else s.radio.netId

/-- The slot under which this device sends a frame of its own: free where both are present (log 26). -/
def Device.pickKey (s : Device) (up : Bool) : Option Nat × Device :=
  match (s.netKey up 0).isSome, (s.netKey up 1).isSome with
  | true, true => let d := s.draw; (some (d.1 % 2), d.2)
  | true, false => (some 0, s)
  | false, true => (some 1, s)
  | false, false => (none, s)

/-! ## Counters (R381) -/

/-- Counter `k` of RADIO_COUNTERS advances. -/
def Device.count (s : Device) (k : Nat) : Device :=
  { s with radio := { s.radio with counters := setAt s.radio.counters k satInc } }

/-! ## The transmit budget (R345) -/

/-- A transmission of `us` microseconds fits the remaining budget. -/
def Device.fits (s : Device) (us : Nat) : Bool :=
  match s.radioP.budgetUs with
  | none => true
  | some b => decide (s.radio.txUs + us ≤ b)

/-- A transmission that the budget forbids: `budget_skips` is `window_skip` on a parent and `contact_miss` on a node
(R345, R381). -/
def Device.budgetHit (s : Device) : Device :=
  let r := s.radio
  let s1 := Device.count { s with radio := { r with budgetExhausted := true, budgetJournalled := true } } (if r.role = 2 then 9 else 7)
  if r.budgetJournalled then s1 else s1.journal 0x50A (r.txUs / 1000) 0

/-! ## The frame counter (R351) -/

/-- The counter that the next frame takes; a new block is reserved in FRAM before its first counter is used. -/
def Radio.takeFcnt (r : Radio) : Nat × Radio :=
  (r.fcntTx, { r with fcntTx := r.fcntTx + 1, fcntBlock := if r.fcntBlock ≤ r.fcntTx then (r.fcntTx / 256 + 1) * 256 else r.fcntBlock })

/-- Itwen Air transmission has stopped for want of counters. -/
def Device.fcntOut (s : Device) : Bool := decide (0xFFFFFF00 ≤ s.radio.fcntTx)

/-- FCNT_EXHAUSTED, once. -/
def Device.fcntCheck (s : Device) : Device :=
  if s.fcntOut && !s.radio.fcntStopped then
    Device.journal { s with radio := { s.radio with fcntStopped := true } } 0x50C s.radio.fcntTx 0
  else s

/-! ## Transmission -/

/-- A frame is put on the air on channel `ch`: its time, its counter, its bytes. -/
def Device.onAir (s : Device) (ch : Nat) (b : Bytes) : Device :=
  Device.count { s with radio := { s.radio with
    txUs := s.radio.txUs + s.airUs b.length, out := s.radio.out ++ [b], outCh := s.radio.outCh ++ [ch] } } 0

/-- A frame is sent on channel `ch` under key slot `h.keyId`; not made without a key, a counter or the budget. The flag
says whether it was made. -/
def Device.sendAir (s : Device) (up : Bool) (ch : Nat) (h : AirHeader) (payload : Bytes) : Bool × Device :=
  match s.netKey up h.keyId with
  | none => (false, s)
  | some key =>
    if s.fcntOut then (false, s.fcntCheck)
    else
      let n := (if h.longSrc then 18 else 12) + payload.length + 6
      if !s.fits (s.airUs n) then (false, s.budgetHit)
      else
        let f := s.radio.takeFcnt
        let s1 := { s with radio := f.2 }
        (true, (s1.onAir ch (airFrame key (s.sec.devEui.getD 0) h f.1 payload)).fcntCheck)

/-! ## Replay (R363) -/

inductive Replay where
  | accept (h bitmap : Nat)
  | again
  | drop
deriving DecidableEq, Repr

/-- The decision on a frame that passed its MIC; `seen` is false before the link's first frame. -/
def replayOf (seen : Bool) (h bitmap fcnt : Nat) : Replay :=
  if !seen then .accept fcnt 0
  else if h < fcnt then
    let k := fcnt - h
    .accept fcnt ((bitmap * 2 ^ k + 2 ^ (k - 1)) % 2 ^ 64)
  else if h = fcnt then .again
  else if fcnt + 64 < h then .drop
  else
    let k := h - 1 - fcnt
    if bitAt bitmap k then .again else .accept h (bitmap + 2 ^ k)

/-! ## Items (R354) -/

/-- One item: source, object, offset, and its piece. -/
def itemBytes (src obj off : Nat) (p : Piece) : Bytes :=
  leBytes 2 src ++ leBytes 2 obj ++ leBytes 3 off ++
  (match p with
    | .piece b => leBytes 1 b.length ++ b
    | .refused r => [0#8] ++ leBytes 1 r)

/-- Room for items in a DATA frame with a short source (R347). -/
def dataRoom : Nat := 237

/-- An item that fits in what is left beside reasons for the `later` ones, or reason 4 (R355). -/
def fitItem (room later src obj off : Nat) (p : Piece) : Bytes :=
  let b := itemBytes src obj off p
  if b.length + 9 * later ≤ room then b
  else if 9 ≤ room then itemBytes src obj off (.refused 4)
  else []

/-- Items in order, each from the room that is left; every later one keeps the nine bytes of a reason (R355). -/
def packItems : Nat → List (Nat × ObjRef × Piece) → Bytes
  | _, [] => []
  | room, x :: xs =>
    let b := fitItem room xs.length x.1 x.2.1.obj x.2.1.off x.2.2
    b ++ packItems (room - b.length) xs

/-- A piece of an object of this device, as Itwen Air reads it; a length of 0 is out of range (R524). -/
def Device.airPiece (s : Device) (o : ObjRef) : Piece :=
  if o.len = 0 then .refused 3 else (s.loadShadow 1).readPiece true o.obj o.off o.len

def Device.ownItem (s : Device) (o : ObjRef) : Nat × ObjRef × Piece := (0, o, s.airPiece o)

/-- The entries of a READ or of `uplink_objs`. -/
def objRefs : Nat → Bytes → List ObjRef
  | 0, _ => []
  | k + 1, b => ⟨getU b 0 2, getU b 2 3, getU b 5 1⟩ :: objRefs k (b.drop 6)

/-- One received item: source, object, offset, bytes; none for a reason. -/
structure RxItem where
  src : Nat
  obj : Nat
  off : Nat
  bytes : Option Bytes
  raw : Bytes
deriving DecidableEq, Repr

/-- The items of a DATA payload; none where it is malformed. -/
def parseItems : Nat → Bytes → Option (List RxItem)
  | 0, b => if b.isEmpty then some [] else none
  | k + 1, b =>
    if b.isEmpty then some []
    else
      let n := getU b 7 1
      let m := if n = 0 then 9 else 8 + n
      if b.length < m then none
      else
        let x : RxItem := { src := getU b 0 2, obj := getU b 2 2, off := getU b 4 3
                            bytes := if n = 0 then none else some ((b.drop 8).take n), raw := (b.take m).drop 2 }
        (parseItems k (b.drop m)).map (x :: ·)

/-! ## What an uplink carries (R385, R386) -/

/-- The registers whose advance adds them to a DATA frame. -/
def Device.estRegs (s : Device) : List Nat :=
  let r := s.registers
  if energyClass s.conf.cls then [r.eEstH, r.eEstC, r.volEst]
  else if s.converts then [r.volBaseDist]
  else []

/-- The objects of a scheduled uplink at the basic level. -/
def Device.basicUplink (s : Device) : List ObjRef :=
  let adv := s.estRegs != s.radio.ackedEst.take s.estRegs.length && s.estRegs.any (· != 0)
  [⟨0x0EA4, 0, 64⟩] ++
  (if adv then (if energyClass s.conf.cls then [⟨0x0221, 0, 16⟩, ⟨0x0220, 0, 8⟩] else [⟨0x0231, 0, 8⟩]) else []) ++
  (if s.conf.safePreset then [⟨0x0E20, 0, 8⟩] else [])

/-- The objects of a scheduled uplink; in the safe preset STRAP_IMAGE is among them at either level (R74). -/
def Device.uplinkObjs (s : Device) : List ObjRef :=
  match s.phyP.objs with
  | none => s.basicUplink
  | some l => l ++ (if s.conf.safePreset && !l.any (·.obj == 0x0E20) then [⟨0x0E20, 0, 8⟩] else [])

/-- Largest PSDU of a scheduled uplink at the expert level, or the digest frame. -/
def uplinkLen (p : PhyP) : Nat :=
  match p.objs with
  | none => 90
  | some l => 18 + min dataRoom (sumNat (l.map fun o => 8 + max 1 o.len))

/-! ## Planned transmission (R22, R386) -/

/-- Planned transmission of a configuration fits its budget over a window of 3600 s: contacts with their DATA or POLL, a
DATA at every `uplink_every`-th contact. -/
def plannedFits (r : RadioP) (p : PhyP) : Bool :=
  if r.role = 0 then true
  else
    match r.budgetUs with
    | none => true
    | some b =>
      let data := airtimeUs p.preamble p.phy (uplinkLen p)
      let poll := airtimeUs p.preamble p.phy 23
      decide (3600 * (data + (p.uplinkEvery - 1) * poll) ≤ b * (p.contactEvery * p.uplinkEvery))

/-! ## The contact alarm (R358, R360) -/

/-- Ticks from the contact alarm to the SFD of the contact frame: HFX start and SHR (DEDUCED, log 26). -/
def Device.contactLead (s : Device) : Nat := usTicks (1000 + s.shr)

/-- The next own contact has its SFD at tick `t`; it runs in elapsed time, on alarm slot 6. -/
def Device.contactAt (s : Device) (t : Nat) : Device :=
  Device.arm { s with radio := { s.radio with tContact := min t tickMax } } 6 (t - s.contactLead) true

end Sys2Proof.Machine
end

