-- ==== Sys2Proof/Machine/Sched.lean ====
section
/-! DEFINITION. The schedules of the radio: own contacts, the windows of children, telegrams (R358, R360, R365 to R367,
R375). -/

namespace Sys2Proof.Machine

/-! ## Own contacts (R358, R360) -/

/-- A link of Itwen Air can transmit (R387). -/
def Device.upReady (s : Device) : Bool := (s.netKey true 0).isSome || (s.netKey true 1).isSome

/-- The Ferryman has contacts of its own to make. -/
def Device.contacts (s : Device) : Bool := s.on .ferryman && s.radio.role != 0 && s.upReady && s.sec.devEui.isSome

/-- Contacts begin where none is planned: the first instant is free within the interval (log 26). -/
def Device.startContacts (s : Device) : Device :=
  if s.contacts && !s.armed 6 then
    let n := s.phyP.contactEvery * 32768
    if s.land.tick < s.radio.tContact ∧ s.radio.tContact ≤ s.land.tick + n then s.contactAt s.radio.tContact
    else
      let f := s.draw
      f.2.contactAt (s.land.tick + 1 + f.1 % n)
  else s

/-! ## Windows of children (R365, R366) -/

def Radio.child (r : Radio) (i : Nat) : Option Child := r.children.find? (·.idx == i)

def Radio.setChild (r : Radio) (i : Nat) (f : Child → Child) : Radio :=
  { r with children := r.children.map fun c => if c.idx = i then f c else c }

def Device.setChild (s : Device) (i : Nat) (f : Child → Child) : Device := { s with radio := s.radio.setChild i f }

/-- The guard of R365 in ticks, for a span of Δ ticks. -/
def guardTicks (ppm span : Nat) : Nat := 64 + cdiv (ppm * span) 1000000

/-- Half-width of a child's next window before t_shr: g, or that of a search window (R365, R366). -/
def Device.halfWidth (s : Device) (c : Child) : Nat :=
  let span := ((c.tExp / 64) - c.tSync).toNat
  let u := if c.driftValid then s.phyP.driftUnc else s.phyP.driftUnc0
  if c.search then min (guardTicks s.phyP.driftUnc0 span * 2 ^ c.searchLevel) 65536 else guardTicks u span

/-- First and last tick of the next window (R365). -/
def Device.windowOf (s : Device) (c : Child) : Int × Int :=
  let g : Int := s.halfWidth c
  (c.tExp / 64 - g - usTicks s.shr, -((-c.tExp) / 64) + g)

/-- Alarm slot 7 runs to the opening of the earliest child window. -/
def Device.armWindows (s : Device) : Device :=
  let opens := if s.radio.role = 2 then (s.radio.children.filter fun c => !c.windowOpen).map fun c => (s.windowOf c).1 else []
  match opens with
  | [] => if s.armed 7 then s.disarm 7 else s
  | a :: as => s.arm 7 (as.foldl min a).toNat true

/-! ## Telegrams (R375) -/

/-- The uplink interval in ticks. -/
def Device.wmInterval (s : Device) : Nat := s.phyP.contactEvery * s.phyP.uplinkEvery * 32768

/-- Telegram n of this cold start, at its instant: interval n + 1 with its pseudo-random offset, on alarm slot 9. -/
def Device.wmArm (s : Device) : Device :=
  let i := s.wmInterval
  let off := Config.wmbusSpread (s.sec.devEui.getD 0) s.radio.wmbusCount % (i / 16 + 1)
  s.arm 9 (s.radio.wmbusNext + off) true

/-- The telegrams begin where none is planned, one interval after now. -/
def Device.wmStart (s : Device) : Device :=
  if s.on .wmbus && !s.armed 9 then
    Device.wmArm { s with radio := { s.radio with wmbusCount := 0, wmbusNext := s.land.tick + s.wmInterval } }
  else s

/-- What the radio's functions now do is planned, and what they no longer do is not (R358, R360, R375). -/
def Device.planRadio (s : Device) : Device :=
  let s1 := if s.radio.role = 0 ∧ s.armed 6 = true then s.disarm 6 else s.startContacts
  let s2 := if s1.radio.wmbus = 0 ∧ s1.armed 9 = true then s1.disarm 9 else s1.wmStart
  s2.armWindows

end Sys2Proof.Machine
end

