-- ==== Sys2Proof/Machine/HoldUp.lean ====
section
/-! DEFINITION. The first lines of the hold-up commit, which act at once, and the draining of an entry to SHIP (R24, R374,
R431, R477, R482, R484). -/

namespace Sys2Proof.Machine

/-- Exchange and windows end, working buffers and the digest cache are lost (R374). -/
def Radio.holdUp (r : Radio) : Radio :=
  { r.dropReasm with
    exch := none, undecidedTo := 0, digests := [], sentEst := [], sentTamper := none
    children := r.children.map fun (c : Child) => { c with windowOpen := false, listenTo := none }
    queue := r.dropReasm.queue.map fun (q : QEntry) => { q with inFlight := false } }

/-- The Ferryman at the start of a hold-up commit: the transmitter is off and every window closed, the attempt in progress
has used its try (R370, R374, R482). -/
def Radio.lockout (r : Radio) : Radio :=
  Radio.holdUp { (match r.exch with | some e => r.cutShort e | none => r) with joinOpen := false }

/-- Accepted items that a hold-up commit abandons as it starts: a `SHOT` pair in flight, a note in reassembly, pending
updates of the display (R24, R484). -/
def Device.abandoned (s : Device) : Nat :=
  (if s.tr.cyc.inFlight.isSome && s.tr.cyc.extPair then 1 else 0) + (if s.radio.reasm.isSome then 1 else 0) +
    s.disp.pendingAccepted

/-- The Power Manager notes what is given up, for the transaction of the commit. -/
def Power.note (p : Power) (items regions : Nat) : Power :=
  { p with heldItems := p.heldItems + items, heldRegions := p.heldRegions ||| regions }

/-- A hold-up commit starts in service (R482, R484): the radio is off, the path-pair in flight is voided, the conversion
abandoned, and the driver stops, or at the entry to SHIP drops only what is pending (R29, R430). Before t0 there is
nothing to give up (R479). -/
def Device.holdBegin (s : Device) (ship : Bool) : Device :=
  if s.started then
    Device.resetFunc (Device.resetFunc { s with
      power := s.power.note s.abandoned (if ship then 0 else s.disp.runMask)
      disp := if ship then s.disp.dropPending else s.disp.lockout
      radio := s.radio.lockout
      haw := { s.haw with job := none } } .transit) .converter
  else s

/-- A hold-up commit falls due (R482). -/
def Device.holdStart (s : Device) : Device :=
  let s1 := s.holdBegin false
  { s1 with power := { s1.power with holdDue := s1.power.holdDue || s1.powered, shipping := false } }

/-- SUPPLY_LOCKOUT (R322, R323): `VBAT` below 2.10 V. -/
def execSupplyLockout (dt : Nat) (s : State) : Host.Outcome State Fault Refusal :=
  let d := s.dev.elapse dt
  .next { s with dev :=
    if d.landed && d.land.supply == .bat then
      Device.holdStart (Device.discardSet { d with land := { d.land with supply := .batLock, pwrEn := false } })
    else d }

/-- Every function is disabled, and drains (R29, R477). -/
def Device.disableAll (s : Device) : Device :=
  [Func.transit, .converter, .ferryman, .wmbus, .hawser, .display, .optical, .pulseOut].foldl Device.disable s

/-- The entry to SHIP has drained what takes time: the pulse in progress, the running waveforms (R29, R430, R477). -/
def Device.shipDrained (s : Device) : Bool := s.drainedOf .pulseOut && s.drainedOf .display

/-- The hold-up commit that is due can run. -/
def Device.holdReady (s : Device) : Bool := s.power.holdDue && (!s.power.shipping || s.shipDrained)

/-- The pulse outputs without supply: nothing drives them, what was owed is discarded and counted (R181, R477). -/
def PulseOut.ship (p : PulseOut) : PulseOut :=
  let q := p.disabled
  { q with ch0 := { q.ch0 with phase := .idle, remain := 0, low := false }
           ch1 := { q.ch1 with phase := .idle, remain := 0, low := false } }

end Sys2Proof.Machine
end

