-- ==== Sys2Proof/Machine/Apply.lean ====
section
/-! DEFINITION. Applying a configuration to the blocks: which functions are to be ON, tuning and ports, the shot mode,
pulse outputs, calibration-pending and the start of metering (R29, R68 to R73, R112, R139, R149, R171, R181, R337,
R388, R461, R517, R541, R543). -/

namespace Sys2Proof.Machine

/-! ## Which functions are ON (R68, R73, R337, R461, R517, R543) -/

/-- The life cycle and the test access port let the device measure (R461). -/
def Device.lcMeasures (s : Device) : Bool :=
  s.sec.lc != .blank && s.sec.lc != .scrapped && s.sec.tap != .board && s.sec.tap != .debug

/-- BLANK with the board level loaded: the switched functions are OFF (R461). -/
def Device.blankBoard (s : Device) : Bool := s.sec.lc == .blank && s.sec.tap == .board

/-- The code of strap `n` at the last cold start; none where it is bad. -/
def Device.strapAt (s : Device) (n : Nat) : Option Nat :=
  if bitAt s.straps.badMask n then none else some (codeOf s.straps.codes n)

def Device.transitWanted (s : Device) : Bool :=
  let g := s.conf.g
  !s.conf.safePreset && s.lcMeasures &&
    (s.secondary || (g.medium.isSome && g.pathList.isSome && g.shot.isSome && pathUsable g s.conf.calib))

def Device.converterWanted (s : Device) : Bool :=
  !s.conf.safePreset && s.lcMeasures && s.conf.g.wiring.isSome && s.conf.g.clamp.isSome

/-- The Ferryman may run at all: not on a secondary, not in SCRAPPED, its AES engine not isolated (R16, R461, R517). -/
def Device.radioAllowed (s : Device) : Bool :=
  !s.secondary && s.sec.lc != .scrapped && !s.st.secIsolated && s.conf.g.phy.isSome

def Device.ferrymanWanted (s : Device) : Bool :=
  s.radioAllowed && checked s.conf.g.radio (·.role != 0) && s.conf.g.radio.isSome

def Device.wmbusWanted (s : Device) : Bool :=
  s.radioAllowed && checked s.conf.g.radio (·.wmbus != 0) && s.conf.g.radio.isSome

def Device.hawserWanted (s : Device) : Bool :=
  !s.conf.safePreset && s.sec.lc != .scrapped && s.haw.role != 0

def Device.displayWanted (s : Device) : Bool :=
  !s.secondary && s.sec.lc != .scrapped && s.conf.g.display.isSome &&
    (match s.strapAt 10 with
      | some c => (decide (1 ≤ c) && decide (c ≤ 12)) || (c == 15 && !s.conf.safePreset)
      | none => false)

def Device.pulseWanted (s : Device) : Bool :=
  !s.conf.safePreset && !s.secondary && s.sec.lc != .scrapped &&
    (match s.conf.g.pulse with
      | some p => p.mode0 != 0 || p.mode1 != 0
      | none => false)

def Device.wanted (s : Device) (f : Func) : Bool :=
  !s.blankBoard &&
    (match f with
      | .transit => s.transitWanted
      | .converter => s.converterWanted
      | .ferryman => s.ferrymanWanted
      | .wmbus => s.wmbusWanted
      | .hawser => s.hawserWanted
      | .display => s.displayWanted
      | .optical => true
      | .pulseOut => s.pulseWanted)

def allFuncs : List Func := [.transit, .converter, .ferryman, .wmbus, .hawser, .display, .optical, .pulseOut]

def Device.wantStep (s : Device) (f : Func) : Device := s.want f (s.wanted f)

/-- Every function is enabled or disabled as the configuration, the life cycle and test access give. -/
def Device.applyFunctions (s : Device) : Device := allFuncs.foldl Device.wantStep s

/-! ## Shot mode (R149, R151, R178) -/

/-- The shot timer and the SHOT bucket as a mode begins. -/
def Device.initShot (s : Device) : Device :=
  let p := s.conf.shot
  let t := s.tr
  { s with tr := { t with
    cyc := { t.cyc with level := 0, broughtForward := false, fired := []
                        shotIn := if p.external then none else some (shotPeriod p 0) }
    ext := { t.ext with tokens := p.extBurst * 65536, nextPath := 0 } } }

/-- A changed `shot_rate` group at a commit: a change of mode begins the mode, otherwise the period follows. -/
def Device.shotChanged (s : Device) (old : Conf) : Device :=
  let p := s.conf.shot
  if p.external != old.shot.external then s.initShot
  else
    let c := s.tr.cyc
    let n := min c.level p.rateSteps
    { s with tr := { s.tr with
      cyc := { c with level := n, shotIn := if p.external then none else some (shotPeriod p n) }
      ext := { s.tr.ext with tokens := min s.tr.ext.tokens (p.extBurst * 65536) } } }

/-! ## Pulse outputs (R181, R187) -/

/-- Modes, widths and divisors of the pulse outputs; both modes are off in the safe preset. -/
def Device.initPulse (s : Device) : Device :=
  let p := s.conf.g.pulse.getD {}
  let off := s.conf.safePreset
  let q := ((s.pulse.setMode 0 (if off then 0 else p.mode0)).setMode 1 (if off then 0 else p.mode1))
  { s with pulse := { q with width := p.width, gap := p.gap, nPulse := p.nPulse } }

/-! ## Radio (R337, R344, R380) -/

/-- The radio's role, band and PHY as configured. -/
def Device.initRadio (s : Device) : Device :=
  let r := s.conf.g.radio.getD { role := 0 }
  let p := s.conf.g.phy.getD {}
  { s with radio := { s.radio with
    role := r.role, phy := p.phy, band := r.band, pa20 := r.pa20, wmbus := r.wmbus } }

/-! ## Role and time base (R100, R388) -/

/-- Role and time base as configured. A commit that selects HFX, or forbids the fallback, ends one that runs: what follows
is measured on the time base selected (R105, R106; DESIGN CHOICE, log 20). -/
def Device.initRole (s : Device) : Device :=
  let y := s.conf.system
  let b := s.tr.tb
  let sel := y.timeBase == 1
  let ends := b.fallback && !(sel && y.refinFallbackEn)
  let s1 := { s with
    haw := { s.haw with role := y.role, deviceNo := if y.role = 2 then y.deviceNo else 0 }
    tr := { s.tr with tb := { b with
      refinSel := sel
      refinActive := if b.refinSel == sel && !ends then b.refinActive else sel
      fallback := b.fallback && !ends, relock := b.relock && sel, passRun := if ends then 0 else b.passRun } } }
  if ends then s1.degrade fun d => { d with refin := false } else s1

/-! ## The expected set (R396) -/

/-- Devices 1 to 5 as a mask with bit k − 1. -/
def secMask (p : Nat → Bool) : Nat := sumNat ((List.range 5).map fun i => bitVal (p (i + 1)) i)

/-- The expert level names the set where `CFG2` or `CFG4` is at code 15 (DEDUCED, log 28). -/
def Device.namesSecs (s : Device) : Bool := s.strapAt 2 == some 15 || s.strapAt 4 == some 15

/-- The secondaries that `path_list` and `temp_wiring` name. -/
def Device.namedSecs (s : Device) : Nat :=
  secMask fun k =>
    (s.strapAt 2 == some 15 && s.conf.pathList.paths.any (fun p => p.devUp == k || p.devDown == k)) ||
    (s.strapAt 4 == some 15 && bitAt s.conf.wiring.secMask k)

/-- The named set follows the groups that name it, also where they change in service (R396, R541). -/
def Device.renameSecs (s : Device) : Device :=
  if s.haw.role == 1 && s.namesSecs && !s.conf.safePreset then
    { s with haw := { s.haw with expected := s.namedSecs, expectedKnown := true } }
  else s

/-! ## The default medium (R139) -/

/-- The default medium of the class in force, where the classifier has never adopted one. -/
def Device.classDefault (s : Device) : Device :=
  let cs := s.tr.cs
  if !cs.adopted && s.conf.g.medium.isSome && cs.medium != defaultMedium s.conf.cls then
    { s with tr := { s.tr with cs := cs.default s.conf.cls } }
  else s

/-! ## Calibration-pending (R543) -/

/-- The fit tests; the state is journalled when it begins. A secondary has no calibration of its own (R395). -/
def Device.calibTest (s : Device) : Device :=
  let c := if s.secondary then 0 else calibCause s.rolesUsed s.conf s.conf.g s.conf.calib
  let s1 := { s with conf := { s.conf with calibPending := c } }
  if c != 0 && s.conf.calibPending == 0 then s1.journal 0x10F c 0 else s1

/-! ## The start of metering (R171) -/

/-- Metering starts at the present tick: flow 0 in force, no remainder, a running FLOW_FAULT ends. -/
def Device.startMetering (s : Device) : Device :=
  let t := s.land.tick
  let s1 := s.endFlowFault t
  let v := s1.toll.led.vol
  Device.armGap { s1 with
    flow := { s1.flow with qf := some 0, metering := true, gapWait := false }
    tr := { s1.tr with cs := { s1.tr.cs with flowHeld := false } }
    toll := { s1.toll with led := { s1.toll.led with vol := { v with incRem := 0, tPrev := t } } } }

/-! ## A commit (R541) -/

/-- A function bounces where a group of its own has changed and it is ON. -/
def Device.bounceIf (s : Device) (b : Bool) (f : Func) : Device := if b then s.bounce f else s

/-- The groups whose change restarts each function. -/
def restarts (o n : Groups) : List (Bool × Func) :=
  [(decide (o.medium ≠ n.medium) || decide (o.pathList ≠ n.pathList) || decide (o.shot ≠ n.shot), .transit),
   (decide (o.wiring ≠ n.wiring) || decide (o.clamp ≠ n.clamp) || decide (o.install ≠ n.install), .converter),
   (decide (o.radio ≠ n.radio) || decide (o.phy ≠ n.phy), .ferryman),
   (decide (o.radio ≠ n.radio), .wmbus),
   (decide (o.system ≠ n.system), .hawser),
   (decide (o.display ≠ n.display), .display),
   (decide (o.pulse ≠ n.pulse), .pulseOut)]

/-- Shot timing with the wake of the next cycle (R394), and pulse outputs after a commit. -/
def Device.recommitA (s : Device) (old : Conf) : Device :=
  let s1 := (if old.g.shot ≠ s.conf.g.shot then s.shotChanged old else s).armWake
  if old.g.pulse ≠ s.conf.g.pulse then s1.initPulse else s1

/-- Radio and cascade role after a commit. -/
def Device.recommitB (s : Device) (o n : Groups) : Device :=
  let s1 := if o.radio ≠ n.radio ∨ o.phy ≠ n.phy then s.initRadio else s
  if o.system ≠ n.system then s1.initRole else s1

/-- Channels in use, compared pairs and the bridge after a commit (R206, R211, R215). -/
def Device.recommitT (s : Device) (o n : Groups) : Device :=
  (if o.wiring ≠ n.wiring ∨ o.install ≠ n.install ∨ o.medium ≠ n.medium then s.useUnits.checkFlag else s).dropBridge

/-- The display's tables once a calibration record is gone (R417). -/
def Device.tablesGone (s : Device) : Device := if s.up && s.displayWanted then s.displayRetable else s

/-- Display tables and refresh after a commit. -/
def Device.recommitC (s : Device) (old new : Conf) : Device :=
  if old.g.display = new.g.display ∧ old.calib.disp = new.calib.disp then s
  else if s.displayWanted then s.displayRetable.armRefresh
  else s.disarm 5

/-- Functions restarted, enabled and disabled after a commit. -/
def Device.recommitD (s : Device) (o n : Groups) : Device :=
  ((restarts o n).foldl (fun (x : Device) (r : Bool × Func) => x.bounceIf r.1 r.2) s).applyFunctions

/-- Metering, where the commit allows it that was not allowed; the sample alarm, under the new clamp (R11). -/
def Device.recommitE (s : Device) (was : Bool) (o n : Groups) : Device :=
  let s1 := if s.meteringAllowed && !was && s.tolling then s.startMetering else s
  if o.clamp ≠ n.clamp ∧ s1.armed 3 = true then
    (s1.arm 3 (s1.temp.lastDue + s1.conf.clamp.tMax * 2048) true).tempRule
  else s1

/-- Blocks under a configuration that changes at a commit while the device is up; `old` is what was in force. -/
def Device.applyCommit (s : Device) (old : Conf) : Device :=
  let o := old.g
  let n := s.conf.g
  let was := Device.meteringAllowed { s with conf := old }
  let s0 := (s.classDefault.initPaths old false).renameSecs
  let s1 := (((s0.recommitA old).recommitB o n).recommitT o n).recommitC old s.conf
  (((s1.recommitD o n).recommitE was o n).planRadio).recond

/-- The Ferryman's groups in the safe preset: a node where `CFG8` and `CFG9` are both good, otherwise none (R73). -/
def Groups.asNode (g : Groups) : Groups :=
  if g.radio.isSome && g.phy.isSome then { g with radio := g.radio.map fun (r : RadioP) => { r with role := 1 } }
  else { g with radio := none, phy := none }

/-- The safe preset comes into force while the device is up or starts (R73, R396). -/
def Device.enterSafe (s : Device) : Device :=
  let o := s.conf.g
  let s1 := (Device.initPulse { s with
    conf := { s.conf with g := o.asNode, pendingMask := 0, safePreset := true }
    straps := { s.straps with safeBit := true, expertPendingBit := false } }).initRadio
  let s2 := s1.bounceIf (decide (o.radio ≠ s1.conf.g.radio)) .ferryman
  ((s2.applyFunctions).planRadio).recond

/-- Functions after a change of the life cycle's, test access's or self-test's hold on them. -/
def Device.reconcile (s : Device) : Device := if s.up then s.applyFunctions else s

end Sys2Proof.Machine
end

