-- ==== Sys2Proof/Machine/Wipe.lean ====
section
/-! DEFINITION. Wipes: what each class clears (R458, R500, R518, R527, R528). -/

namespace Sys2Proof.Machine

/-! ## W1 Telemetry -/

def PathHealth.wipe (h : PathHealth) : PathHealth := { h with pairs := 0, voidPairs := 0, marginalPairs := 0 }

def PathState.wipe1 (p : PathState) : PathState := { p with health := p.health.wipe }

def ExtShot.wipe (e : ExtShot) : ExtShot :=
  { e with accepted := 0, refusedBusy := 0, refusedRate := 0, refusedBg := 0, refusedMode := 0 }

def Transit.wipe1 (t : Transit) : Transit :=
  { t with
    paths := t.paths.map PathState.wipe1
    ext := t.ext.wipe
    tb := { t.tb with lossCount := 0, tdcOvf := 0, failCount := 0 }
    tdc := { t.tdc with calCount := 0 } }

def PulseCh.wipe1 (c : PulseCh) : PulseCh := { c with emitted := 0 }

def PulseOut.wipe1 (p : PulseOut) : PulseOut := { p with ch0 := p.ch0.wipe1, ch1 := p.ch1.wipe1, lost := 0 }

def TempUnit.wipe1 (u : TempUnit) : TempUnit := { u with failCount := 0 }

def LandCounters.wipe1 (c : LandCounters) : LandCounters :=
  { c with bkpCount := 0, bkpTicks := 0, lostCount := 0, tinLost := 0 }

def Secondary.wipe1 (x : Secondary) : Secondary := { x with refusals := 0 }

def Store.wipe1 (x : Store) : Store :=
  { x with framCorrected := 0, framUncorrectable := 0, copyRepairs := 0, scrubPasses := 0, txnCommits := 0
           rolledForward := 0, rolledBack := 0, flashErases := 0, bgDue := [0, 0, 0, 0, 0, 0] }

def Device.wipe1 (s : Device) : Device :=
  { s with
    refusals := List.replicate 16 0
    tr := s.tr.wipe1
    flow := { s.flow with fallbackCycles := 0, nosetCycles := 0, overCycles := 0 }
    pulse := s.pulse.wipe1
    temp := { s.temp with units := s.temp.units.map TempUnit.wipe1 }
    bill := { s.bill with logLost := 0 }
    land := if s.writable then { s.land with cnt := s.land.cnt.wipe1, cntMirror := s.land.cntMirror.wipe1 } else s.land
    radio := { s.radio with counters := List.replicate 18 0 }
    haw := { s.haw with crcFail := 0, secs := s.haw.secs.map Secondary.wipe1 }
    disp := { s.disp with updates := 0, replaced := 0, tempClamped := 0 }
    sec := { s.sec with verdicts := [], verdictSeq := 0 }
    power := { s.power with wakes := 0, edgeLost := 0, holdCommits := 0, coldStarts := 0 }
    store := s.store.wipe1
    st := { s.st with rounds := 0, failCount := 0, condDefer := 0 } }

/-! ## W2 Legal -/

/-- `hold_cause` (R520). -/
def SelfTest.holdCause (t : SelfTest) : Nat := packFlags [t.holdKat, t.holdRom, t.holdEcc, t.holdVote]

/-- The ledgers and the held pricing set (R232); the remainders and origins that their maps reset otherwise keep their
values (R173, R253). -/
def Ledgers.wipe (l : Ledgers) : Ledgers :=
  { vol := { incRem := l.vol.incRem, tPrev := l.vol.tPrev }, estVrem := l.estVrem, tEst := l.tEst }

def FaultTime.wipe (f : FaultTime) : FaultTime := { cond := f.cond, tCond := f.tCond }

def Capstan.wipe (c : Capstan) : Capstan := { qTurnN := c.qTurnN }

def LandCounters.wipe2 (c : LandCounters) : LandCounters :=
  { c with adjCount := 0, adjSum := 0, stepCount := 0, stepSeq := 0, lastSigma := 0 }

/-- Billing state after the wipe, before R271 is applied. -/
def Bill.wipe2 (b : Bill) (t : Nat) : Bill :=
  { b with
    st := { b.st with seqLast := 0, tStart := t, schedLast := 0, daySchedLast := 0, dayCount := 0 }
    snaps := [], max := {}, hourCount := 0, staged := [], lostJournalled := false
    hour := { b.hour with errRef := 0, last := none } }

/-- Ring positions and counts are reset, and the rings' sectors await erase (R500, R528). -/
def Store.wipe2 (x : Store) : Store :=
  { x with hourRing := [], dayRing := [], hourPos := 0, dayPos := 0, ringErase := x.ringUsed, compareFails := 0
           poolDirty := x.poolDirty ++ x.outgoing.map (·.2), outgoing := [] }

/-- Counts that the Landing keeps; under lockout it takes no write (R323). -/
def Device.wipeLand (s : Device) : Landing :=
  let l := s.land
  if s.writable then
    { l with plsCount := [0, 0, 0, 0], plsMirror := [0, 0, 0, 0], plsLost := 0, cnt := l.cnt.wipe2, cntMirror := l.cntMirror.wipe2 }
  else l

def Device.wipe2 (s : Device) : Device :=
  let t := s.land.tick
  let s1 := { s with
    toll := { s.toll with led := s.toll.led.wipe, ft := s.toll.ft.wipe, lastRev := none }
    cap := s.cap.wipe
    bill := s.bill.wipe2 t
    land := s.wipeLand
    store := s.store.wipe2
    st := { s.st with holdVote := false } }
  if s.st.holdVote && !s1.st.legalHold then s1.journal 0xA02 s.st.holdCause 0 else s1

/-! ## W3 Record -/

def Device.wipe3 (s : Device) : Device :=
  { s with
    jnl := {}
    sec := { s.sec with tamper := List.replicate 24 {}, serviceCount := 0 } }

/-! ## W4 Learned -/

/-- Tuning and templates are reinitialised (R112), those of a pair in flight once it is over (R92). -/
def Device.relearn (s : Device) (i : Nat) (x : PathState) : PathState :=
  match s.conf.pathList.at? i with
  | none => x
  | some p => if s.tr.cyc.inFlight = some i then { x with work := { x.work with stale := true } } else (reinitPath p ((s.conf.calib.path.getD [])[i]?) s.conf.cls s.land.tick x).inService

def Radio.wipe4 (r : Radio) : Radio :=
  { r with
    link := 0, ownShort := 0xFFFF, parentEui := 0, upH := 0, upBitmap := 0, upSeen := false, tContact := 0, nextCh := 0
    children := [], queue := List.replicate 24 {}, digests := [], reasm := none, exch := none }

def Device.wipe4 (s : Device) : Device :=
  let t := s.tr
  let cal := t.tdc.calCount
  let s1 := { s with
    tr := { t with
      paths := (t.paths.zipIdx).map fun (x : PathState × Nat) => s.relearn x.2 x.1
      tdc := { t.tdc with act := {}, failRun := 0, fault := false, calCount := cal }
      tb := { t.tb with hfxCorr := 0, ageDays := 0 }
      cs := t.cs.default s.conf.cls }
    straps := { s.straps with lastCodes := s.straps.codes, lastBad := s.straps.badMask }
    radio := s.radio.wipe4
    haw := { s.haw with expected := 0, expectedKnown := false }
    disp := { s.disp with image := List.replicate 112 (12, 12), fullNext := true } }
  let s2 := s1.degrade fun g => { g with tdcFault := false }
  [6, 7, 8, 9].foldl Device.disarm s2

/-! ## W5 Configuration, W6 Keys, W7 Time -/

/-- The built-in calendar takes over: tariff, schedules, the refresh and derived time follow (R267, R528). The sub-interval
that runs stays as it began (DESIGN CHOICE, log 18). -/
def Device.builtInCalendar (s : Device) : Device :=
  let t := s.land.tick
  let d := s.bill.dem
  let s1 := { s with bill := { s.bill with
    calActive := {}, calPassive := none, deferred := false
    dem := { d with nextEnd := (nextAligned {} (subLen d.demLen d.demSub) t).toNat }
    hour := { s.bill.hour with nextEnd := (nextAligned {} hourLen t).toNat } } }
  let s2 := s1.updateTimeNow.realignRefresh
  if s2.tolling then (Device.tariffStep { s2 with bill := { s2.bill with lastTick := t } } t).armBoundary else s2

/-- Stored records become absent; a stored calibration that is gone leaves measurement pending (R543). Groups in force
stay until the next cold start. -/
def Device.wipe5 (s : Device) : Device :=
  let s1 := { s with
    conf := { s.conf with calibStored := [], expertStored := [], calib := {} }
    radio := { s.radio with cfg := [], netId := 0, upNetId := 0 }
    straps := { s.straps with sealCodes := 0 }
    sec := { s.sec with sealTick := 0 } }
  let s2 := s1.builtInCalendar.tablesGone
  if s2.up && !s2.conf.safePreset then s2.calibTest.applyFunctions.recond else s2

def Keys.wipe (k : Keys) (scrap : Bool) : Keys :=
  { glaelm := k.glaelm, maker := if scrap then none else k.maker }

def Device.wipe6 (s : Device) (scrap : Bool) : Device := { s with sec := { s.sec with keys := s.sec.keys.wipe scrap } }

/-- Time is untrusted by the wipe (R304, R331), unless lockout keeps the Landing from it (R323). -/
def Device.wipe7 (s : Device) : Device :=
  if s.writable then Device.landEvent (Device.corrHold { s with land := { s.land with neverSet := true } }) 0x403 4 0 else s

/-! ## A wipe -/

def Device.wipeClass (s : Device) (scrap : Bool) (mask n : Nat) : Device :=
  if bitAt mask n then
    match n with
    | 1 => s.wipe1
    | 2 => s.wipe2
    | 3 => s.wipe3
    | 4 => s.wipe4
    | 5 => s.wipe5
    | 6 => s.wipe6 scrap
    | 7 => s.wipe7
    | _ => s
  else s

/-- BILL_STATE begins anew at the present tick: in trusted time the last values of R271 come from the calendar in force, and
the ends that follow from them (R269, R293). -/
def Device.reseed (s : Device) : Device :=
  let s1 := s.seedSched s.land.tick
  let s2 := { s1 with bill := { s1.bill with st := s1.schedule s1.land.tick } }
  if s2.tolling then s2.rearmBoundary else s2

/-- A W2 wipe seeds BILL_STATE from the calendar that its transaction leaves in force. -/
def Device.wipeSeed (s : Device) (mask : Nat) : Device := if bitAt mask 2 then s.reseed else s

/-- A wipe of a mask of classes (R458), after a boundary of the present tick (R281), with its wipe entry in the
transaction (R500); WIPE is journalled before it, so that
W3 takes it along (R468); the conditions that it ends end at once (R242). -/
def Device.wipe (s : Device) (mask : Nat) (scrap : Bool) : Device :=
  let s0 := s.boundaryFirst.bringUp s.land.tick
  let s1 := Device.journal { s0 with store := { s0.store with txnMask := s0.store.txnMask ||| mask } } 0x804 mask s.sec.lc.code
  let s2 := [1, 2, 3, 4, 5, 6, 7].foldl (fun (x : Device) (n : Nat) => x.wipeClass scrap mask n) s1
  (s2.wipeSeed mask).recond

end Sys2Proof.Machine
end

