-- ==== Sys2Proof/Machine/Records.lean ====
section
/-! DEFINITION. Kratch records: the header, who may sign, the checks of R441 in their order, the conditions and ranges of
each type (R438 to R449, R456, R459, R531 to R541). -/

namespace Sys2Proof.Machine

/-! ## The header and the signature blocks (R440, R531, R532) -/

/-- A record taken apart. -/
structure Rec where
  typ : Nat
  nSig : Nat
  len : Nat
  eui : Nat
  seq : Nat
  bytes : Bytes
deriving DecidableEq, Repr

def recOf (b : Bytes) : Rec := ⟨getU b 0 1, getU b 1 1, getU b 2 2, getU b 4 8, getU b 12 4, b⟩

/-- Where the signature blocks begin; also the length of the signed message. -/
def Rec.signedLen (r : Rec) : Nat := r.bytes.length - 66 * r.nSig

def Rec.body (r : Rec) : Bytes := (r.bytes.take r.signedLen).drop 16

def Rec.block (r : Rec) (k : Nat) : Bytes := slice r.bytes (r.signedLen + 66 * k) 66

def Rec.signer (r : Rec) (k : Nat) : Nat := getU (r.block k) 0 1

def Rec.signers (r : Rec) : List Nat := (List.range r.nSig).map r.signer

/-- r and s of block k, each most significant byte first. -/
def Rec.sig (r : Rec) (k : Nat) : Bytes := (slice (r.block k) 2 32).reverse ++ (slice (r.block k) 34 32).reverse

def Rec.hash (r : Rec) : Bytes := sha256 (r.bytes.take r.signedLen)

/-! ## Step 1 (R440, R533, R538) -/

/-- Body size of a type of R533; `true` where it is a minimum. -/
def bodySize (typ : Nat) : Option (Nat × Bool) :=
  match typ with
  | 0x01 => some (64, false)
  | 0x02 => some (24, false)
  | 0x03 => some (68, false)
  | 0x04 => some (16, false)
  | 0x05 => some (4, true)
  | 0x06 => some (0, true)
  | 0x07 => some (752, false)
  | 0x08 => some (16, false)
  | 0x09 => some (16, false)
  | 0x0A => some (128, false)
  | 0x0B => some (4, false)
  | 0x0C => some (4, false)
  | _ => none

/-- Largest record of a path (R440). -/
def recMax (p : RecPath) : Nat :=
  match p with
  | .optical => 16384
  | .air => 3584

/-- The body of CALIB or PARAM_EXPERT is a sequence of blocks as R538 gives. -/
def Rec.blocksOk (r : Rec) : Bool :=
  if r.typ = 5 then (blocksOf sectionSize r.body).isSome
  else if r.typ = 6 then (blocksOf groupSize r.body).isSome
  else true

def Rec.wellFormed (r : Rec) (p : RecPath) : Bool :=
  (r.nSig == 1 || r.nSig == 2) && r.len == r.bytes.length && decide (r.bytes.length ≤ recMax p) &&
  decide (16 + 66 * r.nSig ≤ r.bytes.length) &&
  (match bodySize r.typ with
    | some (n, true) => decide (16 + n + 66 * r.nSig ≤ r.bytes.length)
    | some (n, false) => decide (16 + n + 66 * r.nSig = r.bytes.length)
    | none => true) && r.blocksOk

/-! ## Steps 3 to 5: addressee, state, signers (R446 to R448, R456, R459) -/

def euiAll : Nat := 0xFFFFFFFFFFFFFFFF

def Device.forThis (s : Device) (r : Rec) (p : RecPath) : Bool :=
  r.eui == s.sec.devEui.getD 0 || (r.eui == euiAll && (r.typ == 1 || r.typ == 2) && p == .optical)

def sigG : List (List Nat) := [[0]]
def sigM : List (List Nat) := [[1]]
def sigMA : List (List Nat) := [[1, 2]]
def sigO : List (List Nat) := [[3], [4]]
def sigMO : List (List Nat) := sigM ++ sigO

/-- Signer sets of a transition of R456; none for a pair that its table does not list. -/
def transitionSigners (a b : Nat) : List (List Nat) :=
  match a, b with
  | 1, 2 => sigM
  | 2, 1 => sigM
  | 2, 3 => sigMA
  | 3, 4 => sigMA
  | 4, 3 => sigMA
  | 0, 5 => sigG
  | 1, 5 => sigM
  | 2, 5 => sigM
  | 3, 5 => sigMA ++ [[3, 2], [4, 2]]
  | 4, 5 => sigMA ++ [[3, 2], [4, 2]]
  | _, _ => []

/-- Signer sets of a WIPE record with a class mask (R459); bit 0 is reserved. -/
def wipeSigners (lc : Lc) (mask : Nat) : List (List Nat) :=
  let m := mask / 2 * 2
  match lc with
  | .manufacture | .calibrate => if m &&& 0xBE = m then sigM else []
  | .sealed => if m = 0x02 then sigMO else []
  | .service => if m &&& 0x12 = m then sigM else []
  | .blank | .scrapped => []

/-- Groups that differ, byte for byte, between two records' blocks (R447). -/
def legalDiffer (a b : List (Nat × Bytes)) : Bool := [0, 1, 2, 3, 4, 5, 6, 11].any fun g => decide (blockOf a g ≠ blockOf b g)

def Device.legalChange (s : Device) (r : Rec) : Bool :=
  legalDiffer ((blocksOf groupSize r.body).getD []) ((blocksOf groupSize (recBody s.conf.expertStored)).getD [])

/-- Signer sets of a KEYS record in SEALED and SERVICE (R448). -/
def keySigners (slot : Nat) : List (List Nat) := if slot ≤ 1 then sigMA else sigO ++ sigMA

/-- Every signer set that R446 allows; none where the type is not accepted in the state. -/
def Device.allowed (s : Device) (r : Rec) (p : RecPath) : List (List Nat) :=
  let c := s.sec.lc
  let by4 := fun (mc se sv : List (List Nat)) => match c with
    | .manufacture | .calibrate => mc
    | .sealed => se
    | .service => sv
    | .blank | .scrapped => []
  if s.secondary then []
  else
    match r.typ with
    | 0x01 => if c == .blank && p == .optical then sigG else []
    | 0x02 => if c == .manufacture && p == .optical then sigM else []
    | 0x03 => by4 sigM (keySigners (getU r.body 0 1)) (keySigners (getU r.body 0 1))
    | 0x04 => if c == .scrapped then [] else transitionSigners (getU r.body 0 1) (getU r.body 1 1)
    | 0x05 => by4 sigM sigMA sigM
    | 0x06 => by4 sigM (if s.legalChange r then sigMA else sigMO) sigM
    | 0x0C => wipeSigners c (getU r.body 0 1)
    | _ => by4 sigM sigO sigMO

/-! ## Steps 6 to 9: keys, signatures, repeat, sequence -/

/-- The public key of a signer (R437). -/
def Device.signKey (s : Device) (signer : Nat) : Option (Nat × Nat) :=
  match signer with
  | 0 => some s.sec.keys.glaelm
  | 1 => s.sec.keys.maker
  | 2 => s.sec.keys.auth
  | 3 => s.sec.keys.oper0
  | 4 => s.sec.keys.oper1
  | _ => none

def Device.verifies (s : Device) (r : Rec) : Bool :=
  let h := r.hash
  (List.range r.nSig).all fun k => match s.signKey (r.signer k) with
    | some key => ecdsaVerify key h (r.sig k)
    | none => false

/-- `seq` of a signer; both operator slots share one (R467). -/
def Security.seqOf (x : Security) (signer : Nat) : Nat :=
  match signer with
  | 0 => x.seqGlaelm
  | 1 => x.seqMaker
  | 2 => x.seqAuth
  | _ => x.seqOper

def Security.setSeq (x : Security) (signer v : Nat) : Security :=
  match signer with
  | 0 => { x with seqGlaelm := v }
  | 1 => { x with seqMaker := v }
  | 2 => { x with seqAuth := v }
  | _ => { x with seqOper := v }

/-! ## Step 10: wrapped keys (R438, R534) -/

/-- Key j of a RADIO_KEYS body: none where its mask bit is clear, otherwise the unwrapped key where it unwraps. -/
def Device.radioKey (s : Device) (body : Bytes) (j : Nat) : Option (Option Bytes) :=
  if bitAt (getU body 0 1) j then
    some (match s.sec.keys.kek with
      | some k => keyUnwrap k (slice body (8 + 24 * j) 24)
      | none => none)
  else none

def Device.unwraps (s : Device) (r : Rec) : Bool :=
  r.typ != 0x0A || (List.range 5).all fun j => match s.radioKey r.body j with
    | some none => false
    | some (some _) => true
    | none => true

/-! ## TARIFF_CAL (R261, R262, R306, R537) -/

def seasonOf (b : Bytes) : Season := ⟨getU b 0 1, getU b 1 1, (List.range 7).map fun d => getU b (2 + d) 1⟩

def profileOf (b : Bytes) : List SwitchPoint :=
  (List.range (getU b 0 1)).map fun i => ⟨getU b (1 + 3 * i) 2, getU b (3 + 3 * i) 1⟩

def specialOf (b : Bytes) : SpecialDay := ⟨getU b 0 2, getU b 2 1, getU b 3 1, getU b 4 1⟩

def dstRuleOf (b : Bytes) (minuteAt : Nat) : DstRule := ⟨getU b 0 1, getU b 1 1, getU b 2 1, getU b minuteAt 2⟩

/-- The calendar of a TARIFF_CAL body. -/
def calendarOf (b : Bytes) (seq : Nat) : Calendar :=
  { name := getU b 0 4, activateTick := getU b 4 6, tariffDefault := getU b 10 1
    seasons := (List.range (getU b 11 1)).map fun k => seasonOf (b.drop (36 + 9 * k))
    profiles := (List.range (getU b 12 1)).map fun k => profileOf (b.drop (72 + 37 * k))
    specials := (List.range (getU b 13 1)).map fun k => specialOf (b.drop (368 + 6 * k))
    billDay := getU b 14 1, billEvery := getU b 15 1, billMinute := getU b 16 2, billAnchor := getU b 18 1
    dayMinute := getU b 20 2, tzStd := getS b 22 2, dstEn := getU b 19 1 == 1, dstDelta := getU b 24 1
    dstStart := dstRuleOf (b.drop 25) 3, dstEnd := dstRuleOf (b.drop 30) 4, seq := seq, state := 1 }

/-- A date that exists in a leap year. -/
def dateOk (m d : Nat) : Bool := inR 1 12 m && inR 1 (daysInMonth 2000 m) d

def DstRule.ok (r : DstRule) : Bool := inR 1 12 r.month && inR 1 5 r.week && inR 0 6 r.wday && inR 0 1439 r.minute

def profileOk (p : List SwitchPoint) : Bool :=
  inR 1 12 p.length && (p.head?.map (·.minute)) == some 0 && ascending (p.map (·.minute)) &&
  p.all fun w => inR 0 1439 w.minute && inR 1 8 w.tariff

def Calendar.ok (c : Calendar) : Bool :=
  inR 1 8 c.tariffDefault && inR 1 4 c.seasons.length && inR 1 8 c.profiles.length && inR 0 64 c.specials.length &&
  (c.seasons.all fun s => dateOk s.month s.day && s.week.all (· < c.profiles.length)) &&
  ascending (c.seasons.map fun s => 100 * s.month + s.day) && c.profiles.all profileOk &&
  (c.specials.all fun x => (x.year == 0 || inR 2000 2271 x.year) && dateOk x.month x.day && decide (x.profile < c.profiles.length)) &&
  decide ((c.specials.map fun x => (x.year, x.month, x.day)).eraseDups.length = c.specials.length) &&
  inR 1 28 c.billDay && inR 0 1439 c.billMinute && inR 1 12 c.billEvery && inR 1 12 c.billAnchor && inR 0 1439 c.dayMinute

/-- The time-zone fields of R306. -/
def tzOk (b : Bytes) : Bool :=
  let c := calendarOf b 0
  inRI (-720) 840 c.tzStd && c.tzStd % 15 == 0 && inR 0 1 (getU b 19 1) &&
  (!c.dstEn || (inR 15 120 c.dstDelta && c.dstDelta % 15 == 0 && c.dstStart.ok && c.dstEnd.ok && decide (c.dstStart ≠ c.dstEnd)))

/-! ## TIME_SET (R310 to R312, R536) -/

/-- A set's target or delta; none where a field is out of range. -/
def timeSetOf (b : Bytes) : Option PendSet :=
  let absent := (slice b 1 9).all (· == 0#8)
  let y := getU b 2 2
  if getU b 0 1 = 1 then (if absent then some (.rel (getS b 10 6)) else none)
  else if getU b 0 1 = 0 ∧ getU b 10 6 = 0 ∧ inR 2000 2271 y = true ∧ inR 1 15 (getU b 1 1) = true ∧ getU b 4 1 ≤ 31 ∧
      getU b 5 1 ≤ 24 ∧ getU b 6 1 ≤ 59 ∧ getU b 7 1 ≤ 59 ∧ getU b 8 2 ≤ 32767 then
    (normaliseDate y (getU b 1 1) (getU b 4 1) (getU b 5 1) (getU b 6 1) (getU b 7 1)).map fun t => .abs (t + getU b 8 2)
  else none

/-- A relative set stays within the count (R312). -/
def Device.relFits (s : Device) (p : PendSet) : Bool :=
  match p with
  | .rel d => decide (0 ≤ (s.land.tick : Int) + d ∧ (s.land.tick : Int) + d ≤ tickMax)
  | .abs _ | .since _ _ => true

/-! ## CALIB and PARAM_EXPERT (R109, R161, R200, R541, R543) -/

/-- Every configured path passes the tests of R109 with its length. -/
def pathsFit (g : Groups) (c : Option (List PathCal)) : Bool :=
  checked c fun cal => (((g.pathList.getD {}).paths.zipIdx).filter (·.1.configured)).all fun q =>
    pathFits q.1 ((g.medium.map (·.cls)).getD 0) ((cal[q.2]?.map (·.pathLen)).getD 0)

/-- Channels in use have coefficients, each `r0` lies near a nominal (R200). -/
def tempSectionFits (roles : List Nat) (g : Groups) (t : TempCal) : Bool :=
  let ty := (g.clamp.getD {}).sensorType
  t.ok && (List.range 4).all fun i =>
    let used := roles.getD i 0 != 0
    match t.chans.getD i none with
    | some c => if used then r0Fits ty c.r0 else r0Fits 0 c.r0 || r0Fits 1 c.r0 || r0Fits 2 c.r0
    | none => !used

/-- Ranges and tests of a CALIB record against the configuration in force. -/
def Device.calibFits (s : Device) (c : CalibP) : Bool :=
  let g := s.conf.g
  (checked c.path fun p => pathSectionFits g p && pathsFit g (some p)) && (c.path.isSome || c.flow.isNone) &&
  (checked c.flow fun f => f.ok && wsetsFit (measuringMask s.conf g c) f) && checked c.temp (tempSectionFits s.rolesUsed g) &&
  c.age.ok && c.lf.ok && checked c.disp (·.ok) && c.secClock.all (·.ok)

/-- The strap image of the last cold start. -/
def Device.image (s : Device) : StrapImage := ⟨s.straps.codes, s.straps.badMask⟩

/-- A group at code 15 takes the new one where it is given; every other stays (R69, R541). -/
def takeGroup {α : Type} (img : StrapImage) (n : Nat) (new cur : Option α) : Option α :=
  if codeOf img.codes n = 15 ∧ bitAt img.bad n = false then (match new with | some x => some x | none => cur) else cur

/-- The groups in force once a PARAM_EXPERT record is committed. The front end of a basic path map stays that of the class at
the cold start, also where the record changes the class (DESIGN CHOICE, log 25: R107 names only codes of `CFG0`). -/
def mergeGroups (img : StrapImage) (a c : Groups) : Groups :=
  { medium := takeGroup img 0 a.medium c.medium, qTurn := takeGroup img 1 a.qTurn c.qTurn
    pathList := takeGroup img 2 a.pathList c.pathList, shot := takeGroup img 3 a.shot c.shot
    wiring := takeGroup img 4 a.wiring c.wiring, clamp := takeGroup img 5 a.clamp c.clamp
    install := takeGroup img 6 a.install c.install, pulse := takeGroup img 7 a.pulse c.pulse
    radio := takeGroup img 8 a.radio c.radio, phy := takeGroup img 9 a.phy c.phy
    display := takeGroup img 10 a.display c.display, system := takeGroup img 11 a.system c.system }

/-- The groups that an accepted PARAM_EXPERT would leave in force. -/
def Device.groupsAfter (s : Device) (r : Rec) : Groups :=
  if s.conf.safePreset then s.conf.g else mergeGroups s.image (groupsOf ((blocksOf groupSize r.body).getD [])) s.conf.g

/-- Ranges of every block, and the tests of R109: on the record's path list, and where `CFG2` is at code 15 on the list that
the record leaves in force, whose class it may change. -/
def Device.expertInRange (s : Device) (r : Rec) : Bool :=
  let bs := (blocksOf groupSize r.body).getD []
  let new := groupsOf bs
  let g := s.groupsAfter r
  bs.all (groupInRange (s.conf.calib.flow.map (·.qNom))) && pathsFit { g with pathList := new.pathList } s.conf.calib.path &&
    (codeOf s.straps.codes 2 != 15 || pathsFit g s.conf.calib.path)

/-- A record that sets `cv_src` to 1 or 2 needs both parties (R248); one that leaves the stored value as it is sets nothing
(R447). -/
def Device.cvAllowed (s : Device) (r : Rec) : Bool :=
  match (groupsOf ((blocksOf groupSize r.body).getD [])).medium with
  | some m => m.cvSrc == 0 || r.signers == [1, 2] || (storedGroups s.conf.expertStored).medium.map (·.cvSrc) == some m.cvSrc
  | none => true

/-! ## Steps 11 to 13 -/

/-- A point on the curve, from its little-endian coordinates (R532). -/
def pointOf (b : Bytes) : Nat × Nat := (getU b 0 32, getU b 32 32)

/-- The key of a KEYS record may be installed (R448, R534). -/
def Device.keyOk (s : Device) (body : Bytes) : Bool :=
  let k := pointOf (body.drop 4)
  let slot := getU body 0 1
  inR 0 3 slot && (if k = (0, 0) then slot != 0 && !s.sec.lc.sealedOrService else onCurve k)

/-- Step 11: fields within their ranges. -/
def Device.inRangeRec (s : Device) (r : Rec) : Bool :=
  let b := r.body
  match r.typ with
  | 0x01 => onCurve (pointOf b)
  | 0x03 => s.keyOk b
  | 0x05 => s.calibFits (calibOf ((blocksOf sectionSize b).getD []))
  | 0x06 => s.expertInRange r
  | 0x07 => (calendarOf b r.seq).ok && tzOk b
  | 0x08 => checked (timeSetOf b) s.relFits && (timeSetOf b).isSome
  | 0x09 => inR 1 0xFFFE (getU b 0 2) && inR 1 0xFFFE (getU b 2 2) && (nibbles (slice b 8 4)).all (· ≤ 9)
  | 0x0B => s.pageShown (getU b 0 1) && inR 0 1 (getU b 1 1) && inR 10 3600 (getU b 2 2)
  | _ => true

/-- The groups that an accepted PARAM_EXPERT would bring in, in the safe preset at the next cold start that leaves it. -/
def Device.groupsPlanned (s : Device) (r : Rec) : Groups :=
  if s.conf.safePreset then resolve s.image (groupsOf ((blocksOf groupSize r.body).getD [])) s.haw.expected
  else s.groupsAfter r

/-- Step 12: loads of a PARAM_EXPERT record (R22, R386, R541). -/
def Device.loadOk (s : Device) (r : Rec) : Bool :=
  r.typ != 6 ||
    (let g := s.groupsPlanned r
     !overLoad (loadOf s.image g s.haw.expected s.haw.expectedKnown) &&
       (match g.radio, g.phy with
         | some a, some b => plannedFits a b
         | _, _ => true))

/-- The conditions of an entry to SEALED (R70, R456). -/
def Device.sealable (s : Device) (expect : Nat) : Bool :=
  s.conf.pendingMask == 0 && s.conf.calibPending == 0 && !s.conf.safePreset &&
  calibCause s.rolesUsed s.conf s.conf.g s.conf.calib == 0 && (s.conf.install.bridgeUse == 0 || s.conf.calib.bridge.isSome) &&
  s.sec.keys.auth.isSome && (s.land.sealSt == .ok || s.land.sealSt == .notMonitored) && s.trusted && expect == s.straps.codes

/-- The conditions of a transition (R456, R535). -/
def Device.transitionOk (s : Device) (body : Bytes) : Bool :=
  let a := getU body 0 1
  let b := getU body 1 1
  let x := getU body 4 6
  a == s.sec.lc.code &&
    (if b = 3 then s.sealable x
     else x == 0 && (b != 2 || a != 1 || (s.sec.devEui.isSome && s.sec.keys.kek.isSome)))

/-- Step 13: the conditions of the type. -/
def Device.conditionsOk (s : Device) (r : Rec) : Bool :=
  match r.typ with
  | 0x02 => s.sec.devEui.isNone
  | 0x04 => s.transitionOk r.body
  | 0x06 => s.cvAllowed r && (s.conf.safePreset || consistent s.image (s.groupsAfter r))
  | 0x08 => (match timeSetOf r.body with
      | some (.rel _) => s.trusted
      | _ => true)
  | _ => true

/-! ## The verdict (R441) -/

/-- The first check that fails, as its cause; 0 where none does. -/
def Device.recCause (s : Device) (p : RecPath) (r : Rec) : Nat :=
  if !r.wellFormed p then 1
  else if (bodySize r.typ).isNone then 2
  else if !s.forThis r p then 3
  else if (s.allowed r p).isEmpty then 4
  else if !(s.allowed r p).contains r.signers then 5
  else if !(r.signers.all fun k => (s.signKey k).isSome) then 8
  else if !s.verifies r then 6
  else if s.sec.hashes.getD (r.signer 0) [] == r.hash.take 16 then 12
  else if r.seq ≤ s.sec.seqOf (r.signer 0) then 7
  else if !s.unwraps r then 13
  else if !s.inRangeRec r then 9
  else if !s.loadOk r then 10
  else if !s.conditionsOk r then 11
  else 0

end Sys2Proof.Machine
end

