-- ==== Sys2Proof/Machine/Security.lean ====
section
/-! DEFINITION. The Security and Life-cycle Controller: verdicts, what each accepted record does, test access (R441 to
R448, R450, R454 to R462, R466). -/

namespace Sys2Proof.Machine

/-! ## Verdicts (R441, R445, R450, R468) -/

/-- A verdict is entered in REC_STATUS and journalled; causes 6 and 7 count tamper, causes 9 and 10 counter 7, every
refusal on the optical port counter 4 (R21, R441). -/
def Device.verdict (s : Device) (p : RecPath) (r : Rec) (cause : Nat) : Device :=
  let named := cause != 1
  let v : Verdict :=
    { tick := s.land.tick, recType := r.typ, cause := cause, recSeq := r.seq
      signer1 := if named then r.signer 0 else 15
      signer2 := if named && r.nSig == 2 then r.signer 1 else 15, air := p == .air }
  let s1 := { s with sec := { s.sec with
    verdicts := (v :: s.sec.verdicts).take 8, verdictSeq := wrapU 32 (s.sec.verdictSeq + 1) } }
  if cause = 0 then s1.journal 0x801 r.typ r.seq
  else
    let s2 := s1.journal 0x802 (r.typ + 256 * cause) r.seq
    let s3 := if cause = 6 then s2.tamper 11 else if cause = 7 then s2.tamper 12 else s2
    let s4 := if cause = 9 ∨ cause = 10 then s3.refuse 7 else s3
    if p = .optical then s4.refuse 4 else if r.typ = 8 then s4.refuse 2 else s4

/-! ## Keys (R437, R439, R448) -/

def Keys.set (k : Keys) (slot : Nat) (v : Option (Nat × Nat)) : Keys :=
  match slot with
  | 0 => { k with maker := v }
  | 1 => { k with auth := v }
  | 2 => { k with oper0 := v }
  | 3 => { k with oper1 := v }
  | _ => k

/-- A KEYS record (R448, R534). -/
def Device.applyKeys (s : Device) (b : Bytes) : Device :=
  let k := pointOf (b.drop 4)
  let s1 := { s with sec := { s.sec with keys := s.sec.keys.set (getU b 0 1) (if k = (0, 0) then none else some k) } }
  if s.sec.lc.sealedOrService then s1.tamper 22 else s1

/-- An IDENTITY record (R439). -/
def Device.applyIdentity (s : Device) (b : Bytes) : Device :=
  Device.planRadio { s with sec := { s.sec with
    devEui := some (getU b 0 8), keys := { s.sec.keys with kek := some (slice b 8 16) } } }

/-- Keys that a RADIO_KEYS record carries; the others keep their values. -/
def Device.newKey (s : Device) (b : Bytes) (j : Nat) (cur : Option Bytes) : Option Bytes :=
  match s.radioKey b j with
  | some k => k
  | none => cur

/-- New keys restart the frame counter and clear every replay state (R351, R363). -/
def Radio.freshKeys (r : Radio) : Radio :=
  { r with fcntTx := 0, fcntBlock := 0, fcntStopped := false, upSeen := false, upH := 0, upBitmap := 0
           children := r.children.map fun (c : Child) => { c with fcntH := 0, bitmap := 0, seen := false } }

/-- A RADIO_KEYS record (R387, R438, R464). -/
def Device.applyRadioKeys (s : Device) (b : Bytes) : Device :=
  let k := s.sec.keys
  let s1 := { s with
    radio := s.radio.freshKeys
    sec := { s.sec with keys := { k with
      net0 := s.newKey b 0 k.net0, net1 := s.newKey b 1 k.net1, up0 := s.newKey b 2 k.up0, up1 := s.newKey b 3 k.up1
      wmbus := s.newKey b 4 k.wmbus } } }
  (if s.sec.lc.sealedOrService then s1.tamper 22 else s1).planRadio

/-! ## Life cycle (R454, R456, R457) -/

/-- Wipe classes of a transition (R456). -/
def transitionWipes (a b : Nat) : Nat :=
  if b = 5 then 0xF0 else if a = 1 ∧ b = 2 then 0x02 else if a = 2 ∧ b = 3 then 0x0E else 0

/-- Any new fuse is blown (R454). -/
def Security.blow (x : Security) : Security :=
  match x.lc with
  | .blank => x
  | .manufacture | .calibrate => { x with fuseP := true }
  | .sealed | .service => { x with fuseP := true, fuseS := true }
  | .scrapped => { x with fuseX := true }

/-- The cold start that ends a transition, after its hold-up commit (R457, R479). -/
def Device.transitionEnd (s : Device) : Device :=
  let s1 := s.holdStart
  { s1 with sec := s1.sec.blow, power := { s1.power with holdDue := true, coldDue := true, startCause := 4 } }

/-- A transition up to its commit: wipes, LIFECYCLE_CHANGED, the tamper count, the new state, STRAP_SEAL and `seal_tick`
(R456, R457). The count is made in the old state, so that none is made from BLANK. -/
def Device.transit (s : Device) (a b : Nat) : Device :=
  let m := transitionWipes a b
  let s1 := ((if m = 0 then s else s.wipe m (b == 5)).journal 0x803 a b).tamper 13
  let s2 := { s1 with sec := { s1.sec with lc := (Lc.ofCode b).getD s1.sec.lc } }
  if b = 3 then
    { s2 with straps := { s2.straps with sealCodes := s2.straps.codes }, sec := { s2.sec with sealTick := s2.land.tick } }
  else if b = 4 then { s2 with sec := { s2.sec with serviceCount := satInc s2.sec.serviceCount } }
  else s2

/-- A PROVISION record: `pk_maker`, and BLANK to MANUFACTURE (R446). -/
def Device.applyProvision (s : Device) (b : Bytes) : Device :=
  Device.transit { s with sec := { s.sec with keys := { s.sec.keys with maker := some (pointOf b) } } } 0 1

/-! ## Configuration (R69, R539, R541) -/

/-- Two parties changed the legal configuration, or SERVICE did (R447). -/
def Device.legalCount (s : Device) (r : Rec) : Device :=
  if (s.sec.lc == .sealed && r.signers == [1, 2]) || (s.sec.lc == .service && (r.typ == 5 || r.typ == 6)) then s.tamper 14 else s

/-- A CALIB record replaces the stored calibration whole (R539, R543). -/
def Device.applyCalib (s : Device) (r : Rec) : Device :=
  let c := calibOf ((blocksOf sectionSize r.body).getD [])
  let old := s.conf
  let s1 := { s with
    conf := { old with calibStored := r.bytes, calib := c }
    land := if s.writable then { s.land with lf := c.lf } else s.land }
  let s2 := if old.calib.age ≠ c.age ∨ old.calib.secClock ≠ c.secClock then s1.ageRecompute else s1
  let s3 := if s2.conf.safePreset then s2 else s2.calibTest
  if s3.up then s3.applyCommit old else s3

/-- A PARAM_EXPERT record is stored whole, and its groups for straps at code 15 applied (R69, R541). The commit can only
clear `expert_pending` of STRAP_IMAGE (R75). -/
def Device.applyExpert (s : Device) (r : Rec) : Device :=
  let old := s.conf
  let g := s.groupsAfter r
  let p := if old.safePreset then old.pendingMask else pendingOf s.image g
  let s1 := { s with
    conf := { old with expertStored := r.bytes, g := g, pendingMask := p }
    straps := { s.straps with expertPendingBit := s.straps.expertPendingBit && p != 0 } }
  if s1.up then s1.applyCommit old else s1

/-- A TARIFF_CAL record becomes the passive calendar (R265). -/
def Device.applyCalendar (s : Device) (r : Rec) : Device :=
  let c := calendarOf r.body r.seq
  let s1 := Device.journal { s with bill := { s.bill with calPassive := some c, deferred := false } } 0x304 c.name c.activateTick
  if s1.tolling then s1.rearmBoundary else s1

/-- A set waits in the Landing (R312, R313), which under lockout takes none (R323). -/
def Device.waitSet (s : Device) (p : Option PendSet) : Device :=
  if s.writable then { s with land := { s.land with pendSet := p } } else s

/-- A TIME_SET record: the set waits for the Landing. -/
def Device.applyTimeSet (s : Device) (b : Bytes) : Device := s.waitSet (timeSetOf b)

/-- The join channel opens for the seconds that the RADIO_CFG record gives (R362). -/
def Device.openJoin (s : Device) : Device :=
  let n := getU s.radio.cfg 4 2
  if s.radio.role = 2 ∧ 0 < n ∧ s.on .ferryman = true then
    { s with radio := { s.radio with joinOpen := true, joinUntil := s.land.tick + n * tps } }
  else s

/-- A RADIO_CFG record (R387, R529); its reserved bits are ignored, and sent as 0 (R4). -/
def Device.applyRadioCfg (s : Device) (b : Bytes) : Device :=
  Device.openJoin { s with radio := { s.radio with cfg := slice b 0 13 ++ uB 3 0, netId := getU b 0 2, upNetId := getU b 2 2 } }

/-! ## An accepted record -/

/-- The first signer's `seq` and last hash are set in the record's own transaction (R9, R441, R443). -/
def Device.recCommit (s : Device) (r : Rec) : Device :=
  let x := s.sec.setSeq (r.signer 0) r.seq
  Device.commit { s with sec := { x with hashes := x.hashes.set (r.signer 0) (r.hash.take 16) } }

def Device.applyRec (s : Device) (r : Rec) : Device :=
  let b := r.body
  match r.typ with
  | 0x01 => s.applyProvision b
  | 0x02 => s.applyIdentity b
  | 0x03 => s.applyKeys b
  | 0x04 => s.transit (getU b 0 1) (getU b 1 1)
  | 0x05 => s.applyCalib r
  | 0x06 => s.applyExpert r
  | 0x07 => s.applyCalendar r
  | 0x08 => s.applyTimeSet b
  | 0x09 => s.applyRadioCfg b
  | 0x0A => s.applyRadioKeys b
  | 0x0B => s.displayRequest (getU b 0 1) (getU b 1 1 == 1) (getU b 2 2)
  | 0x0C => s.wipe (getU b 0 1 / 2 * 2) false
  | _ => s

/-- A record is decided (R441): an isolated controller answers cause 14 (R517). -/
def Device.decideRec (s : Device) (p : RecPath) (b : Bytes) : Nat × Device :=
  let r := recOf b
  let cause := if s.st.secIsolated then 14 else s.recCause p r
  if cause = 0 then
    let s1 := ((s.recCommit r).legalCount r).applyRec r
    let s2 := s1.verdict p r 0
    (0, if r.typ = 1 ∨ r.typ = 4 then s2.transitionEnd else s2)
  else (cause, s.verdict p r cause)

/-- A record of a type arrives whole on a path: `rest` follows `rec_type`. The controller runs while the device is up. -/
def Device.record (s : Device) (typ : Nat) (p : RecPath) (rest : Bytes) : Device :=
  if s.up then (s.decideRec p (BitVec.ofNat 8 typ :: rest)).2 else s

/-- PROVISION (R446). -/
def execProvision (dt : Nat) (path : RecPath) (rest : Bytes) (s : State) : Host.Outcome State Fault Refusal :=
  .next { s with dev := (s.dev.elapse dt).record 0x01 path rest }

/-- IDENTITY (R439). -/
def execIdentity (dt : Nat) (path : RecPath) (rest : Bytes) (s : State) : Host.Outcome State Fault Refusal :=
  .next { s with dev := (s.dev.elapse dt).record 0x02 path rest }

/-- KEYS (R448). -/
def execKeys (dt : Nat) (path : RecPath) (rest : Bytes) (s : State) : Host.Outcome State Fault Refusal :=
  .next { s with dev := (s.dev.elapse dt).record 0x03 path rest }

/-- LIFECYCLE (R456, R457). -/
def execLifecycle (dt : Nat) (path : RecPath) (rest : Bytes) (s : State) : Host.Outcome State Fault Refusal :=
  .next { s with dev := (s.dev.elapse dt).record 0x04 path rest }

/-- CALIB (R539). -/
def execCalib (dt : Nat) (path : RecPath) (rest : Bytes) (s : State) : Host.Outcome State Fault Refusal :=
  .next { s with dev := (s.dev.elapse dt).record 0x05 path rest }

/-- PARAM_EXPERT (R69, R541). -/
def execParamExpert (dt : Nat) (path : RecPath) (rest : Bytes) (s : State) : Host.Outcome State Fault Refusal :=
  .next { s with dev := (s.dev.elapse dt).record 0x06 path rest }

/-- TARIFF_CAL (R265). -/
def execTariffCal (dt : Nat) (path : RecPath) (rest : Bytes) (s : State) : Host.Outcome State Fault Refusal :=
  .next { s with dev := (s.dev.elapse dt).record 0x07 path rest }

/-- TIME_SET (R310 to R312). -/
def execTimeSet (dt : Nat) (path : RecPath) (rest : Bytes) (s : State) : Host.Outcome State Fault Refusal :=
  .next { s with dev := (s.dev.elapse dt).record 0x08 path rest }

/-- RADIO_CFG (R387). -/
def execRadioCfg (dt : Nat) (path : RecPath) (rest : Bytes) (s : State) : Host.Outcome State Fault Refusal :=
  .next { s with dev := (s.dev.elapse dt).record 0x09 path rest }

/-- RADIO_KEYS (R387, R438). -/
def execRadioKeys (dt : Nat) (path : RecPath) (rest : Bytes) (s : State) : Host.Outcome State Fault Refusal :=
  .next { s with dev := (s.dev.elapse dt).record 0x0A path rest }

/-- DISPLAY_REQ (R428). -/
def execDisplayReq (dt : Nat) (path : RecPath) (rest : Bytes) (s : State) : Host.Outcome State Fault Refusal :=
  .next { s with dev := (s.dev.elapse dt).record 0x0B path rest }

/-- WIPE (R458, R459). -/
def execWipe (dt : Nat) (path : RecPath) (rest : Bytes) (s : State) : Host.Outcome State Fault Refusal :=
  .next { s with dev := (s.dev.elapse dt).record 0x0C path rest }

/-! ## Test access (R460 to R462) -/

/-- A level of instruction is permitted in a life-cycle state (R461). -/
def tapPermitted (lc : Lc) (l : TapLevel) : Bool :=
  match l with
  | .closed | .observe => true
  | .board => lc != .sealed
  | .debug => lc == .blank || lc == .manufacture || lc == .scrapped

/-- The level at which an instruction is decoded: BYPASS where it is not permitted. -/
def tapDecoded (lc : Lc) (l : TapLevel) : TapLevel := if tapPermitted lc l then l else .closed

/-- The port is open while such a level is loaded (R460). -/
def tapOpens (l : TapLevel) : Bool :=
  match l with
  | .board | .debug => true
  | .closed | .observe => false

/-- An instruction is loaded: a board or debug level in SEALED or SERVICE counts TEST_ACCESS, a change to a level that
opens the port is journalled, and functions follow (R460, R461, R462). -/
def Device.tapLoad (s : Device) (l : TapLevel) : Device :=
  let lv := tapDecoded s.sec.lc l
  let s1 := if tapOpens l && s.sec.lc.sealedOrService then s.tamper 10 else s
  let s2 := { s1 with sec := { s1.sec with tap := lv } }
  let s3 := if tapOpens lv && lv != s.sec.tap then s2.journal 0x807 (tapCode lv) s.sec.lc.code else s2
  s3.reconcile

/-- The pins of the port are live in DOZE and RUN (R34, R461). -/
def Device.tapLive (s : Device) : Bool := s.awake && s.up

/-- TAP_INSTRUCTION_LOAD (R460). -/
def execTapInstructionLoad (dt : Nat) (level : TapLevel) (s : State) : Host.Outcome State Fault Refusal :=
  let d := s.dev.elapse dt
  .next { s with dev := if d.tapLive && d.sec.trstHigh then d.tapLoad level else d }

/-- TRST_N_RISE (R462). -/
def execTrstNRise (dt : Nat) (s : State) : Host.Outcome State Fault Refusal :=
  let d := s.dev.elapse dt
  let d1 := { d with sec := { d.sec with trstHigh := true } }
  let c := d.tapLive && d.sec.lc == .sealed && !d.sec.trstCounted && !d.sec.trstHigh
  .next { s with dev := if c then Device.tamper { d1 with sec := { d1.sec with trstCounted := true } } 10 else d1 }

/-- TRST_N_FALL (R460, R462): the port closes. -/
def execTrstNFall (dt : Nat) (s : State) : Host.Outcome State Fault Refusal :=
  let d := s.dev.elapse dt
  let d1 := { d with sec := { d.sec with trstHigh := false, trstCounted := false, tap := .closed } }
  .next { s with dev := if tapOpens d.sec.tap then d1.reconcile else d1 }

end Sys2Proof.Machine
end

