-- ==== Sys2Proof/Machine/Ferry.lean ====
section
/-! DEFINITION. The Ferryman: exchanges, the lower side and the upper side of a link, joining, drift and windows, notes and
proxy reads (R351 to R374, R449). -/

namespace Sys2Proof.Machine

/-! ## Sending within an exchange (R352, R359) -/

def Device.setExch (s : Device) (e : Exchange) : Device := { s with radio := { s.radio with exch := some e } }

/-- Frame number `n` of the exchange may announce another: it is not the last that the exchange holds (R359). -/
def Device.mayPend (s : Device) (n : Nat) : Bool := decide (n < s.phyP.exchMax)

/-- The node asks for time (R357). -/
def Device.timeReq (s : Device) : Bool :=
  !s.trusted || (match s.radio.lastTime with
    | some t => decide (tpd ≤ s.land.tick - t)
    | none => false)

/-- Type of a frame that this device sends. -/
def Sent.typ (x : Sent) : Nat :=
  match x with
  | .poll | .join => 1
  | .ack => 2
  | .data => 3
  | .read _ => 4
  | .note _ _ => 5
  | .time => 6

/-- The header of a frame to the peer of an exchange (R347, R348, R362). -/
def Device.headerTo (s : Device) (e : Exchange) (x : Sent) (pending : Bool) : AirHeader :=
  match e.peer with
  | .up =>
    let long := decide (x = .join)
    { typ := x.typ, longSrc := long, pending := pending, keyId := e.key, timeReq := s.timeReq, netId := s.linkNet true
      dst := 0, src := if long then s.sec.devEui.getD 0 else s.radio.ownShort }
  | .child i =>
    { typ := x.typ, down := true, pending := pending, keyId := e.key, netId := s.linkNet false, dst := i + 1, src := 0 }

/-- The exchange ends (R359). -/
def Device.endExchange (s : Device) : Device := { s with radio := s.radio.endExch }

/-- The channel of frame j of an exchange, counted from 0 (R344). -/
def Device.frameChan (s : Device) (e : Exchange) (j : Nat) : Nat := s.radioP.chanAt (e.startCh + j)

/-- A frame of the exchange is sent; `more` says that another is to follow. A frame that cannot be sent ends the
exchange, and so does frame number `exch_max`, which no response can follow (R359). -/
def Device.sendIn (s : Device) (x : Sent) (payload : Bytes) (more : Bool) : Device :=
  match s.radio.exch with
  | none => s
  | some e =>
    let n := e.frames + 1
    let p := more && s.mayPend n
    let f := s.radio.fcntTx
    if s.phyP.exchMax < n then s.endExchange
    else
      let r := s.sendAir (decide (e.peer = .up)) (s.frameChan e e.frames) (s.headerTo e x p) payload
      let s1 := r.2.setExch { e with frames := n, sent := x, sentFcnt := f, bytes := r.2.radio.out.getLastD [], myPending := p }
      if r.1 && s.mayPend n then s1 else if r.1 then s1.endExchange else r.2.endExchange

/-- An ACK (R353). -/
def Device.ackBytes (s : Device) (fcnt status nextIn nextCh tRel : Nat) : Bytes :=
  uB 4 fcnt ++ uB 1 status ++ uB 1 (if s.trusted then 1 else 0) ++ uB 4 nextIn ++ uB 1 nextCh ++ uB 4 tRel

/-- No time can be given (R353). -/
def noTime : Nat := 0xFFFFFFFF

/-! ## Uplink DATA (R354, R369, R372, R373, R385) -/

/-- A queue entry that is to be reported to the station (R370, R372). -/
def QEntry.reportable (q : QEntry) : Bool := (q.state == 2 || q.state == 3) && !q.inFlight

def Digest.waiting (g : Digest) : Bool := g.fresh && !g.inFlight

/-- Something remains to be reported or forwarded. -/
def Device.upMore (s : Device) : Bool :=
  s.radio.role == 2 && (s.radio.queue.any QEntry.reportable || s.radio.digests.any Digest.waiting)

/-- What reports entry k: a proxy read that is done with its answer, anything else with its QUEUE_STATUS entry. -/
def reportItem (k : Nat) (q : QEntry) : Bytes :=
  if 8 ≤ k ∧ q.state = 2 then q.answer else itemBytes 0 0x0EA3 (16 * k) (.piece q.bytes)

/-- Outcomes and answers in order, each where it fits; indices taken. -/
def takeReports : Nat → List (QEntry × Nat) → Bytes × List Nat
  | _, [] => ([], [])
  | room, x :: xs =>
    let b := reportItem x.2 x.1
    if b.length ≤ room then
      let r := takeReports (room - b.length) xs
      (b ++ r.1, x.2 :: r.2)
    else takeReports room xs

/-- The bytes of a DATA frame that reports and forwards, and the device with what it carries marked. -/
def Device.forwardData (s : Device) : Bytes × Device :=
  let r := s.radio
  let a := takeReports dataRoom ((r.queue.zipIdx).filter fun x => x.1.reportable)
  let n := min 3 ((dataRoom - a.1.length) / 72)
  let g := (r.digests.filter Digest.waiting).take n
  let kids := g.map (·.child)
  (a.1 ++ g.flatMap fun x => itemBytes x.child 0x0EA4 0 (.piece x.bytes),
   { s with radio := { r with
      queue := (r.queue.zipIdx).map fun (x : QEntry × Nat) => if a.2.contains x.2 then { x.1 with inFlight := true } else x.1
      digests := r.digests.map fun (x : Digest) => if kids.contains x.child then { x with inFlight := true } else x } })

/-- The items of a DATA frame hold this device's own digest, not a reason why it is refused. -/
def holdsDigest (items : Bytes) : Bool :=
  ((parseItems 40 items).getD []).any fun y => y.src == 0 && y.obj == 0x0EA4 && y.bytes.isSome

/-- A digest leaves in a DATA frame with these items now (R466). -/
def Device.digestSent (s : Device) (items : Bytes) : Device :=
  if holdsDigest items then { s with radio := { s.radio with sentTamper := some s.sec.tamperTotal } } else s

/-- The items of the scheduled uplink (R385, R386). -/
def Device.ownData (s : Device) : Bytes × Device :=
  let b := packItems dataRoom (s.uplinkObjs.map s.ownItem)
  (b, Device.digestSent { s with radio := { s.radio with sentEst := s.estRegs } } b)

/-- The station acknowledges a DATA frame: entries freed, digests no longer fresh, `tamper_new` cleared where no count came
after the digest (R370, R372, R373, R466). -/
def Device.dataAcked (s : Device) : Device :=
  let r := s.radio
  let clear := r.sentTamper == some s.sec.tamperTotal
  { s with
    sec := { s.sec with tamperNew := s.sec.tamperNew && !clear }
    radio := { r with
      queue := r.queue.map fun (q : QEntry) => if q.inFlight then {} else q
      digests := r.digests.map fun (g : Digest) => if g.inFlight then { g with fresh := false, inFlight := false } else g
      ackedEst := if r.sentEst.isEmpty then r.ackedEst else r.sentEst, sentEst := [], sentTamper := none } }

/-- The next DATA frame of a lower side that had announced one. -/
def Device.sendForward (s : Device) : Device :=
  let a := s.forwardData
  a.2.sendIn .data a.1 a.2.upMore

/-- After an ACK on the upward link: the upper side's frame follows, or this device's, or the exchange ends (R359). -/
def Device.afterAckUp (s : Device) : Device :=
  match s.radio.exch with
  | none => s
  | some e => if e.theirPending then s else if e.myPending && s.upMore then s.sendForward else s.endExchange

/-! ## Contacts of the lower side (R358, R360, R361) -/

/-- A radio command begins with nothing transmitted. -/
def Device.airClear (s : Device) : Device := { s with radio := { s.radio with out := [], outCh := [] } }

/-- The instant of the next contact while no ACK gives another (R360). -/
def Device.fallbackContact (s : Device) : Device :=
  s.contactAt (max (s.radio.tContact + s.phyP.contactEvery * 32768) (s.land.tick + 1))

/-- A contact of the lower side has passed without an ACK (R361). -/
def Device.contactMissed (s : Device) : Device :=
  let s1 := s.count 7
  let n := satAdd 16 s.radio.orphanRun 1
  let s2 := { s1 with radio := { s1.radio with orphanRun := n } }
  if s.phyP.orphanContacts ≤ n ∧ (s.radio.orphanRun < s.phyP.orphanContacts ∨ s.radio.link = 1) then
    Device.journal { s2 with radio := { s2.radio with link := 2 } } 0x502 n 0
  else s2

/-- The first frame of a contact: a join POLL, DATA where an uplink is due, otherwise a POLL (R352, R358, R362). -/
def Device.contactFrame (s : Device) : Device :=
  let pl := uB 4 s.phyP.contactEvery ++ uB 1 ((if s.radio.role = 2 then 1 else 0) + 2 * s.radio.phy)
  if s.radio.link ≠ 1 then s.sendIn .join pl false
  else if s.radio.contacts % s.phyP.uplinkEvery = 0 then
    let a := s.ownData
    a.2.sendIn .data a.1 a.2.upMore
  else s.sendIn .poll pl s.upMore

/-- The contact alarm fires (R358). A contact that the budget forbids is skipped, and is no orphan contact (R345). -/
def Device.beginContact (s : Device) : Device :=
  let s1 := s.endExchange.fallbackContact
  let k := s1.pickKey true
  match k.1 with
  | none => k.2
  | some key =>
    let e : Exchange := { peer := .up, key := key, startCh := if k.2.radio.link = 1 then k.2.radio.nextCh else 0 }
    let s2 := (k.2.setExch e).contactFrame
    { s2 with radio := { s2.radio with contacts := s2.radio.contacts + 1 } }

/-- CONTACT_ALARM (R358). A Ferryman that is not ON makes no contact, and the next keeps its schedule (R26). -/
def execContactAlarm (dt : Nat) (s : State) : Host.Outcome State Fault Refusal :=
  let d := (s.dev.elapse dt).woken 1
  .next { s with dev :=
    if d.up && d.fired 6 then (if d.contacts then d.airClear.beginContact else d.fallbackContact) else d }

/-- The link's frame waits for no answer any longer: a contact frame is repeated at most twice, byte for byte, while
Itwen Air may transmit (R351); otherwise the exchange ends, and a contact with no ACK is missed (R358, R359). -/
def Device.ackTimeout (s : Device) : Device :=
  match s.radio.exch with
  | none => s
  | some e =>
    if e.peer = .up ∧ e.frames = 1 then
      if s.fcntOut then s.fcntCheck.endExchange.contactMissed
      else if e.repeats < 2 then
        if s.fits (s.airUs e.bytes.length) then (s.onAir (s.frameChan e 0) e.bytes).setExch { e with repeats := e.repeats + 1 }
        else s.budgetHit.endExchange.contactMissed
      else s.endExchange.contactMissed
    else s.endExchange

/-- ACK_WAIT_TIMEOUT (R358): no SFD within 3 ms + t_shr of the end of the frame. -/
def execAckWaitTimeout (dt : Nat) (s : State) : Host.Outcome State Fault Refusal :=
  let d := s.dev.elapse dt
  .next { s with dev := if d.up && d.on .ferryman then d.airClear.ackTimeout else d }

/-- MISSING_RESPONSE (R359): a response that does not come ends the exchange at once. -/
def execMissingResponse (dt : Nat) (s : State) : Host.Outcome State Fault Refusal :=
  let d := s.dev.elapse dt
  let miss := d.radio.exch.any fun e => e.peer == .up && !e.answered
  let d1 := d.endExchange
  .next { s with dev :=
    if d.up && d.radio.exch.isSome then (if miss then d1.contactMissed else d1) else d }

/-! ## Children at a parent (R364 to R368) -/

/-- t_exp for a contact `n` ticks after a tick given in 1/64 tick (R364). -/
def expectAt (from64 : Int) (n : Nat) (d : Int) : Int := from64 + 64 * n + rne (64 * n * d) (2 ^ 40)

/-- The next expectation follows the fallback schedule (R360, R367). -/
def Child.fallback (c : Child) : Child :=
  let t := expectAt c.tExp (c.contactEvery * 32768) c.d
  { c with tExp := t, tNext := min (t / 64).toNat tickMax, windowOpen := false, listenTo := none }

/-- A window of this device lies at least 1 s from every other planned window and from its own contact (R367). -/
def Device.apart (s : Device) (i : Nat) (a b : Int) : Bool :=
  (s.radio.children.all fun c => c.idx == i ||
    (let w := s.windowOf c
     decide (b + tps ≤ w.1 ∨ w.2 + tps ≤ a))) &&
  (!s.armed 6 || decide (b + tps ≤ (s.radio.tContact : Int) ∨ (s.radio.tContact : Int) + tps ≤ a))

/-- The window that `next_in` gives child c, whose ACK has its SFD at tick `t` (R364, R365). -/
def Device.nextWindow (s : Device) (c : Child) (t n : Nat) : Int × Int :=
  s.windowOf { c with tExp := expectAt (64 * (t : Int)) n c.d, tSync := t, search := false }

/-- `next_in` lies well for child c. -/
def Device.nextOk (s : Device) (c : Child) (t n : Nat) : Bool :=
  let w := s.nextWindow c t n
  s.apart c.idx w.1 w.2

/-- Values of `next_in` beside which the windows of others lie: the first whose window begins 1 s after one of them, and
the last whose window ends 1 s before it. -/
def Device.nextEdges (s : Device) (c : Child) (t lo hi : Nat) : List Nat :=
  let after := fun (b : Int) => (bisect (fun n => decide (b + tps ≤ (s.nextWindow c t n.toNat).1)) 40 lo hi).toNat
  let before := fun (a : Int) => (bisect (fun n => decide (a < (s.nextWindow c t n.toNat).2 + tps)) 40 lo hi).toNat - 1
  let near := fun (a b : Int) => [before a, after b]
  let all := (s.radio.children.flatMap fun x => if x.idx = c.idx then [] else let w := s.windowOf x; near w.1 w.2) ++
    near s.radio.tContact s.radio.tContact
  [lo, hi] ++ all.filter fun n => lo ≤ n && n ≤ hi

/-- `next_in` for a child: free within ±1/64 of `contact_every`, where it keeps the distance of R367; otherwise the first
value beside another window that does; otherwise free (log 26). -/
def Device.chooseNext (s : Device) (c : Child) (t : Nat) : Nat × Device :=
  let n := c.contactEvery * 32768
  let lo := n - n / 64
  let hi := n + n / 64
  let f := s.draw
  let x := lo + f.1 % (hi - lo + 1)
  if s.nextOk c t x then (x, f.2)
  else (((s.nextEdges c t lo hi).find? (s.nextOk c t)).getD x, f.2)

/-- A child's schedule after an ACK with its SFD at tick `t` (R364, R367). -/
def Device.planChild (s : Device) (i t : Nat) : Nat × Nat × Device :=
  match s.radio.child i with
  | none => (0, 0, s)
  | some c =>
    let a := s.chooseNext c t
    let b := a.2.draw
    let ch := b.1 % max 1 s.radioP.chCount
    let e := expectAt (64 * (t : Int)) a.1 c.d
    (a.1, ch, b.2.setChild i fun c => { c with tExp := e, tNext := min (e / 64).toNat tickMax, nextCh := ch })

/-- Drift learning from the stamp of a contact frame, in 1/64 tick (R364). -/
def Child.learn (c : Child) (stamp : Nat) : Child :=
  let span := stamp / 64 - c.tSync
  let e := (stamp : Int) - c.tExp
  if span = 0 then c
  else
    let r := rne (e * 2 ^ 40) (64 * span)
    if c.driftValid then { c with d := clampS 32 (c.d + rne r 4) } else { c with d := clampS 32 r, driftValid := true }

/-- A valid frame of a child, a repeat or an answer too (R368, R382). -/
def Child.noted (c : Child) (f : RxFrame) (req : Bool) (now : Nat) : Child :=
  { c with tSync := f.sfd / 64, rssi := clampS 8 f.rssi, timeUntrusted := req, lastFrame := now }

/-- A contact frame of a child that is no repeat (R364, R366, R382). -/
def Child.heard (c : Child) (f : RxFrame) (req : Bool) (now : Nat) : Child :=
  { c.noted f req now with missRun := 0, searchLevel := 0, search := false, windowOpen := false, listenTo := none }

/-- A contact frame of a child that is no repeat: drift, or the end of its search. -/
def Device.childContact (s : Device) (i : Nat) (f : RxFrame) (h : AirHeader) : Device :=
  match s.radio.child i with
  | none => s
  | some c =>
    let now := s.land.tick
    let c1 := if c.search then { c with driftValid := false, d := 0 } else if c.windowOpen then c.learn f.sfd else c
    let s1 := s.setChild i fun _ => c1.heard f h.timeReq now
    if c.search then s1.journal 0x505 (i + 1) c.searchLevel else s1

/-- What the upper side still has for a child: time, the oldest note, the proxy reads (R357, R370, R372). -/
def Device.childTodo (s : Device) (i : Nat) (req : Bool) : List Sent :=
  let short := i + 1
  let mine := (s.radio.queue.zipIdx).filter fun x => x.1.state == 1 && !x.1.reserved && x.1.child == short && decide (x.1.tries < s.phyP.dlTries)
  let notes := mine.filter (·.2 < 8)
  let oldest := match notes with
    | [] => []
    | x :: xs => [(xs.foldl (fun (a b : QEntry × Nat) => if b.1.born < a.1.born then b else a) x).2]
  (if req && s.trusted then [.time] else []) ++ oldest.map (fun k => .note k 0) ++
    (mine.filter (8 ≤ ·.2)).map fun x => .read x.2

/-- Fragments of a record of `n` bytes. -/
def fragCount (n : Nat) : Nat := cdiv n 224

/-- A fragment of a queued note (R356). -/
def noteBytes (q : QEntry) (short frag : Nat) : Bytes :=
  uB 1 q.id ++ uB 1 (frag + 16 * (fragCount q.length - 1)) ++ uB 2 q.length ++ uB 2 short ++ uB 4 0 ++
  (q.data.drop (224 * frag)).take 224

/-- Tick of the SFD of a TIME frame that follows an ACK with its SFD at tick `t`: the ACK's rest, the turnaround of
2.0 ms ±0.1 ms, the SHR (R342); free within the tolerance (log 26). -/
def Device.timeSfd (s : Device) (t : Nat) : Nat × Device :=
  let f := s.draw
  let us := s.airUs 33 - s.shr + 2000 + s.shr
  (t + us * 32768 / 1000000 + f.1 % 8 - 3, f.2)

/-- The next frame of the upper side. -/
def Device.sendTodo (s : Device) (t : Nat) : Device :=
  match s.radio.exch with
  | none => s
  | some e =>
    match e.peer, e.todo with
    | .child i, x :: xs =>
      match x with
      | .time =>
        let f := s.timeSfd t
        (f.2.setExch { e with todo := xs }).sendIn .time (uB 6 f.1) (!xs.isEmpty)
      | .note k g =>
        let q := s.radio.queue.getD k {}
        let ys := if g + 1 < fragCount q.length then .note k (g + 1) :: xs else xs
        (s.setExch { e with todo := ys, attempt := some k }).sendIn (.note k g) (noteBytes q (i + 1) g) (!ys.isEmpty)
      | .read k => (s.setExch { e with todo := xs, attempt := some k }).sendIn (.read k) (s.radio.queue.getD k {}).data (!xs.isEmpty)
      | .poll | .join | .data | .ack => s.endExchange
    | _, _ => s.endExchange

/-- After an ACK on a child's link (R359). -/
def Device.afterAckDown (s : Device) (t : Nat) : Device :=
  match s.radio.exch with
  | none => s
  | some e => if e.myPending then s.sendTodo t else if e.theirPending then s else s.endExchange

/-- The upper side's ACK to a child, with a fresh `next_in` (R353, R367). -/
def Device.ackChild (s : Device) (i fcnt status tRel t : Nat) : Device :=
  let p := s.planChild i t
  let more := p.2.2.radio.exch.any fun e => !e.todo.isEmpty
  (p.2.2.sendIn .ack (p.2.2.ackBytes fcnt status p.1 p.2.1 tRel) more).afterAckDown t

/-! ## Receiving (R340, R347 to R350, R363) -/

/-- The link on which a frame comes. -/
inductive Link where
  | up
  | child (idx : Nat)
  | joiner (eui : Nat)
  | stranger (short : Nat)
deriving DecidableEq, Repr

/-- The receiver is open: an exchange, a window or the join channel (R358, R362, R365). -/
def Device.listening (s : Device) : Bool :=
  s.radio.exch.isSome || (s.radio.role == 2 && (s.radio.joinOpen || s.radio.children.any (·.windowOpen)))

/-- The link of a header that is addressed to this device (R348, R349). An exchange in progress comes before frames of
others (R367). -/
def Device.linkOf (s : Device) (h : AirHeader) : Option Link :=
  let r := s.radio
  if h.down then
    match r.exch with
    | some e =>
      let me := h.dst == r.ownShort || (e.sent == .join && h.dst == 0xFFFF)
      if e.peer = .up ∧ h.netId = s.linkNet true ∧ me = true then some .up else none
    | none => none
  else if r.role = 2 ∧ h.netId = s.linkNet false ∧ h.dst = 0 then
    if h.longSrc then (if r.exch.isNone then some (.joiner h.src) else none)
    else
      match r.child (h.src - 1) with
      | some c => if h.src = 0 ∨ (r.exch.any fun e => e.peer != .child c.idx) = true then none else some (.child c.idx)
      | none => if r.exch.isNone then some (.stranger h.src) else none
  else none

/-- EUI-64 of the sender on a link. -/
def Device.peerEui (s : Device) (h : AirHeader) (l : Link) : Nat :=
  match l with
  | .up => if h.longSrc then h.src else s.radio.parentEui
  | .child i => ((s.radio.child i).map (·.eui)).getD 0
  | .joiner e => e
  | .stranger _ => 0

/-- A frame on the upward link comes from another upper side than the one whose replay state is kept: the answer to a join
POLL, by a parent of another EUI-64. -/
def Device.newUpper (s : Device) (h : AirHeader) : Bool := h.longSrc && h.src != s.radio.parentEui

/-- The replay decision of a link, and the device with the link's state after it (R363). `new` says that the frame begins
a link with another upper side. -/
def Device.replay (s : Device) (l : Link) (new : Bool) (fcnt : Nat) : Replay × Device :=
  let r := s.radio
  let byChild := fun (i : Nat) => match r.child i with
    | some c =>
      let v := replayOf c.seen c.fcntH c.bitmap fcnt
      (v, match v with
        | .accept h b => s.setChild i fun c => { c with fcntH := h, bitmap := b, seen := true }
        | .again | .drop => s)
    | none => (Replay.accept fcnt 0, s)
  match l with
  | .up =>
    let seen := r.upSeen && !new
    let v := replayOf seen r.upH r.upBitmap fcnt
    (v, match v with
      | .accept h b => { s with radio := { r with upSeen := true, upH := h, upBitmap := b } }
      | .again | .drop => s)
  | .child i => byChild i
  | .joiner e => match r.children.find? (·.eui == e) with
    | some c => byChild c.idx
    | none => (.accept fcnt 0, s)
  | .stranger _ => (.accept fcnt 0, s)

/-- A frame as a handler sees it. -/
structure Heard where
  link : Link
  hdr : AirHeader
  fcnt : Nat
  payload : Bytes
  fresh : Bool
  frame : RxFrame
deriving DecidableEq, Repr

/-- An ACK that tells a sender without an entry to rejoin (R353). -/
def Device.ackStranger (s : Device) (ch : Nat) (h : AirHeader) (fcnt short : Nat) : Device :=
  (s.sendAir false (s.radioP.answerChan ch)
    { typ := 2, down := true, keyId := h.keyId, netId := s.linkNet false, dst := short, src := 0 }
    (s.ackBytes fcnt 10 0 0 noTime)).2

/-- What a lower side sends of itself, and an ACK of the upper side answers: POLL and DATA (R352). -/
def AirHeader.asks (h : AirHeader) : Bool := h.typ == 1 || h.typ == 3

/-- A frame that passes FCS, header, MIC and replay reaches its handler; the others are dropped and counted (R348, R350,
R363). `mine` tells the row of a header. A frame without an entry that an ACK does not answer is dropped (R352). -/
def Device.airFrameIn (s : Device) (mine : AirHeader → Bool) (f : RxFrame) (h : Heard → Device → Device) : Device :=
  if !fcsGood f.psdu f.fcsLen then s.count 2
  else
    match airParse f.psdu f.fcsLen with
    | none => s.count 4
    | some p =>
      if p.version ≠ 0 ∨ p.hdr.typ = 0 ∨ 6 < p.hdr.typ then s.count 4
      else if !mine p.hdr then s
      else
        match s.linkOf p.hdr with
        | none => s
        | some (.stranger k) => if p.hdr.asks then s.ackStranger f.chan p.hdr p.fcnt k else s
        | some l =>
          match s.netKey (decide (l = .up)) p.hdr.keyId with
          | none => s.count 3
          | some key =>
            match ccmOpen key (airNonce (s.peerEui p.hdr l) p.fcnt) p.head p.cipher p.mic with
            | none => s.count 3
            | some m =>
              let v := s.replay l (s.newUpper p.hdr) p.fcnt
              match v.1 with
              | .drop => s.count 5
              | .again => h ⟨l, p.hdr, p.fcnt, m, false, f⟩ ((s.count 1).count 6)
              | .accept _ _ => h ⟨l, p.hdr, p.fcnt, m, true, f⟩ (v.2.count 1)

/-- Channels on which the one receiver listens: in an exchange that of its next frame, and that of a child's contact frame
while it may repeat it (R358); otherwise that of the open windows; between this work list index 0, while the join channel
is open (R344, R362, R367). -/
def Device.hearing (s : Device) : List Nat :=
  let p := s.radioP
  let r := s.radio
  match r.exch with
  | some e => s.frameChan e e.frames :: (if e.peer ≠ .up ∧ e.frames ≤ 2 then [s.frameChan e 0] else [])
  | none =>
    if r.role = 2 then
      match (r.children.filter (·.windowOpen)).map fun c => p.chanAt c.nextCh with
      | [] => if r.joinOpen then [p.chanAt 0] else []
      | w => w
    else []

/-- Tick of the end of the second repeat of a contact frame whose SFD was detected (R358). -/
def Device.repeatsEnd (s : Device) (f : RxFrame) : Nat :=
  let t := s.airUs f.psdu.length
  f.sfd / 64 + usTicks (t - s.shr + 2 * (3000 + s.shr + t))

/-- An SFD was detected in the open windows of a channel, and no valid frame received: the parent goes on listening
(R358). -/
def Device.keepListening (s : Device) (f : RxFrame) : Device :=
  let t := s.repeatsEnd f
  { s with radio := { s.radio with children := s.radio.children.map fun (c : Child) =>
    if c.windowOpen && s.radioP.chanAt c.nextCh == f.chan then { c with listenTo := some (c.listenTo.getD t) } else c } }

/-- A received frame: the Ferryman ON and listening on its channel. A PHR with mode switch set is dropped (R340). -/
def Device.airIn (s : Device) (mine : AirHeader → Bool) (f : RxFrame) (h : Heard → Device → Device) : Device :=
  if s.up && s.awake && s.on .ferryman && s.listening && s.hearing.contains f.chan then
    Device.armWindows
      ((if f.modeSwitch then s.airClear else s.airClear.airFrameIn mine f h).keepListening f)
  else s

/-- A malformed payload, or a type that this side of the link does not take (R352). -/
def Device.airBad (s : Device) : Device := s.count 4

/-- What every valid frame of a child leaves in its entry (R382). -/
def Device.noted (s : Device) (x : Heard) : Device :=
  match x.link with
  | .child i => s.setChild i fun c => c.noted x.frame x.hdr.timeReq s.land.tick
  | .up | .joiner _ | .stranger _ => s

/-- The peer's frame is number n of the exchange. -/
def Device.gotIn (s : Device) (x : Heard) : Device :=
  let s1 := s.noted x
  match s1.radio.exch with
  | some e => s1.setExch { e with frames := e.frames + 1, theirPending := x.hdr.pending, key := x.hdr.keyId }
  | none => s1

/-! ## POLL and DATA at the upper side -/

/-- List index of the contact frame that begins, or as a repeat begins again, the exchange with child i (R344). -/
def Radio.contactCh (r : Radio) (i : Nat) : Nat :=
  match r.exch with
  | some e => e.startCh
  | none => ((r.child i).map (·.nextCh)).getD 0

/-- An exchange with a child begins with its contact frame (R358); a repeat begins it again on its own channels, and cuts
an attempt short (R370). -/
def Device.childBegin (s : Device) (i : Nat) (x : Heard) : Device :=
  let s1 := { s with radio := match s.radio.exch with | some e => s.radio.cutShort e | none => s.radio }
  s1.setExch { peer := .child i, frames := 1, theirPending := x.hdr.pending, key := x.hdr.keyId
               startCh := s.radio.contactCh i, todo := s1.childTodo i x.hdr.timeReq }

/-- A POLL's payload (R352): the interval, the PHY. -/
def pollOk (b : Bytes) : Bool := b.length == 5 && getU b 0 4 != 0

/-- The contact frame of child i, before what is special to its type. -/
def Device.contactOf (s : Device) (i : Nat) (x : Heard) : Device :=
  (if x.fresh then s.childContact i x.frame x.hdr else s.noted x).childBegin i x

def Device.onPoll (x : Heard) (s : Device) : Device :=
  match x.link with
  | .child i =>
    if pollOk x.payload then
      let s1 := s.setChild i fun c => { c with contactEvery := getU x.payload 0 4 }
      (s1.contactOf i x).ackChild i x.fcnt 0 noTime x.frame.txSfd
    else s.airBad
  | .up | .joiner _ | .stranger _ => s.airBad

/-- RX_POLL (R352, R358). -/
def execRxPoll (dt : Nat) (f : RxFrame) (s : State) : Host.Outcome State Fault Refusal :=
  .next { s with dev := (s.dev.elapse dt).airIn (fun h => h.typ == 1 && !h.longSrc) f Device.onPoll }

/-- The digest of a child is cached and marked fresh; its own items only (R373). -/
def Device.cacheDigest (s : Device) (i : Nat) (l : List RxItem) : Device :=
  match l.find? fun (y : RxItem) => y.src == 0 && y.obj == 0x0EA4 && y.off == 0 && (y.bytes.map (·.length)) == some 64 with
  | none => s
  | some y =>
    let g : Digest := { child := i + 1, bytes := y.bytes.getD [], fresh := true, tick := s.land.tick }
    { s with radio := { s.radio with digests := (s.radio.digests.filter (·.child != i + 1)) ++ [g] } }

/-- A DATA frame answers proxy read k: its items are kept with the child as their source (R372). -/
def Device.readAnswered (s : Device) (i k : Nat) (l : List RxItem) : Device :=
  let b := l.flatMap fun y => uB 2 (i + 1) ++ y.raw
  let s1 := s.count 15
  { s1 with radio := { s1.radio with queue := setAt s1.radio.queue k fun q =>
    { q with state := 2, answer := b, length := b.length, tAnswer := s1.land.tick, data := [] } } }

def Device.onData (x : Heard) (s : Device) : Device :=
  match x.link, parseItems 40 x.payload with
  | .child i, some l =>
    match s.radio.exch with
    | some e =>
      match e.sent with
      | .read k =>
        if e.peer = .child i ∧ x.fresh = true then
          let s1 := ((s.gotIn x).readAnswered i k l).cacheDigest i l
          let s2 := match s1.radio.exch with | some e => s1.setExch { e with attempt := none } | none => s1
          s2.ackChild i x.fcnt 0 noTime x.frame.txSfd
        else ((s.contactOf i x).cacheDigest i l).ackChild i x.fcnt 0 noTime x.frame.txSfd
      | _ =>
        if e.peer = .child i ∧ x.fresh = true ∧ 1 < e.frames then
          ((s.gotIn x).cacheDigest i l).ackChild i x.fcnt 0 noTime x.frame.txSfd
        else
          let s1 := s.contactOf i x
          (if x.fresh then s1.cacheDigest i l else s1).ackChild i x.fcnt 0 noTime x.frame.txSfd
    | none =>
      let s1 := s.contactOf i x
      (if x.fresh then s1.cacheDigest i l else s1).ackChild i x.fcnt 0 noTime x.frame.txSfd
  | _, _ => s.airBad

/-- RX_DATA (R354, R373). -/
def execRxData (dt : Nat) (f : RxFrame) (s : State) : Host.Outcome State Fault Refusal :=
  .next { s with dev := (s.dev.elapse dt).airIn (fun h => h.typ == 3) f Device.onData }

/-! ## Joining (R362) -/

/-- Planned ACK airtime of the children, as a fraction of microseconds per window of 3600 s. -/
def ackPlan (us : Nat) (everys : List Nat) : Nat × Nat :=
  everys.foldl (fun (a : Nat × Nat) (n : Nat) => (a.1 * n + 3600 * us * a.2, a.2 * n)) (0, 1)

/-- With one more child the planned ACK airtime stays within half the budget. -/
def Device.joinFits (s : Device) (every : Nat) : Bool :=
  match s.radioP.budgetUs with
  | none => true
  | some b =>
    let a := ackPlan (s.airUs 33) (every :: s.radio.children.map (·.contactEvery))
    decide (2 * a.1 ≤ b * a.2)

/-- The lowest free entry of the neighbour table. -/
def Radio.freeIdx (r : Radio) : Option Nat := (List.range 500).find? fun i => (r.child i).isNone

/-- A reply to a join POLL: it names its sender by EUI-64, which the joiner does not know yet (log 26). The flag says
whether it was sent. -/
def Device.joinReply (s : Device) (x : Heard) (status nextIn nextCh tRel : Nat) (pending : Bool) : Bool × Device :=
  s.sendAir false (s.radioP.answerChan x.frame.chan)
    { typ := 2, longSrc := true, down := true, pending := pending, keyId := x.hdr.keyId, netId := s.linkNet false
      dst := 0xFFFF, src := s.sec.devEui.getD 0 }
    (s.ackBytes x.fcnt status nextIn nextCh tRel)

/-- A join POLL that is refused for want of room. -/
def Device.joinFull (s : Device) (x : Heard) : Device := (s.joinReply x 9 0 0 noTime false).2

/-- JOIN_OK to the child with entry i and a fresh `next_in`, and what the parent has for it, the time that its POLL asked
for among it, in the exchange that the POLL began on list index 0 (R344, R357, R359). -/
def Device.joinAnswer (s : Device) (i : Nat) (x : Heard) : Device :=
  let p := s.planChild i x.frame.txSfd
  let todo := p.2.2.childTodo i x.hdr.timeReq
  let r := p.2.2.joinReply x 8 p.1 p.2.1 (i + 1) (!todo.isEmpty)
  if r.1 && !todo.isEmpty then
    (r.2.setExch { peer := .child i, frames := 2, key := x.hdr.keyId, sent := .ack, sentFcnt := s.radio.fcntTx
                   myPending := true, todo := todo }).sendTodo x.frame.txSfd
  else r.2

/-- A join is accepted for entry i, which starts to learn drift anew (R362, R382). -/
def Device.joinOk (s : Device) (i : Nat) (x : Heard) : Device :=
  let s1 := s.setChild i fun c =>
    { c with driftValid := false, d := 0, contactEvery := getU x.payload 0 4
             phy := field (getU x.payload 4 1) 1 2 }
  ((s1.setChild i fun c => c.heard x.frame x.hdr.timeReq s1.land.tick).count 11).joinAnswer i x

/-- A repeated join POLL of entry i is answered again and not processed again (R363). -/
def Device.joinAgain (s : Device) (i : Nat) (x : Heard) : Device :=
  (s.setChild i fun c => c.noted x.frame x.hdr.timeReq s.land.tick).joinAnswer i x

/-- The entry of a new child. -/
def newChild (i eui fcnt : Nat) : Child := { idx := i, eui := eui, fcntH := fcnt }

def Device.onJoin (x : Heard) (s : Device) : Device :=
  match x.link with
  | .joiner eui =>
    if !s.radio.joinOpen then s
    else if !pollOk x.payload then s.airBad
    else
      match s.radio.children.find? (·.eui == eui) with
      | some c => if x.fresh then s.joinOk c.idx x else s.joinAgain c.idx x
      | none =>
        match s.radio.freeIdx with
        | none => s.joinFull x
        | some i =>
          if s.joinFits (getU x.payload 0 4) then
            let s1 := { s with radio := { s.radio with children := s.radio.children ++ [newChild i eui x.fcnt] } }
            (s1.journal 0x503 (i + 1) eui).joinOk i x
          else s.joinFull x
  | .up | .child _ | .stranger _ => s.airBad

/-- Joins are received on list index 0 only, while the join channel is open (R362). -/
def Device.joinHeard (s : Device) (ch : Nat) : Bool := s.radio.joinOpen && s.radioP.chanAt 0 == ch

/-- RX_JOIN_POLL (R362). -/
def execRxJoinPoll (dt : Nat) (f : RxFrame) (s : State) : Host.Outcome State Fault Refusal :=
  let d := s.dev.elapse dt
  .next { s with dev := d.airIn (fun h => h.typ == 1 && h.longSrc && d.joinHeard f.chan) f Device.onJoin }

/-! ## ACK (R353, R359, R361, R370) -/

/-- JOIN_OK at the node that asked (R362). -/
def Device.joined (s : Device) (x : Heard) : Device :=
  let r := s.radio
  let short := getU x.payload 11 2
  let up := if x.hdr.longSrc then x.hdr.src else r.parentEui
  Device.count (Device.journal { s with radio := { r with link := 1, ownShort := short, parentEui := up, orphanRun := 0 } }
    0x501 short up) 11

/-- An ACK from the upper side: the next contact, and what it acknowledges. -/
def Device.ackUp (s : Device) (x : Heard) (e : Exchange) : Device :=
  let b := x.payload
  let st := getU b 4 1
  let n := getU b 6 4
  let s1 := (s.gotIn x)
  let s2 := { s1 with radio := { s1.radio with orphanRun := 0, rssiUp := clampS 8 x.frame.rssi } }
  let s3 := match s2.radio.exch with | some y => s2.setExch { y with answered := true } | none => s2
  let s4 := if n = 0 then s3
    else Device.contactAt { s3 with radio := { s3.radio with nextCh := getU b 10 1 } } (x.frame.sfd / 64 + n)
  let s5 := if e.sent = .join ∧ st = 8 then s4.joined x else s4
  let s6 := if st = 10 then { s5 with radio := { s5.radio with link := 0, ownShort := 0xFFFF } } else s5
  (if e.sent = .data then s6.dataAcked else s6).afterAckUp

/-- The attempt at a note ends with the child's status: BUSY uses a try, anything else completes it (R370). -/
def Device.noteDone (s : Device) (i k st : Nat) : Device :=
  let s1 := match s.radio.exch with
    | some e => s.setExch { e with attempt := none, todo := e.todo.filter fun y => match y with | .note j _ => j != k | _ => true }
    | none => s
  if (s.radio.queue.getD k {}).state ≠ 1 then s1
  else if st = 2 then { s1 with radio := { s1.radio with queue := setAt s1.radio.queue k fun q => { q with tries := min (q.tries + 1) 15 } } }
  else
    let s2 := { s1 with radio := { s1.radio with queue := setAt s1.radio.queue k fun q =>
      { q with state := 2, childStatus := st, data := [], reserved := false } } }
    (s2.count 13).journal 0x507 (i + 1) st

/-- An ACK from a child to a NOTE or a TIME frame. -/
def Device.ackDown (s : Device) (i : Nat) (x : Heard) (e : Exchange) : Device :=
  let st := getU x.payload 4 1
  let s1 := s.gotIn x
  let s2 := match e.sent with
    | .note k g =>
      let last := decide (fragCount (s.radio.queue.getD k {}).length ≤ g + 1)
      if last ∨ st ≠ 0 then s1.noteDone i k st else s1
    | _ => s1
  s2.afterAckDown x.frame.txSfd

def Device.onAck (x : Heard) (s : Device) : Device :=
  match s.radio.exch with
  | none => s
  | some e =>
    if x.payload.length ≠ 15 ∨ getU x.payload 0 4 ≠ e.sentFcnt then s.airBad
    else if !x.fresh then s
    else
      match x.link, e.peer with
      | .up, .up => s.ackUp x e
      | .child i, .child j => if i = j then s.ackDown i x e else s
      | _, _ => s.airBad

/-- RX_ACK (R353). -/
def execRxAck (dt : Nat) (f : RxFrame) (s : State) : Host.Outcome State Fault Refusal :=
  .next { s with dev := (s.dev.elapse dt).airIn (fun h => h.typ == 2) f Device.onAck }

/-! ## READ at the lower side (R355, R372) -/

/-- The lower side's ACK. -/
def Device.ackUpper (s : Device) (fcnt status tRel : Nat) : Device :=
  (s.sendIn .ack (s.ackBytes fcnt status 0 0 tRel) s.upMore).afterAckUp

/-- What the exchange keeps of the lower side's ACK, for a repeat of the frame that it answers (R363). -/
def Device.keepAck (s : Device) (status tRel : Nat) (slot : Option Nat) : Device :=
  match s.radio.exch with
  | some e => s.setExch { e with ackStatus := status, ackRel := tRel, ackSlot := slot }
  | none => s

/-- Seconds from tick `now` to tick `t`, rounded up. -/
def secsTo (now t : Nat) : Nat := cdiv (t - now) 32768

/-- A repeated frame is answered again as it was, with the time to a promised expiry formed afresh (R363, R369). -/
def Device.ackAgain (s : Device) (x : Heard) : Device :=
  match s.radio.exch with
  | some e =>
    match e.ackSlot with
    | some k => s.ackUpper x.fcnt e.ackStatus (secsTo x.frame.txSfd (s.radio.queue.getD k {}).tExpiry)
    | none => s.ackUpper x.fcnt e.ackStatus e.ackRel
  | none => s

/-- The promised expiry for a child (R369). -/
def Device.promise (s : Device) (c : Child) : Nat := c.tNext + (s.phyP.dlTries - 1) * c.contactEvery * 32768 + 32768

/-- The children's answer from the cache (R372). -/
def Device.cached (s : Device) (short maxAge : Nat) (l : List ObjRef) : Option Digest :=
  if l.all fun o => o.obj == 0x0EA4 && o.off == 0 && o.len == 64 then
    s.radio.digests.find? fun g => g.child == short && decide (s.land.tick - g.tick ≤ maxAge * tpm)
  else none

/-- A READ for a child is decided (R372): status, `t_rel`, and the device. -/
def Device.decideRead (s : Device) (x : Heard) (short : Nat) (l : List ObjRef) : Nat × Nat × Device :=
  let reads := (s.radio.queue.zipIdx).filter fun y => decide (8 ≤ y.2)
  match s.radio.child (short - 1) with
  | none => (4, noTime, s.refuse 3)
  | some c =>
    let now := x.frame.txSfd
    if c.search then (4, noTime, s.refuse 3)
    else if reads.any fun y => y.1.state == 1 && y.1.child == short then (2, secsTo now c.tNext, s.refuse 3)
    else if dataRoom < sumNat (l.map fun o => 8 + max 1 o.len) then (5, noTime, s.refuse 3)
    else
      match reads.find? fun y => y.1.state == 0 with
      | none =>
        let t := (reads.filter fun y => y.1.state == 1).map (·.1.tExpiry)
        (3, match t with | [] => noTime | a :: as => secsTo now (as.foldl min a), s.refuse 3)
      | some y =>
        let p := s.promise c
        let q : QEntry := { state := 1, id := x.fcnt % 256, child := short, length := 0, tExpiry := p
                            data := uB 2 0 ++ (x.payload.drop 2) }
        (0, secsTo now p, { s with radio := { s.radio with queue := s.radio.queue.set y.2 q } })

def Device.onRead (x : Heard) (s : Device) : Device :=
  let b := x.payload
  let n := getU b 4 1
  if x.link ≠ .up ∨ n = 0 ∨ 8 < n ∨ b.length ≠ 5 + 6 * n then s.airBad
  else
    let l := objRefs n (b.drop 5)
    let short := getU b 0 2
    let s1 := s.gotIn x
    if short = 0 then
      let b := packItems dataRoom (l.map s1.ownItem)
      (s1.digestSent b).sendIn .data b s1.upMore
    else
      match s1.cached short (getU b 2 2) l with
      | some g => s1.sendIn .data (packItems dataRoom (l.map fun o => (short, o, .piece g.bytes))) s1.upMore
      | none =>
        if x.fresh then
          let d := s1.decideRead x short l
          (d.2.2.keepAck d.1 d.2.1 none).ackUpper x.fcnt d.1 d.2.1
        else s1.ackAgain x

/-- RX_READ (R355, R372). -/
def execRxRead (dt : Nat) (f : RxFrame) (s : State) : Host.Outcome State Fault Refusal :=
  .next { s with dev := (s.dev.elapse dt).airIn (fun h => h.typ == 4) f Device.onRead }

/-! ## NOTE at the lower side (R356, R369, R371) -/

/-- A NOTE fragment. -/
structure Frag where
  noteId : Nat
  frag : Nat
  count : Nat
  totalLen : Nat
  target : Nat
  deadline : Nat
  data : Bytes
deriving DecidableEq, Repr

def fragOf (b : Bytes) : Frag :=
  { noteId := getU b 0 1, frag := getU b 1 1 % 16, count := getU b 1 1 / 16 + 1, totalLen := getU b 2 2, target := getU b 4 2
    deadline := getU b 6 4, data := b.drop 10 }

/-- `total_len` is consistent with the fragment count (R356, R371). -/
def Frag.lenOk (g : Frag) : Bool := decide (0 < g.totalLen ∧ g.totalLen ≤ 3584) && g.count == fragCount g.totalLen

/-- The fragment's own length. -/
def Frag.sizeOk (g : Frag) : Bool :=
  decide (g.frag < g.count) && decide (1 ≤ g.data.length) &&
  (if g.frag + 1 < g.count then g.data.length == 224 else decide (g.data.length ≤ 224))

/-- Admission of a note for this device (R371): the status of its refusal. -/
def Device.admitOwn (s : Device) (g : Frag) : Option Nat :=
  if s.radio.reasm.isSome || s.noteUndecided then some 2
  else if !g.lenOk then some 5
  else if g.target ≠ s.radio.ownShort then some 4
  else none

/-- Admission of a note for a child (R369): status and `t_rel` of its refusal. The deadline runs from the first fragment,
whose SFD came at tick `first` (R356). -/
def Device.admitChild (s : Device) (g : Frag) (c : Option Child) (first now : Nat) : Option (Nat × Nat) :=
  let notes := s.radio.queue.take 8
  match c with
  | none => some (4, noTime)
  | some c =>
    if c.search then some (4, noTime)
    else if 2 ≤ (notes.filter fun q => q.state == 1 && q.child == g.target).length then some (2, secsTo now c.tNext)
    else if (notes.filter (·.state != 0)).length ≤ 7 ∧
        sumNat ((notes.filter (·.state == 1)).map (·.length)) + g.totalLen ≤ 28672 then
      if g.deadline ≠ 0 ∧ first + g.deadline * 32768 < s.promise c then some (7, secsTo now (s.promise c)) else none
    else
      let t := (notes.filter (·.state == 1)).map (·.tExpiry)
      some (3, match t with | [] => noTime | a :: as => secsTo now (as.foldl min a))

/-- The answer to a fragment: the promise, where there is one, in `t_rel`. -/
def Device.fragAck (s : Device) (x : Heard) (status : Nat) (slot : Option Nat) : Device :=
  let t := match slot with
    | some k => secsTo x.frame.txSfd (s.radio.queue.getD k {}).tExpiry
    | none => noTime
  (s.keepAck status t slot).ackUpper x.fcnt status t

/-- A refusal is answered, and kept for a repeat. -/
def Device.ackRefused (s : Device) (x : Heard) (status tRel : Nat) : Device :=
  (s.keepAck status tRel none).ackUpper x.fcnt status tRel

/-- The controller takes the note, and is at it for some time within the 60 ms of R442: how long is free (log 26). Its effect
stands at once. -/
def Device.handOver (s : Device) : Device :=
  let f := s.draw
  { f.2 with radio := { f.2.radio with undecidedTo := s.land.osc + f.1 % 1967 } }

/-- The last fragment: the note goes to the controller, or into the queue, at its ACK (R356, R369). Where the ACK cannot be
sent the note is discarded (DEDUCED, log 26). -/
def Device.noteComplete (s : Device) (x : Heard) (z : Reasm) : Device :=
  let s1 := { s with radio := { s.radio with reasm := none } }
  let n := s.radio.out.length
  match z.slot with
  | some k =>
    let s2 := { s1 with radio := { s1.radio with queue := setAt s1.radio.queue k fun q => { q with reserved := false, data := z.data } } }
    let s3 := s2.fragAck x 1 (some k)
    if n < s3.radio.out.length then s3
    else { s3 with radio := { s3.radio with queue := setAt s3.radio.queue k fun _ => {} } }
  | none =>
    let s3 := s1.fragAck x 1 none
    if n < s3.radio.out.length then (s3.handOver.decideRec .air z.data).2 else s3

/-- A fragment joins the note in reassembly. -/
def Device.fragIn (s : Device) (x : Heard) (g : Frag) (z : Reasm) : Device :=
  let z1 := { z with nextFrag := z.nextFrag + 1, data := z.data ++ g.data }
  if z1.nextFrag = z.count then
    (if z1.data.length = z.totalLen then s.noteComplete x z1 else (Device.airBad { s with radio := s.radio.dropReasm }).endExchange)
  else Device.fragAck { s with radio := { s.radio with reasm := some z1 } } x 0 z.slot

/-- A note taken now is younger than every other of the queue. -/
def Radio.nextBorn (r : Radio) : Nat := (r.queue.map (·.born)).foldl max 0 + 1

/-- The first fragment: admission (R369, R371). -/
def Device.fragFirst (s : Device) (x : Heard) (g : Frag) : Device :=
  let z : Reasm := { noteId := g.noteId, count := g.count, totalLen := g.totalLen, target := g.target, nextFrag := 0, data := [], slot := none }
  if s.radio.role = 2 ∧ g.target ≠ s.radio.ownShort ∧ s.radio.reasm.isNone = true then
    let c := if g.target = 0 then none else s.radio.child (g.target - 1)
    match s.admitChild g c (x.frame.sfd / 64) x.frame.txSfd with
    | some r => (s.refuse 1).ackRefused x r.1 r.2
    | none =>
      if !g.lenOk then s.airBad
      else
        match c, (List.range 8).find? fun k => (s.radio.queue.getD k {}).state == 0 with
        | some c, some k =>
          let q : QEntry := { state := 1, id := g.noteId, child := g.target, length := g.totalLen, tExpiry := s.promise c,
                              reserved := true, born := s.radio.nextBorn }
          Device.fragIn { s with radio := { s.radio with queue := s.radio.queue.set k q } } x g { z with slot := some k }
        | _, _ => s.airBad
  else
    match s.admitOwn g with
    | some st => (s.refuse (if s.radio.role = 2 ∧ g.target ≠ s.radio.ownShort then 1 else 2)).ackRefused x st noTime
    | none => s.fragIn x g z

def Device.onNote (x : Heard) (s : Device) : Device :=
  let g := fragOf x.payload
  if x.link ≠ .up ∨ x.payload.length < 11 ∨ g.sizeOk = false then s.airBad
  else
    let s1 := s.gotIn x
    if !x.fresh then s1.ackAgain x
    else if g.frag = 0 then s1.fragFirst x g
    else
      match s1.radio.reasm with
      | some z => if z.noteId = g.noteId ∧ z.nextFrag = g.frag ∧ z.count = g.count then s1.fragIn x g z else s1.airBad
      | none => s1.airBad

/-- RX_NOTE (R356, R369, R371). -/
def execRxNote (dt : Nat) (f : RxFrame) (s : State) : Host.Outcome State Fault Refusal :=
  .next { s with dev := (s.dev.elapse dt).airIn (fun h => h.typ == 5) f Device.onNote }

/-! ## TIME at the lower side (R357, R449) -/

/-- The set that a TIME frame makes, where it is accepted (R357, R449, R312). -/
def Device.timeFrameSet (s : Device) (ts stamp : Nat) : Option PendSet :=
  let sg := rne (64 * (ts : Int) - stamp) 64
  let lc := s.sec.lc != .blank && s.sec.lc != .scrapped
  if !lc || s.secondary then none
  else if !s.trusted then some (.since ts (stamp / 64))
  else if decide (sg.natAbs ≤ s.land.adjLimit * 32768) && s.relFits (.rel sg) then some (.rel sg)
  else none

def Device.onTime (x : Heard) (s : Device) : Device :=
  if x.link ≠ .up ∨ x.payload.length ≠ 6 then s.airBad
  else
    let s1 := s.gotIn x
    let s2 := if !x.fresh then s1
      else
        match s1.timeFrameSet (getU x.payload 0 6) x.frame.sfd with
        | some p => Device.waitSet { s1 with radio := { s1.radio with lastTime := some s1.land.tick } } (some p)
        | none => s1.refuse 2
    s2.ackUpper x.fcnt 0 noTime

/-- RX_TIME (R357, R449). -/
def execRxTime (dt : Nat) (f : RxFrame) (s : State) : Host.Outcome State Fault Refusal :=
  .next { s with dev := (s.dev.elapse dt).airIn (fun h => h.typ == 6) f Device.onTime }

end Sys2Proof.Machine
end

