-- ==== Sys2Proof/Machine/PowerOps.lean ====
section
/-! DEFINITION. Which power state the holders allow, and the entry to it (R471 to R475). -/

namespace Sys2Proof.Machine

/-! ## Holders (R471) -/

/-- Something holds RUN: a path-pair, a Hawser exchange or loop calibration, the display's frame timer. -/
def Device.holdsRun (s : Device) : Bool :=
  s.tr.cyc.inFlight.isSome || s.haw.job.isSome || s.haw.out.isSome || s.haw.loop.isSome || s.disp.timerRun

/-- Something holds DOZE: a conversion, an admission that is due, a Ferryman exchange or an open window, that of the join
channel too, the optical port, test access (R462), at a secondary its primary (R394). -/
def Device.holdsDoze (s : Device) : Bool :=
  s.temp.running || s.haw.sampling || s.tr.cyc.complete || s.radio.exch.isSome || s.radio.children.any (·.windowOpen) ||
    s.radio.joinOpen || s.opt.active || (s.secondary && s.haw.attending) || s.sec.tap == .board || s.sec.tap == .debug || (s.sec.trstHigh && s.sec.lc != .sealed)

/-- The conditions of HIBERNATE (R472); a secondary never enters it (R388). -/
def Device.mayHibernate (s : Device) : Bool :=
  (s.fn.transit.st == .off) && (s.fn.hawser.st == .off) && !s.armed 6 && !s.armed 7 && !s.armed 8 && !s.armed 9 &&
    s.disp.regions.all (fun r => r.run.isNone && r.next.isNone) && !s.secondary

/-- The deepest state that no holder forbids (R471). -/
def Device.restTarget (s : Device) : PState :=
  if s.holdsRun then .run else if s.holdsDoze then .doze else if s.mayHibernate then .hibernate else .nap

/-- Depth of a state, as `rest_state` codes it (R490). -/
def PState.depth (p : PState) : Nat :=
  match p with
  | .run => 0
  | .doze => 1
  | .nap => 2
  | .hibernate => 3
  | .ship => 4
  | .unpowered => 5

/-! ## Entry (R473, R475) -/

/-- Banks retained in NAP (R473): 0 while a path has learned, 2 in the PARENT role. -/
def Device.banksKept (s : Device) : Nat :=
  bitVal (s.tr.paths.any (·.tpl.learned)) 0 + bitVal (s.radio.role == 2) 2

/-- Bank 0 is mirrored to FRAM (R125, R473). -/
def Device.mirrorBank0 (s : Device) : Device :=
  { s with tr := { s.tr with paths := s.tr.paths.map fun p => { p with mirror := p.tpl } } }

/-- What is lost with the clock of the switched domain: the banks not retained (bank 0 is mirrored before, and the captures
of a template that is being learned with it: log 30), test access closes, `PWR_EN` follows its mode (R325, R461). -/
def Device.sleepEffects (s : Device) (p : PState) : Device :=
  let s0 := if (p = .nap ∧ bitAt s.banksKept 0 = false) ∨ p = .hibernate then s.mirrorBank0 else s
  let s1 := if p = .nap then
      { s0 with power := { s0.power with banks := s.banksKept }
                radio := { s0.radio with digests := if bitAt s.banksKept 2 then s0.radio.digests else [] } }
    else if p = .hibernate then { s0 with radio := { s0.radio with digests := [] } } else s0
  if p = .nap ∨ p = .hibernate then
    Device.pwrUpdate { s1 with sec := { s1.sec with tap := .closed } }
  else s1

/-- The state `p` is entered; `n` edges fell into the entry window (R475). -/
def Device.enterState (s : Device) (p : PState) (n : Nat) : Device :=
  Device.sleepEffects { s with power := { s.power with
    st := p, rest := p.depth, edgeLost := satAdd 32 s.power.edgeLost n } } p

/-- The Power Manager moves to the deepest state that no holder forbids, where that is deeper (R471). -/
def Device.rest (s : Device) (n : Nat) : Device :=
  let p := s.restTarget
  if s.power.st.depth < p.depth then s.enterState p n else s

end Sys2Proof.Machine
end

