-- ==== Sys2Proof/Machine/Cascade.lean ====
section
/-! DEFINITION. The primary's synchronisation of its cascade: the expected set, the configuration check, what follows
them (R395, R396, R405, R406). -/

namespace Sys2Proof.Machine

/-! ## The expected set (R396) -/

/-- The set of the first synchronisation is that which answered; the cascade map follows it (R396, R399). -/
def Device.recordExpected (s : Device) : Device :=
  if s.haw.expectedKnown then s
  else
    let m := secMask fun k => (s.sec1 k).state == 1
    let s1 := { s with haw := { s.haw with expected := m, expectedKnown := true } }
    if s.strapAt 2 = some 13 then
      let old := s1.conf
      let c := { old with g := { old.g with pathList := some (presetPaths 13 old.cls m) } }
      Device.initPaths { s1 with conf := c } old true
    else s1

/-! ## The configuration check (R396) -/

/-- Every channel with a role of the primary and its synchronised, expected secondaries. -/
def Device.allChans (s : Device) : List Chan :=
  let own := chansOf 0 s.conf.wiring.roles s.conf.wiring.wires
  let secs := (List.range 5).flatMap fun k =>
    let x := s.haw.secs.getD k {}
    if bitAt s.haw.expected k ∧ x.state = 1 then
      chansOf (k + 1) ((List.range 4).map (wiringRole x.wiring)) ((List.range 4).map (wiringWires x.wiring))
    else []
  (own ++ secs).filter (·.role != 0)

/-- The combined roles break R396 cause 3: a role twice, or R218. -/
def Device.rolesBreak (s : Device) : Bool :=
  let rs := s.allChans.map (·.role)
  let has := fun (r : Nat) => rs.contains r
  let cls := s.conf.cls
  (List.range 7).any (fun r => r != 0 && decide (1 < rs.count r)) || (has 1 && (has 2 || has 3)) ||
    (has 5 && !has 2) || (has 6 && !has 3) ||
    (s.conf.g.medium.isSome &&
      ((energyClass cls && !(has 2 && has 3)) || (gasClass cls && !(has 1 || has 2))))

/-- The first cause of R396 found, with the device where it is one device's. -/
def Device.cascadeFault (s : Device) : Option (Nat × Option Nat) :=
  let ks := (List.range 5).map (· + 1)
  match ks.find? fun k => (s.sec1 k).state == 1 && bitAt s.haw.expected (k - 1) && (s.sec1 k).timeBase != s.conf.system.timeBase with
  | some k => some (1, some k)
  | none =>
    match ks.find? fun k => (s.sec1 k).double with
    | some k => some (2, some k)
    | none =>
      if s.rolesBreak then some (3, none)
      else if 4 < s.allChans.length ∨ 20 < s.conf.pathsIdx.length then some (4, none)
      else none

/-- CASCADE_CFG_FAULT; the device of a cause that is not one device's is open (log 28). -/
def Device.cfgFaulted (s : Device) (cause : Nat) (dev : Option Nat) : Device :=
  let s1 := { s with haw := { s.haw with cfgFault := cause } }
  match dev with
  | some k => s1.journal 0x604 cause k
  | none => let v := s1.draw; v.2.journal 0x604 cause v.1

/-! ## The end of a synchronisation (R395) -/

/-- Expected secondaries that were asked and did not answer are lost at once (R405). -/
def Device.loseMissing (s : Device) : Device :=
  let ks := ((List.range 5).map (· + 1)).filter fun k => s.haw.asked.contains k &&
    bitAt s.haw.expected (k - 1) && ((s.sec1 k).state == 0 || (s.sec1 k).state == 2) && !(s.sec1 k).double
  ks.foldl Device.loseSecondary s

/-- TIME with the primary's tick count, read through the Hawser's shadow (R309, R392, log 28). A broadcast gets no answer, so
it is sent once more (R393): the same frame, within this command (DEDUCED, log 28). -/
def Device.broadcastTime (s : Device) : Device :=
  let s0 := s.loadShadow 4
  let s1 := s0.hwSend 7 0x0C (leBytes 6 s0.land.shown.tick)
  { s1 with haw := { s1.haw with lastBroadcast := s1.land.tick } }

/-- A secondary has a path that runs to another device. -/
def Device.hasCross (s : Device) (k : Nat) : Bool :=
  s.conf.pathsIdx.any fun q => q.1.crossChip && q.1.remotes.contains k

/-- Pushed parameters and loop calibration of the secondaries just synchronised fall due. -/
def Device.configureFresh (s : Device) : Device :=
  let ks := ((List.range 5).map (· + 1)).filter fun k => (s.sec1 k).fresh && (s.sec1 k).state == 1
  let due := secMask fun k => ks.contains k && s.hasCross k
  let parts := ks.flatMap s.cfgPartsOf
  { s with haw := { s.haw with
    syncActive := false
    cfgParts := (s.haw.cfgParts.filter fun p => !ks.contains p.1) ++ parts
    loopDue := s.haw.loopDue ||| due
    secs := s.haw.secs.map fun x => { x with fresh := false } } }

/-- Every device asked has answered or failed to. The channels of the cascade are known now: TEMP_HEALTH and the tests of
R543 follow them (R215, R403). -/
def Device.syncEnd (s : Device) : Device :=
  let s1 := s.recordExpected.loseMissing
  match s1.cascadeFault with
  | some f =>
    Device.enterSafe { s1.cfgFaulted f.1 f.2 with
      haw := { (s1.cfgFaulted f.1 f.2).haw with syncActive := false, cfgParts := [], loopDue := 0, loop := none } }
  | none =>
    let corr := fun (x : Secondary × Nat) =>
      if s1.trusted then
        let a := s1.conf.calib.secClock.getD x.2 {}
        { x.1 with hfxCorr := clampCorr (ageEps a (ageDays a s1.land.tick)) }
      else x.1
    let s2 := { s1 with haw := { s1.haw with secs := (s1.haw.secs.zipIdx).map corr } }
    let s3 := if s2.conf.safePreset then s2 else s2.useUnits.calibTest
    (s3.broadcastTime.configureFresh).hwPump

/-- The next step of a synchronisation once a request is settled. -/
def Device.syncStep (s : Device) : Device :=
  if s.haw.syncActive && s.haw.syncing.isEmpty && s.haw.out.isNone then s.syncEnd else s.hwPump

/-! ## Its start -/

/-- What a cold start clears of one secondary's entry; its run without an answer ends at an answer only (R407). -/
def Secondary.cold (x : Secondary) : Secondary :=
  { refusals := x.refusals, hfxCorr := x.hfxCorr, d := x.d, lambdaPpb := x.lambdaPpb, missRun := x.missRun
    missSince := x.missSince }

/-- The primary synchronises its cascade after its strap read. With the Hawser OFF nothing is asked, and what was
expected is lost (R395, R517). -/
def Device.startSync (s : Device) : Device :=
  let s1 := { s with haw := { s.haw with
    secs := s.haw.secs.map Secondary.cold, retired := 0, cfgFault := 0, out := none, loop := none, loopDue := 0, cfgParts := []
    loopTick := s.land.tick, loopTemp := s.land.dieTemp, lastBroadcast := s.land.tick
    expected := if s.namesSecs then s.namedSecs else s.haw.expected
    expectedKnown := s.haw.expectedKnown || s.namesSecs
    syncActive := true, syncing := [1, 2, 3, 4, 5], asked := [1, 2, 3, 4, 5] } }
  if s1.on .hawser then s1.hwPump
  else if s1.haw.expectedKnown then
    Device.loseMissing { s1 with haw := { s1.haw with syncActive := false, syncing := [] } }
  else { s1 with haw := { s1.haw with syncActive := false, syncing := [] } }

/-- The synchronisation, the pushes and the loop calibration of the start are over. -/
def Device.syncIdle (s : Device) : Bool :=
  !s.haw.syncActive && s.haw.cfgParts.isEmpty && s.haw.loop.isNone && s.haw.loopDue == 0 && s.haw.out.isNone

end Sys2Proof.Machine
end

