-- ==== Sys2Proof/Machine/Hawser.lean ====
section
/-! DEFINITION. The Hawser's frames and events at the primary and at a secondary (R388 to R409). -/

namespace Sys2Proof.Machine

/-! ## Wake (R394) -/

/-- HAWSER_WAKE_SCHEDULE (R394): slot 11 has fired, and the burst goes out, to all secondaries (log 28). -/
def execHawserWakeSchedule (dt : Nat) (s : State) : Host.Outcome State Fault Refusal :=
  let d := (s.dev.elapse dt).woken 1
  .next { s with dev := if d.tolling && d.fired 11 then ((d.disarm 11).hwBurst 7).toRun.hwGap else d }

/-- HAWSER_WAKE_BURST (R394): a count equal to the own number or to 7 latches a wake request; a secondary that is
awake ignores the burst. -/
def execHawserWakeBurst (dt : Nat) (pulses : Nat) (s : State) : Host.Outcome State Fault Refusal :=
  let d := s.dev.elapse dt
  .next { s with dev :=
    if d.secondary && d.power.st == .nap && (pulses == d.haw.deviceNo || pulses == 7) then
      { d with haw := { d.haw with wakeReq := true } }
    else d }

/-- HAWSER_IDLE_TIMEOUT (R394): 10 ms, 328 oscillator cycles, without an addressed frame. -/
def execHawserIdleTimeout (dt : Nat) (s : State) : Host.Outcome State Fault Refusal :=
  let d := s.dev.elapse dt
  .next { s with dev :=
    if d.secondary && d.up && decide (d.haw.lastFrame + 328 ≤ d.land.osc) then
      Device.rest { d with haw := { d.haw with wakeReq := false, attending := false } } 0
    else d }

/-! ## Frames at a secondary -/

/-- An answer to a frame addressed to this secondary's own number; a broadcast has none (R393). -/
def Device.hwAnswer (s : Device) (p : HwParts) (typ : Nat) (payload : Bytes) : Device :=
  if p.dst = 7 then s else s.hwSend 0 typ payload

/-- SYNC_RSP's payload (R392). -/
def Device.syncPayload (s : Device) : Bytes :=
  leBytes 1 s.haw.ownEpoch ++ leBytes 1 (bitVal s.tr.tb.refinSel 0) ++ leBytes 6 s.straps.codes ++
    leBytes 4 (wiringWord s.conf.wiring.roles s.conf.wiring.wires)

/-- The secondary answers SYNC_REQ. -/
def Device.onSyncReq (p : HwParts) (x : Device) : Device :=
  let s1 := { x with haw := { x.haw with synced := true, loopIdx := 0, loopSeq := none } }
  s1.hwAnswer p 0x02 x.syncPayload

/-- SYNC_REQ (R395): the secondary answers, and is synchronised since its restart. -/
def execSyncReq (dt : Nat) (f : HwFrame) (s : State) : Host.Outcome State Fault Refusal :=
  let d := s.dev.elapse dt
  .next { s with dev :=
    if d.secondary then d.hwReceive 0x01 f Device.onSyncReq else d }

/-- Replaces or adds the pushed entry of a path. -/
def pushPath (l : List PushedPath) (p : PushedPath) : List PushedPath := (l.filter (·.path != p.path)) ++ [p]

/-- One block of pushed parameters is stored in working state (R395, log 28). -/
def Hawser.push (h : Hawser) (part : Nat) (b : Bytes) : Hawser :=
  if part = 0 then { h with hfxCorr := getS b 0 4 }
  else if part = 1 then
    { h with pushedThr := { pathListOf (b.take 14) with paths := [], basic := bitAt (getU b 15 1) 0 }
             pushedCls := getU b 14 1 }
  else if part < 16 then h
  else if part < 64 then
    { h with pushed := pushPath h.pushed ⟨part - 16, pathOf b, getU b 20 4, getU b 24 4⟩ }
  else
    { h with pushedTemp := { h.pushedTemp with
      chans := setAt h.pushedTemp.chans (part - 64) fun _ => if b = [] then none else some (chanCalOf b) } }

/-- The entry pushed for path i. -/
def Hawser.pushedAt (h : Hawser) (i : Nat) : Option PushedPath := h.pushed.find? (·.path == i)

/-- A path whose pushed parameters differ from those pushed before begins anew (R112, R155); a path that is assigned is in
service (R147). -/
def Device.repush (s : Device) (old : Hawser) (i : Nat) : Device :=
  let begin := fun (x : PathState) =>
    if (old.pushedAt i).isSome ∧ old.pushedAt i ≠ s.haw.pushedAt i then { res := x.res, health := x.health } else x
  if (s.haw.pushedAt i).isSome then s.setPath i fun x => (begin x).inService else s

/-- A block is stored and acknowledged; the ports of the paths assigned are in use (R148). -/
def Device.onCfg (p : HwParts) (x : Device) : Device :=
  if p.payload = [] then x.hwAnswer p 0x0E (leBytes 1 p.seq)
  else
    let n := getU p.payload 0 1
    let y := { x with haw := x.haw.push n (p.payload.drop 1) }
    ((if 16 ≤ n ∧ n < 64 then y.repush x.haw (n - 16) else y).initPorts false).hwAnswer p 0x0E (leBytes 1 p.seq)

/-- CFG (R395). -/
def execCfg (dt : Nat) (f : HwFrame) (s : State) : Host.Outcome State Fault Refusal :=
  let d := s.dev.elapse dt
  .next { s with dev :=
    if d.secondary then d.hwReceive 0x03 f Device.onCfg else d }

/-- A frame that a secondary decides is heard also while the Hawser drains (R404). -/
def Device.hwHears (s : Device) (typ : Nat) (f : HwFrame) (h : HwParts → Device → Device) : Device :=
  if s.fn.hawser.st = .off ∨ s.hwLive = false then s
  else if (hwParse f.bytes).isNone then s.hwBad
  else
    match s.hwAccept typ f with
    | some p => h p s.attend
    | none => s

/-- REFUSE with a cause and a time to retry, counted (R404). -/
def Device.hwRefuse (s : Device) (cause retry : Nat) : Device :=
  (s.refuse (if cause = 1 then 8 else 6)).hwSend 0 0x0D (leBytes 1 cause ++ leBytes 2 retry)

/-- The tests of R404 for a unit: the cause of the first that fails, 0 where none does. A due step of the Hawser itself is
refused for as well (R508). -/
def Device.hwAdmit (s : Device) (unit : Func) (busy : Bool) (bg : Nat) : Nat :=
  if !s.on .hawser || !s.on unit then 1
  else if !s.haw.synced then 2
  else if busy then 3
  else if s.store.due.getD bg false || s.store.due.getD 2 false then 4
  else 0

/-- The answer to a request that is not admitted: `retry` is 0xFFFF, or a time that the running work decides, at most
`most` microseconds (log 28). -/
def Device.hwTurnAway (s : Device) (cause most : Nat) : Device :=
  if cause ≤ 2 then s.hwRefuse cause 0xFFFF
  else
    let v := s.draw
    v.2.hwRefuse cause (v.1 % ((if cause = 4 then 200 else most) + 1))

/-- The job that FIRE spells (R392). -/
def jobOf (b : Bytes) (r1 : Nat) : FireJob :=
  { path := getU b 0 1, parity := bitAt (getU b 1 1) 0, brake := bitAt (getU b 1 1) 1, last := bitAt (getU b 1 1) 2
    noResult := bitAt (getU b 1 1) 3, pDrv := getU b 2 2, gain := getU b 4 1, level := getU b 5 1
    pulses := getU b 6 1, decim := getU b 7 1, winLen := 256 * getU b 8 1, winOpen := getU b 9 3, r1 := r1 }

/-- The first FIRE of a cycle begins the cycle here: calibration set and correction are taken, the reference is checked,
and a cycle whose check fails is not run (R97, R102, R103, R105, R155; log 28). -/
def Device.jobCycle (s : Device) (ref : Option Nat) : Device :=
  if s.haw.cycle = 0 then
    let s1 := s.takeSets
    let r := Device.refCheck { s1 with tr := { s1.tr with cyc := { s1.tr.cyc with seq := s1.tr.cyc.seq + 1 } } } ref
    { r.1 with haw := { r.1.haw with cycle := if r.2 then 1 else 2 } }
  else s

/-- A FIRE that is admitted: the job is taken where the cycle runs. -/
def Device.takeJob (s : Device) (j : FireJob) : Device :=
  let run := s.haw.cycle == 1
  let s1 := { s with haw := { s.haw with cycle := if j.last then 0 else s.haw.cycle } }
  if run then Device.toRun { s1 with haw := { s1.haw with job := some j } } else s1

/-- The secondary decides a FIRE whose timing edge gave the raw stamp `r1`; a REFUSE is its answer, also of one flagged last
of cycle. One addressed to all is no request to this device (R393, R394; DEDUCED, log 28). -/
def Device.onFire (r1 : RawStamp) (ref : Option Nat) (p : HwParts) (x : Device) : Device :=
  let c := x.hwAdmit .transit x.haw.job.isSome 0
  if p.dst = 7 then x
  else if c = 0 then (x.jobCycle ref).takeJob (jobOf p.payload ((x.jobCycle ref).edge r1))
  else (x.fireAnswered (jobOf p.payload 0).last).hwTurnAway c 1000

/-- FIRE (R400, R404): admitted, the secondary fires its part of the path-pair. -/
def execFire (dt : Nat) (f : FireFrame) (s : State) : Host.Outcome State Fault Refusal :=
  let d := s.dev.elapse dt
  .next { s with dev :=
    if d.secondary then d.hwHears 0x04 f.frame (Device.onFire f.frame.stamp f.ref) else d }

/-- The job in progress takes `r2`. -/
def Device.onMark (r2 : RawStamp) (_ : HwParts) (x : Device) : Device :=
  { x with haw := { x.haw with job := x.haw.job.map fun j => { j with r2 := some (x.edge r2) } } }

/-- MARK (R400): the secondary stamps its timing edge as r2. -/
def execMark (dt : Nat) (f : HwFrame) (s : State) : Host.Outcome State Fault Refusal :=
  let d := s.dev.elapse dt
  .next { s with dev :=
    if d.secondary then d.hwReceive 0x05 f (Device.onMark f.stamp) else d }

/-- The secondary decides a SAMPLE_REQ; one without channels has none to convert (R403). -/
def Device.onSampleReq (_ : HwParts) (x : Device) : Device :=
  if x.conf.wiring.roles.all (· == 0) then x else
  let c := x.hwAdmit .converter x.haw.sampling 1
  if c = 0 then { x with haw := { x.haw with sampling := true } } else x.hwTurnAway c 45000

/-- SAMPLE_REQ (R403, R404): a secondary with channels converts them. -/
def execSampleReq (dt : Nat) (f : HwFrame) (s : State) : Host.Outcome State Fault Refusal :=
  let d := s.dev.elapse dt
  .next { s with dev :=
    if d.secondary then d.hwHears 0x08 f Device.onSampleReq else d }

/-- LOOPCAL at a secondary (R397): it answers the turn of the exchange before, 0 in exchange 0; a request sent once
more is the same exchange. -/
def Device.loopAnswer (s : Device) (p : HwParts) (t2 t3 : Nat) : Device :=
  let h := s.haw
  let again := h.loopSeq == some p.seq
  let sent := if again then h.turnSent else if h.loopIdx = 0 then 0 else h.turn
  let idx := if again then h.loopIdx else (h.loopIdx + 1) % 65
  let s1 := { s with haw := { h with
    turn := (t3 : Int) - t2, turnSent := sent, loopIdx := idx, loopSeq := some p.seq } }
  s1.hwAnswer p 0x0B (leBytesS 4 sent)

/-- LOOPCAL (R397). -/
def execLoopcal (dt : Nat) (f : HwFrame) (answerEdge : RawStamp) (s : State) : Host.Outcome State Fault Refusal :=
  let d := s.dev.elapse dt
  .next { s with dev :=
    if d.secondary then d.hwReceive 0x0A f (fun p x => x.loopAnswer p (x.edge f.stamp) (x.edge answerEdge)) else d }

/-- TIME at a secondary (R395): the count is loaded; no flag of trust changes and nothing is journalled. -/
def Device.loadTime (s : Device) (t : Nat) : Device :=
  let new := min t tickMax
  let sigma : Int := (new : Int) - s.land.tick
  (Device.shiftWorking { s with land := s.land.load new sigma } sigma).updateTimeNow

/-- TIME is loaded, and acknowledged where it is not a broadcast. -/
def Device.hwOnTime (p : HwParts) (x : Device) : Device :=
  (x.loadTime (getU p.payload 0 6)).hwAnswer p 0x0E (leBytes 1 p.seq)

/-- TIME (R395). -/
def execTime (dt : Nat) (f : HwFrame) (s : State) : Host.Outcome State Fault Refusal :=
  let d := s.dev.elapse dt
  .next { s with dev :=
    if d.secondary then d.hwReceive 0x0C f Device.hwOnTime else d }

/-! ## Answers at the primary -/

/-- The answer `p` is that of the outstanding request of type `req`. -/
def Device.answers (s : Device) (p : HwParts) (req : Nat) : Bool :=
  match s.haw.out with
  | some o => o.dst == p.src && o.typ == req
  | none => false

/-- A frame for the primary. -/
def Device.atPrimary (s : Device) (typ : Nat) (f : HwFrame) (h : HwParts → Device → Device) : Device :=
  let g := fun (p : HwParts) (x : Device) => if 1 ≤ p.src ∧ p.src ≤ 5 then h p x else x
  if s.haw.role = 1 then s.hwReceive typ f g else s

/-! ### Synchronisation -/

/-- A secondary's answer to SYNC_REQ: stored, journalled, an unexpected one ignored (R396, R406). -/
def Device.synced (s : Device) (k : Nat) (b : Bytes) : Device :=
  let x := s.sec1 k
  let e := getU b 0 1
  if s.haw.expectedKnown = true ∧ bitAt s.haw.expected (k - 1) = false then s.cfgFaulted 6 (some k)
  else
    let again := x.state != 0 && x.epoch != e
    let s1 := s.setSec k fun y => { y with
      state := 1, epoch := e, timeBase := getU b 1 1, codes := getU b 2 6, wiring := getU b 8 4
      hasD := false, resync := false, fresh := true, double := false }
    s1.journal (if again then 0x603 else 0x601) k e

/-- A SYNC_RSP with a bad CRC stands against the number that was asked (R396). -/
def Device.badSyncRsp (s : Device) : Device :=
  match s.haw.out with
  | some o =>
    if o.typ = 0x01 then { s with haw := { s.haw with out := some { o with bad := o.bad + 1 } } } else s
  | none => s

def Device.onSyncRsp (p : HwParts) (x : Device) : Device :=
  if x.answers p 0x01 then (((x.hwAnswered p.src).hwDone).synced p.src p.payload).syncStep else x

/-- SYNC_RSP (R396). -/
def execSyncRsp (dt : Nat) (f : HwFrame) (s : State) : Host.Outcome State Fault Refusal :=
  let d := s.dev.elapse dt
  let d1 := if d.haw.role == 1 && d.on .hawser && (hwParse f.bytes).isNone then d.badSyncRsp else d
  .next { s with dev := d1.atPrimary 0x02 f Device.onSyncRsp }

/-- ACK of the outstanding CFG or TIME. -/
def Device.hwOnAck (p : HwParts) (x : Device) : Device :=
  match x.haw.out with
  | some o =>
    if o.dst = p.src ∧ (o.typ = 0x03 ∨ o.typ = 0x0C) ∧ getU p.payload 0 1 = getU o.bytes 2 1 then
      ((x.hwAnswered p.src).hwDone).hwPump
    else x
  | none => x

/-- ACK (R392, R393). -/
def execAck (dt : Nat) (f : HwFrame) (s : State) : Host.Outcome State Fault Refusal :=
  .next { s with dev := (s.dev.elapse dt).atPrimary 0x0E f Device.hwOnAck }

/-! ### Path results (R400 to R402) -/

/-- Window of a path whose result a secondary formed: an arrival that is not told is taken to stand where the window
has it (log 28). -/
def PathState.placeRemote (s : PathState) (c : PairCtx) (armed : Bool) (g : Grade) (t2 : Int) : PathState :=
  let w := s.work
  let mid : Int := (w.winOpen * 16384 + 4096 * winCoarse c.p s.tune.decim : Nat)
  s.place c armed mid (g != Grade.void) t2

/-- RESULT: what the secondary measured becomes the path's result (R400). Cause 1 or 2 hides whether the other chain
armed and whether a sample clipped: the larger peak tells (R90, R91; DEDUCED, log 28). The lower SNR and ρ of RESULT tell
the run of R124 here too; cause 15 on a path whose template was learned is a discard. -/
def PathState.takeResult (s : PathState) (c : PairCtx) (prx : Nat) (r0 : PathResult) : PairDone :=
  let sweep := s.work.sweeping
  let r := { r0 with cycleSeq := wrapU 16 c.seq }
  let g : Grade := if sweep then .void else r.grade
  let cause := if sweep && r.voidCause == 0 then 14 else r.voidCause
  let both := cause != 1 && cause != 2
  let peak := max r.peakUd r.peakDu
  let clipped := cause == 3 || (!both && decide (2047 ≤ peak))
  let learned := if g != Grade.void then true else if cause = 15 then false else s.tpl.learned
  let tp := if learned && !s.tpl.learned then { s.tpl with learned := true, learnCount := 16, pLearn := s.tune.pDrv }
    else if learned then s.tpl else s.tpl.discard
  let s1 := { s with res := { r with grade := g, voidCause := if g == Grade.void then cause else 0 }, tpl := tp }
  let s2 := s1.gainAfter c.p (both || armsAt s.tune.lastPeak peak) peak clipped
  let q := if sweep then s2.sweepShot c.p peak clipped
    else if g = .valid then (s2.track c.p prx 1, false) else (s2, false)
  let s3 := q.1.placeRemote c both g (if c.p.echo then 2 * r.tUd else r.tUd + r.tDu)
  let low := decide (c.l.snrValid ≤ r.snr) && c.l.rhoLow r.rho 16
  let w := if s.tpl.learned && learned && !sweep then s3.rhoRun low else (s3, false)
  { s := w.1.book c g sweep cause
    relearn := if q.2 then 2 else if (s.tpl.learned && !learned) || w.2 then 1 else 0 }

/-- The path in flight is over on the primary. -/
def Device.remoteDone (s : Device) (i : Nat) (r : PairDone) : Device :=
  let s1 := (s.setPath i fun _ => r.s).pairSeen i
  (if r.relearn = 0 then s1 else s1.journal 0x105 i r.relearn).afterPair

/-- A probe in which a secondary took part is over. -/
def Device.probeAway (s : Device) (i : Nat) : Device := (s.probeLost i).afterPair

/-- RESULT of the path in flight. -/
def Device.onResult (p : HwParts) (x : Device) : Device :=
  let i := getU p.payload 0 1
  if x.answers p 0x04 && x.tr.cyc.inFlight == some i then
    let y := (x.hwAnswered p.src).hwDone
    if y.tr.cyc.probe then y.probeAway i
    else y.remoteDone i ((y.pathAt i).takeResult (y.pairCtx i) (getU p.payload 1 2) (PathResult.ofBytes (p.payload.drop 3)))
  else x

/-- RESULT (R400). -/
def execResult (dt : Nat) (f : HwFrame) (s : State) : Host.Outcome State Fault Refusal :=
  .next { s with dev := (s.dev.elapse dt).atPrimary 0x07 f Device.onResult }

/-- What HALF carries (R392). -/
structure HalfMsg where
  path : Nat
  cause : Nat
  sSum : Nat
  start : Nat
  r1 : Nat
  r2 : Nat
  delay : Nat
  peak : Nat
  snr : Nat
  rho : Nat
  slip : Nat
  pRx : Nat
deriving DecidableEq, Repr

def HalfMsg.ofBytes (b : Bytes) : HalfMsg :=
  ⟨getU b 0 1, getU b 1 1, getU b 2 6, getU b 8 6, getU b 14 6, getU b 20 6, getU b 26 4, getU b 30 2, getU b 32 1,
   getU b 33 2, getU b 35 1, getU b 36 2⟩

/-- t, Δt and speed of sound of a cross-chip pair from T in 2^-8 fine LSB over `den` (R401). -/
def timesCross (corr : Int) (pathLen : Nat) (ud du : Int) (den : Nat) : Times :=
  let tu := scaleCorr corr (rne ud (256 * den))
  let td := scaleCorr corr (rne du (256 * den))
  ⟨tu, td, scaleCorr corr (rne (du - ud) den), sosOf pathLen (tu + td)⟩

/-- A cross-chip path is acquiring also while the secondary's direction has no template (R120, R402). -/
def PathState.acquire (s : PathState) (mate : Bool) : PathState :=
  if mate then s
  else { s with work := { s.work with mateLearned := false }
                health := { s.health with state := if s.health.state = 1 then 2 else s.health.state } }

/-- The cross-chip pair is formed on the primary's timeline (R401, R402). -/
def takeHalf (c : PairCtx) (s : PathState) (h : HalfMsg) (d : Int) (cap : PairCapture) (elec : Bool) (tf tm : Nat) :
    PairDone :=
  let t := s.tune
  let sweep := s.work.sweeping
  let up := c.p.devUp == 0
  -- port_up receives du on chain A with parity 0, port_down receives ud on chain B (R79)
  let onA := if up then !t.parity else t.parity
  let rc := receive c.set c.p s.work.winOpen t.decim t.lastPeak (if onA then cap.chainA else cap.chainB)
  let own := halfPair c s rc (if up then 2 else 1) ((if cap.overflow then [11] else []) ++ if elec then [13] else []) sweep
    (some (!([1, 2, 3].contains h.cause), h.snr, h.rho))
  let start := c.set.stamp (if up then cap.startUp else cap.startDown)
  let delay := (if onA then c.set.delayA else c.set.delayB).getD (gainBand t.gain) 0
  let den := h.r2 - h.r1
  let sec := tSecRx tf tm start d h.sSum h.r1 h.r2 h.delay c.cal.tOfs
  let pri := tPriRx tf tm own.m.sum16 d h.start h.r1 h.r2 delay c.cal.tOfs
  let x := if up then timesCross c.corr c.cal.pathLen sec pri den else timesCross c.corr c.cal.pathLen pri sec den
  let pkU := if up then h.peak else rc.peak
  let pkD := if up then rc.peak else h.peak
  -- without sixteen crossings of both directions there are no times to grade
  let timed := own.m.sum16 != 0 && h.sSum != 0
  let vp := pairVerdicts c.l c.cls c.cal.pathLen pkU pkD x
  let causes := own.causes ++ (if h.cause = 0 then [] else [h.cause]) ++ vp.causes.filter fun k => timed || k == 8
  let secMarg := decide (h.snr < c.l.snrValid) || c.l.rhoLow h.rho 16
  let g : Grade := if causes ≠ [] then .void else if own.marginal || secMarg || vp.marginal then .marginal else .valid
  let cause := lowest causes
  let snr : Int × Bool := lowerSnr own.m.snr ((h.snr : Int), true)
  let diag : Diag := ⟨snr, min own.m.rho (h.rho * 2 ^ 48), min own.m.slip (h.slip * 2 ^ 56), pkU, pkD⟩
  -- only VALID pairs move the template (R130)
  let keep := s.tpl.learned && !own.relearn && g != Grade.valid
  let mate := if h.cause = 15 then false else s.work.mateLearned || h.sSum != 0
  let s1 := { own.s with
    tpl := if keep then s.tpl else own.s.tpl
    mirror := if keep then s.mirror else own.s.mirror
    res := resultOf c g cause x diag
    work := { own.s.work with mateLearned := mate } }
  let other := h.cause != 1 && h.cause != 2
  let peak := max rc.peak h.peak
  let clipped := rc.clipped || h.cause == 3 || (!other && decide (2047 ≤ h.peak))
  let s2 := s1.gainAfter c.p (rc.armed || other) peak clipped
  let q := if sweep then s2.sweepShot c.p peak clipped
    else if g = .valid then (s2.track c.p (rne own.m.span15 1920 + h.pRx) 2, false) else (s2, false)
  let s3 := q.1.place c (rc.armed && other) ((rc.armAt * 16384 : Nat) : Int) (g != Grade.void) (x.tUd + x.tDu)
  let s4 := (s3.book c g sweep cause).acquire (mate && !q.2)
  { s := s4
    relearn := if q.2 then 2 else if own.relearn || (s.work.mateLearned && !mate) then 1 else 0 }

/-- λ − 1 of a cross-chip pair in parts per 10^9 (R407). -/
def lambdaPpb (tf tm r1 r2 : Nat) : Int :=
  fitS 43 32 (openRound 43 ((((tm : Int) - tf) - ((r2 : Int) - r1)) * 1000000000) (r2 - r1))

/-- HALF at the primary. -/
def Device.halfDone (s : Device) (k : Nat) (h : HalfMsg) (cap : PairCapture) (tf tm : Nat) : Device :=
  let c := s.pairCtx h.path
  let n := s.notePorts c.p 0 cap
  let r := takeHalf c (s.pathAt h.path) h (s.sec1 k).d cap n.2 tf tm
  let s1 := (n.1.countPair cap.overflow).setSec k fun x => { x with lambdaPpb := lambdaPpb tf tm h.r1 h.r2 }
  s1.remoteDone h.path r

/-- HALF of the path in flight. -/
def Device.onHalf (own : PairCapture) (tf tm : RawStamp) (p : HwParts) (x : Device) : Device :=
  let h := HalfMsg.ofBytes p.payload
  if x.answers p 0x04 && x.tr.cyc.inFlight == some h.path && decide (h.r1 < h.r2) then
    let y := (x.hwAnswered p.src).hwDone
    if y.tr.cyc.probe then (Device.countPair (y.notePorts (y.pairCtx h.path).p 0 own).1 own.overflow).probeAway h.path
    else y.halfDone p.src h own (y.edge tf) (y.edge tm)
  else x

/-- HALF (R400 to R402): `own` is the primary's capture, `fireEdge` and `markEdge` its stamps t_f and t_m. A frame
whose r2 does not follow its r1 spells no λ and is no answer. -/
def execHalf (dt : Nat) (f : HwFrame) (own : PairCapture) (fireEdge markEdge : RawStamp) (s : State) :
    Host.Outcome State Fault Refusal :=
  .next { s with dev := (s.dev.elapse dt).atPrimary 0x06 f (Device.onHalf own fireEdge markEdge) }

/-- A pair that was fired and gets no result: parity, count, the age of the prediction, and a search that goes on (R79,
R119, R121, R147). -/
def PathState.missed (p : PathState) (c : PairCtx) : PathState :=
  let w := p.work
  let q : PathState := { p with
    tune := { p.tune with parity := !p.tune.parity }
    health := { p.health with pairs := satInc p.health.pairs }
    work := { w with delivered := false, noArm := false, sinceGood := w.sinceGood.map (· + 1) } }
  q.place c false 0 false 0

/-- The path in flight gets no result: it is missing from the cycle (R163, R404). One that the secondary refused was not
fired. -/
def Device.pathMissing (s : Device) (fired : Bool) : Device :=
  match s.tr.cyc.inFlight with
  | some i =>
    if s.tr.cyc.probe then (if fired then s.probeAway i else s.afterPair)
    else if fired then (s.setPath i fun x => x.missed (s.pairCtx i)).afterPair
    else (s.setPath i fun x => { x with work := { x.work with delivered := false, noArm := false } }).afterPair
  | none => s

/-! ### Samples (R403) -/

/-- SAMPLE_RSP's parts: θ and fault of each channel number in use. -/
def sampleParts (used : List Nat) (b : Bytes) : List (Int × Nat) :=
  (List.range 4).map fun x =>
    match used.findIdx? (· == x) with
    | some j => (getS b (5 * j) 4, getU b (5 * j + 4) 1)
    | none => (0, 7)

/-- Channels in use of secondary k, as it gave them at synchronisation. -/
def Device.usedChans (s : Device) (k : Nat) : List Nat :=
  (List.range 4).filter fun x => wiringRole (s.sec1 k).wiring x != 0

/-- The part of secondary k is in, or will not come. -/
def Device.sampleIn (s : Device) (k : Nat) (part : Option (List (Int × Nat))) : Device :=
  let t := s.temp
  Device.trySample { s with temp := { t with
    awaiting := t.awaiting.filter (· != k)
    parts := match part with
      | some l => t.parts ++ [(k, l)]
      | none => t.parts } }

/-- SAMPLE_RSP of a secondary whose part is awaited. -/
def Device.onSampleRsp (p : HwParts) (x : Device) : Device :=
  let l := x.usedChans p.src
  if x.temp.running && x.temp.awaiting.contains p.src && p.payload.length == 5 * l.length + 4 then
    (x.hwAnswered p.src).sampleIn p.src (some (sampleParts l p.payload))
  else x

/-- SAMPLE_RSP (R403). -/
def execSampleRsp (dt : Nat) (f : HwFrame) (s : State) : Host.Outcome State Fault Refusal :=
  .next { s with dev := (s.dev.elapse dt).atPrimary 0x09 f Device.onSampleRsp }

/-! ### REFUSE (R404) -/

/-- REFUSE of secondary k with its cause: the path or the channels are missing, and cause 2 asks for a new
synchronisation. -/
def Device.refused (s : Device) (k cause : Nat) : Device :=
  let s1 := (s.hwAnswered k).setSec k fun x => { x with
    refusals := satInc x.refusals
    state := if cause = 2 ∧ x.state = 1 then 2 else x.state
    resync := x.resync || (cause == 2 && x.state != 3) }
  let fire := match s.haw.out with
    | some o => o.dst == k && o.typ == 0x04
    | none => false
  if fire then s1.hwDone.pathMissing false
  else if s1.temp.running && s1.temp.awaiting.contains k then (s1.sampleIn k none).hwGap
  else s1

/-- REFUSE (R404). -/
def execRefuse (dt : Nat) (f : HwFrame) (s : State) : Host.Outcome State Fault Refusal :=
  .next { s with dev := (s.dev.elapse dt).atPrimary 0x0D f (fun p x => x.refused p.src (getU p.payload 0 1)) }

/-! ### Loop calibration (R397, R398) -/

/-- The one-way delay from 64 measures. -/
def loopDelay (rhos : List Int) : Int := rne (sumInt rhos * 256) 128

/-- Σ (ρ/2 − d)² in 2^-16 fine LSB². -/
def loopSquares (rhos : List Int) (d : Int) : Nat := (sumInt (rhos.map fun r => (128 * r - d) * (128 * r - d))).toNat

/-- A run is accepted: d within 0 to 50 ns, RMS deviation within 25 ps. 50 ns are 10 066 329.6 and 25 ps are 5033.1648
in 2^-8 fine LSB. -/
def loopOk (rhos : List Int) : Bool :=
  let d := loopDelay rhos
  decide (0 ≤ d ∧ 10 * d ≤ 100663296 ∧ loopSquares rhos d * 10 ^ 8 ≤ 64 * 50331648 ^ 2)

/-- RMS deviation in ps; its rounding is open (log 6). -/
def loopRms (rhos : List Int) : Nat :=
  let n := loopSquares rhos (loopDelay rhos) * 10 ^ 12
  let q := 64 * 201326592 ^ 2
  let r := isqrt (n / q)
  if r * r * q = n then r else if Config.roundUp 42 n q then r + 1 else r

/-- A run of secondary k ends. -/
def Device.loopEnd (s : Device) (k : Nat) (rhos : List Int) : Device :=
  let s0 := Device.stepRan { s with haw := { s.haw with loop := none } } 2
  if loopOk rhos then
    let s1 := s0.setSec k fun x => { x with d := loopDelay rhos, hasD := true, loopRejects := 0, loopFault := false }
    s1.degrade fun g => { g with loopcal := s1.haw.secs.any (·.loopFault) }
  else
    let n := (s.sec1 k).loopRejects + 1
    let was := (s.sec1 k).loopFault
    let s1 := s0.setSec k fun x => { x with loopRejects := n, loopFault := was || decide (3 ≤ n) }
    if 3 ≤ n ∧ was = false then
      (s1.degrade fun g => { g with loopcal := true }).journal 0x605 k (loopRms rhos)
    else s1

/-- One exchange of a run: t1 and t4 are the primary's stamps. -/
def Device.loopTake (s : Device) (r : LoopRun) (turn : Int) (t1 t4 : Nat) : Device :=
  let rhos := match r.lastRound with
    | some x => r.rhos ++ [x - turn]
    | none => r.rhos
  let n := r.exchanges + 1
  if n = 65 then s.loopEnd r.dst rhos
  else
    let s1 := { s with haw := { s.haw with
      loop := some { r with bytes := [], exchanges := n, lastRound := some ((t4 : Int) - t1), rhos := rhos } } }
    if n % 4 = 0 then s1.stepRan 2 else s1

/-- LOOPCAL_RSP of the run. -/
def Device.onLoopRsp (t1 t4 : RawStamp) (p : HwParts) (x : Device) : Device :=
  match x.haw.loop with
  | some r =>
    if x.answers p 0x0A && r.dst == p.src then
      (((x.hwAnswered p.src).hwDone).loopTake r (getS p.payload 0 4) (x.edge t1) (x.edge t4)).hwPump
    else x
  | none => x

/-- LOOPCAL_RSP (R397): `requestEdge` is the primary's stamp t1 of its own timing edge. -/
def execLoopcalRsp (dt : Nat) (f : HwFrame) (requestEdge : RawStamp) (s : State) : Host.Outcome State Fault Refusal :=
  .next { s with dev := (s.dev.elapse dt).atPrimary 0x0B f (Device.onLoopRsp requestEdge f.stamp) }

/-- A loop calibration falls due every 2 097 152 ticks, and at 2 K of on-die temperature (R398). -/
def Device.loopDueNow (s : Device) (dieTemp : Int) : Bool :=
  decide (s.haw.loopTick + 2097152 ≤ s.land.tick) || decide (512 ≤ (dieTemp - s.haw.loopTemp).natAbs)

/-- LOOPCAL_RUN (R398): a run for each secondary with a path across devices; a Hawser that is not ON makes none (R26). -/
def execLoopcalRun (dt : Nat) (dieTemp : Int) (s : State) : Host.Outcome State Fault Refusal :=
  let d := s.dev.elapse dt
  .next { s with dev :=
    if d.up && d.haw.role == 1 && d.loopDueNow dieTemp then
      if (!d.on .hawser) then { d with haw := { d.haw with loopTick := d.land.tick, loopTemp := dieTemp } } else
      let m := secMask fun k => (d.sec1 k).state == 1 && d.hasCross k
      Device.hwGap { d with haw := { d.haw with loopDue := m, loopTick := d.land.tick, loopTemp := dieTemp } }
    else d }

/-! ### TIME again (R395) -/

/-- HAWSER_TIME_BROADCAST (R395): every 2 831 155 200 ticks; a Hawser that is not ON makes none (R26). -/
def execHawserTimeBroadcast (dt : Nat) (s : State) : Host.Outcome State Fault Refusal :=
  let d := s.dev.elapse dt
  .next { s with dev :=
    if d.up && d.haw.role == 1 && decide (d.haw.lastBroadcast + tpd ≤ d.land.tick) then
      if (d.on .hawser) then d.broadcastTime else { d with haw := { d.haw with lastBroadcast := d.land.tick } }
    else d }

/-! ### Answers that do not come (R393, R405) -/

/-- Secondary k does not answer SYNC_REQ on both tries. -/
def Device.syncFailed (s : Device) (o : Outstanding) : Device :=
  let s1 := s.hwDone.setSec o.dst fun x => { x with
    state := if x.state = 1 then 2 else x.state, resync := false, double := decide (2 ≤ o.bad) }
  s1.syncStep

/-- Secondary k does not acknowledge CFG or answer LOOPCAL on both tries: it is to be synchronised again (log 28). -/
def Device.exchangeFailed (s : Device) (o : Outstanding) : Device :=
  let s1 := (s.hwDone.setSec o.dst fun x => { x with
    state := if x.state = 1 then 2 else x.state, resync := x.state != 3 }).hwMissed o.dst
  let s2 := { s1 with haw := { s1.haw with
    cfgParts := s1.haw.cfgParts.filter fun p => p.1 != o.dst
    loop := if (s1.haw.loop.map LoopRun.dst) == some o.dst then none else s1.haw.loop } }
  s2.hwGap

/-- FIRE has no answer in time: the path is missing, and the secondary has missed (R405). -/
def Device.fireFailed (s : Device) (k : Nat) : Device := ((s.hwDone).hwMissed k).pathMissing true

/-- No part of the sample comes any more: each missing one misses (R403, R405). -/
def Device.sampleFailed (s : Device) : Device :=
  let ks := s.temp.awaiting
  Device.trySample { ks.foldl Device.hwMissed s with
    temp := { (ks.foldl Device.hwMissed s).temp with awaiting := [] } }

/-- HAWSER_ANSWER_TIMEOUT (R393): the request is sent once more, or its part is missing. -/
def Device.hwTimeout (s : Device) : Device :=
  match s.haw.out with
  | some o =>
    if o.typ = 0x04 then s.fireFailed o.dst
    else if o.tries < 2 then s.hwAgain o
    else if o.typ = 0x01 then s.syncFailed o
    else s.exchangeFailed o
  | none =>
    match s.tr.cyc.inFlight with
    | some i =>
      match ((s.flightKey i).1.getD {}).remotes with
      | k :: _ => s.fireFailed k
      | [] => if s.temp.running && !s.temp.awaiting.isEmpty then s.sampleFailed else s
    | none => if s.temp.running && !s.temp.awaiting.isEmpty then s.sampleFailed else s

/-- HAWSER_ANSWER_TIMEOUT (R393). -/
def execHawserAnswerTimeout (dt : Nat) (s : State) : Host.Outcome State Fault Refusal :=
  let d := s.dev.elapse dt
  .next { s with dev := if d.haw.role = 1 then d.hwTimeout else d }

end Sys2Proof.Machine
end

