-- ==== Sys2Proof/Machine/Increment.lean ====
section
/-! DEFINITION. The increment of a cycle and the closing increment of a gap, after what the calendar lane has at their
tick (R12, R169, R170, R223). -/

namespace Sys2Proof.Machine

/-- ADMIT_INCREMENT (R169): a cycle has ended and its flow is taken. -/
def execAdmitIncrement (dt : Nat) (s : State) : Host.Outcome State Fault Refusal :=
  let d := s.dev.elapse dt
  .next { s with dev := if d.admitDue then d.boundaryFirst.endCycle else d }

/-- GAP_HOLD_EXPIRY (R170). -/
def execGapHoldExpiry (dt : Nat) (s : State) : Host.Outcome State Fault Refusal :=
  let d := (s.dev.elapse dt).woken 1
  .next { s with dev := if d.gapDue then d.boundaryFirst.decideGap else d }

end Sys2Proof.Machine
end

