-- ==== Sys2Proof/Machine/Optical.lean ====
section
/-! DEFINITION. The optical port: frames, answers, rate (R445, R451 to R453). -/

namespace Sys2Proof.Machine

/-! ## Frames (R452) -/

structure OptFrame where
  kind : Nat
  tag : Nat
  payload : Bytes
deriving DecidableEq, Repr

/-- A frame whose length and CRC are good. -/
def optParse (b : Bytes) : Option OptFrame :=
  let n := getU b 2 2
  if b.length = 7 + n ∧ getU b 0 1 = 0xC3 ∧ n ≤ 16400 ∧ getU b (5 + n) 2 = hwCrc ((b.drop 1).take (4 + n)) then
    some ⟨getU b 1 1, getU b 4 1, (b.drop 5).take n⟩
  else none

def optBytes (f : OptFrame) : Bytes :=
  let b := uB 1 f.kind ++ uB 2 f.payload.length ++ uB 1 f.tag ++ f.payload
  0xC3#8 :: b ++ uB 2 (hwCrc b)

/-! ## Answers (R453) -/

/-- Oscillator cycles that an answer of `n` bytes takes at a rate: ten bits a character (R451). -/
def optCycles (baud n : Nat) : Nat := cdiv (n * 327680) ([2400, 9600, 19200].getD baud 2400)

/-- An answer is sent; it begins at once (DESIGN CHOICE, log 27). -/
def Device.optAnswer (s : Device) (f : OptFrame) : Device :=
  let b := optBytes f
  { s with opt := { s.opt with lastAnswer := b, answerEnd := s.land.osc + optCycles s.opt.baud b.length } }

/-- The previous answer is still under way (R453); with LFX stopped its end cannot be told. -/
def Device.optBusy (s : Device) : Bool := s.land.lfxRunning && decide (s.land.osc < s.opt.answerEnd)

/-- VERDICT: cause, and the retry time in milliseconds. -/
def Device.optVerdict (s : Device) (tag cause retry : Nat) : Device := s.optAnswer ⟨0x81, tag, uB 1 cause ++ uB 2 retry⟩

/-- DATA: a piece of an object, or the reason for which there is none. -/
def Device.optData (s : Device) (tag : Nat) (q : Bytes) : Device :=
  let obj := getU q 0 2
  let off := getU q 2 3
  let n := getU q 5 2
  let p := if q.length ≠ 7 ∨ n = 0 ∨ 1024 < n then Piece.refused 3 else (s.loadShadow 3).readPiece false obj off n
  let h := uB 2 obj ++ uB 3 off
  s.optAnswer ⟨0x82, tag, match p with
    | .piece b => h ++ uB 2 b.length ++ b
    | .refused r => h ++ uB 2 0 ++ uB 1 r⟩

def Device.optInfo (s : Device) (tag : Nat) : Device :=
  s.optAnswer ⟨0x83, tag, uB 8 (s.sec.devEui.getD 0) ++ uB 1 s.sec.lc.code ++ uB 1 s.opt.baud⟩

/-- A character has arrived: the port is active (R451). -/
def Device.optSeen (s : Device) : Device := { s with opt := { s.opt with active := true, lastChar := s.land.osc } }

/-- The port listens (R34, R451). -/
def Device.optLive (s : Device) : Bool := s.up && s.awake && s.on .optical

/-- A frame of a kind that passes its CRC; a bad one is dropped without response (R451), and so is one that comes before
the previous answer has ended (R453). -/
def Device.optReceive (s : Device) (kind : Nat) (b : Bytes) (h : OptFrame → Device → Device) : Device :=
  if !s.optLive then s
  else if s.optBusy then s.optSeen
  else
    match optParse b with
    | some f => if f.kind = kind then h f s.optSeen else s.optSeen
    | none => s.optSeen

/-! ## The commands -/

/-- A RECORD frame: decided, or refused busy with the milliseconds to completion (R441, R445). -/
def Device.optRecord (s : Device) (busy : Option Nat) (f : OptFrame) : Device :=
  match busy with
  | some ms => (s.verdict .optical (recOf f.payload) 14).optVerdict f.tag 14 (min ms 0xFFFE)
  | none =>
    let r := s.decideRec .optical f.payload
    r.2.optVerdict f.tag r.1 0xFFFF

/-- A record that finds the port in STOPPING: refused as its class is, and counted in counter 8 alone (R26; the cause and
the retry time are the model's choice, log 27). -/
def Device.optStopping (s : Device) (b : Bytes) : Device :=
  match optParse b with
  | some f =>
    if f.kind = 0x01 ∧ s.fn.optical.st = .stopping then
      let s1 := s.verdict .optical (recOf f.payload) 14
      Device.optVerdict (Device.refuse { s1 with refusals := s.refusals } 8) f.tag 14 0xFFFF
    else s.refuse 8
  | none => s

/-- OPT_RECORD (R441, R453): `busyMs` is the time to completion of a record still undecided. -/
def execOptRecord (dt : Nat) (frame : Bytes) (busyMs : Option Nat) (s : State) : Host.Outcome State Fault Refusal :=
  let d := s.dev.elapse dt
  .next { s with dev :=
    if d.up && d.awake && !d.on .optical then d.optStopping frame
    else d.optReceive 0x01 frame fun f x => x.optRecord busyMs f }

/-- OPT_READ (R453, R524). -/
def execOptRead (dt : Nat) (frame : Bytes) (s : State) : Host.Outcome State Fault Refusal :=
  .next { s with dev := (s.dev.elapse dt).optReceive 0x02 frame fun f x => x.optData f.tag f.payload }

/-- A BAUD frame: INFO at the old rate, and the new rate from the next character; another code keeps the rate. -/
def Device.optBaud (s : Device) (f : OptFrame) : Device :=
  let n := getU f.payload 0 1
  let s1 := Device.optInfo (if f.payload.length = 1 ∧ n ≤ 2 then { s with opt := { s.opt with baud := n } } else s) f.tag
  { s1 with opt := { s1.opt with answerEnd := s1.land.osc + optCycles s.opt.baud s1.opt.lastAnswer.length } }

/-- OPT_BAUD (R453). -/
def execOptBaud (dt : Nat) (frame : Bytes) (s : State) : Host.Outcome State Fault Refusal :=
  .next { s with dev := (s.dev.elapse dt).optReceive 0x03 frame fun f x => x.optBaud f }

/-- OPT_HELLO (R453). -/
def execOptHello (dt : Nat) (frame : Bytes) (s : State) : Host.Outcome State Fault Refusal :=
  .next { s with dev := (s.dev.elapse dt).optReceive 0x04 frame fun f x => x.optInfo f.tag }

/-- OPT_IDLE_TIMEOUT (R451): 5 s without a character. -/
def execOptIdleTimeout (dt : Nat) (s : State) : Host.Outcome State Fault Refusal :=
  let d := s.dev.elapse dt
  .next { s with dev :=
    if d.opt.active && decide (d.opt.lastChar + 163840 ≤ d.land.osc) then
      { d with opt := { d.opt with baud := 0, active := false } }
    else d }

/-- A gap of 20 ms, 656 oscillator cycles, ends here: the last character came before it. -/
def Device.optGap (s : Device) : Device :=
  { s with opt := { s.opt with active := true, lastChar := max s.opt.lastChar (s.land.osc - 656) } }

/-- OPT_FRAME_GAP (R451): what had arrived of a frame is discarded; its characters had kept the port active. -/
def execOptFrameGap (dt : Nat) (s : State) : Host.Outcome State Fault Refusal :=
  let d := s.dev.elapse dt
  .next { s with dev := if d.optLive then d.optGap else d }

end Sys2Proof.Machine
end

