-- ==== Sys2Proof/Machine/SelfTest.lean ====
section
/-! DEFINITION. Self-test: LEGAL_HOLD, failed blocks, the HFX count, periodic rounds (R512 to R519). -/

namespace Sys2Proof.Machine

/-! ## LEGAL_HOLD (R518) -/

/-- LEGAL_HOLD is entered with a cause, bit `c` of `hold_cause`; `arg` is the block, or the item number of R542. -/
def Device.legalEnter (s : Device) (c arg : Nat) : Device :=
  let t := s.st
  let t1 := match c with
    | 0 => { t with holdKat := true }
    | 1 => { t with holdRom := true }
    | 2 => { t with holdEcc := true }
    | _ => { t with holdVote := true }
  if t1 = t then s
  else
    let s1 := ({ s with st := t1 }.recond).journal 0xA01 t1.holdCause arg
    if t.legalHold then s1 else s1.tamper 23

/-- Causes 1 to 3 are cleared by power-up tests that pass (R518). -/
def Device.legalClear (s : Device) : Device :=
  let t := s.st
  let t1 := { t with holdKat := false, holdRom := false, holdEcc := false }
  let s1 := { s with st := t1 }
  if t.legalHold && !t1.legalHold then (s1.recond).journal 0xA02 t.holdCause 0 else s1

/-! ## Blocks (R514, R517) -/

/-- The switched function that a block is. -/
def blockFunc (b : Nat) : Option Func :=
  match b with
  | 4 => some .transit
  | 5 => some .converter
  | 6 => some .ferryman
  | 7 => some .hawser
  | 8 => some .display
  | _ => none

/-- Cause bit of LEGAL_HOLD for a block; none where the block is retired or isolated. -/
def blockHold (b : Nat) : Option Nat :=
  match b with
  | 0 => some 1
  | 1 => some 2
  | 2 => some 0
  | _ => none

/-- A retired function goes to OFF through STOPPING and stays there (R517); the Ferryman's block carries both radios. -/
def Device.retireFunc (s : Device) (f : Func) : Device :=
  Device.disable { s with fn := s.fn.set f { s.fn.get f with retired := true } } f

/-- The failure response of a block that failed twice. -/
def Device.blockFailed (s : Device) (b misr : Nat) : Device :=
  let s1 := { s with st := { s.st with failed := s.st.failed ||| 2 ^ b } }
  let s2 := (s1.degrade fun d => { d with block := true }).journal 0xA03 b misr
  match blockHold b with
  | some c => s2.legalEnter c b
  | none =>
    let s3 := s2.journal 0xA04 b s2.sec.lc.code
    match blockFunc b with
    | some f =>
      let s4 := s3.retireFunc f
      if f = .ferryman then s4.retireFunc .wmbus else s4
    | none => Device.reconcile { s3 with st := { s3.st with secIsolated := true } }

/-- The MISR of R514 takes one response word: its register moves on by the polynomial x^32 + x^22 + x^2 + x + 1 (log 29). -/
def misrStep (m r : Nat) : Nat :=
  let v := 2 * (m % 2 ^ 32)
  ((if 2 ^ 32 ≤ v then v - 2 ^ 32 ^^^ 0x00400007 else v) ^^^ r) % 2 ^ 32

/-- What a test leaves in the MISR, `m` before its responses; for the ROM, whose test is a CRC-32, that word itself. -/
def compact (b m : Nat) (responses : List Nat) : Nat :=
  if b = 0 then responses.headD 0 else responses.foldl misrStep m

/-- The result of a block's test: its MISR is kept, a first failure counts, a second has its response. -/
def Device.blockResult (s : Device) (b : Nat) (first second : Bool) (misr : Nat) : Device :=
  let v := wrapU 32 misr
  let s1 := { s with st := { s.st with
    misr := setAt s.st.misr b fun _ => v
    failCount := if first then s.st.failCount else satInc s.st.failCount } }
  if first || second then s1 else s1.blockFailed b v

/-! ## The HFX count (R513) -/

/-- `hfx_ppm` in 0.1 ppm; its rounding is open (log 6), and a deviation beyond the field has no stated content. -/
def hfxPpm (n : Nat) : Int := fitS 44 16 (openRound 44 (((n : Int) - 187500) * 10000000) 187500)

/-- A count over 256 LFX cycles; none while LFX does not run. -/
def Device.hfxCheck (s : Device) (count : Option Nat) : Device :=
  match count with
  | none => s
  | some n =>
    let bad := decide (75 < 2 * ((n : Int) - 187500).natAbs)
    let was := s.st.clockFault
    let s1 := { s with st := { s.st with hfxPpm := hfxPpm n, clockFault := bad } }
    let s2 := if bad = was then s1 else s1.degrade fun d => { d with clock := bad }
    if bad then s2.journal 0xA05 (bitsOf 32 (hfxPpm n)) 0 else s2

/-! ## Conditions (R512) -/

/-- VCORE within 0.90 V ± 5 %. -/
def vcoreOk (mv : Nat) : Bool := decide (855 ≤ mv ∧ mv ≤ 945)

/-- A step finds VCORE outside its band and is deferred; the 16th in a row raises the degraded flag. -/
def Device.deferStep (s : Device) : Device :=
  let n := s.st.deferRun + 1
  let s1 := { s with st := { s.st with deferRun := n, condDefer := satInc s.st.condDefer } }
  if n = 16 then (s1.degrade fun d => { d with cond := true }).journal 0xA06 s1.st.vcoreMv s1.st.condDefer else s1

/-- A step finds VCORE in its band (log 29: that ends this cause of the degraded flag). -/
def Device.condPass (s : Device) : Device :=
  let s1 := { s with st := { s.st with deferRun := 0 } }
  if s.power.deg.cond then s1.degrade fun d => { d with cond := false } else s1

/-! ## The periodic round (R515, R516) -/

/-- The unit of R508 on which a block is tested. -/
def blockUnit (b : Nat) : Nat :=
  match b with
  | 4 => 0
  | 5 => 1
  | 7 => 2
  | 1 => 3
  | _ => 5

/-- A step of unit `u` may run before the next cycle: in a gap of 400 µs or more, or in its reserved slot (R508). -/
def Device.gapFor (s : Device) (u : Nat) : Bool := s.gapOf 14 || s.store.due.getD u false

/-- The block is idle, so that it can be tested: no foreground work of its own waits or goes on (R507). -/
def Device.blockIdle (s : Device) (b : Nat) : Bool :=
  match b with
  | 2 => !s.fired 0
  | 3 | 9 => !s.noteUndecided
  | 4 => s.tr.cyc.inFlight.isNone && !s.tr.cyc.running && s.haw.job.isNone && s.gapFor 0
  | 5 => !s.temp.running && !s.haw.sampling
  | 6 => s.radio.exch.isNone && s.radio.reasm.isNone && !s.radio.joinOpen && !s.radio.children.any (·.windowOpen)
  | 7 => s.haw.out.isNone && s.haw.loop.isNone && s.haw.job.isNone && s.gapFor 2
  | 8 => s.disp.regions.all fun r => r.run.isNone && r.next.isNone
  | _ => true

/-- After its test a block is reinitialised: a switchable one returns to its reset state (R515). -/
def Device.afterTest (s : Device) (b : Nat) : Device :=
  match blockFunc b with
  | some f => if s.on f then s.resetFunc f else s
  | none => s

/-- The MISR of a block whose test may have begun in an earlier step (R516). -/
def SelfTest.misrAt (t : SelfTest) (b : Nat) : Nat := (t.runs.getD b none).getD (Config.misrStart b)

/-- The last step of a block's test in a round. A test that fails is made once more at once, from its start, and the
responses are those of the repeat (R514). -/
def Device.testEnds (s : Device) (b : Nat) (first second : Bool) (responses : List Nat) : Device :=
  let left := s.st.roundLeft.filter (· != b)
  let m := compact b (if first then s.st.misrAt b else Config.misrStart b) responses
  let s1 := ((s.afterTest b).blockResult b first second m)
  { s1 with st := { s1.st with
    runs := setAt s1.st.runs b fun _ => none
    roundLeft := left, rounds := if left.isEmpty then satInc s1.st.rounds else s1.st.rounds } }

/-- One step of a test, with VCORE measured before it; the MISR is carried to the next (R512, R516). -/
def Device.testStep (s : Device) (b vcoreMv : Nat) (last first second : Bool) (responses : List Nat) : Device :=
  let s1 := { s with st := { s.st with vcoreMv := vcoreMv } }
  if vcoreOk vcoreMv then
    let s2 := (s1.condPass).stepRan (blockUnit b)
    if last then s2.testEnds b first second responses
    else { s2 with st := { s2.st with runs := setAt s2.st.runs b fun _ => some (compact b (s2.st.misrAt b) responses) } }
  else s1.deferStep

/-- SELFTEST_STEP (R514): whether the compare with the ROM's signature passes is told, since the spec gives no signature. -/
def execSelftestStep (dt : Nat) (block vcoreMv : Nat) (last first second : Bool) (responses : List Nat) (s : State) :
    Host.Outcome State Fault Refusal :=
  let d := s.dev.elapse dt
  .next { s with dev :=
    if d.up && d.st.roundLeft.contains block && d.blockIdle block then d.testStep block vcoreMv last first second responses
    else d }

/-- A round of blocks 1 to 9 begins, and slot 10 is armed for the next. -/
def Device.beginRound (s : Device) (count : Option Nat) : Device :=
  let s1 := s.arm 10 (s.land.tick + tpd) true
  Device.hfxCheck { s1 with st := { s1.st with roundLeft := [1, 2, 3, 4, 5, 6, 7, 8, 9], runs := List.replicate 10 none } } count

/-- SELFTEST_ROUND (R516): slot 10 has fired. -/
def execSelftestRound (dt : Nat) (hfxCount : Option Nat) (s : State) : Host.Outcome State Fault Refusal :=
  let d := (s.dev.elapse dt).woken 1
  .next { s with dev := if d.up && d.fired 10 then d.beginRound hfxCount else d }

end Sys2Proof.Machine
end

