-- ==== Sys2Proof/Machine/Store.lean ====
section
/-! DEFINITION. The Store: scrub, the flash rings and their pool, background steps that become due (R493 to R509). -/

namespace Sys2Proof.Machine

/-! ## Single-copy objects that are lost (R495) -/

/-- Objects of class W2 that are held in one copy take the value that their wipe gives. -/
def Device.lostLegal (s : Device) (obj : Nat) : Device :=
  let l := s.toll.led
  let put := fun (v : Ledgers) => { s with toll := { s.toll with led := v } }
  match obj with
  | 0x0223 => { s with toll := { s.toll with ft := s.toll.ft.wipe } }
  | 0x0230 | 0x0231 | 0x0232 => put { l with baseNet := 0, baseHwm := 0, distNet := 0, distHwm := 0, baseRem := 0, distRem := 0 }
  | 0x0233 => put { l with gasInfo := 0, gasInfoRem := 0 }
  | 0x0240 => { s with land := { s.land with plsMirror := [0, 0, 0, 0] } }
  | 0x0300 => { s with bill := { s.bill with snaps := [] } }
  | 0x0301 =>
    Device.reseed { s with
      bill := { s.bill with
        st := { s.bill.st with seqLast := 0, tStart := s.land.tick, schedLast := 0, daySchedLast := 0, dayCount := 0 }
        staged := s.bill.staged.filter hourStaged }
      store := { s.store with dayPos := 0 } }
  | 0x0321 => { s with bill := { s.bill with max := {} } }
  | 0x0E61 => { s with cap := s.cap.wipe }
  | 0x0E91 => { s with land := { s.land with cntMirror := {} } }
  | _ => s

/-- Configuration, keys and other objects that hold records are absent (R495). -/
def Device.lostConfig (s : Device) (obj : Nat) : Device :=
  match obj with
  | 0x0310 => s.builtInCalendar
  | 0x0311 => { s with bill := { s.bill with calPassive := none, deferred := false } }
  | 0x0E22 => { s with straps := { s.straps with sealCodes := 0 } }
  | 0x0E30 =>
    let s1 := Device.tablesGone { s with conf := { s.conf with calibStored := [], calib := {} } }
    if s1.up && !s1.conf.safePreset then s1.calibTest.applyFunctions.recond else s1
  | 0x0E31 => { s with conf := { s.conf with expertStored := [] } }
  | 0x0E32 => { s with radio := { s.radio with cfg := [], netId := 0, upNetId := 0 } }
  | 0xFF03 => { s with sec := { s.sec with keys := { s.sec.keys with maker := none, auth := none, oper0 := none, oper1 := none } } }
  | 0xFF04 => { s with sec := { s.sec with hashes := [[], [], [], [], []] } }
  | 0xFF06 => { s with bill := { s.bill with staged := [] } }
  | _ => s

/-- Learned data is reinitialised (R112, R433, R495). -/
def Device.lostLearned (s : Device) (obj : Nat) : Device :=
  match obj with
  | 0x0E20 | 0x0E21 => { s with straps := { s.straps with lastCodes := s.straps.codes, lastBad := s.straps.badMask } }
  | 0x0E50 => { s with tr := { s.tr with tb := { s.tr.tb with
    hfxCorr := 0, ageDays := 0, lossCount := 0, tdcOvf := 0, failCount := 0 } } }
  | 0x0E51 => { s with tr := { s.tr with tdc := { s.tr.tdc with act := {}, failRun := 0, fault := false, calCount := 0 } } }
  | 0x0E52 | 0x0E53 =>
    { s with tr := { s.tr with paths := (s.tr.paths.zipIdx).map fun (x : PathState × Nat) => s.relearn x.2 x.1 } }
  | 0x0E57 => { s with tr := { s.tr with cs := s.tr.cs.default s.conf.cls } }
  | 0x0EA0 =>
    Device.disarm { s with radio := { s.radio with
      link := 0, ownShort := 0xFFFF, parentEui := 0, upH := 0, upBitmap := 0, upSeen := false, tContact := 0, nextCh := 0 } } 6
  | 0x0EA2 => { s with radio := { s.radio with children := [] } }
  | 0x0EA3 => { s with radio := { s.radio with queue := List.replicate 24 {}, reasm := none } }
  | 0x0EB0 =>
    { s with haw := { s.haw with
      expected := 0, expectedKnown := false, crcFail := 0, secs := s.haw.secs.map Secondary.wipe1 } }
  | 0x0EC1 => { s with disp := { s.disp with image := List.replicate 112 (12, 12), fullNext := true } }
  | _ => s

/-- Telemetry takes 0 (R458). -/
def Device.lostTelemetry (s : Device) (obj : Nat) : Device :=
  match obj with
  | 0x0350 => { s with jnl := {} }
  | 0x0351 => { s with bill := { s.bill with logLost := 0 } }
  | 0x0E40 => { s with refusals := List.replicate 16 0 }
  | 0x0E55 => { s with tr := { s.tr with paths := s.tr.paths.map PathState.wipe1 } }
  | 0x0E58 => { s with tr := { s.tr with ext := s.tr.ext.wipe } }
  | 0x0E60 => { s with flow := { s.flow with fallbackCycles := 0, nosetCycles := 0, overCycles := 0 } }
  | 0x0E62 => { s with pulse := s.pulse.wipe1 }
  | 0x0E71 => { s with temp := { s.temp with units := s.temp.units.map TempUnit.wipe1 } }
  | 0x0EA1 => { s with radio := { s.radio with counters := List.replicate 18 0 } }
  | 0x0EC0 => { s with disp := { s.disp with updates := 0, replaced := 0, tempClamped := 0 } }
  | 0x0ED0 => { s with sec := { s.sec with sealTick := 0, serviceCount := 0 } }
  | 0x0ED1 => { s with sec := { s.sec with verdicts := [], verdictSeq := 0 } }
  | 0x0EE0 => { s with power := { s.power with wakes := 0, edgeLost := 0, holdCommits := 0, coldStarts := 0 } }
  | 0x0EF0 => { s with store := s.store.wipe1 }
  | 0x0EF1 => { s with st := { s.st with rounds := 0, failCount := 0, condDefer := 0 } }
  | _ => s

/-- A double-bit error in a single-copy object (R495). An object that no rule holds in FRAM keeps its value. -/
def Device.framLost (s : Device) (word obj : Nat) : Device :=
  let s1 := (((s.lostLegal obj).lostConfig obj).lostLearned obj).lostTelemetry obj
  let s2 := { s1 with store := { s1.store with framUncorrectable := satInc s1.store.framUncorrectable } }
  (s2.degrade fun d => { d with fram := true }).journal 0xA07 word obj

/-! ## Scrub (R493 to R497) -/

/-- What a read gives after its correction; nothing with a double-bit error. -/
def readValue (x : WordRead) : Option Nat :=
  match x with
  | .good v | .single v => some v
  | .double => none

/-- The majority of three copies (R494); none where no two agree, or two carry double-bit errors (R496). -/
def vote (a b c : Option Nat) : Option Nat :=
  if a.isSome ∧ (a = b ∨ a = c) then a else if b = c then b else none

/-- A single-bit error is corrected and counted, and the word rewritten within the access (R493). -/
def Device.corrects (s : Device) (w : WordAt) : Device :=
  match w.read with
  | .single _ => { s with store := { s.store with framCorrected := satInc s.store.framCorrected } }
  | _ => s

/-- The step reads a word of a single-copy object. -/
def Device.readSingle (s : Device) (obj : Nat) (w : WordAt) : Device :=
  match w.read with
  | .double => s.framLost w.word obj
  | _ => s.corrects w

/-- A copy that disagrees with the majority is rewritten from it (R494). -/
def Device.repairCopy (s : Device) (v copy : Nat) (w : WordAt) : Device :=
  if readValue w.read = some v then s
  else Device.journal { s with store := { s.store with copyRepairs := satInc s.store.copyRepairs } } 0xA08 w.word copy

/-- The step reads a word in its three copies and compares them; a corrupt one stands as it is (R494, R496). -/
def Device.readTriple (s : Device) (obj : Nat) (a b c : WordAt) : Device :=
  let s1 := ((s.corrects a).corrects b).corrects c
  match vote (readValue a.read) (readValue b.read) (readValue c.read) with
  | some v => ((s1.repairCopy v 0 a).repairCopy v 1 b).repairCopy v 2 c
  | none => s1.legalEnter 3 obj

/-- A word that the step need not rewrite. -/
def wordClean (w : WordAt) : Bool :=
  match w.read with
  | .good _ => true
  | _ => false

/-- Words are read until one is rewritten, which ends the step (R497); with them their number. -/
def singlesGo : List (Nat × WordAt) → Device → Nat → Device × Nat
  | [], s, n => (s, n)
  | e :: r, s, n => if wordClean e.2 then singlesGo r s (n + 1) else (s.readSingle e.1 e.2, n + 1)

/-- The same for words in three copies. -/
def triplesGo : List (Nat × WordAt × WordAt × WordAt) → Device → Nat → Device × Nat
  | [], s, n => (s, n)
  | (o, a, b, c) :: r, s, n =>
    if wordClean a && wordClean b && wordClean c && a.read == b.read && b.read == c.read then triplesGo r s (n + 3)
    else (s.readTriple o a b c, n + 3)

/-- What a scrub step does with what it reads, and how many words it has read. -/
def Device.scrubFound (s : Device) (x : ScrubFinding) : Device × Nat :=
  match x with
  | .singles l => singlesGo l s 0
  | .triples l => triplesGo l s 0

/-- Words that a step is about to read. -/
def scrubSize (x : ScrubFinding) : Nat :=
  match x with
  | .singles l => l.length
  | .triples l => 3 * l.length

/-- The step that reads the last word of a pass completes it (R497). -/
def Device.passEnds (s : Device) (passEnd : Bool) : Device :=
  if passEnd && s.store.scrubRead == framWords then
    { s with store := { s.store with
      scrubPasses := satInc s.store.scrubPasses, scrubTick := s.land.tick, scrubRead := 0 } }
  else s

/-- A step of the scrub, where its words have come in the even spread of the pass (R497). -/
def Device.scrubStep (s : Device) (x : ScrubFinding) (passEnd : Bool) : Device :=
  if s.scrubDue (s.store.scrubRead + scrubSize x) then
    let r := s.scrubFound x
    let s1 := r.1.stepRan 3
    Device.passEnds { s1 with store := { s1.store with scrubRead := s.store.scrubRead + r.2 } } passEnd
  else s

/-- SCRUB_STEP (R497). -/
def execScrubStep (dt : Nat) (found : ScrubFinding) (passEnd : Bool) (s : State) : Host.Outcome State Fault Refusal :=
  let d := s.dev.elapse dt
  .next { s with dev := if d.up then d.scrubStep found passEnd else d }

/-! ## The flash rings and their pool (R503, R504, R506) -/

/-- Physical sector and erase count of a logical ring sector; at manufacture sector i lies at i. -/
def Store.physOf (x : Store) (l : Nat) : Nat × Nat :=
  match x.ringMap.find? (·.1 == l) with
  | some e => e.2
  | none => (l, 0)

def Store.mapTo (x : Store) (l : Nat) (p : Nat × Nat) : Store :=
  { x with ringMap := (l, p) :: x.ringMap.filter (·.1 != l), eraseMax := max x.eraseMax p.2 }

/-- The erased pool sector of the lowest erase count, the first of equals (log 29). -/
def lowestErased (l : List (Nat × Nat)) : Option (Nat × Nat) :=
  match l with
  | [] => none
  | e :: es => some (es.foldl (fun b x => if x.2 < b.2 then x else b) e)

/-- One erase of a sector. -/
def Store.erased (x : Store) (p : Nat × Nat) : Store × (Nat × Nat) :=
  let q := (p.1, p.2 + 1)
  ({ x with flashErases := satInc x.flashErases, eraseMax := max x.eraseMax q.2 }, q)

/-- An erased sector of the pool, one that awaits erase being erased for it; none where the pool is empty. -/
def Store.takeErased (x : Store) : Option (Store × (Nat × Nat)) :=
  match lowestErased x.poolErased with
  | some e => some ({ x with poolErased := x.poolErased.filter (·.1 != e.1) }, e)
  | none =>
    match x.poolDirty with
    | e :: es => some (Store.erased { x with poolDirty := es } e)
    | [] => none

/-- Which ring: the daily ring of 400 entries of 64 bytes, or the hourly one of 131 400 of 32 bytes. -/
def ringCap (daily : Bool) : Nat := if daily then 400 else 131400
def perSector (daily : Bool) : Nat := if daily then 64 else 128
def ringSector (daily : Bool) (slot : Nat) : Nat := if daily then 1027 + slot / 64 else slot / 128

/-- Entries of a sector of a ring are gone. -/
def dropSector (daily : Bool) (l : Nat) (r : List (Nat × Bytes)) : List (Nat × Bytes) :=
  r.filter fun e => ringSector daily e.1 != l

/-- The write position enters logical sector `l`: one that holds older entries is mapped to an erased pool sector, or
with an empty pool is erased in place (R504, R506). -/
def Store.enter (x : Store) (daily : Bool) (l : Nat) : Store :=
  if x.ringUsed.contains l then
    let y := { x with ringErase := x.ringErase.filter (· != l) }
    match y.takeErased with
    | some r => { (r.1.mapTo l r.2) with outgoing := (l, y.physOf l) :: r.1.outgoing }
    | none =>
      let r := y.erased (y.physOf l)
      let z := r.1.mapTo l r.2
      if daily then { z with dayRing := dropSector daily l z.dayRing } else { z with hourRing := dropSector daily l z.hourRing }
  else { x with ringUsed := l :: x.ringUsed }

/-- A full sector returns the one that it replaced to the pool. -/
def Store.leave (x : Store) (l : Nat) : Store :=
  { x with poolDirty := x.poolDirty ++ (x.outgoing.filter (·.1 == l)).map (·.2)
           outgoing := x.outgoing.filter (·.1 != l) }

/-- Bytes are written at the write position of a ring, which advances. -/
def Store.put (x : Store) (daily : Bool) (b : Bytes) : Store :=
  let pos := if daily then x.dayPos else x.hourPos
  let slot := pos % ringCap daily
  let l := ringSector daily slot
  let y := if slot % perSector daily = 0 then x.enter daily l else x
  let z := if daily then { y with dayRing := (slot, b) :: y.dayRing.filter (·.1 != slot), dayPos := pos + 1 }
    else { y with hourRing := (slot, b) :: y.hourRing.filter (·.1 != slot), hourPos := pos + 1 }
  if slot % perSector daily + 1 = perSector daily ∨ slot + 1 = ringCap daily then z.leave l else z

/-- The write position of the daily ring passes a slot whose entry was dropped (R274, R289). -/
def Store.pass (x : Store) : Store :=
  let slot := x.dayPos % ringCap true
  let l := ringSector true slot
  let y := if slot % perSector true = 0 then x.enter true l else x
  let z := { y with dayPos := x.dayPos + 1 }
  if slot % perSector true + 1 = perSector true ∨ slot + 1 = ringCap true then z.leave l else z

/-- The write position of the daily ring comes to the slot of the entry with `day_count` n. -/
def Store.seek (x : Store) (n : Nat) : Store := Nat.repeat Store.pass (n - 1 - x.dayPos) x

/-- Bytes of a skipped slot. -/
def skipped (daily : Bool) : Bytes := List.replicate (if daily then 64 else 32) 0xFF#8

/-- The slot is skipped after the third compare that fails; its sector awaits retirement (R505). -/
def Store.skip (x : Store) (daily : Bool) : Store :=
  let slot := (if daily then x.dayPos else x.hourPos) % ringCap daily
  let y := x.put daily (skipped daily)
  let p := (y.physOf (ringSector daily slot)).1
  { y with compareFails := 0, badSectors := if y.badSectors.contains p then y.badSectors else y.badSectors ++ [p] }

/-- One program and compare after another: the store, the slots skipped, whether the entry is in. -/
def copyGo (daily : Bool) (b : Bytes) : List Bool → Store → Nat → Store × Nat × Bool
  | [], x, n => (x, n, false)
  | true :: _, x, n => ({ (x.put daily b) with compareFails := 0 }, n, true)
  | false :: r, x, n =>
    if x.compareFails + 1 = 3 then copyGo daily b r (x.skip daily) (n + 1)
    else copyGo daily b r { x with compareFails := x.compareFails + 1 } n

/-- FLASH_SPARE_LOW, once (R506). -/
def Device.spareCheck (s : Device) : Device :=
  if s.store.spare < 16 ∧ s.store.spareLowJournalled = false then
    let s1 := { s with store := { s.store with spareLowJournalled := true } }
    (s1.degrade fun d => { d with flash := true }).journal 0xA0A s1.store.spare 0
  else s

/-- A daily entry whose slots have moved on by k. -/
def Staged.later (k : Nat) (e : Staged) : Staged :=
  match e with
  | .hour h => .hour h
  | .day n d => .day (n + k) d

/-- The oldest staged entry is copied, a daily one to its slot; each slot skipped advances the count and moves the entries
that follow (R274, R505). -/
def Device.copyStaged (s : Device) (e : Staged) (rest : List Staged) (compares : List Bool) : Device :=
  let daily := !hourStaged e
  let b := match e with
    | .hour h => h.bytes
    | .day _ d => d.bytes
  let r := copyGo daily b compares (match e with | .hour _ => s.store | .day n _ => s.store.seek n) 0
  let k := r.2.1
  let bill := s.bill
  let bill1 := if daily then { bill with st := { bill.st with dayCount := wrapU 32 (bill.st.dayCount + k) } }
    else { bill with hourCount := wrapU 32 (bill.hourCount + k) }
  let left := if daily then (if r.2.2 then rest else e :: rest).map (Staged.later k) else if r.2.2 then rest else e :: rest
  Device.spareCheck { s with store := r.1, bill := { bill1 with staged := left } }

/-- FLASH_SECTOR_RETIRED (R505). -/
def Device.retireSector (s : Device) (p cause : Nat) : Device :=
  let s1 := { s with store := { s.store with flashBad := satAdd 16 s.store.flashBad 1 } }
  (s1.journal 0xA09 p cause).spareCheck

/-- A sector with a skipped slot is retired: what is readable moves to a pool sector. -/
def Device.relocate (s : Device) (p : Nat) (rest : List Nat) : Device :=
  let x := { s.store with badSectors := rest }
  match x.ringMap.find? (·.2.1 == p) with
  | some e =>
    match x.takeErased with
    | some r => Device.retireSector { s with store := r.1.mapTo e.1 r.2 } p 2
    | none => s
  | none =>
    -- the sector has left the ring, or lies where it lay at manufacture
    let away := { x with
      poolDirty := x.poolDirty.filter (·.1 != p), poolErased := x.poolErased.filter (·.1 != p)
      outgoing := x.outgoing.filter fun o => o.2.1 != p }
    if x.ringUsed.contains p && !(x.ringMap.any (·.1 == p)) then
      match x.takeErased with
      | some r => Device.retireSector { s with store := r.1.mapTo p r.2 } p 2
      | none => s
    else Device.retireSector { s with store := away } p 2

/-- FLASH_COPY (R505): the oldest staged entry, or with none staged a relocation. -/
def execFlashCopy (dt : Nat) (compares : List Bool) (s : State) : Host.Outcome State Fault Refusal :=
  let d := s.dev.elapse dt
  .next { s with dev :=
    if d.up then
      match d.bill.staged, d.store.badSectors with
      | e :: r, _ => (d.copyStaged e r compares).stepRan 4
      | [], p :: ps => (d.relocate p ps).stepRan 4
      | [], [] => d
    else d }

/-! ## Erase (R504, R505) -/

/-- Erases of one sector until one verifies, or the third fails: the store, its new erase count, and the outcome: some
true erased, some false failed, none interrupted. -/
def eraseGo : List Bool → Store → Nat × Nat → Store × (Nat × Nat) × Option Bool
  | [], x, p => (x, p, none)
  | ok :: r, x, p =>
    let e := x.erased p
    if ok then ({ e.1 with eraseFails := 0 }, e.2, some true)
    else if e.1.eraseFails + 1 = 3 then ({ e.1 with eraseFails := 0 }, e.2, some false)
    else eraseGo r { e.1 with eraseFails := e.1.eraseFails + 1 } e.2

/-- A returned sector of the pool is erased, or retired. -/
def Device.erasePool (s : Device) (p : Nat × Nat) (rest : List (Nat × Nat)) (verifies : List Bool) : Device :=
  let r := eraseGo verifies s.store p
  match r.2.2 with
  | none => { s with store := { r.1 with poolDirty := r.2.1 :: rest } }
  | some true => { s with store := { r.1 with poolDirty := rest, poolErased := r.1.poolErased ++ [r.2.1] } }
  | some false => Device.retireSector { s with store := { r.1 with poolDirty := rest } } p.1 1

/-- A ring sector is erased after a wipe, or retired for one of the pool (R500). -/
def Device.eraseRing (s : Device) (l : Nat) (rest : List Nat) (verifies : List Bool) : Device :=
  let r := eraseGo verifies s.store (s.store.physOf l)
  let x := r.1.mapTo l r.2.1
  let free := { x with ringErase := rest, ringUsed := x.ringUsed.filter (· != l) }
  match r.2.2 with
  | none => { s with store := x }
  | some true => { s with store := free }
  | some false =>
    match free.takeErased with
    | some q => Device.retireSector { s with store := q.1.mapTo l q.2 } r.2.1.1 1
    | none => Device.retireSector { s with store := free } r.2.1.1 1

/-- FLASH_ERASE (R504, R505). -/
def execFlashErase (dt : Nat) (verifies : List Bool) (s : State) : Host.Outcome State Fault Refusal :=
  let d := s.dev.elapse dt
  .next { s with dev :=
    if d.up then
      match d.store.poolDirty, d.store.ringErase with
      | p :: ps, _ => (d.erasePool p ps verifies).stepRan 4
      | [], l :: ls => (d.eraseRing l ls verifies).stepRan 4
      | [], [] => d
    else d }

/-! ## Steps that become due (R509) -/

def bgUnitNo (u : BgUnit) : Nat :=
  match u with
  | .transit => 0
  | .converter => 1
  | .hawser => 2
  | .fram => 3
  | .flash => 4
  | .logic => 5

/-- Paths that a cycle fires, as R508 counts them for the external mode. -/
def Device.shotCycles (s : Device) : Nat × Nat :=
  if s.conf.shot.external then (s.activePaths.length * 32768, max s.conf.shot.extRateMax 1)
  else (shotPeriod s.conf.shot s.tr.cyc.level, 1)

/-- The period P of a unit in oscillator cycles, as a quotient (R508). -/
def Device.bgPeriod (s : Device) (u : Nat) : Nat × Nat :=
  match u with
  | 0 | 2 => s.shotCycles
  | 1 => (s.conf.clamp.tMin * 2048, 1)
  | 3 | 4 => (32768, 1)
  | _ => (1966080, 1)

/-- A step of unit `u` has been ready for four periods without running (R509). -/
def Device.bgWaited (s : Device) (u : Nat) : Bool :=
  match s.store.readySince.getD u none with
  | some t => let p := s.bgPeriod u; decide (4 * p.1 ≤ (s.land.osc - t) * p.2)
  | none => false

/-- BG_STEP_DUE (R509): a step ready for four periods becomes due. -/
def execBgStepDue (dt : Nat) (unit : BgUnit) (s : State) : Host.Outcome State Fault Refusal :=
  let d := s.dev.elapse dt
  let u := bgUnitNo unit
  .next { s with dev :=
    if d.up && d.bgWaited u && !(d.store.due.getD u false) then
      { d with store := { d.store with
        due := setAt d.store.due u fun _ => true, bgDue := setAt d.store.bgDue u satInc } }
    else d }

end Sys2Proof.Machine
end

