-- ==== Sys2Proof/Machine/Windows.lean ====
section
/-! DEFINITION. The parent's windows, search, eviction and expiries, the join channel, the budget periods (R345, R362, R365
to R370, R372, R428). -/

namespace Sys2Proof.Machine

/-- The Ferryman works as a PARENT. -/
def Device.parenting (s : Device) : Bool := s.up && s.on .ferryman && s.radio.role == 2

/-- The child with a short address. -/
def Device.childOf (s : Device) (short : Nat) : Option Child := if short = 0 then none else s.radio.child (short - 1)

/-! ## Windows (R345, R365 to R367) -/

/-- The window of a child passes unopened. -/
def Device.passWindow (s : Device) (i : Nat) : Device := s.setChild i fun c => { c.fallback with skippedLast := true }

/-- A window that cannot open is skipped, which is no miss (R367). -/
def Device.skipWindow (s : Device) (i : Nat) : Device := (s.count 9).passWindow i

/-- The receiver is at higher-ranked work: an exchange, or a window on another channel that opened before (R367). -/
def Device.windowBlocked (s : Device) (c : Child) : Bool :=
  s.radio.exch.isSome || s.radio.children.any fun x => x.windowOpen && s.radioP.chanAt x.nextCh != s.radioP.chanAt c.nextCh

/-- A window opens; the budget must cover the ACK that it may need (R345). -/
def Device.openWindow (s : Device) (c : Child) : Device :=
  let late := decide ((s.windowOf c).2 < (s.land.tick : Int))
  if s.windowBlocked c || late then s.skipWindow c.idx
  else if !s.fits (s.airUs 33) then s.budgetHit.passWindow c.idx
  else s.setChild c.idx fun x => { x with windowOpen := true, skippedLast := false }

/-- The window of a child has its opening tick behind it and is not open. -/
def Device.windowDue (s : Device) (c : Child) : Bool := !c.windowOpen && decide ((s.windowOf c).1 ≤ (s.land.tick : Int))

/-- A window that falls due while the Ferryman is not ON is not made; the next one falls due on its own schedule (R26). -/
def Device.unmade (s : Device) (c : Child) : Device :=
  if s.up && !s.on .ferryman && s.radio.role == 2 && s.windowDue c then (s.passWindow c.idx).armWindows else s

/-- PARENT_WINDOW_OPEN (R365, R367), for the child with a short address. -/
def execParentWindowOpen (dt child : Nat) (s : State) : Host.Outcome State Fault Refusal :=
  let d := (s.dev.elapse dt).woken 1
  .next { s with dev :=
    match d.childOf child with
    | some c => if d.parenting && !c.search && d.windowDue c then (d.openWindow c).armWindows else d.unmade c
    | none => d }

/-- Search begins after three consecutive misses (R366). -/
def Device.beginSearch (s : Device) (i : Nat) : Device :=
  (s.setChild i fun c => { c with search := true, driftValid := false, d := 0, searchLevel := 1 }).journal 0x504 (i + 1) 0

/-- A window closed without a valid frame (R365, R366). -/
def Device.missWindow (s : Device) (c : Child) : Device :=
  let n := min (c.missRun + 1) 15
  let s1 := (s.count 8).setChild c.idx fun x =>
    { x.fallback with missRun := n, searchLevel := if x.search then min (x.searchLevel + 1) 15 else x.searchLevel }
  if !c.search && decide (3 ≤ n) then s1.beginSearch c.idx else s1

/-- An open window is over: its closing tick has come, or where an SFD was detected the end of the second repeat (R358,
R365). -/
def Device.windowOver (s : Device) (c : Child) : Bool :=
  decide ((s.windowOf c).2 ≤ (s.land.tick : Int)) && decide (c.listenTo.getD 0 ≤ s.land.tick)

/-- WINDOW_MISS (R365, R366): an open window reaches its close with no frame received. -/
def execWindowMiss (dt child : Nat) (s : State) : Host.Outcome State Fault Refusal :=
  let d := s.dev.elapse dt
  .next { s with dev :=
    match d.childOf child with
    | some c =>
      if d.parenting && c.windowOpen && d.windowOver c then (d.missWindow c).armWindows else d
    | none => d }

/-- A search window's length in milliseconds, rounded up. -/
def Device.searchLen (s : Device) (c : Child) : Nat := cdiv (2 * s.halfWidth c * 1000) 32768

/-- A search window opens within the receive budget, or is skipped (R366). -/
def Device.openSearch (s : Device) (c : Child) : Device :=
  let n := s.searchLen c
  if s.windowBlocked c then s.skipWindow c.idx
  else if s.phyP.searchCap * 1000 < s.radio.searchMs + n then
    let s1 := s.skipWindow c.idx
    if s1.radio.capJournalled then s1
    else Device.journal { s1 with radio := { s1.radio with capJournalled := true } } 0x50B s1.radio.searchMs 0
  else
    let s1 := s.openWindow c
    if (s1.childOf (c.idx + 1)).any (·.windowOpen) then
      Device.count { s1 with radio := { s1.radio with searchMs := s1.radio.searchMs + n } } 10
    else s1

/-- SEARCH_WINDOW (R366). -/
def execSearchWindow (dt child : Nat) (s : State) : Host.Outcome State Fault Refusal :=
  let d := (s.dev.elapse dt).woken 1
  .next { s with dev :=
    match d.childOf child with
    | some c => if d.parenting && c.search && d.windowDue c then (d.openSearch c).armWindows else d.unmade c
    | none => d }

/-- An entry is freed (R368). -/
def Device.evict (s : Device) (c : Child) : Device :=
  let s1 := s.count 12
  let r := s1.radio
  Device.journal { s1 with radio := { r with
    children := r.children.filter (·.idx != c.idx), digests := r.digests.filter (·.child != c.idx + 1) } } 0x506 (c.idx + 1) c.eui

/-- CHILD_EVICTED (R368). -/
def execChildEvicted (dt child : Nat) (s : State) : Host.Outcome State Fault Refusal :=
  let d := s.dev.elapse dt
  .next { s with dev :=
    match d.childOf child with
    | some c =>
      if d.parenting && c.search && decide (c.lastFrame + d.phyP.evictDays * tpd ≤ d.land.tick) then (d.evict c).armWindows else d
    | none => d }

/-! ## Expiries (R370, R372) -/

/-- The queue is kept, and runs on the tick count, while the device is up. -/
def Device.queueEntry (s : Device) (k : Nat) : QEntry := s.radio.queue.getD k {}

def Device.setEntry (s : Device) (k : Nat) (q : QEntry) : Device :=
  { s with radio := { s.radio with queue := setAt s.radio.queue k fun _ => q } }

/-- DL_EXPIRED (R370): a note that is not complete at its expiry is discarded; its outcome stays until reported. -/
def execDlExpired (dt entry : Nat) (s : State) : Host.Outcome State Fault Refusal :=
  let d := (s.dev.elapse dt).woken 1
  let q := d.queueEntry entry
  let c := d.up && decide (entry < 8) && q.state == 1 && !q.reserved && decide (q.tExpiry ≤ d.land.tick)
  .next { s with dev :=
    if c then ((d.setEntry entry { q with state := 3, data := [] }).count 14).journal 0x508 q.child q.id else d }

/-- A proxy read that is over: unanswered at its expiry it stays to be reported, an answer that nobody fetched within
`proxy_hold` is discarded (R372). -/
def Device.proxyOver (s : Device) (k : Nat) (q : QEntry) : Option QEntry :=
  let t := s.land.tick
  if q.state = 1 ∧ q.tExpiry ≤ t then some { q with state := 3, data := [] }
  else if q.state = 2 ∧ q.tAnswer + s.phyP.proxyHold * tps ≤ t ∧ 8 ≤ k then some {}
  else none

/-- PROXY_EXPIRED (R372). -/
def execProxyExpired (dt entry : Nat) (s : State) : Host.Outcome State Fault Refusal :=
  let d := (s.dev.elapse dt).woken 1
  let q := d.queueEntry entry
  .next { s with dev :=
    if d.up && decide (8 ≤ entry) && decide (entry < 24) then
      (match d.proxyOver entry q with
        | some x => ((d.setEntry entry x).count 16).journal 0x509 q.child q.id
        | none => d)
    else d }

/-! ## The join channel (R362, R428) -/

/-- BUTTON_HOLD_JOIN (R362, R428): a press held for 3 s opens the join channel of a PARENT. -/
def execButtonHoldJoin (dt : Nat) (s : State) : Host.Outcome State Fault Refusal :=
  let d := (s.dev.elapse dt).woken 5
  .next { s with dev := if d.up then d.openJoin else d }

/-- JOIN_WINDOW_CLOSE (R362). -/
def execJoinWindowClose (dt : Nat) (s : State) : Host.Outcome State Fault Refusal :=
  let d := s.dev.elapse dt
  let c := d.radio.joinOpen && decide (d.radio.joinUntil ≤ d.land.tick)
  .next { s with dev := if c then { d with radio := { d.radio with joinOpen := false } } else d }

/-! ## Budget periods (R345, R366) -/

/-- TX_BUDGET_WINDOW (R345): a full budget at the start of each window. -/
def execTxBudgetWindow (dt : Nat) (s : State) : Host.Outcome State Fault Refusal :=
  let d := s.dev.elapse dt
  let n := (d.land.tick - d.radio.txWindow) / 117964800
  let r := { d.radio with txUs := 0, wmbusUs := 0, budgetExhausted := false, budgetJournalled := false
                          txWindow := d.radio.txWindow + n * 117964800 }
  .next { s with dev := if d.up && decide (0 < n) then { d with radio := r } else d }

/-- SEARCH_BUDGET_PERIOD (R366). -/
def execSearchBudgetPeriod (dt : Nat) (s : State) : Host.Outcome State Fault Refusal :=
  let d := s.dev.elapse dt
  let n := (d.land.tick - d.radio.searchPeriod) / tpd
  let r := { d.radio with searchMs := 0, capJournalled := false, searchPeriod := d.radio.searchPeriod + n * tpd }
  .next { s with dev := if d.up && decide (0 < n) then { d with radio := r } else d }

end Sys2Proof.Machine
end

