-- ==== Sys2Proof/Machine/Wmbus.lean ====
section
/-! DEFINITION. Legacy wireless M-Bus telegrams (R375 to R378). Framing, coding and encryption come from the EN 13757
standards that the manual names (PRESUMED, log 12). -/

namespace Sys2Proof.Machine

/-! ## Records (R377) -/

/-- One data record: its DIF, DIFE, VIF and VIFE, and its value. -/
def wmRec (head : List Nat) (n : Nat) (v : Int) : Bytes := head.map (fun x => BitVec.ofNat 8 x) ++ sB n v

/-- A signed value clamped to its field. -/
def wmVal (head : List Nat) (n : Nat) (v : Int) : Bytes := wmRec head n (clampS (8 * n) v)

def Device.energyVif (s : Device) : Nat := if s.toll.unitMJ then 0x0E else 0x03

/-- Local date, type G. -/
def typeG (d : Date) : Nat := let y := d.year % 100; d.day + y % 8 * 32 + d.month * 256 + y / 8 * 4096

/-- Local date and time, type F; bit 7 while time is untrusted. -/
def typeF (c : TimeNow) (untrusted : Bool) : Nat :=
  let y := c.year % 100
  c.minute % 60 + bitVal untrusted 7 + c.minute / 60 * 256 + bitVal c.dst 15 +
  (c.day + y % 8 * 32 + c.month * 256 + y / 8 * 4096) * 65536

/-- The error flags of R377. -/
def Device.wmErrors (s : Device) : Nat :=
  let c := s.toll.ft.cond
  packFlags [s.power.deg.any, s.conf.safePreset, s.st.legalHold, bitAt c 0, bitAt c 1, bitAt c 2, s.tr.cs.emptyPipe,
    s.sec.tamperNew, !s.trusted]

/-- The first register present, live and in the last billing snapshot; 0 before the first (log 26). -/
def Device.wmFirst (s : Device) : Nat × Nat :=
  let last := s.bill.snaps.head?.map (·.regs)
  if energyClass s.conf.cls then (s.energyVif, (last.map (·.eHeat)).getD 0)
  else (0x13, (last.map fun r => if s.converts then r.volBase else r.volFwd).getD 0)

def Device.wmRecords (s : Device) : Bytes :=
  let c := s.conf.cls
  let l := s.toll.led
  let t := s.temp.sample
  let e := energyClass c
  let g := gasClass c
  let cool := c == 2 || c == 3 || c == 5 || c == 6
  let on := fun (b : Bool) (x : Bytes) => if b then x else []
  let deg := fun (v : Int) => rne v 10000
  let f := s.wmFirst
  let tEnd : Int := ((s.bill.snaps.head?.map (·.tEnd)).getD 0 : Nat)
  on e (wmRec [0x07, s.energyVif] 8 l.heat.total) ++
  on (e && cool) (wmRec [0x87, 0x40, s.energyVif] 8 l.cool.total) ++
  wmRec [0x07, 0x13] 8 (if s.converts then l.baseHwm / 2 ^ 32 else l.vol.fwd) ++
  on (!g) (wmRec [0x07, 0x93, 0x3C] 8 l.vol.revL) ++
  on e (wmVal [0x02, 0x59] 2 (deg ((s.roleTemp t 2).getD 0)) ++ wmVal [0x02, 0x5D] 2 (deg ((s.roleTemp t 3).getD 0)) ++
    wmVal [0x02, 0x61] 2 (deg t.dtheta)) ++
  on g (wmVal [0x02, 0x65] 2 (deg t.thetaM)) ++
  on (g && s.conf.install.bridgeUse != 0) (wmVal [0x02, 0x68] 2 (rne t.pAbs 100)) ++
  on e (wmVal [0x04, 0x2B] 4 s.toll.now.power) ++
  wmVal [0x04, 0x3B] 4 (rne (s.flow.qf.getD 0) 256) ++
  wmRec [0x04, 0x6D] 4 (let w := s.land.shown; typeF w.cal (w.oscStopped || w.neverSet)) ++
  wmRec [0x02, 0xFD, 0x17] 2 s.wmErrors ++
  wmRec [0x47, f.1] 8 f.2 ++
  wmRec [0x42, 0x6C] 2 (typeG (dateOfDay (localAt s.bill.calActive tEnd / tpd)))

/-! ## The telegram (R376, R378) -/

/-- The status byte (R378). -/
def Device.wmStatus (s : Device) : Nat :=
  let bad := s.conf.safePreset || s.st.legalHold
  (if bad then 3 else if s.power.deg.any then 2 else 0) + bitVal bad 3 + bitVal (s.toll.ft.cond != 0) 4

/-- Device type of the A-field (R376). -/
def Device.wmType (s : Device) : Nat :=
  let c := s.conf.cls
  let inFlow := s.conf.install.flowPos
  if gasClass c then 0x03
  else if c = 3 ∨ c = 6 then 0x0D
  else if c = 2 ∨ c = 5 then (if inFlow then 0x0B else 0x0A)
  else if c = 1 ∨ c = 4 then (if inFlow then 0x0C else 0x04)
  else 0x07

/-- M-field and A-field. -/
def Device.wmAddress (s : Device) : Bytes := slice s.radio.cfg 6 2 ++ slice s.radio.cfg 8 4 ++ slice s.radio.cfg 12 1 ++ uB 1 s.wmType

/-- The records encrypted in mode 5: two bytes 0x2F before, padded with 0x2F. -/
def Device.wmCipher (s : Device) (key : Bytes) (acc : Nat) : Bytes :=
  let p := [0x2F#8, 0x2F#8] ++ s.wmRecords
  let n := (16 - p.length % 16) % 16
  cbcEnc key (s.wmAddress ++ List.replicate 8 (BitVec.ofNat 8 acc)) (p ++ List.replicate n 0x2F#8)

/-- A block of frame format A with its CRC. -/
def wmBlock (b : Bytes) : Bytes := b ++ beBytes 2 (crcMsb 16 0x3D65 0 b ^^^ 0xFFFF)

/-- A telegram of frame format A with access number `acc`. -/
def Device.wmTelegram (s : Device) (key : Bytes) (acc : Nat) : Bytes :=
  let c := s.wmCipher key acc
  let app := uB 1 0x7A ++ uB 1 acc ++ uB 1 s.wmStatus ++ uB 2 (0x0500 + c.length / 16 * 16) ++ c
  let h := uB 1 0x44 ++ s.wmAddress
  wmBlock (uB 1 (h.length + app.length) ++ h) ++ (blocks 16 app).flatMap wmBlock

/-- The six chips of a nibble in mode T1, first sent first (R375; 3-out-of-6, PRESUMED, log 12). -/
def chips36 (v : Nat) : List Bool :=
  let w := [0x16, 0x0D, 0x0E, 0x0B, 0x1C, 0x19, 0x1A, 0x13, 0x2C, 0x25, 0x26, 0x23, 0x34, 0x31, 0x32, 0x29].getD v 0
  (List.range 6).map fun i => bitAt w (5 - i)

/-- Bytes as bits, most significant first. -/
def bitsMsb (b : Bytes) : List Bool := b.flatMap fun x => (List.range 8).map fun i => bitAt x.toNat (7 - i)

/-- Alternating chips. -/
def preambleChips (n : Nat) : List Bool := (List.range n).flatMap fun _ => [false, true]

/-- The telegram on the air (R375; EN 13757-4, PRESUMED, log 12): T1 with its header of 48 chips and twelve chips a byte; C1
with its preamble and the sync words of frame format A. -/
def wmSignal (mode : Nat) (telegram : Bytes) : List Bool :=
  if mode = 1 then
    preambleChips 19 ++ [false, false, false, false, true, true, true, true, false, true] ++
      telegram.flatMap fun x => chips36 (x.toNat / 16) ++ chips36 (x.toNat % 16)
  else preambleChips 16 ++ bitsMsb [0x54#8, 0x3D#8, 0x54#8, 0xCD#8] ++ bitsMsb telegram

/-- What the latest telegram put on the air. -/
def Device.wmOnAir (s : Device) : List Bool := wmSignal s.radio.wmbus s.radio.lastTelegram

/-- Airtime in microseconds: T1 with twelve chips a byte, C1 with eight bits, both at 100 000 a second. -/
def wmAirUs (mode n : Nat) : Nat := if mode = 1 then 480 + 120 * n else 640 + 80 * n

/-! ## Its schedule (R375) -/

/-- The next telegram's interval. -/
def Device.wmNext (s : Device) : Device :=
  Device.wmArm { s with radio := { s.radio with wmbusCount := s.radio.wmbusCount + 1, wmbusNext := s.radio.wmbusNext + s.wmInterval } }

/-- The air is free for `us` microseconds: no exchange, no window, no contact of the device's own (R375). -/
def Device.wmFree (s : Device) (us : Nat) : Bool :=
  let t : Int := s.land.tick
  let e := t + usTicks us
  s.radio.exch.isNone && (s.radio.children.all fun c => !c.windowOpen && (let w := s.windowOf c; decide (e < w.1 ∨ w.2 < t))) &&
  (!s.armed 6 || decide (e + s.contactLead < (s.radio.tContact : Int) ∨ (s.radio.tContact : Int) < t))

/-- The telegram is sent, within its own budget of 3.6 s a window (R344, R345). -/
def Device.wmSend (s : Device) (key : Bytes) : Device :=
  let acc := s.radio.accessNo
  let b := s.wmTelegram key acc
  let us := wmAirUs s.radio.wmbus b.length
  if !s.wmFree us then s
  else if 3600000 < s.radio.wmbusUs + us then (s.budgetHit).wmNext
  else
    let r := s.radio
    let s1 := { s with radio := { r with
      accessNo := wrapU 8 (acc + 1), lastTelegram := b, wmbusUs := r.wmbusUs + us } }
    (s1.count 17).wmNext

/-- WMBUS_TELEGRAM (R375 to R378): without a key or a RADIO_CFG record nothing is sent (R387),
nor by a transmitter that is not ON (R26). -/
def execWmbusTelegram (dt : Nat) (s : State) : Host.Outcome State Fault Refusal :=
  let d := (s.dev.elapse dt).woken 1
  .next { s with dev :=
    if d.up && d.fired 9 then
      if (!d.on .wmbus) then d.wmNext else
      (match d.sec.keys.wmbus with
        | some k => if d.radio.cfg.isEmpty then d.wmNext else (d.loadShadow 1).wmSend k
        | none => d.wmNext)
    else d }

end Sys2Proof.Machine
end

