-- ==== Sys2Proof/Machine/Power.lean ====
section
/-! DEFINITION. The Power Manager: cold start, hold-up commit, wake and rest, SHIP, VHOLD and VEXT, the strap re-read
(R37, R40, R60, R61, R76, R77, R455, R470 to R492, R512). -/

namespace Sys2Proof.Machine

/-! ## Strap reads (R60, R61, R75, R76) -/

/-- STRAP_LAST follows every read; a difference counts STRAP_CHANGED. The next re-read is armed 86 400 s on; on a
secondary the calendar lane is OFF, and none is (R10, R16). -/
def Device.strapRead (s : Device) (img : StrapImage) : Device :=
  let differs := s.straps.lastCodes != img.codes || s.straps.lastBad != img.bad
  let s1 := if differs then s.tamper 4 else s
  let s2 := { s1 with straps := { s1.straps with
    lastCodes := img.codes, lastBad := img.bad, lastRead := s1.land.tick } }
  if s2.secondary then s2.disarm 4 else s2.arm 4 (s2.land.tick + tpd) true

/-- STRAP_REREAD (R61): slot 4 has fired and the converter converts nothing; the configuration stands (R62). -/
def execStrapReread (dt : Nat) (reads : StrapReads) (s : State) : Host.Outcome State Fault Refusal :=
  let d := (s.dev.elapse dt).woken 1
  .next { s with dev :=
    if d.up && d.fired 4 && !d.secondary && !d.temp.running && !d.haw.sampling then (d.strapRead (decodeStraps reads)).stepRan 1 else d }

/-! ## Hold-up commit (R482 to R484) -/

/-- What the commit's transaction is about to change (R483). -/
def Device.undo (s : Device) : HoldUndo :=
  { tDown := s.power.tDown, holdUs := s.power.holdUs, holdCommits := s.power.holdCommits
    led := s.toll.led, ft := s.toll.ft, bill := s.bill
    cntMirror := s.land.cntMirror, plsMirror := s.land.plsMirror, mirrorTick := s.land.mirrorTick
    refusals := s.refusals, regions := s.power.heldRegions
    txnSeq := s.store.txnSeq, txnCommits := s.store.txnCommits, ring := s.store.ring }

/-- The Tollhouse runs on this device, commit or not (R16). -/
def Device.tolled (s : Device) : Bool := s.started && !s.secondary

/-- A boundary that is due at or before `t_down` is made; only those after it are left to the next start (R283, R482). -/
def Device.boundaryLast (s : Device) : Device :=
  if s.tolled && (s.fired 0 || s.bill.trusted != s.trusted) then s.transaction {} else s

/-- The one journal transaction of the commit, with `records` decided but not committed among what is abandoned. -/
def Device.holdTransaction (s : Device) (holdUs records : Nat) : Device :=
  let t := s.land.tick
  let s0 := s.boundaryLast
  let s1 := if s0.tolled then (s0.bringUp t).holdClose t else s0
  let s2 := (s1.refuseN 15 (s1.power.heldItems + records)).mirrorPulses
  Device.commit { s2 with
    power := { s2.power with
      tDown := t, holdUs := min holdUs 0xFFFF, holdCommits := satInc s2.power.holdCommits, undo := some s0.undo }
    land := { s2.land with cntMirror := s2.land.cnt } }

/-- The switched domain loses its power: every function of it is OFF (the optical port, which nothing configures, is
ON again with the power) and its working state gone. The pulse outputs
belong to the Landing, which goes on (R323); in SHIP it and they are off as well (R477). -/
def Device.unpower (s : Device) : Device :=
  let ship := s.power.shipping
  let s1 := [Func.transit, .converter, .ferryman, .display, .optical].foldl Device.resetFunc s
  Device.pwrUpdate { s1 with
    fn := if ship then { optical := {} } else { pulseOut := s.fn.pulseOut }
    pulse := if ship then s1.pulse.ship else s1.pulse
    haw := s1.haw.clear
    flow := { s1.flow with metering := false }
    st := { s1.st with condWait := false, roundLeft := [] }
    sec := { s1.sec with tap := .closed }
    power := { s1.power with
      st := if ship then .ship else .unpowered
      phase := .down, holdDue := false, shipping := false, held := none, waitAlert := false, heldItems := 0
      heldRegions := 0 } }

/-- Before t0 nothing waits for the commit to be recorded (R479). -/
def Device.holdUp (s : Device) (holdUs records : Nat) : Device :=
  Device.unpower (if s.started then s.holdTransaction holdUs records else s)

/-- HOLDUP_COMMIT (R482); that of an entry to SHIP runs once the functions have drained (R477). -/
def execHoldupCommit (dt : Nat) (holdUs records : Nat) (s : State) : Host.Outcome State Fault Refusal :=
  let d := s.dev.elapse dt
  .next { s with dev := if d.holdReady then d.holdUp holdUs records else d }

/-! ## RESET_N (R40, R48) -/

/-- A `RESET_N` low of `us` microseconds is recognised; between the two bounds of R48 that is open (log 10). -/
def resetSeen (us : Nat) : Bool := decide (10 ≤ us) || (decide (1 < us) && Config.resetRecognised us)

/-- The pin stays low for `us` microseconds in all. -/
def Device.pinHeld (s : Device) (us : Nat) : Device :=
  { s with power := { s.power with resetUntil := s.land.osc + us * 32768 / 1000000 } }

/-- The hold-up commit starts, and a cold start with cause 2 falls due. -/
def Device.resetPin (s : Device) (us : Nat) : Device :=
  let s1 := (s.pinHeld us).holdStart
  Device.coldFor { s1 with power := { s1.power with resetTick := s1.land.tick } } 2

/-- `RESET_N` still holds the device in reset (R40); with LFX stopped its width cannot be counted. -/
def Device.inReset (s : Device) : Bool := s.ticking && decide (s.land.osc < s.power.resetUntil)

/-- RESET_N_LOW (R40). A pin held low while lockout stands resets nothing that is not reset already, and keeps the device in
reset when supply returns. -/
def execResetNLow (dt : Nat) (lowUs : Nat) (s : State) : Host.Outcome State Fault Refusal :=
  let d := s.dev.elapse dt
  .next { s with dev :=
    if d.power.st == .ship || !resetSeen lowUs then d
    else if d.land.supply == .bat then d.resetPin lowUs
    else d.pinHeld lowUs }

/-! ## SHIP (R477, R478) -/

/-- Nothing has been billed. -/
def Registers.none (r : Registers) : Bool :=
  r.volFwd == 0 && r.volRev == 0 && r.volEst == 0 && r.eHeat == 0 && r.eCool == 0 && r.eEstH == 0 && r.eEstC == 0 &&
    r.volBase == 0 && r.volBaseDist == 0

/-- The conditions of R477. -/
def Device.mayShip (s : Device) : Bool :=
  s.power.shipEn && !s.secondary &&
    (match s.sec.lc with
      | .blank | .manufacture | .calibrate | .scrapped => true
      | .sealed => s.registers.none
      | .service => false)

/-- SHIP is entered by way of the hold-up commit, after pulse inputs and bank 0 are mirrored; every function drains
first. -/
def Device.shipEntry (s : Device) : Device :=
  let s1 := (((s.mirrorPulses).mirrorBank0.journal 0x902 0 0).holdBegin true).disableAll
  { s1 with power := { s1.power with shipping := true, holdDue := true } }

/-- SHIP_ENTRY (R477): `BUTTON` held for `held` oscillator cycles. -/
def execShipEntry (dt : Nat) (held : Nat) (s : State) : Host.Outcome State Fault Refusal :=
  let d := (s.dev.elapse dt).woken 5
  .next { s with dev :=
    if d.up && decide (327680 ≤ held) && d.mayShip then d.shipEntry else d }

/-- A time against a limit of ±30 %, open in between (R478, log 10): limits in tenths of the nominal value. -/
def about (t nominal : Nat) : Bool :=
  if 10 * t < 7 * nominal then false else if 13 * nominal ≤ 10 * t then true else Config.shipPress t

/-- The exit detector acts. -/
def exitSeen (c : ShipExitCause) : Bool :=
  match c with
  | .resetN us => resetSeen us
  | .button low high => about high 100 && about low 1000

/-- SHIP_EXIT (R478): the Landing restarts, and a cold start with cause 3 falls due. -/
def execShipExit (dt : Nat) (cause : ShipExitCause) (pins : PinLevels) (s : State) : Host.Outcome State Fault Refusal :=
  let d := s.dev.elapse dt
  .next { s with dev :=
    if d.power.st == .ship && exitSeen cause then
      Device.coldFor (Device.pwrUpdate (Device.landRestart { d with power := { d.power with st := .unpowered } } pins 3)) 3
    else d }

/-! ## Rest and wake (R470 to R476) -/

/-- POWER_STATE_ENTRY (R475): `edges` fell into the entry window; a wake while state is saved cancels the entry. -/
def execPowerStateEntry (dt : Nat) (edges : Nat) (wakeInSave : Bool) (s : State) : Host.Outcome State Fault Refusal :=
  let d := s.dev.elapse dt
  .next { s with dev := if d.up && d.awake && !wakeInSave then d.rest edges else d }

/-- WAKE (R474). -/
def execWake (dt : Nat) (src : Nat) (s : State) : Host.Outcome State Fault Refusal :=
  .next { s with dev := (s.dev.elapse dt).woken src }

/-! ## VHOLD and VEXT (R37, R481) -/

/-- One measurement of VHOLD. -/
def Device.vholdIs (s : Device) (mv : Nat) : Device :=
  let v := min mv 0xFFFF
  let s1 := { s with power := { s.power with vholdMv := v, vholdAt := s.land.osc } }
  if mv < 4000 ∧ s.power.vholdLow = false then
    (Device.degrade { s1 with power := { s1.power with vholdLow := true } } fun d => { d with vhold := true }).journal 0x904 v 0
  else if 4300 ≤ mv ∧ s.power.vholdLow = true then
    (Device.degrade { s1 with power := { s1.power with vholdLow := false } } fun d => { d with vhold := false }).journal 0x905 v 0
  else s1

/-- VHOLD_MEASURE (R481): in service, 64 s after the measurement before. -/
def execVholdMeasure (dt : Nat) (mv : Nat) (s : State) : Host.Outcome State Fault Refusal :=
  let d := s.dev.elapse dt
  .next { s with dev := if d.up && decide (d.power.vholdAt + 2097152 ≤ d.land.osc) then d.vholdIs mv else d }

/-- VEXT_TAKEOVER (R37). -/
def execVextTakeover (dt : Nat) (s : State) : Host.Outcome State Fault Refusal :=
  let d := s.dev.elapse dt
  .next { s with dev := { d with power := { d.power with vext := true } } }

/-- VEXT_RELEASE (R37). -/
def execVextRelease (dt : Nat) (s : State) : Host.Outcome State Fault Refusal :=
  let d := s.dev.elapse dt
  .next { s with dev := { d with power := { d.power with vext := false } } }

/-! ## Cold start: what it clears (R479, "Cold start" in the object maps) -/

/-- Causes of the degraded flag that outlive a cold start: a rejected TDC calibration, a corrupt object, a spare pool
that is low. -/
def Degraded.cold (d : Degraded) (tdc : Bool) : Degraded := { tdcFault := tdc, fram := d.fram, flash := d.flash }

def CycleStatus.cold (c : CycleStatus) : CycleStatus :=
  { c with cCycle := 0, c20 := 0, dcLiquid := 0, candidate := .unknown, persist := 0, emptyPipe := false
           sosCheckFail := false, retryRun := 0, tLastFlow := 0, voidCycles := 0, airProbes := 0, glyBuf := [] }

def TimeBase.cold (b : TimeBase) : TimeBase :=
  { b with refinSel := false, refinActive := false, fallback := false, failRun := 0, passRun := 0, relock := false }

def Transit.cold (t : Transit) : Transit :=
  { t with
    tdc := { t.tdc with due := 2, stepsDone := 0, hits := [], build := {}, shadowReady := false }
    tb := t.tb.cold, cs := t.cs.cold, cyc := {} }

def FlowNow.cold (f : FlowNow) : FlowNow :=
  { fallbackCycles := f.fallbackCycles, nosetCycles := f.nosetCycles, overCycles := f.overCycles }

def TempUnit.cold (u : TempUnit) : TempUnit := { failCount := u.failCount }

def Temp.cold (t : Temp) : Temp := { units := t.units.map TempUnit.cold, sample := { coolSide := t.sample.coolSide } }

def Radio.cold (r : Radio) (t : Nat) : Radio :=
  { r.holdUp with
    joinOpen := false, budgetExhausted := false, fcntTx := r.fcntBlock, rssiUp := 0, txUs := 0, txWindow := t
    wmbusUs := 0, searchMs := 0, searchPeriod := t, capJournalled := false, budgetJournalled := false, out := [], outCh := [] }

def Hawser.cold (h : Hawser) (t : Nat) : Hawser :=
  { h.clear with secs := h.secs.map Secondary.cold, retired := 0, cfgFault := 0, loopDue := 0
                 cfgParts := [], lastBroadcast := t, loopTick := t }

def SelfTest.cold (x : SelfTest) : SelfTest :=
  { x with clockFault := false, secIsolated := false, condWait := false, failed := 0, hfxPpm := 0, deferRun := 0
           roundLeft := [], runs := List.replicate 10 none }

def Power.cold (p : Power) (inp : ColdStartInput) (tdc : Bool) : Power :=
  { p with st := .doze, phase := .condWait, rest := 0, vholdLow := false, banks := 0, wakeSrc := 0, vholdMv := 0
           deg := p.deg.cold tdc, coldDue := false, held := some inp, waitAlert := false, waitOsc := 0 }

/-- Everything that a cold start clears. The Landing's alarms go on (R40); one that has restarted has lost them, until
their owners arm them (R324). -/
def Device.coldClear (s : Device) (inp : ColdStartInput) : Device :=
  let t := s.land.tick
  Device.pwrUpdate { s with
    fn := { pulseOut := if s.power.landRestarted then {} else { s.fn.pulseOut with retired := false } }
    tr := s.tr.cold
    flow := s.flow.cold
    temp := s.temp.cold
    toll := { s.toll with now := {}, led := { s.toll.led with estVrem := 0 } }
    radio := s.radio.cold t
    haw := s.haw.cold t
    disp := s.disp.cold t
    opt := {}
    sec := { s.sec with tap := .closed }
    st := { s.st.cold with vcoreMv := inp.vcoreMv }
    store := { s.store with due := List.replicate 6 false, readySince := List.replicate 6 none }
    power := s.power.cold inp s.tr.tdc.fault }

/-! ## Cold start: the steps (R479) -/

/-- Self-test of blocks 0 to 8 (R514), its effect on LEGAL_HOLD (R518), the HFX count while LFX runs (R513). -/
def Device.coldTests (s : Device) (inp : ColdStartInput) : Device :=
  let s1 := { s with st := { s.st with condWait := false } }
  let s2 := ((inp.tests.take 9).zipIdx).foldl
    (fun (x : Device) (r : (Bool × Bool × List Nat) × Nat) =>
      x.blockResult r.2 r.1.1 r.1.2.1 (compact r.2 (Config.misrStart r.2) r.1.2.2)) s1
  let ok := ((inp.tests.take 3).all fun r => r.1 || r.2.1) && decide (3 ≤ inp.tests.length)
  let s3 := if ok then s2.legalClear else s2
  s3.hfxCheck (if s3.land.lfxRunning then inp.hfxCount else none)

/-- The journal as the power left it: the latest record without the words that it did not come to (R498). -/
def Store.torn (st : Store) (j : JournalFound) : Store :=
  match st.ring, j with
  | r :: rs, .committed => { st with ring := { r with applied := 0 } :: rs }
  | r :: rs, .uncommitted => { st with ring := { r with commit := 0, applied := 0 } :: rs }
  | _, _ => st

/-- The record of the highest `txn_seq` among those with a valid `crc` (R501). -/
def Store.newest (st : Store) : Option TxnRec :=
  match st.ring.filter TxnRec.valid with
  | [] => none
  | r :: rs => some (rs.foldl (fun b x => if b.seq < x.seq then x else b) r)

/-- A record found without its applied word is applied again, from its first entry to its last, and the word is written
(R500, R501): its targets then hold what the whole transaction gives them, as the state already does (log 34). -/
def Store.rollForward (st : Store) (r : TxnRec) : Store :=
  { st with rolledForward := satAdd 16 st.rolledForward 1
            ring := st.ring.map fun x => if x = r then { x with applied := appliedWord } else x }

/-- A region whose resume record was rolled back has none. -/
def Display.forget (d : Display) (mask : Nat) : Display :=
  { d with regions := (d.regions.zipIdx).map fun g => if bitAt mask g.2 then { g.1 with resume := none } else g.1 }

/-- A hold-up commit that stopped part-way is rolled back: everything stands as it did before its transaction (R483,
R501). -/
def Device.undone (s : Device) (u : HoldUndo) : Device :=
  { s with
    power := { s.power with tDown := u.tDown, holdUs := u.holdUs, holdCommits := u.holdCommits }
    toll := { s.toll with led := u.led, ft := u.ft }
    bill := u.bill
    land := { s.land with cntMirror := u.cntMirror, plsMirror := u.plsMirror, mirrorTick := u.mirrorTick }
    refusals := u.refusals
    disp := s.disp.forget u.regions
    store := { s.store with txnSeq := u.txnSeq, txnCommits := u.txnCommits, ring := u.ring } }

/-- A record found without its commit word is discarded (R501). Only a hold-up commit can be cut short so (log 34). -/
def Device.rollBack (s : Device) (r : TxnRec) : Device :=
  let s1 := match s.power.undo with
    | some u => s.undone u
    | none => { s with store := { s.store with ring := s.store.ring.filter (· != r) } }
  { s1 with store := { s1.store with rolledBack := satAdd 16 s1.store.rolledBack 1 } }

/-- The journal step (R501). A record that is discarded leaves no number behind (log 34). -/
def Device.coldJournal (s : Device) (j : JournalFound) : Device :=
  let ev := fun (x : Device) => x.journal 0x906 (x.power.tDown % 2 ^ 32) (x.power.tDown / 2 ^ 32)
  let s0 := { s with store := s.store.torn j }
  match s0.store.newest with
  | none => s0
  | some r =>
    if r.commit != commitWord then ev (s0.rollBack r)
    else if r.applied != appliedWord then ev { s0 with store := s0.store.rollForward r }
    else s0

/-- The floor state that the fuses imply (R454). -/
def Security.floor (x : Security) : Lc :=
  if x.fuseX then .scrapped else if x.fuseS then .sealed else if x.fuseP then .manufacture else .blank

/-- The order of R454, SERVICE ranking with SEALED. -/
def Lc.rank (l : Lc) : Nat := if l = .service then 3 else l.code

/-- The life-cycle state against the fuses (R455). -/
def Device.coldLifecycle (s : Device) (readable : Bool) : Device :=
  let f := s.sec.floor
  if readable && decide (f.rank ≤ s.sec.lc.rank) then { s with sec := s.sec.blow }
  else
    Device.journal { s with sec := { s.sec with lc := f } } 0x806 (packFlags [s.sec.fuseP, s.sec.fuseS, s.sec.fuseX])
      (if readable then s.sec.lc.code else 0xFF)

/-- COLD_START is journalled and counted; a reset by `RESET_N` counts RESET_PIN (R464, R491). -/
def Device.coldCount (s : Device) : Device :=
  let s1 := (s.journal 0x901 s.power.startCause s.sec.lc.code)
  let s2 := { s1 with power := { s1.power with coldStarts := satInc s1.power.coldStarts } }
  if s2.power.startCause = 2 then s2.tamperAt 9 s2.power.resetTick else s2

/-- STRAP_IMAGE is written, STRAP_LAST compared, the seal checked (R60, R75, R76, R464). -/
def Device.coldStraps (s : Device) (img : StrapImage) : Device :=
  let s1 := s.strapRead img
  let bad := s1.sec.lc.sealedOrService && img.codes != s1.straps.sealCodes
  let s2 := { s1 with straps := { s1.straps with
    codes := img.codes, badMask := img.bad, loadRefused := false, sealMismatch := bad, expertPendingBit := false
    safeBit := false } }
  if bad then s2.tamper 5 else s2

/-- An image that passes: its groups in force, those that wait marked (R68, R69, R71). -/
def Device.coldPass (s : Device) (img : StrapImage) (g : Groups) : Device :=
  let p := pendingOf img g
  { s with
    conf := { s.conf with g := g, pendingMask := p, safePreset := false }
    straps := { s.straps with inForce := some img.codes, expertPendingBit := p != 0 } }

/-- The Capstan and the held pricing set restart (R77, R177, R232); on a secondary they stand idle (R16). -/
def Device.capRestart (s : Device) (q : Nat) : Device :=
  if s.secondary then s
  else
    { s with
      cap := { qTurnN := q, restartTick := s.land.tick }
      toll := { s.toll with led := { s.toll.led with hold := none } } }

/-- The pulse outputs start from their reset state where the code of `CFG7` has changed (R77); a pulse in progress
finishes first. -/
def Device.pulseMoved (s : Device) (old : Option Nat) (img : StrapImage) : Device :=
  if old.map (codeOf · 7) = some (codeOf img.codes 7) then s else s.bounce .pulseOut

/-- The safe preset keeps what was in force, but for the radio, the display and the role that the image still gives
(R73, log 25): the Ferryman as a node where `CFG8` and `CFG9` are both good. Nothing is expert-pending in it. An image
that differs from the one in force restarts the Capstan here too (R77). -/
def Device.coldSafe (s : Device) (g : Groups) (moved : Bool) : Device :=
  let n := g.asNode
  let s1 := { s with
    conf := { s.conf with
      g := { s.conf.g with radio := n.radio, phy := n.phy, display := g.display, system := g.system }
      pendingMask := 0, safePreset := true }
    straps := { s.straps with safeBit := true } }
  if moved then s1.capRestart s1.cap.qTurnN else s1

/-- What an image in force brings beside its groups: restarts of R77, the default medium of R139, a fresh expected set
of R396; the class is that of the latest cold start, whatever a commit has made of it since. -/
def Device.coldImage (s : Device) (old : Option Nat) (img : StrapImage) : Device :=
  let moved := old != some img.codes
  let q := (s.conf.g.qTurn.map (·.qTurnN)).getD 0
  let s1 := if moved || q != s.cap.qTurnN then s.capRestart q else s
  let cs := s1.tr.cs
  let fresh := s1.conf.cls != cs.clsSeen || (!cs.adopted && cs.medium != defaultMedium s1.conf.cls)
  let cs1 := if fresh then cs.default s1.conf.cls else cs
  let s2 := if s1.conf.g.medium.isSome then { s1 with tr := { s1.tr with cs := { cs1 with clsSeen := s1.conf.cls } } } else s1
  let s3 := s2.pulseMoved old img
  if moved then { s3 with haw := { s3.haw with expected := 0, expectedKnown := false } } else s3

def SideLedger.reunit (l : SideLedger) (u : Nat) : SideLedger := { l with reg := l.tar.map (· / u) }

/-- The energy unit, and its change where another was in force (R235; log 30). -/
def Device.coldUnit (s : Device) : Device :=
  let mj := (s.conf.g.install.map (·.eUnitMJ)).getD s.toll.unitMJ
  if s.conf.g.install.isNone ∨ s.secondary = true then s
  else if mj = s.toll.unitMJ then { s with toll := { s.toll with unitHad := true } }
  else
    let l := s.toll.led
    let u := energyUnit mj
    let l1 := { l with heat := l.heat.reunit u, cool := l.cool.reunit u }
    let s1 := { s with toll := { s.toll with unitMJ := mj, led := l1, unitHad := true } }
    if !s.toll.unitHad then s1
    else (s1.journal 0x206 (l.total % 2 ^ 32) (l.total / 2 ^ 32)).journal 0x207 (l1.total % 2 ^ 32) (l1.total / 2 ^ 32)

/-- Landing and power fields of the `system` group, the rate trim, `ship_en` (R335, R336, R492). -/
def Device.coldSystem (s : Device) : Device :=
  let y := s.conf.system
  let l := s.land
  Device.pwrUpdate { s with
    land := { l with
      lf := s.conf.calib.lf, adjLimit := y.adjLimit, sealEn := y.sealEn, sealPeriod := y.sealPeriod
      pwrEnMode := y.pwrEnMode, pwrEnLead := y.pwrEnLead, plsEn := y.plsEn, plsDb := y.plsDb
      sealSt := if !y.sealEn then .notMonitored else if l.sealSt = .notMonitored then .ok else l.sealSt }
    power := { s.power with shipEn := y.shipEn } }

/-- Channels in use and the values shown before the first sample (R214, R215). -/
def Device.coldTemp (s : Device) : Device :=
  Device.useUnits { s with temp := { s.temp with
    sample := { s.temp.sample with pAbs := s.conf.install.pNom }
    lastDue := s.land.tick } }

/-- Landing, temperature and die temperature. -/
def Device.coldAnalog (s : Device) (inp : ColdStartInput) : Device :=
  let s1 := (s.coldSystem).coldTemp
  { s1 with land := { s1.land with dieTemp := clampS 16 inp.dieTemp } }

/-- The fit of the calibration and the energy unit, where the image passed (R235, R543). -/
def Device.coldFit (s : Device) : Device := if s.conf.safePreset then s else s.calibTest.coldUnit

/-- TDC calibration, the ageing correction, the converter and the Hawser. -/
def Device.coldClocks (s : Device) (inp : ColdStartInput) : Device :=
  [Func.converter, .hawser].foldl Device.wantStep (inp.tdcSteps.foldl Device.calStepRun s).ageRecompute.armMidnight

/-- The sequence waits for VHOLD, and a primary synchronises its cascade. -/
def Device.coldWait (s : Device) : Device :=
  let s1 := { s with power := { s.power with phase := .vholdWait, held := none } }
  if s1.haw.role = 1 ∧ s1.conf.safePreset = false then s1.startSync else s1

/-- The configuration of the image reaches the blocks. -/
def Device.coldBlocks (s : Device) (was : Conf) (inp : ColdStartInput) : Device :=
  let s2 := (((s.coldAnalog inp).initPaths was true).initPulse).initRadio.initRole
  let s5 := (s2.coldFit).coldClocks inp
  (s5.arm 10 (s5.land.tick + tpd) true).coldWait

/-- Strap read and validation (R60, R71). -/
def Device.coldImageRead (s : Device) (inp : ColdStartInput) : Device :=
  let img := decodeStraps inp.straps
  let was := s.conf
  let old := s.straps.inForce
  let moved := old != some img.codes || img.bad != 0
  let g := resolve img (storedGroups s.conf.expertStored) (if moved then 0 else s.haw.expected)
  let s1 := Device.coldStraps { s with haw := { s.haw with role := g.role } } img
  let s2 := { s1 with conf := { s1.conf with calib := storedCalib s1.conf.calibStored } }
  let s3 := match validate img g s.haw.expected (s.haw.expectedKnown && !moved) with
    | .pass => (s2.coldPass img g).coldImage old img
    | .fault => s2.coldSafe g moved
    | .refused =>
      (Device.coldSafe { s2 with straps := { s2.straps with loadRefused := true } } g moved).refuse 7
  s3.coldBlocks was inp

/-- From the journal step on; the Landing's events of the time without power are journalled (R331). -/
def Device.coldRest (s : Device) (inp : ColdStartInput) : Device :=
  let s0 := { s with power := { s.power with landRestarted := false, waitAlert := false } }
  let s1 := s0.coldJournal inp.journal
  let s2 := Device.coldLifecycle { s1 with power := { s1.power with undo := none } } inp.lcReadable
  (s2.coldCount.flushEvents).coldImageRead inp

/-- From the self-test on; after a restart of the Landing the sequence waits for LFX at the journal step (R480). -/
def Device.coldSelfTest (s : Device) (inp : ColdStartInput) : Device :=
  let s1 := s.coldTests inp
  if s1.power.landRestarted then { s1 with power := { s1.power with phase := .lfxWait } } else s1.coldRest inp

/-- The sequence begins; a VCORE outside its band holds it (R512). -/
def Device.coldBegin (s : Device) (inp : ColdStartInput) : Device :=
  let s1 := s.coldClear inp
  if vcoreOk inp.vcoreMv then s1.coldSelfTest inp
  else { s1 with st := { s1.st with condWait := true }, power := { s1.power with waitOsc := s1.land.osc, waitChecks := 0 } }

/-- COLD_START (R479): one is due, the hold-up commit before it is over, the supply is there. -/
def execColdStart (dt : Nat) (inp : ColdStartInput) (s : State) : Host.Outcome State Fault Refusal :=
  let d := s.dev.elapse dt
  .next { s with dev :=
    if d.power.coldDue && !d.power.holdDue && !d.inReset && d.power.phase == .down && d.land.supply == .bat &&
        d.power.st != .ship then
      d.coldBegin inp
    else d }

/-- COND_WAIT_END (R512): the repeated check; one that still fails goes on waiting. -/
def execCondWaitEnd (dt : Nat) (vcoreMv : Nat) (s : State) : Host.Outcome State Fault Refusal :=
  let d := s.dev.elapse dt
  .next { s with dev :=
    match d.power.held with
    | some inp =>
      if d.power.phase == .condWait && d.st.condWait && !d.power.holdDue then
        let d1 := { d with st := { d.st with vcoreMv := vcoreMv } }
        if vcoreOk vcoreMv then d1.coldSelfTest inp
        else { d1 with power := { d1.power with waitChecks := d1.power.waitChecks + 1 } }
      else d
    | none => d }

/-- LFX_WAIT (R480): after `waitMs`, LFX runs, or the wait goes on; beyond 2 s `ALERT` is asserted. -/
def execLfxWait (dt : Nat) (waitMs : Nat) (started : Bool) (s : State) : Host.Outcome State Fault Refusal :=
  let d := s.dev.elapse dt
  .next { s with dev :=
    match d.power.held with
    | some inp =>
      if d.power.phase == .lfxWait && !d.power.holdDue then
        if started then
          (Device.journal { d with land := { d.land with lfxRunning := true } } 0x903 waitMs 0).coldRest inp
        else { d with power := { d.power with waitAlert := d.power.waitAlert || decide (2000 < waitMs) } }
      else d
    | none => d }

/-! ## The start of service (R171, R245, R284, R479) -/

/-- The span of no power, or that it is unknown; origins at t0 (R245). -/
def FaultTime.restart (f : FaultTime) (t0 tDown : Nat) (stopped : Bool) : FaultTime :=
  { f with tCond := t0
           tOff := if stopped then f.tOff else satAdd 64 f.tOff (t0 - tDown)
           offUnknown := if stopped then satInc f.offUnknown else f.offUnknown }

/-- `t_est` at t0: nothing accrues for the time before it (R171, R253). -/
def Device.estStart (s : Device) (t0 : Nat) : Nat := if s.tr.cs.flowFault then t0 else s.toll.led.tEst

/-- The Tollhouse at t0: power-off time, the transaction of t0, the end of a FLOW_FAULT, the start of metering. -/
def Device.tollStart (s : Device) : Device :=
  let t0 := s.land.tick
  let s1 := { s with toll := { s.toll with
    ft := s.toll.ft.restart t0 s.power.tDown s.land.oscStopped
    led := { s.toll.led with tEst := s.estStart t0, vol := { s.toll.led.vol with incRem := 0, tPrev := t0 } } } }
  let s2 := s1.transactionT0.endFlowFault t0
  if s2.meteringAllowed then s2.startMetering else s2

/-- The functions that wait for t0 leave OFF, and their timers begin. -/
def Device.functionsStart (s : Device) : Device :=
  let s0 := s.applyFunctions
  let s1 := if s0.secondary then s0 else s0.initShot.armWake
  let s2 := if s1.on .display then s1.displayStart else { s1 with disp := s1.displayPick.1 }
  let s3 := if s2.secondary then s2 else s2.fallDue
  s3.planRadio

/-- Service begins at t0. -/
def Device.serviceStart (s : Device) (vholdMv : Nat) : Device :=
  let s1 := { s with power := { s.power with phase := .running, vholdMv := min vholdMv 0xFFFF, vholdAt := s.land.osc } }
  let s2 := if s1.tolling then s1.tollStart else s1
  ((s2.functionsStart).flushEvents).recond

/-- METERING_START (R284): VHOLD has reached 4.40 V, and a primary's cascade is synchronised. -/
def execMeteringStart (dt : Nat) (vholdMv : Nat) (s : State) : Host.Outcome State Fault Refusal :=
  let d := s.dev.elapse dt
  .next { s with dev :=
    if d.power.phase == .vholdWait && !d.power.holdDue && decide (4400 ≤ vholdMv) && d.syncIdle then d.serviceStart vholdMv
    else d }

end Sys2Proof.Machine
end

