-- ==== Sys2Proof/Machine/Dispatch.lean ====
section
/-! DEFINITION. One arm for each command: a direct call of its meaning. -/

namespace Sys2Proof.Machine

/-- The effect of one command on everything but the queue. -/
def exec (i : Instr) (s : State) : Host.Outcome State Fault Refusal :=
  match i with
  | .shotTimerExpiry dt ref => Sys2Proof.Machine.execShotTimerExpiry dt ref s
  | .shotRisingEdge e => Sys2Proof.Machine.execShotRisingEdge e s
  | .pathPairDone dt cap => Sys2Proof.Machine.execPathPairDone dt cap s
  | .refInLoss dt => Sys2Proof.Machine.execRefInLoss dt s
  | .admitIncrement dt => Sys2Proof.Machine.execAdmitIncrement dt s
  | .gapHoldExpiry dt => Sys2Proof.Machine.execGapHoldExpiry dt s
  | .tempSampleDue dt => Sys2Proof.Machine.execTempSampleDue dt s
  | .sampleComplete dt m => Sys2Proof.Machine.execSampleComplete dt m s
  | .strapReread dt reads => Sys2Proof.Machine.execStrapReread dt reads s
  | .boundaryTransaction dt => Sys2Proof.Machine.execBoundaryTransaction dt s
  | .hfxCorrRecompute dt => Sys2Proof.Machine.execHfxCorrRecompute dt s
  | .tdcCalTrigger dt dieTemp => Sys2Proof.Machine.execTdcCalTrigger dt dieTemp s
  | .tdcCalStep dt step => Sys2Proof.Machine.execTdcCalStep dt step s
  | .bgStepDue dt unit => Sys2Proof.Machine.execBgStepDue dt unit s
  | .scrubStep dt found passEnd => Sys2Proof.Machine.execScrubStep dt found passEnd s
  | .flashCopy dt compares => Sys2Proof.Machine.execFlashCopy dt compares s
  | .flashErase dt verifies => Sys2Proof.Machine.execFlashErase dt verifies s
  | .selftestRound dt hfxCount => Sys2Proof.Machine.execSelftestRound dt hfxCount s
  | .selftestStep dt block vcoreMv last first second misr => Sys2Proof.Machine.execSelftestStep dt block vcoreMv last first second misr s
  | .displayRefresh dt => Sys2Proof.Machine.execDisplayRefresh dt s
  | .displayFrameBoundary dt => Sys2Proof.Machine.execDisplayFrameBoundary dt s
  | .buttonPress dt held => Sys2Proof.Machine.execButtonPress dt held s
  | .buttonHoldJoin dt => Sys2Proof.Machine.execButtonHoldJoin dt s
  | .pageTimeout dt => Sys2Proof.Machine.execPageTimeout dt s
  | .displayBudgetWindow dt => Sys2Proof.Machine.execDisplayBudgetWindow dt s
  | .shipEntry dt held => Sys2Proof.Machine.execShipEntry dt held s
  | .shipExit dt cause pins => Sys2Proof.Machine.execShipExit dt cause pins s
  | .resetNLow dt lowUs => Sys2Proof.Machine.execResetNLow dt lowUs s
  | .coldStart dt inp => Sys2Proof.Machine.execColdStart dt inp s
  | .lfxWait dt waitMs started => Sys2Proof.Machine.execLfxWait dt waitMs started s
  | .meteringStart dt vholdMv => Sys2Proof.Machine.execMeteringStart dt vholdMv s
  | .powerStateEntry dt edges wakeInSave => Sys2Proof.Machine.execPowerStateEntry dt edges wakeInSave s
  | .wake dt src => Sys2Proof.Machine.execWake dt src s
  | .holdupCommit dt holdUs records => Sys2Proof.Machine.execHoldupCommit dt holdUs records s
  | .vholdMeasure dt mv => Sys2Proof.Machine.execVholdMeasure dt mv s
  | .vextTakeover dt => Sys2Proof.Machine.execVextTakeover dt s
  | .vextRelease dt => Sys2Proof.Machine.execVextRelease dt s
  | .supplyLockout dt => Sys2Proof.Machine.execSupplyLockout dt s
  | .supplyBkp dt => Sys2Proof.Machine.execSupplyBkp dt s
  | .supplyBat dt pins => Sys2Proof.Machine.execSupplyBat dt pins s
  | .landingLost dt => Sys2Proof.Machine.execLandingLost dt s
  | .lfxStop dt => Sys2Proof.Machine.execLfxStop dt s
  | .lfxRestart dt => Sys2Proof.Machine.execLfxRestart dt s
  | .correctionApply dt => Sys2Proof.Machine.execCorrectionApply dt s
  | .trimCorrection dt => Sys2Proof.Machine.execTrimCorrection dt s
  | .tempCompensation dt dieTemp => Sys2Proof.Machine.execTempCompensation dt dieTemp s
  | .timeNowUpdate dt => Sys2Proof.Machine.execTimeNowUpdate dt s
  | .adjDayReset dt => Sys2Proof.Machine.execAdjDayReset dt s
  | .timeSetApply dt => Sys2Proof.Machine.execTimeSetApply dt s
  | .sealProbe dt high highBetween => Sys2Proof.Machine.execSealProbe dt high highBetween s
  | .sealShortDetect dt => Sys2Proof.Machine.execSealShortDetect dt s
  | .caseMagChange dt pin high => Sys2Proof.Machine.execCaseMagChange dt pin high s
  | .tamperFifoService dt => Sys2Proof.Machine.execTamperFifoService dt s
  | .pulseInCount dt input => Sys2Proof.Machine.execPulseInCount dt input s
  | .pulseOutStart dt output => Sys2Proof.Machine.execPulseOutStart dt output s
  | .pulseOutRelease dt output => Sys2Proof.Machine.execPulseOutRelease dt output s
  | .functionDrained dt f => Sys2Proof.Machine.execFunctionDrained dt f s
  | .functionRestart dt f => Sys2Proof.Machine.execFunctionRestart dt f s
  | .optRecord dt frame busyMs => Sys2Proof.Machine.execOptRecord dt frame busyMs s
  | .optRead dt frame => Sys2Proof.Machine.execOptRead dt frame s
  | .optBaud dt frame => Sys2Proof.Machine.execOptBaud dt frame s
  | .optHello dt frame => Sys2Proof.Machine.execOptHello dt frame s
  | .optIdleTimeout dt => Sys2Proof.Machine.execOptIdleTimeout dt s
  | .optFrameGap dt => Sys2Proof.Machine.execOptFrameGap dt s
  | .provision dt path rest => Sys2Proof.Machine.execProvision dt path rest s
  | .identity dt path rest => Sys2Proof.Machine.execIdentity dt path rest s
  | .keys dt path rest => Sys2Proof.Machine.execKeys dt path rest s
  | .lifecycle dt path rest => Sys2Proof.Machine.execLifecycle dt path rest s
  | .calib dt path rest => Sys2Proof.Machine.execCalib dt path rest s
  | .paramExpert dt path rest => Sys2Proof.Machine.execParamExpert dt path rest s
  | .tariffCal dt path rest => Sys2Proof.Machine.execTariffCal dt path rest s
  | .timeSet dt path rest => Sys2Proof.Machine.execTimeSet dt path rest s
  | .radioCfg dt path rest => Sys2Proof.Machine.execRadioCfg dt path rest s
  | .radioKeys dt path rest => Sys2Proof.Machine.execRadioKeys dt path rest s
  | .displayReq dt path rest => Sys2Proof.Machine.execDisplayReq dt path rest s
  | .wipe dt path rest => Sys2Proof.Machine.execWipe dt path rest s
  | .tapInstructionLoad dt level => Sys2Proof.Machine.execTapInstructionLoad dt level s
  | .trstNRise dt => Sys2Proof.Machine.execTrstNRise dt s
  | .contactAlarm dt => Sys2Proof.Machine.execContactAlarm dt s
  | .ackWaitTimeout dt => Sys2Proof.Machine.execAckWaitTimeout dt s
  | .rxPoll dt f => Sys2Proof.Machine.execRxPoll dt f s
  | .rxJoinPoll dt f => Sys2Proof.Machine.execRxJoinPoll dt f s
  | .rxAck dt f => Sys2Proof.Machine.execRxAck dt f s
  | .rxData dt f => Sys2Proof.Machine.execRxData dt f s
  | .rxRead dt f => Sys2Proof.Machine.execRxRead dt f s
  | .rxNote dt f => Sys2Proof.Machine.execRxNote dt f s
  | .rxTime dt f => Sys2Proof.Machine.execRxTime dt f s
  | .parentWindowOpen dt child => Sys2Proof.Machine.execParentWindowOpen dt child s
  | .windowMiss dt child => Sys2Proof.Machine.execWindowMiss dt child s
  | .searchWindow dt child => Sys2Proof.Machine.execSearchWindow dt child s
  | .childEvicted dt child => Sys2Proof.Machine.execChildEvicted dt child s
  | .dlExpired dt entry => Sys2Proof.Machine.execDlExpired dt entry s
  | .proxyExpired dt entry => Sys2Proof.Machine.execProxyExpired dt entry s
  | .joinWindowClose dt => Sys2Proof.Machine.execJoinWindowClose dt s
  | .txBudgetWindow dt => Sys2Proof.Machine.execTxBudgetWindow dt s
  | .searchBudgetPeriod dt => Sys2Proof.Machine.execSearchBudgetPeriod dt s
  | .wmbusTelegram dt => Sys2Proof.Machine.execWmbusTelegram dt s
  | .hawserWakeSchedule dt => Sys2Proof.Machine.execHawserWakeSchedule dt s
  | .hawserWakeBurst dt pulses => Sys2Proof.Machine.execHawserWakeBurst dt pulses s
  | .hawserIdleTimeout dt => Sys2Proof.Machine.execHawserIdleTimeout dt s
  | .syncReq dt f => Sys2Proof.Machine.execSyncReq dt f s
  | .syncRsp dt f => Sys2Proof.Machine.execSyncRsp dt f s
  | .cfg dt f => Sys2Proof.Machine.execCfg dt f s
  | .fire dt f => Sys2Proof.Machine.execFire dt f s
  | .mark dt f => Sys2Proof.Machine.execMark dt f s
  | .half dt f own fireEdge markEdge => Sys2Proof.Machine.execHalf dt f own fireEdge markEdge s
  | .result dt f => Sys2Proof.Machine.execResult dt f s
  | .sampleReq dt f => Sys2Proof.Machine.execSampleReq dt f s
  | .sampleRsp dt f => Sys2Proof.Machine.execSampleRsp dt f s
  | .loopcal dt f answerEdge => Sys2Proof.Machine.execLoopcal dt f answerEdge s
  | .loopcalRsp dt f requestEdge => Sys2Proof.Machine.execLoopcalRsp dt f requestEdge s
  | .loopcalRun dt dieTemp => Sys2Proof.Machine.execLoopcalRun dt dieTemp s
  | .time dt f => Sys2Proof.Machine.execTime dt f s
  | .hawserTimeBroadcast dt => Sys2Proof.Machine.execHawserTimeBroadcast dt s
  | .refuse dt f => Sys2Proof.Machine.execRefuse dt f s
  | .ack dt f => Sys2Proof.Machine.execAck dt f s
  | .hawserAnswerTimeout dt => Sys2Proof.Machine.execHawserAnswerTimeout dt s
  | .trstNFall dt => Sys2Proof.Machine.execTrstNFall dt s
  | .pwrEnLead dt => Sys2Proof.Machine.execPwrEnLead dt s
  | .condWaitEnd dt vcoreMv => Sys2Proof.Machine.execCondWaitEnd dt vcoreMv s
  | .missingResponse dt => Sys2Proof.Machine.execMissingResponse dt s

end Sys2Proof.Machine
end

