-- ==== Sys2Proof/WellFormed.lean ====
section
/-! DEFINITION. Which commands the world can present: the ranges of the operands that the manual gives them. The
meanings are total and do not rest on these checks. -/

namespace Sys2Proof

/-- v lies in [lo, hi]. -/
def within (lo hi v : Int) : Bool := decide (lo ≤ v ∧ v ≤ hi)

/-- A raw stamp: a 24-bit coarse count (R93) and a raw fine code from 0 to 12 287 (R95). -/
def RawStamp.wf (x : RawStamp) : Bool := decide (x.coarse < 2 ^ 24) && decide (x.raw ≤ 12287)

/-- One receive chain: 12-bit samples (R87). -/
def ChainCapture.wf (x : ChainCapture) : Bool := x.samples.all (within (-2048) 2047) && x.crossings.all (·.wf)

def PairCapture.wf (x : PairCapture) : Bool := x.startUp.wf && x.startDown.wf && x.chainA.wf && x.chainB.wf

/-- A conversion: a ratio u32 (R195). -/
def Conv.wf (x : Conv) : Bool := decide (x.ratio < 2 ^ 32)

/-- A bridge conversion: r s32 (R210). -/
def BridgeConv.wf (x : BridgeConv) : Bool := within (-(2 ^ 31)) (2 ^ 31 - 1) x.r

/-- A sample: four channels, both attempts of each (R201). -/
def SampleInput.wf (x : SampleInput) : Bool :=
  decide (x.ref1 < 2 ^ 32) && decide (x.ref2 < 2 ^ 32) && x.chans.length == 4 &&
    x.chans.all (fun c => c.1.wf && c.2.wf) && x.bridge.1.wf && x.bridge.2.wf

/-- Twelve straps, at most three pairs for each (R59, R60). -/
def strapsWf (r : StrapReads) : Bool := r.length == 12 && r.all fun p => decide (p.length ≤ 3)

/-- A calibration step of R96: density steps 1 to 16 with 96 counts, bands 0 to 7. -/
def CalStep.wf (x : CalStep) : Bool :=
  match x with
  | .span _ => true
  | .density n hits => decide (1 ≤ n ∧ n ≤ 16) && hits.length == 96
  | .loopback b _ _ => decide (b < 8)

/-- A die temperature, s16 in 2^-8 °C (R302). -/
def dieTempWf (t : Int) : Bool := within (-32768) 32767 t

/-- A cold start: results of blocks 0 to 8, twelve straps (R479, R514). -/
def ColdStartInput.wf (x : ColdStartInput) : Bool :=
  x.tests.length == 9 && (x.tests.all fun r => r.2.2.all fun v => decide (v < 2 ^ 32)) && strapsWf x.straps && x.tdcSteps.all (·.wf) && dieTempWf x.dieTemp

/-- A word of 32 bits at an index of R542. -/
def WordAt.wf (x : WordAt) : Bool :=
  decide (x.word < 2 ^ 16) && match x.read with
    | .good v | .single v => decide (v < 2 ^ 32)
    | .double => true

/-- What a scrub step reads: at most 16 words of single copies, or 4 in each of three copies (R497), items of 16 bits
(R542). -/
def ScrubFinding.wf (x : ScrubFinding) : Bool :=
  match x with
  | .singles l => decide (l.length ≤ 16) && l.all fun e => decide (e.1 < 2 ^ 16) && e.2.wf
  | .triples l =>
    decide (l.length ≤ 4) && l.all fun e => decide (e.1 < 2 ^ 16) && e.2.1.wf && e.2.2.1.wf && e.2.2.2.wf

/-- A received frame: a PSDU of at most 255 bytes, an FCS of 2 or 4 bytes (R340), a channel from 0 to 128 (R343). -/
def RxFrame.wf (x : RxFrame) : Bool :=
  decide (x.psdu.length ≤ 255) && (x.fcsLen == 2 || x.fcsLen == 4) && within (-128) 127 x.rssi && decide (x.chan ≤ 128)

/-- A Hawser frame from offset 0 to its CRC: at most 255 bytes of payload (R391), and a timing edge at the TDC. -/
def HwFrame.wf (x : HwFrame) : Bool := decide (6 ≤ x.bytes.length ∧ x.bytes.length ≤ 261) && x.stamp.wf

/-- A record of at most 16 384 bytes, its type byte among them (R440). -/
def recWf (rest : Bytes) : Bool := decide (rest.length < 16384)

/-- An optical frame: at most 16 400 bytes of payload and 7 around it (R452). -/
def optWf (b : Bytes) : Bool := decide (b.length ≤ 16407)

/-- A command whose operands lie in their ranges. -/
def Instr.wf (i : Instr) : Bool :=
  match i with
  | .pathPairDone _ cap => cap.wf
  | .sampleComplete _ m => m.wf
  | .strapReread _ r => strapsWf r
  | .tdcCalTrigger _ t => dieTempWf t
  | .tdcCalStep _ x => x.wf
  | .scrubStep _ f _ => f.wf
  | .selftestStep _ b _ _ _ _ m => decide (b ≤ 9) && m.all fun v => decide (v < 2 ^ 32)
  | .coldStart _ inp => inp.wf
  | .wake _ src => within 1 8 src
  | .tempCompensation _ t => dieTempWf t
  | .pulseInCount _ n => decide (n < 4)
  | .pulseOutStart _ n => decide (n < 2)
  | .pulseOutRelease _ n => decide (n < 2)
  | .optRecord _ b _ => optWf b
  | .optRead _ b => optWf b
  | .optBaud _ b => optWf b
  | .optHello _ b => optWf b
  | .provision _ _ r => recWf r
  | .identity _ _ r => recWf r
  | .keys _ _ r => recWf r
  | .lifecycle _ _ r => recWf r
  | .calib _ _ r => recWf r
  | .paramExpert _ _ r => recWf r
  | .tariffCal _ _ r => recWf r
  | .timeSet _ _ r => recWf r
  | .radioCfg _ _ r => recWf r
  | .radioKeys _ _ r => recWf r
  | .displayReq _ _ r => recWf r
  | .wipe _ _ r => recWf r
  | .rxPoll _ f => f.wf
  | .rxJoinPoll _ f => f.wf
  | .rxAck _ f => f.wf
  | .rxData _ f => f.wf
  | .rxRead _ f => f.wf
  | .rxNote _ f => f.wf
  | .rxTime _ f => f.wf
  | .parentWindowOpen _ c => within 1 500 c
  | .windowMiss _ c => within 1 500 c
  | .searchWindow _ c => within 1 500 c
  | .childEvicted _ c => within 1 500 c
  | .dlExpired _ e => decide (e < 24)
  | .proxyExpired _ e => decide (e < 24)
  | .syncReq _ f => f.wf
  | .syncRsp _ f => f.wf
  | .cfg _ f => f.wf
  | .fire _ f => f.frame.wf
  | .mark _ f => f.wf
  | .half _ f own a b => f.wf && own.wf && a.wf && b.wf
  | .result _ f => f.wf
  | .sampleReq _ f => f.wf
  | .sampleRsp _ f => f.wf
  | .loopcal _ f a => f.wf && a.wf
  | .loopcalRsp _ f a => f.wf && a.wf
  | .loopcalRun _ t => dieTempWf t
  | .time _ f => f.wf
  | .refuse _ f => f.wf
  | .ack _ f => f.wf
  | .shotTimerExpiry _ _ => true
  | .shotRisingEdge _ => true
  | .refInLoss _ => true
  | .admitIncrement _ => true
  | .gapHoldExpiry _ => true
  | .tempSampleDue _ => true
  | .boundaryTransaction _ => true
  | .hfxCorrRecompute _ => true
  | .bgStepDue _ _ => true
  | .flashCopy _ _ => true
  | .flashErase _ _ => true
  | .selftestRound _ _ => true
  | .displayRefresh _ => true
  | .displayFrameBoundary _ => true
  | .buttonPress _ _ => true
  | .buttonHoldJoin _ => true
  | .pageTimeout _ => true
  | .displayBudgetWindow _ => true
  | .shipEntry _ _ => true
  | .shipExit _ _ _ => true
  | .resetNLow _ _ => true
  | .lfxWait _ _ _ => true
  | .meteringStart _ _ => true
  | .powerStateEntry _ _ _ => true
  | .holdupCommit _ _ _ => true
  | .vholdMeasure _ _ => true
  | .vextTakeover _ => true
  | .vextRelease _ => true
  | .supplyLockout _ => true
  | .supplyBkp _ => true
  | .supplyBat _ _ => true
  | .landingLost _ => true
  | .lfxStop _ => true
  | .lfxRestart _ => true
  | .correctionApply _ => true
  | .trimCorrection _ => true
  | .timeNowUpdate _ => true
  | .adjDayReset _ => true
  | .timeSetApply _ => true
  | .sealProbe _ _ _ => true
  | .sealShortDetect _ => true
  | .caseMagChange _ _ _ => true
  | .tamperFifoService _ => true
  | .functionDrained _ _ => true
  | .functionRestart _ _ => true
  | .optIdleTimeout _ => true
  | .optFrameGap _ => true
  | .tapInstructionLoad _ _ => true
  | .trstNRise _ => true
  | .contactAlarm _ => true
  | .ackWaitTimeout _ => true
  | .joinWindowClose _ => true
  | .txBudgetWindow _ => true
  | .searchBudgetPeriod _ => true
  | .wmbusTelegram _ => true
  | .hawserWakeSchedule _ => true
  | .hawserWakeBurst _ _ => true
  | .hawserIdleTimeout _ => true
  | .hawserTimeBroadcast _ => true
  | .hawserAnswerTimeout _ => true
  | .trstNFall _ => true
  | .pwrEnLead _ => true
  | .condWaitEnd _ _ => true
  | .missingResponse _ => true

end Sys2Proof
end

