-- ==== Sys2Proof/Safety.lean ====
section
/-! DEFINITION. What counts as a safe run, in the terms the statements use. -/

namespace Sys2Proof

open Machine

/-- The one-time fuses back the life-cycle state (R454): with X blown the device is SCRAPPED, with S blown it is
SEALED, in SERVICE or SCRAPPED, with P blown it is no longer BLANK. -/
def LifeSafe (s : State) : Prop :=
  (s.dev.sec.fuseX = true → s.dev.sec.lc = .scrapped) ∧
  (s.dev.sec.fuseS = true → s.dev.sec.lc = .sealed ∨ s.dev.sec.lc = .service ∨ s.dev.sec.lc = .scrapped) ∧
  (s.dev.sec.fuseP = true → s.dev.sec.lc ≠ .blank)

/-- Every waiting command is one that the world can present. -/
def QueueWf (s : State) : Prop := ∀ c ∈ s.pending, c.wf = true

/-- A run of `n` steps from `s` reaches `t`. -/
def Runs : Nat → State → State → Prop
  | 0, s, t => s = t
  | n + 1, s, t => ∃ u, step s = .next u ∧ Runs n u t

/-- The device takes the record `r`, of the type `typ` and arriving on `p`: it is up, its controller is not isolated, and
no check of R441 fails. -/
def Takes (d : Device) (typ : Nat) (p : RecPath) (rest : Bytes) (r : Rec) : Prop :=
  r = recOf (BitVec.ofNat 8 typ :: rest) ∧ d.up = true ∧ d.st.secIsolated = false ∧ d.recCause p r = 0

/-- What every accepted record leaves (R441, R443, R450): its verdict with cause 0, its sequence number and its hash. -/
def Accepted (d t : Device) (p : RecPath) (r : Rec) : Prop :=
  t.sec.verdicts.head? = some ⟨d.land.tick, r.typ, 0, r.seq, r.signer 0, if r.nSig = 2 then r.signer 1 else 15, p == .air⟩ ∧
    t.sec.seqOf (r.signer 0) = r.seq ∧ t.sec.hashes = d.sec.hashes.set (r.signer 0) (r.hash.take 16)

/-- What a device in service gives up as soon as a hold-up commit starts (R24, R374, R482, R484): the exchange, the note in
reassembly and every open window, the path-pair in flight, the job of the primary, the conversion. -/
def GivesUp (d t : Device) : Prop :=
  t.radio.exch = none ∧ t.radio.reasm = none ∧ t.radio.joinOpen = false ∧
    (∀ c ∈ t.radio.children, c.windowOpen = false) ∧ t.radio.fcntTx = d.radio.fcntTx ∧ t.tr.cyc.inFlight = none ∧
    t.haw = { d.haw with job := none } ∧ t.temp = { d.temp with running := false, parts := [], awaiting := [], ownPart := none }

/-- The receiver of the Ferryman stands open, in a power state in which it works, on the channel of the frame (R344, R358,
R362, R365, R470). -/
def Receives (d : Device) (f : RxFrame) : Prop :=
  d.up = true ∧ d.awake = true ∧ d.on .ferryman = true ∧ d.listening = true ∧ d.hearing.contains f.chan = true

/-- The frame `f`, of type `typ`, comes on the link `l`, is good and opens to the payload `m` (R340, R348 to R350). -/
def Hears (d : Device) (f : RxFrame) (typ : Nat) (p : AirParts) (l : Link) (m : Bytes) : Prop :=
  Receives d f ∧ f.modeSwitch = false ∧ fcsGood f.psdu f.fcsLen = true ∧
    airParse f.psdu f.fcsLen = some p ∧ p.version = 0 ∧ p.hdr.typ = typ ∧ 1 ≤ typ ∧ typ ≤ 6 ∧ d.linkOf p.hdr = some l ∧
    (∀ k, l ≠ .stranger k) ∧ ∃ key, d.netKey (decide (l = .up)) p.hdr.keyId = some key ∧
      ccmOpen key (airNonce (d.peerEui p.hdr l) p.fcnt) p.head p.cipher p.mic = some m

/-- The exchange in progress has room for this device's answer and, after it, for `more` frames (R359). -/
def AnswerFits (d : Device) (more : Nat) : Prop := ∀ e, d.radio.exch = some e → e.frames + 2 + more ≤ d.phyP.exchMax

/-- The frame is no repeat and not too old (R363). -/
def IsFresh (d : Device) (p : AirParts) (l : Link) : Prop := ∃ h b, (d.replay l (d.newUpper p.hdr) p.fcnt).1 = .accept h b

/-- Neither a transmit budget nor the frame counter keeps the device from sending (R345, R351). -/
def MaySend (d : Device) : Prop := d.radioP.budgetUs = none ∧ d.radio.fcntTx < 0xFFFFFF00

/-- A Hawser frame of type `typ` for this device, or for all, while the Hawser works (R391 to R393, R470). -/
def HwHears (d : Device) (f : HwFrame) (typ : Nat) (p : HwParts) : Prop :=
  d.on .hawser = true ∧ d.hwLive = true ∧ d.hwAccept typ f = some p

/-- It answers the outstanding request of type `req` of the primary (R393). -/
def HwAnswers (d : Device) (f : HwFrame) (typ req : Nat) (p : HwParts) : Prop :=
  d.haw.role = 1 ∧ HwHears d f typ p ∧ 1 ≤ p.src ∧ p.src ≤ 5 ∧ d.haw.secs.length = 5 ∧
    ∃ o, d.haw.out = some o ∧ o.dst = p.src ∧ o.typ = req

end Sys2Proof
end

