-- ==== Sys2Proof/Certificates/Slice0/Obligations.lean ====
section
/-! DEFINITION. The statements of this row. In each of them `d` is the device once the `dt` oscillator cycles before
the command have passed; a conclusion that equates the next state with a record update is the frame as well. -/

open Sys2Proof Sys2Proof.Machine

/-- A step of a state with `c` at the front of its queue is `exec` of `c` on the state with the queue's rest. -/
def Obligations.StepRunsTheFrontCommand : Prop :=
  ∀ (c : Instr) (s : State), step { s with pending := c :: s.pending } = exec c s

/-- No command stops, and none touches the queue. -/
def Obligations.EveryCommandCompletesAndKeepsTheQueue : Prop :=
  ∀ (c : Instr) (s : State), ∃ t : Device, exec c s = .next { s with dev := t }

/-- R298, R299, R303, R308, R315, R470: cycles while the Landing counts, and while it does not. Log 1 (the model's choice): one
cycle passes in a step on an empty queue. -/
def Obligations.IdleStepAndTimePassing : Prop :=
  (∀ (d : Device) (n : Nat), d.land.lfxRunning = true → d.land.supply ≠ .lost → d.power.st ≠ .ship →
    d.land.tick ≤ 2 ^ 48 - 1 →
    (d.elapse n).land.tick = min (d.land.tick + n) (2 ^ 48 - 1) ∧ (d.elapse n).land.osc = d.land.osc + n) ∧
  (∀ (s : State) (dt t : Nat) (l : Landing), s.dev.land.lfxRunning = true → s.dev.land.supply ≠ .lost →
    s.dev.power.st ≠ .ship → s.dev.land.tick ≤ 2 ^ 48 - 1 → t = min (s.dev.land.tick + dt) (2 ^ 48 - 1) →
    l = (s.dev.elapse dt).land →
    exec (.timeNowUpdate dt) s = .next { s with dev := { s.dev.elapse dt with
      land := { l with cal := timeNow s.dev.bill.calActive t } } } ∧
    exec (.adjDayReset dt) s = .next { s with dev := { s.dev.elapse dt with
      land := { l with adjDay := if t % 2831155200 < 32768 then 0 else l.adjDay } } }) ∧
  (∀ (d : Device) (n : Nat), d.land.lfxRunning = false ∨ d.land.supply = .lost ∨ d.power.st = .ship →
    d.elapse n = { d with store := { d.store with txnOpen := false, txnMask := 0, readySince := d.readyTimes } }) ∧
  (∀ s : State, s.pending = [] → step s = .next { s with dev := s.dev.elapse 1 })

/-- What passes in two spans is what passes in their sum. -/
def Obligations.TimePassingComposes : Prop :=
  ∀ (d : Device) (a b : Nat), ∃ w, (d.elapse a).elapse b =
    { d.elapse (a + b) with store := { (d.elapse (a + b)).store with readySince := w } }

/-- The state at reset: what R304, R454 and R479 give, and (log 2 to 4, the model's) empty ledgers and journal. -/
def Obligations.ResetLeaves : Prop :=
  State.reset.pending = [] ∧ State.reset.dev.sec.lc = .blank ∧ State.reset.dev.sec.fuseP = false ∧
    State.reset.dev.sec.fuseS = false ∧ State.reset.dev.sec.fuseX = false ∧ State.reset.dev.land.neverSet = true ∧
    State.reset.dev.trusted = false ∧ State.reset.dev.fn = { optical := { st := .on, wanted := true } } ∧
    State.reset.dev.toll.led = {} ∧ State.reset.dev.jnl = {} ∧ State.reset.dev.power.st = .unpowered ∧
    State.reset.dev.power.coldDue = true ∧ State.reset.dev.power.phase = .down

/-- The invariant of `LifeSafeKept` holds at reset. -/
def Obligations.LifeSafeAtReset : Prop := LifeSafe State.reset

/-- R454, R455, R456: every step keeps the relation between the fuses and the life-cycle state. -/
def Obligations.LifeSafeKept : Prop :=
  ∀ s t : State, LifeSafe s → step s = .next t → LifeSafe t

/-- R454: the fuses are one-time. -/
def Obligations.FusesAreNeverUnblown : Prop :=
  ∀ s t : State, step s = .next t →
    (s.dev.sec.fuseP = true → t.dev.sec.fuseP = true) ∧ (s.dev.sec.fuseS = true → t.dev.sec.fuseS = true) ∧
      (s.dev.sec.fuseX = true → t.dev.sec.fuseX = true)

/-- R446, R455, R456: every way in which any command moves the life-cycle state. -/
def Obligations.LifeCycleMovesOnlyAsTabled : Prop :=
  ∀ (c : Instr) (s t : State), exec c s = .next t → t.dev.sec.lc ≠ s.dev.sec.lc →
    (s.dev.sec.lc, t.dev.sec.lc) ∈ [(Lc.blank, Lc.manufacture), (.manufacture, .calibrate), (.calibrate, .manufacture),
      (.calibrate, .sealed), (.sealed, .service), (.service, .sealed), (.blank, .scrapped), (.manufacture, .scrapped),
      (.calibrate, .scrapped), (.sealed, .scrapped), (.service, .scrapped)] ∨
    ((∃ dt i, c = .coldStart dt i) ∨ (∃ dt w b, c = .lfxWait dt w b) ∨ (∃ dt v, c = .condWaitEnd dt v)) ∧
      t.dev.sec.lc = (if s.dev.sec.fuseX then Lc.scrapped else if s.dev.sec.fuseS then .sealed
        else if s.dev.sec.fuseP then .manufacture else .blank)

/-- R9, R454: what can reach the life-cycle state and the fuses. -/
def Obligations.OnlyRecordsAndColdStartsTouchTheLifeCycle : Prop :=
  ∀ (c : Instr) (s t : State), exec c s = .next t →
    (match c with
      | .provision .. | .lifecycle .. | .optRecord .. | .rxNote .. | .coldStart .. | .lfxWait .. | .condWaitEnd .. => False
      | _ => True) →
    t.dev.sec.lc = s.dev.sec.lc ∧ t.dev.sec.fuseP = s.dev.sec.fuseP ∧ t.dev.sec.fuseS = s.dev.sec.fuseS ∧
      t.dev.sec.fuseX = s.dev.sec.fuseX

/-- R25, over every function state: the three columns of the table, and the restart through OFF. `resetFunc` is the
reset state of R27; it is applied when the function comes ON from OFF, or when it drains. Pulse outputs that stay OFF
discard what they owe (`wentOff`, R181). `restart` is what the first LFX edge after the drain does. -/
def Obligations.FunctionStatesFollowTheTable : Prop :=
  (∀ f : FuncState, f.retired = false → f.cycling = false →
    (f.st = .off → f.enable.st = .on ∧ f.disable.st = .off ∧ f.drained.st = .off) ∧
    (f.st = .on → f.enable.st = .on ∧ f.enable.latch = f.latch ∧ f.disable.st = .stopping ∧ f.disable.latch = false ∧
      f.drained.st = .on) ∧
    (f.st = .stopping → f.enable.st = .stopping ∧ f.enable.latch = true ∧ f.disable.st = .stopping ∧
      f.disable.latch = false ∧ f.drained.st = .off ∧ f.drained.latch = false ∧
      (f.latch = false → f.drained.restart.st = .off) ∧ (f.latch = true → f.drained.restart.st = .on))) ∧
  (∀ (d : Device) (k : Func), (d.fn.get k).st = .off → (d.fn.get k).enable.st = .on →
    d.enable k = Device.resetFunc { d with fn := d.fn.set k (d.fn.get k).enable } k) ∧
  (∀ (d : Device) (k : Func) (e : Device), (d.fn.get k).st = .stopping →
    e = Device.resetFunc { d with fn := d.fn.set k (d.fn.get k).drained } k →
    d.drain k = (if (d.fn.get k).latch then e else e.wentOff k)) ∧
  (∀ (d : Device) (k : Func) (n : Nat), d.ticking = true → 1 ≤ n → ((d.elapse n).fn.get k) = (d.fn.get k).restart)

/-- R58: the sixteen bands, their ends in tenths of an ohm; `k` is the ratio of the voltages in 2^-20. -/
def Obligations.StrapBandsDecode : Prop :=
  ∀ k c : Nat, strapCode k = some c ↔
    ∃ b, [(2291, 2689), (3054, 3586), (4168, 4892), (5695, 6685), (7590, 8910), (10396, 12204), (13800, 16200),
        (18860, 22140), (25208, 29592), (34408, 40392), (45908, 53892), (62652, 73548), (83628, 98172), (114080, 133920),
        (155480, 182520), (207920, 244080)][c]? = some b ∧ b.1 * 2 ^ 20 ≤ 20000 * k ∧ 20000 * k ≤ b.2 * 2 ^ 20

/-- R3, R5: byte strings and numbers, both ways. -/
def Obligations.LittleEndianFields : Prop :=
  (∀ n v : Nat, (leBytes n v).length = n ∧ (v < 256 ^ n → leNat (leBytes n v) = v) ∧
    ∀ i, i < n → (leBytes n v).getD i 0 = BitVec.ofNat 8 (v / 256 ^ i)) ∧
  (∀ (n : Nat) (v : Int), 1 ≤ n → -2 ^ (8 * n - 1) ≤ v → v < 2 ^ (8 * n - 1) →
    signedOf (8 * n) (leNat (leBytesS n v)) = v)

/-- R316, R322, R323, R324: the three switches on the way down. -/
def Obligations.SupplyFallsInOrder : Prop :=
  ∀ (dt : Nat) (s : State) (d : Device), d = s.dev.elapse dt → d.power.st ≠ .ship →
    (d.land.supply = .bat → ∀ l : Landing,
      l = { d.land with
        supply := .batLock, pwrEn := false, pendSet := none
        queued := d.land.queued ++ (if d.land.pendSet = none then []
          else [⟨0x409, d.land.tick, d.land.cnt.stepSeq, 0, !d.trusted⟩]) } →
      (d.started = false → exec (.supplyLockout dt) s = .next { s with dev := { d with
        land := l, power := { d.power with holdDue := d.power.holdDue || d.powered, shipping := false } } }) ∧
      (d.started = true →
        ∃ t : Device, exec (.supplyLockout dt) s = .next { s with dev := t } ∧ GivesUp d t ∧
          t.disp.timerRun = false ∧ (∀ g ∈ t.disp.regions, g.run = none ∧ g.next = none) ∧ t.disp.image = d.disp.image ∧
          t.power = { d.power with
            holdDue := d.power.holdDue || d.powered, shipping := false
            heldItems := d.power.heldItems + d.abandoned, heldRegions := d.power.heldRegions ||| d.disp.runMask } ∧
          t = { d with power := t.power, land := l, radio := t.radio, tr := t.tr, haw := t.haw, temp := t.temp
                       disp := t.disp })) ∧
    (d.land.supply = .batLock →
      exec (.supplyBkp dt) s = .next { s with dev := { d with land := { d.land with
        supply := .bkp, bkpSince := d.land.tick
        cnt := { d.land.cnt with bkpCount := min (d.land.cnt.bkpCount + 1) (2 ^ 32 - 1) }
        queued := d.land.queued ++ [⟨0x404, d.land.tick, 0, 0, !d.trusted⟩] } } }) ∧
    (d.land.supply = .bkp →
      ∃ l : Landing, exec (.landingLost dt) s = .next { s with dev := { d with land := l } } ∧
        l.supply = .lost ∧ l.lfxRunning = false ∧ l.cntMirror = d.land.cntMirror ∧ l.plsMirror = d.land.plsMirror ∧
        ∀ n, (({ d with land := l } : Device).elapse n).land = l)

/-- R305, R322, R324: the way back to BAT. `resetUntil` is the model's note of a `RESET_N` still low, counted in
oscillator cycles that begin anew. -/
def Obligations.SupplyReturns : Prop :=
  ∀ (dt : Nat) (pins : PinLevels) (s : State) (d : Device), d = s.dev.elapse dt → d.power.st ≠ .ship →
    (d.land.supply = .batLock →
      exec (.supplyBat dt pins) s = .next { s with dev := { d with
        land := { d.land with
          supply := .bat, debounce := false
          pwrEn := d.land.pwrEnMode == 1 || (d.land.pwrEnMode == 2 && d.awake) }
        power := { d.power with coldDue := true, startCause := 1 } } }) ∧
    (d.land.supply = .bkp →
      exec (.supplyBat dt pins) s = .next { s with dev := { d with
        land := { d.land with
          supply := .bat, debounce := false
          pwrEn := d.land.pwrEnMode == 1 || (d.land.pwrEnMode == 2 && d.awake)
          cnt := { d.land.cnt with
            bkpTicks := min (d.land.cnt.bkpTicks + (d.land.tick - d.land.bkpSince)) (2 ^ 64 - 1) }
          queued := d.land.queued ++
            [⟨0x405, d.land.tick, min ((d.land.tick - d.land.bkpSince) / 32768) (2 ^ 32 - 1), 0, !d.trusted⟩] }
        power := { d.power with coldDue := true, startCause := 1 } } }) ∧
    (d.land.supply = .lost → ∃ t : Device, exec (.supplyBat dt pins) s = .next { s with dev := t } ∧
      t.land.supply = .bat ∧ t.land.tick = d.store.latestCommit ∧ t.land.oscStopped = true ∧
      t.land.neverSet = d.land.neverSet ∧ t.land.plsCount = d.land.plsMirror ∧
      t.land.cnt = { d.land.cntMirror with lostCount := min (d.land.cntMirror.lostCount + 1) (2 ^ 32 - 1) } ∧
      t.land.plsLost = d.land.plsLost ||| d.land.plsEn ∧ t.land.alarms = List.replicate 12 {} ∧
      t.land.pwrEn = (d.land.pwrEnMode == 1 || (d.land.pwrEnMode == 2 && d.awake)) ∧
      t.land.queued = [⟨0x406, t.land.tick, t.land.tick % 2 ^ 32, t.land.tick / 2 ^ 32, true⟩, ⟨0x403, t.land.tick, 2, 0, true⟩] ++
        (if d.land.plsEn = 0 then [] else [⟨0x407, t.land.tick, d.land.plsEn, 0, true⟩]) ∧
      t.pulse.ch0.owed = 0 ∧ t.pulse.ch1.owed = 0 ∧
      t = { d with land := t.land, pulse := t.pulse
                   power := { d.power with landRestarted := true, coldDue := true, startCause := 1, resetUntil := 0 } })

/-- R303, R331: LFX stops, and comes back. -/
def Obligations.LfxStopHoldsTheCount : Prop :=
  ∀ (dt : Nat) (s : State) (d : Device), d = s.dev.elapse dt → d.land.supply ≠ .lost → d.power.st ≠ .ship →
    (d.land.lfxRunning = true → (d.up && d.awake) = false →
      exec (.lfxStop dt) s = .next { s with dev := { d with
        tr := if d.secondary then d.tr else { d.tr with tb := { d.tr.tb with corrHeld := true } }
        land := { d.land with
          lfxRunning := false, oscStopped := true, queued := d.land.queued ++ [⟨0x403, d.land.tick, 1, 0, true⟩] } } }) ∧
    (d.land.lfxRunning = true → d.up = true → d.awake = true → d.secondary = false →
      ∃ t : Device, exec (.lfxStop dt) s = .next { s with dev := t } ∧ t.land.queued = [] ∧
        (⟨d.land.tick, 0x403, true, 1, 0⟩ : JEntry) ∈ t.jnl.entries ∧ t.tr.tb.corrHeld = true ∧
        t.land = { d.land with lfxRunning := false, oscStopped := true, queued := [] } ∧
        ∀ n, t.elapse n = { t with store := (t.elapse n).store }) ∧
    (exec (.lfxRestart dt) s = .next { s with dev := { d with land := { d.land with lfxRunning := true } } })

/-- R299, R319, R151: add and skip. The last clause says that `prev` is the count before the latest cycle. -/
def Obligations.CorrectionSlotMovesTheCountByOne : Prop :=
  ∀ (dt : Nat) (s : State) (d : Device), d = s.dev.elapse dt →
    (d.ticking = true → (d.land.osc - d.land.divAt) % 256 = 0 → d.land.osc ≠ d.land.corrAt →
      (0 < d.land.corrOwed → ∃ e : ExtShot,
        exec (.correctionApply dt) s = .next { s with dev := { d with
          tr := { d.tr with ext := e }
          land := Landing.fireAlarms { d.land with
            corrAt := d.land.osc, corrOwed := d.land.corrOwed - 1, tick := min (d.land.tick + 1) (2 ^ 48 - 1) } } } ∧
        e = { d.tr.ext with tokens := e.tokens, gained := e.gained } ∧
        e.tokens = max d.tr.ext.tokens (min (d.tr.ext.tokens + 2 * (d.conf.g.shot.getD {}).extRateMax)
          ((d.conf.g.shot.getD {}).extBurst * 65536))) ∧
      (d.land.corrOwed < 0 →
        exec (.correctionApply dt) s = .next { s with dev := { d with
          tr := { d.tr with ext := { d.tr.ext with tokens := d.tr.ext.tokens - d.tr.ext.gained, gained := 0 } }
          land := { d.land with
            corrAt := d.land.osc, corrOwed := d.land.corrOwed + 1, tick := d.land.prev
            alarms := d.land.alarms.map fun a => if a.fresh then { a with fired := false, fresh := false } else a } } }) ∧
      (d.land.corrOwed = 0 →
        exec (.correctionApply dt) s = .next { s with dev := { d with land := { d.land with corrAt := d.land.osc } } })) ∧
    ((d.land.osc - d.land.divAt) % 256 ≠ 0 → exec (.correctionApply dt) s = .next { s with dev := d }) ∧
    (s.dev.ticking = true → s.dev.land.tick ≤ 2 ^ 48 - 1 → 1 ≤ dt → d.land.prev = (s.dev.elapse (dt - 1)).land.tick)

/-- R301 at one excess of its accumulator; R302 at one of its slots. -/
def Obligations.TrimAndCompensationOweCorrections : Prop :=
  ∀ (dt : Nat) (s : State) (d : Device), d = s.dev.elapse dt → d.ticking = true →
    (2 ^ (d.land.lf.trimK + 15) ≤ d.land.trimAcc →
      exec (.trimCorrection dt) s = .next { s with dev := { d with land := { d.land with
        trimAcc := d.land.trimAcc - 2 ^ (d.land.lf.trimK + 15)
        corrOwed := if 0 < d.land.lf.trimN then d.land.corrOwed + 1
          else if d.land.lf.trimN < 0 then d.land.corrOwed - 1 else d.land.corrOwed } } }) ∧
    (∀ td : Int, -32768 ≤ td → td ≤ 32767 → (d.land.osc - d.land.divAt) % 2097152 = 0 → d.land.osc ≠ d.land.compAt →
      ∀ x : Int, x = d.land.compAcc +
          rne (-d.land.lf.beta * ((td - d.land.lf.theta0) * (td - d.land.lf.theta0)) * 32) 1000000 →
        exec (.tempCompensation dt td) s = .next { s with dev := { d with land := { d.land with
          compAt := d.land.osc, dieTemp := td, corrOwed := d.land.corrOwed + x / 65536, compAcc := x % 65536 } } })

/-- R301: "Exactly |n| corrections therefore fall in every window". `trim` is one correction. -/
def Obligations.TrimFallsExactlyNTimesInAWindow : Prop :=
  ∀ (l : Landing) (w : Landing), w = l.elapse (2 ^ (l.lf.trimK + 15)) → l.trimAcc < 2 ^ (l.lf.trimK + 15) →
    (∀ i < l.lf.trimN.natAbs, 2 ^ (l.lf.trimK + 15) ≤ (Landing.trim^[i] w).trimAcc) ∧
    (Landing.trim^[l.lf.trimN.natAbs] w).trimAcc = l.trimAcc ∧
    (Landing.trim^[l.lf.trimN.natAbs] w).corrOwed = l.corrOwed + l.lf.trimN

/-- R308, R315: both commands answer a next state in every state. `l` is the second of local time since the epoch. -/
def Obligations.CalendarFieldsAndAdjDay : Prop :=
  (∀ (dt : Nat) (s : State) (d : Device), d = s.dev.elapse dt →
    (d.ticking = true →
      exec (.timeNowUpdate dt) s = .next { s with dev := { d with land := { d.land with
        cal := timeNow d.bill.calActive d.land.tick } } }) ∧
    (d.ticking = true → d.land.tick % 2831155200 < 32768 →
      exec (.adjDayReset dt) s = .next { s with dev := { d with land := { d.land with adjDay := 0 } } }) ∧
    (d.ticking = true → 32768 ≤ d.land.tick % 2831155200 → exec (.adjDayReset dt) s = .next { s with dev := d }) ∧
    (d.ticking = false → exec (.timeNowUpdate dt) s = .next { s with dev := d } ∧
      exec (.adjDayReset dt) s = .next { s with dev := d })) ∧
  (∀ (c : Calendar) (t : Nat) (f : TimeNow) (l : Int), f = timeNow c t → l = t / 32768 + f.offset * 60 →
    f.utcDay = t / 32768 / 86400 ∧ f.utcSec = t / 32768 % 86400 ∧ f.utcWday = (t / 32768 / 86400 + 5) % 7 ∧
      f.dst = dstAt c t ∧ f.offset = (if f.dst then c.tzStd + c.dstDelta else c.tzStd) ∧
      (f.wday : Int) = (l / 86400 + 5) % 7 ∧ (f.minute : Int) = l % 86400 / 60 ∧ (f.second : Int) = l % 60 ∧
      (⟨f.year, f.month, f.day⟩ : Date) = dateOfDay (l / 86400))

/-- R312 to R317: the three classes of a set. -/
def Obligations.TimeSetIsApplied : Prop :=
  ∀ (dt : Nat) (s : State) (d : Device), d = s.dev.elapse dt →
    (d.ticking = true → d.land.supply = .bat → d.secondary = false →
      (∀ target, d.land.pendSet = some (.abs target) → d.trusted = false →
        ∃ t : Device, exec (.timeSetApply dt) s = .next { s with dev := t } ∧ t.land.pendSet = none ∧
          t.land.tick = min (target / 32768 * 32768) (2 ^ 48 - 1) ∧ t.trusted = true ∧
          t.land.cnt.stepSeq = (d.land.cnt.stepSeq + 1) % 2 ^ 32 ∧ t.land.cnt.stepCount = d.land.cnt.stepCount) ∧
      (∀ delta : Int, d.land.pendSet = some (.rel delta) → d.trusted = true → 0 ≤ (d.land.tick : Int) + delta →
        (d.land.tick : Int) + delta ≤ 2 ^ 48 - 1 → d.land.adjDay + delta.natAbs ≤ d.land.adjLimit * 32768 →
        ∃ t : Device, exec (.timeSetApply dt) s = .next { s with dev := t } ∧ t.land.pendSet = none ∧
          (t.land.tick : Int) = d.land.tick + delta ∧ t.trusted = true ∧
          t.land.cnt.stepSeq = (d.land.cnt.stepSeq + 1) % 2 ^ 32 ∧ t.land.cnt.adjCount = satInc d.land.cnt.adjCount ∧
          t.land.cnt.stepCount = d.land.cnt.stepCount ∧
          (((d.land.tick : Int) + delta) / 2831155200 = (d.land.tick / 2831155200 : Nat) →
            t.land.adjDay = d.land.adjDay + delta.natAbs)) ∧
      (∀ delta : Int, d.land.pendSet = some (.rel delta) → d.trusted = true → 0 ≤ (d.land.tick : Int) + delta →
        (d.land.tick : Int) + delta ≤ 2 ^ 48 - 1 → d.land.adjLimit * 32768 < d.land.adjDay + delta.natAbs →
        ∃ t : Device, exec (.timeSetApply dt) s = .next { s with dev := t } ∧ t.land.pendSet = none ∧
          (t.land.tick : Int) = d.land.tick + delta ∧ t.trusted = true ∧
          t.land.cnt.stepSeq = (d.land.cnt.stepSeq + 1) % 2 ^ 32 ∧ t.land.cnt.stepCount = satInc d.land.cnt.stepCount ∧
          (((d.land.tick : Int) + delta) / 2831155200 = (d.land.tick / 2831155200 : Nat) →
            t.land.adjDay = d.land.adjDay))) ∧
    (d.land.pendSet = none ∨ d.land.supply ≠ .bat ∨ d.secondary = true →
      exec (.timeSetApply dt) s = .next { s with dev := d })

/-- R328, R329, R330. -/
def Obligations.SealCaseAndMagnetAreWatched : Prop :=
  ∀ (dt : Nat) (s : State) (d : Device), d = s.dev.elapse dt →
    d.land.supply ≠ .lost → d.power.st ≠ .ship → d.secondary = false →
    (d.land.fifo.length < 8 →
      (d.land.sealEn = true → d.land.sealPeriod ≤ d.land.probeIn →
        (∀ b, d.land.sealFail = 0 →
          exec (.sealProbe dt true b) s = .next { s with dev := { d with land := { d.land with
            probeIn := 0, sealFail := 1, sealGood := 0 } } }) ∧
        (∀ b, 1 ≤ d.land.sealFail → d.land.sealSt ≠ .opened →
          exec (.sealProbe dt true b) s = .next { s with dev := { d with land := { d.land with
            probeIn := 0, sealFail := 2, sealGood := 0, sealSt := .opened
            fifo := d.land.fifo ++ [⟨.sealOpen, d.land.tick, !d.trusted⟩] } } }) ∧
        (1 ≤ d.land.sealGood → d.land.sealSt ≠ .ok →
          exec (.sealProbe dt false true) s = .next { s with dev := { d with land := { d.land with
            probeIn := 0, sealFail := 0, sealGood := 2, sealSt := .ok
            fifo := d.land.fifo ++ [⟨.sealOk, d.land.tick, !d.trusted⟩] } } })) ∧
      (d.land.sealEn = true → d.land.sealSt ≠ .short → 33 ≤ d.land.probeIn →
        exec (.sealShortDetect dt) s = .next { s with dev := { d with land := { d.land with
          sealSt := .short, fifo := d.land.fifo ++ [⟨.sealShort, d.land.tick, !d.trusted⟩] } } }) ∧
      (∀ h, d.land.caseOpen ≠ h → d.land.caseAt + 33 ≤ d.land.osc →
        exec (.caseMagChange dt .casePin h) s = .next { s with dev := { d with land := { d.land with
          caseAt := d.land.osc, caseOpen := h, fifo := d.land.fifo ++ [⟨(if h then .caseOpen else .caseClosed), d.land.tick, !d.trusted⟩] } } }) ∧
      (∀ h, d.land.mag ≠ h → d.land.magAt + 33 ≤ d.land.osc →
        exec (.caseMagChange dt .magPin h) s = .next { s with dev := { d with land := { d.land with
          magAt := d.land.osc, mag := h, fifo := d.land.fifo ++ [⟨(if h then .magOn else .magOff), d.land.tick, !d.trusted⟩] } } })) ∧
    (d.land.caseAt + 33 ≤ d.land.osc → exec (.caseMagChange dt .casePin d.land.caseOpen) s =
      .next { s with dev := { d with land := { d.land with caseAt := d.land.osc } } }) ∧
    (d.land.magAt + 33 ≤ d.land.osc → exec (.caseMagChange dt .magPin d.land.mag) s =
      .next { s with dev := { d with land := { d.land with magAt := d.land.osc } } }) ∧
    (∀ h, d.land.osc < d.land.caseAt + 33 → exec (.caseMagChange dt .casePin h) s = .next { s with dev := d }) ∧
    (∀ h, d.land.osc < d.land.magAt + 33 → exec (.caseMagChange dt .magPin h) s = .next { s with dev := d }) ∧
    (d.land.probeIn < 33 → exec (.sealShortDetect dt) s = .next { s with dev := d }) ∧
    (∀ h, d.land.caseOpen ≠ h → d.land.caseAt + 33 ≤ d.land.osc → 8 ≤ d.land.fifo.length → (d.up && d.awake) = false →
      exec (.caseMagChange dt .casePin h) s = .next { s with dev := { d with land := { d.land with
        caseAt := d.land.osc, caseOpen := h, cnt := { d.land.cnt with tinLost := satInc d.land.cnt.tinLost }
        queued := d.land.queued ++ [⟨0x408, d.land.tick, satInc d.land.cnt.tinLost, 0, !d.trusted⟩] } } })

/-- R330, R464, R465: entries of kind `k` of the ledger are those of FIFO kind `f`. -/
def Obligations.TamperFifoIsCounted : Prop :=
  ∀ (dt : Nat) (s : State) (d : Device), d = (s.dev.elapse dt).woken 7 → d.up = true →
    d.land.supply = .bat →
    (d.sec.lc.counted = true → d.sec.tamper.length = 24 →
      ∀ f k, (f, k) ∈ [(TamperIn.sealOpen, 0), (.sealShort, 1), (.caseOpen, 2), (.magOn, 3)] →
        (d.sec.tamper.getD k {}).count + d.land.fifo.length < 2 ^ 32 →
        ∃ t : Device, exec (.tamperFifoService dt) s = .next { s with dev := t } ∧ t.land = { d.land with fifo := [] } ∧
          (t.sec.tamper.getD k {}).count = (d.sec.tamper.getD k {}).count + (d.land.fifo.filter (·.kind == f)).length ∧
          (∀ e, (d.land.fifo.filter (·.kind == f)).getLast? = some e → (t.sec.tamper.getD k {}).tLast = e.tick) ∧
          ∀ j, 4 ≤ j → t.sec.tamper[j]? = d.sec.tamper[j]?) ∧
    (d.sec.lc.counted = false →
      exec (.tamperFifoService dt) s = .next { s with dev := { d with land := { d.land with fifo := [] } } })

/-- R326, R48. -/
def Obligations.PulseInputsCount : Prop :=
  ∀ (dt n : Nat) (s : State) (d : Device), d = s.dev.elapse dt → d.land.supply ≠ .lost → d.power.st ≠ .ship →
    d.secondary = false → n < 4 → ∀ db at_, d.land.plsDb[n]? = some db → d.land.plsAt[n]? = some at_ →
    (bitAt d.land.plsEn n = true → at_ + 2 * max 3 db ≤ d.land.osc → ∀ c, d.land.plsCount[n]? = some c →
      exec (.pulseInCount dt n) s = .next { s with dev := { d with land := { d.land with
        plsCount := d.land.plsCount.set n ((c + 1) % 2 ^ 48), plsAt := d.land.plsAt.set n d.land.osc } } }) ∧
    (d.land.osc < at_ + 2 * max 3 db → exec (.pulseInCount dt n) s = .next { s with dev := d }) ∧
    (bitAt d.land.plsEn n = false → exec (.pulseInCount dt n) s = .next { s with dev := d })

/-- R181: both outputs, start and release. -/
def Obligations.PulseOutputsEmitWhatIsOwed : Prop :=
  ∀ (dt : Nat) (s : State) (d : Device), d = s.dev.elapse dt → d.land.supply ≠ .lost → d.power.st ≠ .ship →
    d.land.lfxRunning = true →
    (d.on .pulseOut = true → 0 < d.pulse.ch0.owed →
      d.pulse.ch0.phase = .idle ∨ d.pulse.ch0.phase = .gap ∧ d.pulse.ch0.remain = 0 →
      exec (.pulseOutStart dt 0) s = .next { s with dev := { d with pulse := { d.pulse with ch0 := { d.pulse.ch0 with
        owed := d.pulse.ch0.owed - 1, overrun := false, emitted := satInc d.pulse.ch0.emitted, phase := .low
        remain := d.pulse.width, low := true } } } }) ∧
    (d.on .pulseOut = true → 0 < d.pulse.ch1.owed →
      d.pulse.ch1.phase = .idle ∨ d.pulse.ch1.phase = .gap ∧ d.pulse.ch1.remain = 0 →
      exec (.pulseOutStart dt 1) s = .next { s with dev := { d with pulse := { d.pulse with ch1 := { d.pulse.ch1 with
        owed := d.pulse.ch1.owed - 1, overrun := false, emitted := satInc d.pulse.ch1.emitted, phase := .low
        remain := d.pulse.width, low := true } } } }) ∧
    (d.pulse.ch0.phase = .low → d.pulse.ch0.remain = 0 →
      exec (.pulseOutRelease dt 0) s = .next { s with dev := { d with pulse := { d.pulse with ch0 := { d.pulse.ch0 with
        phase := .gap, remain := d.pulse.gap, low := false } } } }) ∧
    (d.pulse.ch1.phase = .low → d.pulse.ch1.remain = 0 →
      exec (.pulseOutRelease dt 1) s = .next { s with dev := { d with pulse := { d.pulse with ch1 := { d.pulse.ch1 with
        phase := .gap, remain := d.pulse.gap, low := false } } } }) ∧
    (0 < d.pulse.ch0.remain → exec (.pulseOutRelease dt 0) s = .next { s with dev := d }) ∧
    (0 < d.pulse.ch1.remain → exec (.pulseOutRelease dt 1) s = .next { s with dev := d })

/-- R25, R27, R29, R181 as commands. -/
def Obligations.FunctionsDrainAndRestart : Prop :=
  ∀ (dt : Nat) (k : Func) (s : State) (d : Device), d = s.dev.elapse dt →
    ((d.fn.get k).st = .stopping → d.drainedOf k = true →
      ∀ (v : FuncState) (e : Device), v = { d.fn.get k with st := .off, cycling := (d.fn.get k).latch, latch := false } →
        e = ({ d with fn := d.fn.set k v } : Device).resetFunc k →
        ((d.fn.get k).latch = true ∨ k ≠ .pulseOut → exec (.functionDrained dt k) s = .next { s with dev := e }) ∧
        ((d.fn.get k).latch = false → k = .pulseOut →
          exec (.functionDrained dt k) s = .next { s with dev := { e with pulse := { e.pulse with
            ch0 := { e.pulse.ch0 with owed := 0, overrun := false }, ch1 := { e.pulse.ch1 with owed := 0, overrun := false }
            lost := min (e.pulse.lost + (e.pulse.ch0.owed + e.pulse.ch1.owed)) (2 ^ 32 - 1) } } })) ∧
    ((d.fn.get k).st ≠ .stopping → exec (.functionDrained dt k) s = .next { s with dev := d }) ∧
    (s.dev.ticking = true → 1 ≤ dt → (s.dev.fn.get k).st = .off → (s.dev.fn.get k).cycling = true →
      (s.dev.fn.get k).retired = false →
      exec (.functionRestart dt k) s = .next { s with dev := d } ∧
        d.fn.get k = { s.dev.fn.get k with st := .on, cycling := false }) ∧
    (s.dev.ticking = false ∨ dt = 0 ∨ (s.dev.fn.get k).cycling = false →
      exec (.functionRestart dt k) s = .next { s with dev := d } ∧ d.fn.get k = s.dev.fn.get k)

/-- R37, R481. -/
def Obligations.ExternalSupplyAndHoldUpVoltage : Prop :=
  ∀ (dt : Nat) (s : State) (d : Device), d = s.dev.elapse dt →
    exec (.vextTakeover dt) s = .next { s with dev := { d with power := { d.power with vext := true } } } ∧
    exec (.vextRelease dt) s = .next { s with dev := { d with power := { d.power with vext := false } } } ∧
    (d.up = false ∨ d.land.osc < d.power.vholdAt + 64 * 32768 → ∀ mv, exec (.vholdMeasure dt mv) s = .next { s with dev := d }) ∧
    (d.up = true → d.power.vholdAt + 64 * 32768 ≤ d.land.osc → ∀ mv, mv ≤ 65535 →
      (mv < 4000 → d.power.vholdLow = false →
        ∃ t : Device, exec (.vholdMeasure dt mv) s = .next { s with dev := t } ∧
          t.power = { d.power with vholdMv := mv, vholdAt := d.land.osc, vholdLow := true, deg := { d.power.deg with vhold := true } } ∧
          (d.secondary = false → t.jnl.entries.head? = some ⟨d.land.tick, 0x904, !d.trusted, mv, 0⟩) ∧
          t = { d with power := t.power, jnl := t.jnl, bill := t.bill, toll := t.toll, store := t.store }) ∧
      (4300 ≤ mv → d.power.vholdLow = true →
        ∃ t : Device, exec (.vholdMeasure dt mv) s = .next { s with dev := t } ∧
          t.power = { d.power with vholdMv := mv, vholdAt := d.land.osc, vholdLow := false, deg := { d.power.deg with vhold := false } } ∧
          (d.secondary = false → t.jnl.entries.head? = some ⟨d.land.tick, 0x905, !d.trusted, mv, 0⟩) ∧
          t = { d with power := t.power, jnl := t.jnl, bill := t.bill, toll := t.toll, store := t.store }) ∧
      (4000 ≤ mv → d.power.vholdLow = false ∨ mv < 4300 →
        ∃ w, w = { d.power with vholdMv := mv, vholdAt := d.land.osc } ∧
          exec (.vholdMeasure dt mv) s = .next { s with dev := { d with power := w } }))

/-- R40, R48, R477, R478. -/
def Obligations.ResetPinAndShip : Prop :=
  ∀ (dt : Nat) (s : State) (d : Device), d = s.dev.elapse dt →
    (∀ us, 10 ≤ us → d.power.st ≠ .ship → ∀ p : Power, p = { d.power with
        holdDue := d.power.holdDue || d.powered, shipping := false, coldDue := true, startCause := 2
        resetTick := d.land.tick, resetUntil := d.land.osc + us * 32768 / 1000000 } →
      (d.land.supply = .bat → d.started = false →
        exec (.resetNLow dt us) s = .next { s with dev := { d with power := p } }) ∧
      (d.land.supply = .bat → d.started = true →
        ∃ t : Device, exec (.resetNLow dt us) s = .next { s with dev := t } ∧ GivesUp d t ∧
          t.disp.timerRun = false ∧ (∀ g ∈ t.disp.regions, g.run = none ∧ g.next = none) ∧ t.disp.image = d.disp.image ∧
          t = { d with
            radio := t.radio, tr := t.tr, haw := t.haw, temp := t.temp, disp := t.disp
            power := { p with
              heldItems := d.power.heldItems + d.abandoned, heldRegions := d.power.heldRegions ||| d.disp.runMask } }) ∧
      (d.land.supply ≠ .bat → exec (.resetNLow dt us) s = .next { s with dev := { d with
        power := { d.power with resetUntil := d.land.osc + us * 32768 / 1000000 } } })) ∧
    (∀ us, us ≤ 1 → exec (.resetNLow dt us) s = .next { s with dev := d }) ∧
    (∀ (held : Nat) (w : Device), w = d.woken 5 →
      (327680 ≤ held → w.up = true → w.power.shipEn = true → w.secondary = false →
        w.sec.lc = .blank ∨ w.sec.lc = .manufacture ∨ w.sec.lc = .calibrate ∨ w.sec.lc = .scrapped ∨
          (w.sec.lc = .sealed ∧ w.registers.none = true) →
        ∃ t : Device, exec (.shipEntry dt held) s = .next { s with dev := t } ∧ GivesUp w t ∧
          t.power = { w.power with shipping := true, holdDue := true, heldItems := w.power.heldItems + w.abandoned } ∧
          t.land.plsMirror = w.land.plsCount ∧ t.tr.paths.map (·.mirror) = w.tr.paths.map (·.tpl) ∧
          (∀ k, t.fn.get k = (w.fn.get k).disable) ∧
          t.disp = { w.disp with regions := w.disp.regions.map fun g => { g with next := none } } ∧
          t.jnl.entries.head? = some ⟨w.land.tick, 0x902, !w.trusted, 0, 0⟩) ∧
      (held < 327680 ∨ w.up = false ∨ w.power.shipEn = false ∨ w.secondary = true ∨ w.sec.lc = .service ∨
          (w.sec.lc = .sealed ∧ w.registers.none = false) →
        exec (.shipEntry dt held) s = .next { s with dev := w })) ∧
    (∀ cause pins, d.power.st = .ship →
      (∃ us, cause = .resetN us ∧ 10 ≤ us) ∨ (∃ low high, cause = .button low high ∧ 1300 ≤ low ∧ 130 ≤ high) →
      ∃ t : Device, exec (.shipExit dt cause pins) s = .next { s with dev := t } ∧ t.power.st = .unpowered ∧
        t.power.coldDue = true ∧ t.power.startCause = 3 ∧ t.power.landRestarted = true ∧ t.land.oscStopped = true ∧
        t.land.tick = d.store.latestCommit ∧ t.land.pwrEn = (d.land.pwrEnMode == 1) ∧
        t = { d with land := t.land, pulse := t.pulse, power := t.power }) ∧
    (∀ low high pins, low < 700 → exec (.shipExit dt (.button low high) pins) s = .next { s with dev := d })

/-- R482, R484; for a device that was not up yet only the power goes. -/
def Obligations.HoldUpCommitRecordsAndUnpowers : Prop :=
  ∀ (dt us n : Nat) (s : State) (d : Device), d = s.dev.elapse dt →
    ∀ ready : Bool, ready = (d.power.holdDue && (!d.power.shipping || (d.pulse.ch0.phase != .low && d.pulse.ch1.phase != .low &&
      d.disp.regions.all fun r => r.run.isNone))) →
    (ready = true →
      ∃ t : Device, exec (.holdupCommit dt us n) s = .next { s with dev := t } ∧
        t.power.holdDue = false ∧ t.power.phase = .down ∧
        t.power.st = (if d.power.shipping then PState.ship else .unpowered) ∧ t.sec.tap = .closed ∧
        (∀ k, k ≠ .pulseOut → k ≠ .optical → (t.fn.get k).st = .off) ∧ t.radio.exch = none ∧ t.haw.out = none ∧
        t.tr.cyc.inFlight = none ∧ t.land.tick = d.land.tick ∧ t.land.oscStopped = d.land.oscStopped ∧
        t.land.neverSet = d.land.neverSet ∧ t.sec.lc = d.sec.lc ∧ t.sec.keys = d.sec.keys ∧
        t.conf.calibStored = d.conf.calibStored ∧ t.conf.expertStored = d.conf.expertStored ∧ t.conf.g = d.conf.g ∧
        (d.power.shipping = true → (∀ k, (t.fn.get k).st = .off) ∧ t.pulse.ch0.owed = 0 ∧ t.pulse.ch1.owed = 0 ∧
          t.pulse.ch0.low = false ∧ t.pulse.ch1.low = false) ∧
        (d.started = true → t.power.tDown = d.land.tick ∧ t.power.holdCommits = satInc d.power.holdCommits ∧
          t.land.cntMirror = t.land.cnt ∧ t.land.plsMirror = t.land.plsCount)) ∧
    (ready = false → exec (.holdupCommit dt us n) s = .next { s with dev := d })

/-- R479, R480, R512: the waits of the start sequence. The band of R512 is 855 mV to 945 mV. -/
def Obligations.ColdStartGoesThroughItsWaits : Prop :=
  ∀ (dt : Nat) (s : State) (d : Device), d = s.dev.elapse dt → d.power.holdDue = false →
    (∀ i : ColdStartInput, d.power.coldDue = true → d.power.phase = .down → d.land.supply = .bat → d.power.st ≠ .ship →
      d.inReset = false →
      ∃ t : Device, exec (.coldStart dt i) s = .next { s with dev := t } ∧ t.power.coldDue = false ∧
        (i.vcoreMv < 855 ∨ 945 < i.vcoreMv → t.power.phase = .condWait ∧ t.st.condWait = true ∧ t.power.held = some i) ∧
        (855 ≤ i.vcoreMv → i.vcoreMv ≤ 945 → d.power.landRestarted = true →
          t.power.phase = .lfxWait ∧ t.power.held = some i) ∧
        (855 ≤ i.vcoreMv → i.vcoreMv ≤ 945 → d.power.landRestarted = false →
          t.power.phase = .vholdWait ∧ t.straps.codes = (decodeStraps i.straps).codes)) ∧
    (∀ i : ColdStartInput, d.ticking = true → d.land.osc < d.power.resetUntil →
      exec (.coldStart dt i) s = .next { s with dev := d }) ∧
    (∀ (i : ColdStartInput) (v : Nat), d.power.held = some i → d.power.phase = .condWait → d.st.condWait = true →
      (v < 855 ∨ 945 < v →
        exec (.condWaitEnd dt v) s = .next { s with dev := { d with
          st := { d.st with vcoreMv := v }, power := { d.power with waitChecks := d.power.waitChecks + 1 } } }) ∧
      (855 ≤ v → v ≤ 945 → ∃ t : Device, exec (.condWaitEnd dt v) s = .next { s with dev := t } ∧
        t.power.phase = (if d.power.landRestarted then Phase.lfxWait else .vholdWait))) ∧
    (∀ (i : ColdStartInput) (w : Nat), d.power.held = some i → d.power.phase = .lfxWait →
      (∃ t : Device, exec (.lfxWait dt w true) s = .next { s with dev := t } ∧ t.land.lfxRunning = true ∧
        t.power.phase = .vholdWait ∧ t.straps.codes = (decodeStraps i.straps).codes) ∧
      (exec (.lfxWait dt w false) s = .next { s with dev := { d with power := { d.power with
        waitAlert := d.power.waitAlert || decide (2000 < w) } } }))

/-- R284, R479: t0. -/
def Obligations.MeteringStartsAtFullHoldUpVoltage : Prop :=
  ∀ (dt mv : Nat) (s : State) (d : Device), d = s.dev.elapse dt →
    (d.power.phase = .vholdWait → d.power.holdDue = false → d.syncIdle = true → 4400 ≤ mv →
      ∃ t : Device, exec (.meteringStart dt mv) s = .next { s with dev := t } ∧ t.up = true ∧
        t.land.tick = d.land.tick ∧ t.trusted = d.trusted ∧ t.sec.lc = d.sec.lc ∧ t.sec.keys = d.sec.keys ∧
        t.conf.g = d.conf.g ∧ t.conf.calibStored = d.conf.calibStored ∧ t.conf.expertStored = d.conf.expertStored) ∧
    (mv < 4400 ∨ d.power.phase ≠ .vholdWait → exec (.meteringStart dt mv) s = .next { s with dev := d })

/-- R325, R471, R475. -/
def Obligations.RestIsAsDeepAsTheHoldersAllow : Prop :=
  ∀ (dt : Nat) (s : State) (d : Device), d = s.dev.elapse dt →
    (∀ (n : Nat) (p : PState), d.up = true → d.awake = true →
      p = (if d.holdsRun then PState.run else if d.holdsDoze then .doze else if d.mayHibernate then .hibernate else .nap) →
      (d.power.st.depth < p.depth →
        ∃ t : Device, exec (.powerStateEntry dt n false) s = .next { s with dev := t } ∧ t.power.st = p ∧
          t.power.rest = p.depth ∧ t.power.edgeLost = satAdd 32 d.power.edgeLost n ∧
          (p = .nap ∨ p = .hibernate → t.sec.tap = .closed) ∧
          (∀ kept0 kept2 : Prop,
            kept0 = (p = .doze ∨ (p = .nap ∧ ∃ x ∈ d.tr.paths, x.tpl.learned = true)) →
            kept2 = (p = .doze ∨ (p = .nap ∧ d.radio.role = 2)) →
            (kept0 → t.tr = d.tr) ∧ (kept2 → t.radio = d.radio) ∧
            (¬ kept0 → t.tr = { d.tr with paths := d.tr.paths.map fun x => { x with mirror := x.tpl } }) ∧
            (¬ kept2 → t.radio = { d.radio with digests := [] })) ∧
          t = { d with power := t.power, sec := { d.sec with tap := t.sec.tap }, land := { d.land with pwrEn := t.land.pwrEn }
                       tr := t.tr, radio := t.radio }) ∧
      (p.depth ≤ d.power.st.depth → exec (.powerStateEntry dt n false) s = .next { s with dev := d })) ∧
    (∀ n, exec (.powerStateEntry dt n true) s = .next { s with dev := d }) ∧
    (∀ ahead : Prop, ahead = ((∃ a ∈ d.land.alarms, a.armed = true ∧ a.fired = false ∧
          a.target ≤ d.land.tick + d.land.pwrEnLead) ∨
        (d.power.st = .nap ∧ ∃ n, d.tr.cyc.shotIn = some n ∧ n ≤ d.land.pwrEnLead)) →
      (d.land.supply = .bat → d.power.st = .nap ∨ d.power.st = .hibernate → d.land.pwrEnMode = 2 → ahead →
        exec (.pwrEnLead dt) s = .next { s with dev := { d with land := { d.land with pwrEn := true } } }) ∧
      (d.land.supply ≠ .bat ∨ d.land.pwrEnMode ≠ 2 ∨ (d.power.st ≠ .nap ∧ d.power.st ≠ .hibernate) ∨ ¬ ahead →
        exec (.pwrEnLead dt) s = .next { s with dev := d }))

/-- R331, R474: what wakes, and from where. `lastChar` and `active` hold DOZE for the idle time of R451 (R472). -/
def Obligations.WakesBringDoze : Prop :=
  ∀ (dt n : Nat) (s : State) (d : Device), d = s.dev.elapse dt → d.up = true →
    ((d.power.st = .nap ∨ d.power.st = .hibernate) →
      ((n = 1 ∧ d.land.alarms.any (·.fired) = true) ∨ n = 5 ∨ (n = 7 ∧ d.land.fifo ≠ []) ∨
        (n = 8 ∧ d.sec.trstHigh = true ∧ d.sec.lc ≠ .sealed) ∨
        (d.power.st = .nap ∧ ((n = 2 ∧ d.tr.cyc.shotIn = some 0) ∨ n = 3 ∨ n = 4 ∨ (n = 6 ∧ d.haw.wakeReq = true)))) →
      ∃ t : Device, exec (.wake dt n) s = .next { s with dev := t } ∧
        t.power = { d.power with st := .doze, wakes := min (d.power.wakes + 1) (2 ^ 32 - 1), wakeSrc := n } ∧
        t.land = { d.land with
          queued := [], pwrEn := d.land.supply == .bat && (d.land.pwrEnMode == 1 || d.land.pwrEnMode == 2) } ∧
        (d.secondary = false → d.land.queued.length ≤ 1024 →
          ∀ e ∈ d.land.queued,
            (⟨e.tick, e.code, e.untrusted, e.arg0 % 2 ^ 32, e.arg1 % 2 ^ 32⟩ : JEntry) ∈ t.jnl.entries) ∧
        t.haw = (if n = 6 then { d.haw with wakeReq := false, lastFrame := d.land.osc, attending := true } else d.haw) ∧
        t.opt = (if n = 4 ∨ (n = 5 ∧ d.power.st = .hibernate) then { d.opt with active := true, lastChar := d.land.osc }
          else d.opt) ∧
        (d.power.st = .nap → t.tr = d.tr) ∧ t.conf = d.conf ∧ t.fn = d.fn ∧ t.sec.lc = d.sec.lc ∧ t.sec.keys = d.sec.keys) ∧
    (d.power.st = .hibernate → n = 2 ∨ n = 3 ∨ n = 4 ∨ n = 6 → exec (.wake dt n) s = .next { s with dev := d }) ∧
    (d.power.st = .doze ∨ d.power.st = .run → exec (.wake dt n) s = .next { s with dev := d }) ∧
    exec (.wake dt n) s = .next { s with dev := d.woken n }

/-- R61, R62, R75, R76. -/
def Obligations.StrapRereadChangesNoConfiguration : Prop :=
  ∀ (dt : Nat) (reads : StrapReads) (s : State) (d : Device), d = (s.dev.elapse dt).woken 1 →
    (d.up = true → d.fired 4 = true → d.secondary = false → d.temp.running = false → d.haw.sampling = false →
      ∃ t : Device, exec (.strapReread dt reads) s = .next { s with dev := t } ∧
        t.straps = { d.straps with
          lastCodes := (decodeStraps reads).codes, lastBad := (decodeStraps reads).bad, lastRead := d.land.tick } ∧
        (d.land.supply = .bat → ∀ a, d.land.alarms[4]? = some a → t.land.alarms[4]? =
          some { armed := true, fired := false, elapsed := true
                 target := min (d.land.tick + 2831155200) (2 ^ 48 - 1) }) ∧
        t.conf = d.conf ∧ t.sec.lc = d.sec.lc ∧
        (d.straps.lastCodes = (decodeStraps reads).codes → d.straps.lastBad = (decodeStraps reads).bad → t.sec = d.sec)) ∧
    (d.temp.running = true ∨ d.haw.sampling = true ∨ d.secondary = true ∨ d.fired 4 = false →
      exec (.strapReread dt reads) s = .next { s with dev := d })

/-- R441 read backwards: what an accepted record is known to be. -/
def Obligations.AcceptedRecordsAreAuthorised : Prop :=
  ∀ (d : Device) (p : RecPath) (r : Rec), d.recCause p r = 0 →
    d.secondary = false ∧ d.sec.lc ≠ .scrapped ∧ (r.nSig = 1 ∨ r.nSig = 2) ∧ r.len = r.bytes.length ∧
    (∀ k < r.nSig, ∃ key, d.signKey (r.signer k) = some key ∧ ecdsaVerify key r.hash (r.sig k) = true) ∧
    d.sec.hashes.getD (r.signer 0) [] ≠ r.hash.take 16 ∧ d.sec.seqOf (r.signer 0) < r.seq ∧
    (d.sec.lc = .blank → (r.typ = 1 ∨ r.typ = 4) ∧ r.signers = [0]) ∧
    (d.sec.lc = .sealed → r.typ = 5 → r.signers = [1, 2]) ∧
    (d.sec.lc = .sealed → r.typ = 6 → d.legalChange r = true → r.signers = [1, 2]) ∧
    (d.sec.lc = .sealed → r.typ = 12 → getU r.body 0 1 / 2 = 1) ∧
    (r.typ = 4 → getU r.body 0 1 = d.sec.lc.code)

/-- R437 to R439, R448, R454 to R457. -/
def Obligations.KeyAndLifeCycleRecords : Prop :=
  ∀ (dt : Nat) (p : RecPath) (rest : Bytes) (s : State) (d : Device) (r : Rec), d = s.dev.elapse dt →
    (Takes d 0x01 p rest r → ∃ t : Device, exec (.provision dt p rest) s = .next { s with dev := t } ∧ Accepted d t p r ∧
      t.sec.lc = .manufacture ∧ t.sec.fuseP = true ∧ t.sec.fuseS = d.sec.fuseS ∧ t.sec.fuseX = d.sec.fuseX ∧
      t.sec.keys = { d.sec.keys with maker := some (getU r.body 0 32, getU r.body 32 32) } ∧
      t.power = { d.power with
        holdDue := true, shipping := false, coldDue := true, startCause := 4
        heldItems := d.power.heldItems + d.abandoned, heldRegions := d.power.heldRegions ||| d.disp.runMask } ∧
      GivesUp d t ∧ t.conf = d.conf ∧ t.land = d.land) ∧
    (Takes d 0x02 p rest r → ∃ t : Device, exec (.identity dt p rest) s = .next { s with dev := t } ∧ Accepted d t p r ∧
      t.sec.devEui = some (getU r.body 0 8) ∧ t.sec.keys = { d.sec.keys with kek := some (slice r.body 8 16) } ∧
      t.sec.lc = d.sec.lc ∧ t.power = d.power ∧ t.conf = d.conf ∧ t.land.tick = d.land.tick) ∧
    (Takes d 0x03 p rest r → ∀ v, v = (if getU r.body 4 32 = 0 ∧ getU r.body 36 32 = 0 then none
        else some (getU r.body 4 32, getU r.body 36 32)) →
      ∃ t : Device, exec (.keys dt p rest) s = .next { s with dev := t } ∧ Accepted d t p r ∧ getU r.body 0 1 < 4 ∧
        (getU r.body 0 1 = 0 → t.sec.keys = { d.sec.keys with maker := v }) ∧
        (getU r.body 0 1 = 1 → t.sec.keys = { d.sec.keys with auth := v }) ∧
        (getU r.body 0 1 = 2 → t.sec.keys = { d.sec.keys with oper0 := v }) ∧
        (getU r.body 0 1 = 3 → t.sec.keys = { d.sec.keys with oper1 := v }) ∧ t.sec.lc = d.sec.lc ∧
        t = { d with sec := t.sec, jnl := t.jnl, toll := { d.toll with ft := t.toll.ft }, store := t.store }) ∧
    (Takes d 0x0A p rest r → ∀ k, d.sec.keys.kek = some k → ∀ nk, (nk = fun (j : Nat) (old : Option Bytes) =>
        if bitAt (getU r.body 0 1) j then keyUnwrap k (slice r.body (8 + 24 * j) 24) else old) →
      ∃ t : Device, exec (.radioKeys dt p rest) s = .next { s with dev := t } ∧ Accepted d t p r ∧
        t.sec.keys = { d.sec.keys with
          net0 := nk 0 d.sec.keys.net0, net1 := nk 1 d.sec.keys.net1, up0 := nk 2 d.sec.keys.up0
          up1 := nk 3 d.sec.keys.up1, wmbus := nk 4 d.sec.keys.wmbus } ∧
        t.radio.fcntTx = 0 ∧ t.radio.fcntBlock = 0 ∧ t.sec.lc = d.sec.lc ∧ t.power = d.power ∧ t.conf = d.conf ∧
        t.land.tick = d.land.tick) ∧
    (Takes d 0x04 p rest r → ∃ t : Device, exec (.lifecycle dt p rest) s = .next { s with dev := t } ∧
      Accepted d t p r ∧ d.sec.lc.code = getU r.body 0 1 ∧ t.sec.lc.code = getU r.body 1 1 ∧
      (t.sec.lc = .manufacture ∨ t.sec.lc = .calibrate → t.sec.fuseP = true) ∧
      (t.sec.lc = .sealed ∨ t.sec.lc = .service → t.sec.fuseP = true ∧ t.sec.fuseS = true) ∧
      (t.sec.lc = .scrapped → t.sec.fuseX = true) ∧
      (t.sec.lc = .sealed → t.straps.sealCodes = d.straps.codes ∧ t.sec.sealTick = d.land.tick) ∧
      t.power.holdDue = true ∧ t.power.coldDue = true ∧ t.power.startCause = 4 ∧ t.radio.exch = none ∧
      t.tr.cyc.inFlight = none ∧ t.land.tick = d.land.tick)

/-- R69, R265, R312, R387, R428, R539, R541. -/
def Obligations.ConfigurationRecords : Prop :=
  ∀ (dt : Nat) (p : RecPath) (rest : Bytes) (s : State) (d : Device) (r : Rec), d = s.dev.elapse dt →
    (Takes d 0x05 p rest r → ∃ t : Device, exec (.calib dt p rest) s = .next { s with dev := t } ∧ Accepted d t p r ∧
      t.conf.calibStored = r.bytes ∧ t.conf.calib = calibOf ((blocksOf sectionSize r.body).getD []) ∧
      t.land.lf = (if d.land.supply = .bat then t.conf.calib.lf else d.land.lf) ∧ t.conf.expertStored = d.conf.expertStored ∧ t.conf.g = d.conf.g ∧
      t.sec.keys = d.sec.keys ∧ t.sec.lc = d.sec.lc ∧ t.land.tick = d.land.tick) ∧
    (Takes d 0x06 p rest r → ∃ t : Device, exec (.paramExpert dt p rest) s = .next { s with dev := t } ∧
      Accepted d t p r ∧ t.conf.expertStored = r.bytes ∧ t.conf.g = d.groupsAfter r ∧
      (d.conf.safePreset = false → codeOf d.straps.codes 0 = 15 → bitAt d.straps.badMask 0 = false →
        ∀ m, (groupsOf ((blocksOf groupSize r.body).getD [])).medium = some m → t.conf.g.medium = some m) ∧
      (codeOf d.straps.codes 0 ≠ 15 → t.conf.g.medium = d.conf.g.medium) ∧
      (d.conf.safePreset = true → t.conf.g = d.conf.g) ∧ t.conf.calibStored = d.conf.calibStored ∧
      t.conf.calib = d.conf.calib ∧ t.sec.keys = d.sec.keys ∧ t.sec.lc = d.sec.lc ∧ t.land.tick = d.land.tick) ∧
    (Takes d 0x07 p rest r → ∃ t : Device, exec (.tariffCal dt p rest) s = .next { s with dev := t } ∧ Accepted d t p r ∧
      t.bill.calPassive = some (calendarOf r.body r.seq) ∧ t.bill.calActive = d.bill.calActive ∧ t.conf = d.conf ∧
      t.sec.keys = d.sec.keys ∧ t.sec.lc = d.sec.lc ∧ t.land.tick = d.land.tick) ∧
    (Takes d 0x08 p rest r → ∃ t : Device, exec (.timeSet dt p rest) s = .next { s with dev := t } ∧ Accepted d t p r ∧
      (d.land.supply = .bat → t.land = { d.land with pendSet := timeSetOf r.body } ∧ t.land.pendSet.isSome = true ∧
        (getU r.body 0 1 = 1 → t.land.pendSet = some (.rel (getS r.body 10 6)))) ∧
      (d.land.supply ≠ .bat → t.land = d.land) ∧ t.sec.keys = d.sec.keys ∧
      t.sec.lc = d.sec.lc ∧
      t = { d with sec := t.sec, jnl := t.jnl, toll := { d.toll with ft := t.toll.ft }, store := t.store, land := t.land }) ∧
    (Takes d 0x09 p rest r → ∃ t : Device, exec (.radioCfg dt p rest) s = .next { s with dev := t } ∧ Accepted d t p r ∧
      t.radio.cfg = slice r.body 0 13 ++ [0, 0, 0] ∧ t.radio.netId = getU r.body 0 2 ∧ t.radio.upNetId = getU r.body 2 2 ∧
      t.sec.keys = d.sec.keys ∧ t.sec.lc = d.sec.lc ∧
      t = { d with sec := t.sec, jnl := t.jnl, toll := { d.toll with ft := t.toll.ft }, store := t.store, radio := t.radio }) ∧
    (Takes d 0x0B p rest r →
      (d.on .display = true → d.disp.budgetUsed < (d.conf.g.display.getD {}).updCap →
        ∃ t : Device, exec (.displayReq dt p rest) s = .next { s with dev := t } ∧ Accepted d t p r ∧
          t.disp.page = getU r.body 0 1 ∧ t.disp.budgetUsed = d.disp.budgetUsed + 1 ∧ t.refusals = d.refusals ∧
          t.conf = d.conf ∧ t.sec.keys = d.sec.keys ∧ t.sec.lc = d.sec.lc ∧ t.land.tick = d.land.tick) ∧
      (d.on .display = false → ∃ t : Device, exec (.displayReq dt p rest) s = .next { s with dev := t } ∧
          Accepted d t p r ∧ t.refusals = setAt d.refusals 8 satInc ∧ t.disp = d.disp ∧ t.land = d.land))

/-- R458, R459. Bit 0 of the mask is reserved. -/
def Obligations.WipeRecordClearsItsClasses : Prop :=
  ∀ (dt : Nat) (p : RecPath) (rest : Bytes) (s : State) (d : Device) (r : Rec) (m : Nat), d = s.dev.elapse dt →
    Takes d 0x0C p rest r → m = getU r.body 0 1 →
    ∃ t : Device, exec (.wipe dt p rest) s = .next { s with dev := t } ∧ Accepted d t p r ∧ bitAt m 6 = false ∧
      (bitAt m 1 = true → t.radio.counters = List.replicate 18 0 ∧ t.disp.updates = 0 ∧ t.power.coldStarts = 0) ∧
      (bitAt m 2 = true → t.toll.led.vol.hwm = 0 ∧ t.toll.led.vol.rev = 0) ∧
      (bitAt m 3 = true → t.sec.serviceCount = 0 ∧
        (bitAt m 7 = false ∨ d.land.queued = [] → t.sec.tamper = List.replicate 24 {})) ∧
      (bitAt m 4 = true → t.radio.children = [] ∧ t.radio.link = 0) ∧
      (bitAt m 5 = true → t.conf.calibStored = [] ∧ t.conf.expertStored = [] ∧ t.straps.sealCodes = 0) ∧
      (bitAt m 7 = true → d.land.supply = .bat → t.land.neverSet = true) ∧
      (bitAt m 3 = false → bitAt m 7 = false ∨ d.land.queued = [] → t.sec.tamper = d.sec.tamper) ∧ (bitAt m 4 = false → t.radio.children = d.radio.children) ∧
      (bitAt m 5 = false → t.conf = d.conf ∧ t.straps.sealCodes = d.straps.sealCodes) ∧
      (bitAt m 2 = false → bitAt m 5 = false → t.toll.led.vol = d.toll.led.vol) ∧
      (bitAt m 7 = false → t.land.neverSet = d.land.neverSet) ∧
      t.sec.keys = d.sec.keys ∧ t.sec.devEui = d.sec.devEui ∧ t.sec.lc = d.sec.lc ∧ t.sec.fuseP = d.sec.fuseP ∧
      t.sec.fuseS = d.sec.fuseS ∧ t.sec.fuseX = d.sec.fuseX ∧ t.land.tick = d.land.tick

/-- R441: "A refused record changes nothing else." -/
def Obligations.RefusedRecordChangesNothing : Prop :=
  ∀ (dt : Nat) (p : RecPath) (rest : Bytes) (s : State) (d : Device) (f : Nat → RecPath → Bytes → Instr) (typ c : Nat) (r : Rec),
    d = s.dev.elapse dt →
    (f, typ) ∈ [(Instr.provision, 1), (.identity, 2), (.keys, 3), (.lifecycle, 4), (.calib, 5), (.paramExpert, 6),
      (.tariffCal, 7), (.timeSet, 8), (.radioCfg, 9), (.radioKeys, 10), (.displayReq, 11), (.wipe, 12)] →
    r = recOf (BitVec.ofNat 8 typ :: rest) → c = (if d.st.secIsolated then 14 else d.recCause p r) →
    (d.up = true → c ≠ 0 →
      ∃ t : Device, exec (f dt p rest) s = .next { s with dev := t } ∧
        (t.sec.verdicts.head?.map fun v => (v.tick, v.recType, v.cause)) = some (d.land.tick, typ, c) ∧
        (c ≠ 6 → c ≠ 7 → t.sec.tamper = d.sec.tamper ∧ (d.secondary = false →
          t.jnl.entries.head? = some ⟨d.land.tick, 0x802, !d.trusted, typ + 256 * c, r.seq⟩)) ∧
        (∀ i, i ≠ 2 → i ≠ 4 → i ≠ 7 → t.refusals[i]? = d.refusals[i]?) ∧
        t = { d with
          sec := { d.sec with verdicts := t.sec.verdicts, verdictSeq := t.sec.verdictSeq, tamper := t.sec.tamper
                              tamperNew := t.sec.tamperNew, tamperTotal := t.sec.tamperTotal }
          refusals := t.refusals, jnl := t.jnl, toll := { d.toll with ft := t.toll.ft }, store := t.store }) ∧
    (d.up = false → exec (f dt p rest) s = .next { s with dev := d })

/-- R460 to R462. -/
def Obligations.TestAccessIsGraded : Prop :=
  ∀ (dt : Nat) (l : TapLevel) (s : State) (d : Device), d = s.dev.elapse dt →
    (d.up = true → d.awake = true → d.sec.trstHigh = true →
      ∃ t : Device, exec (.tapInstructionLoad dt l) s = .next { s with dev := t } ∧
        t.sec.tap = (if l = .closed ∨ l = .observe ∨ (l = .board ∧ d.sec.lc ≠ .sealed) ∨
            (l = .debug ∧ (d.sec.lc = .blank ∨ d.sec.lc = .manufacture ∨ d.sec.lc = .scrapped)) then l else TapLevel.closed) ∧
        (∀ e, d.sec.tamper[10]? = some e → (t.sec.tamper[10]?.map (·.count)) =
          some (if (l = .board ∨ l = .debug) ∧ (d.sec.lc = .sealed ∨ d.sec.lc = .service) then satInc e.count else e.count)) ∧
        t.sec.lc = d.sec.lc ∧ t.sec.keys = d.sec.keys ∧ t.conf.g = d.conf.g ∧ t.conf.calibStored = d.conf.calibStored ∧
        t.conf.expertStored = d.conf.expertStored ∧ t.land.tick = d.land.tick) ∧
    (d.up = false ∨ d.awake = false ∨ d.sec.trstHigh = false →
      exec (.tapInstructionLoad dt l) s = .next { s with dev := d }) ∧
    (d.up = true → d.awake = true → d.sec.lc = .sealed → d.sec.trstHigh = false → d.sec.trstCounted = false →
      ∀ e, d.sec.tamper[10]? = some e →
      ∃ t : Device, exec (.trstNRise dt) s = .next { s with dev := t } ∧ t.sec.trstHigh = true ∧ t.sec.trstCounted = true ∧
        (t.sec.tamper[10]?.map (·.count)) = some (satInc e.count) ∧ t.sec.tap = d.sec.tap ∧
        t = { d with sec := t.sec, jnl := t.jnl, toll := { d.toll with ft := t.toll.ft }, store := t.store }) ∧
    (d.up = false ∨ d.awake = false ∨ d.sec.lc ≠ .sealed ∨ d.sec.trstCounted = true ∨ d.sec.trstHigh = true →
      exec (.trstNRise dt) s = .next { s with dev := { d with sec := { d.sec with trstHigh := true } } }) ∧
    (∃ t : Device, exec (.trstNFall dt) s = .next { s with dev := t } ∧ t.sec.tap = .closed ∧ t.sec.trstHigh = false ∧
      t.sec.trstCounted = false ∧ t.sec.lc = d.sec.lc ∧ t.sec.keys = d.sec.keys ∧ t.conf.g = d.conf.g ∧
      (d.sec.tap = .closed ∨ d.sec.tap = .observe →
        t = { d with sec := { d.sec with trstHigh := false, trstCounted := false, tap := .closed } }))

/-- R113, R150. -/
def Obligations.CyclesAndShotsAreAdmitted : Prop :=
  (∀ (dt : Nat) (s : State) (d : Device), d = (s.dev.elapse dt).woken 2 →
    (d.tolling = true → d.conf.shot.external = false → d.tr.cyc.shotIn = some 0 →
      (∀ ref, d.on .transit = true → d.tr.cyc.running = false → d.tr.tb.refinSel = false →
        d.haw.role ≠ 1 ∨ d.on .hawser = true →
        ∃ t : Device, exec (.shotTimerExpiry dt ref) s = .next { s with dev := t } ∧
          t.tr.cyc.seq = d.tr.cyc.seq + 1 ∧ t.tr.cyc.running = true ∧ t.tr.cyc.startOsc = d.land.osc ∧
          t.tr.tb.corrInForce = d.tr.tb.hfxCorr ∧ t.tr.cyc.shotIn = some (shotPeriod d.conf.shot d.tr.cyc.level) ∧
          (∀ i is, d.activePaths.filter d.fireable = i :: is → t.tr.cyc.inFlight = some i ∧ t.tr.cyc.toFire = is) ∧
          (d.activePaths.filter d.fireable = [] → t.tr.cyc.complete = true ∧ t.tr.cyc.inFlight = d.tr.cyc.inFlight) ∧
          t.toll = d.toll ∧ t.flow = d.flow ∧ t.conf = d.conf ∧ t.sec = d.sec ∧ t.temp = d.temp ∧ t.land.tick = d.land.tick) ∧
      (∀ ref, d.on .transit = true → d.tr.cyc.running = false → d.tr.tb.refinSel = true → d.tr.tb.relock = false →
        d.tr.tb.fallback = false → d.conf.system.refinFallbackEn = false → d.haw.role ≠ 1 ∨ d.on .hawser = true →
        (∀ n, ref = some n → n < 1534 ∨ 1538 < n) →
        ∃ t : Device, exec (.shotTimerExpiry dt ref) s = .next { s with dev := t } ∧
          t.tr.cyc.seq = d.tr.cyc.seq + 1 ∧ t.tr.cyc.running = false ∧ t.tr.cyc.inFlight = d.tr.cyc.inFlight ∧
          t.tr.tb.failCount = satInc d.tr.tb.failCount ∧ t.tr.tb.failRun = satAdd 8 d.tr.tb.failRun 1) ∧
      (∀ ref, d.on .transit = false →
        ∃ t : Device, exec (.shotTimerExpiry dt ref) s = .next { s with dev := t } ∧
          t.tr.cyc.seq = d.tr.cyc.seq ∧ t.tr.cyc.running = d.tr.cyc.running ∧
          t.tr.cyc.shotIn = some (shotPeriod d.conf.shot d.tr.cyc.level) ∧ t.tr.paths = d.tr.paths)) ∧
    (∀ ref, d.tolling = false ∨ d.conf.shot.external = true ∨ d.tr.cyc.shotIn ≠ some 0 →
      exec (.shotTimerExpiry dt ref) s = .next { s with dev := d })) ∧
  (∀ (dt : Nat) (s : State) (d : Device), d = (s.dev.elapse dt).woken 3 →
    (∀ ref, d.power.st = .nap ∨ d.power.st = .doze ∨ d.power.st = .run → d.power.holdDue = false →
      (d.on .transit = false → exec (.shotRisingEdge ⟨dt, ref⟩) s = .next { s with dev := d.refuse 8 }) ∧
      (d.on .transit = true →
        (d.conf.shot.external = false → ∀ e, e = { d.tr.ext with refusedMode := satInc d.tr.ext.refusedMode } →
          exec (.shotRisingEdge ⟨dt, ref⟩) s = .next { s with dev := { d with
            tr := { d.tr with ext := e }, refusals := setAt d.refusals 0 satInc } }) ∧
        (d.conf.shot.external = true →
          (d.tr.cyc.inFlight.isSome = true → ∀ e, e = { d.tr.ext with refusedBusy := satInc d.tr.ext.refusedBusy } →
            exec (.shotRisingEdge ⟨dt, ref⟩) s = .next { s with dev := { d with
              tr := { d.tr with ext := e }, refusals := setAt d.refusals 0 satInc } }) ∧
          (d.tr.cyc.inFlight = none →
            (d.store.due.getD 0 false = true → ∀ e, e = { d.tr.ext with refusedBg := satInc d.tr.ext.refusedBg } →
              exec (.shotRisingEdge ⟨dt, ref⟩) s = .next { s with dev := { d with
                tr := { d.tr with ext := e }, refusals := setAt d.refusals 0 satInc } }) ∧
            (d.store.due.getD 0 false = false →
              (d.tr.ext.tokens < 65536 → ∀ e, e = { d.tr.ext with refusedRate := satInc d.tr.ext.refusedRate } →
                exec (.shotRisingEdge ⟨dt, ref⟩) s = .next { s with dev := { d with
                  tr := { d.tr with ext := e }, refusals := setAt d.refusals 0 satInc } }) ∧
              (65536 ≤ d.tr.ext.tokens → d.tr.cyc.running = true ∨ d.tr.tb.refinSel = false → ∀ (ps : List Nat) (i : Nat),
                ps = (d.activePaths.filter d.fireable).filter
                  (fun j => d.tr.cyc.running == false || !d.tr.cyc.barred.contains j) →
                (ps.find? (fun j => decide (d.tr.ext.nextPath ≤ j)) = some i ∨
                  ps.find? (fun j => decide (d.tr.ext.nextPath ≤ j)) = none ∧ ps.head? = some i) →
                ∃ t : Device, exec (.shotRisingEdge ⟨dt, ref⟩) s = .next { s with dev := t } ∧ t.tr.cyc.inFlight = some i ∧
                  t.tr.ext.tokens = d.tr.ext.tokens - 65536 ∧ t.tr.ext.accepted = satInc d.tr.ext.accepted ∧
                  t.tr.cyc.extPair = true ∧ t.refusals = d.refusals ∧ t.toll = d.toll ∧ t.flow = d.flow ∧
                  t.conf = d.conf) ∧
              (65536 ≤ d.tr.ext.tokens → d.tr.cyc.running = false → d.tr.tb.refinSel = true → d.tr.tb.relock = false →
                d.tr.tb.fallback = false → d.conf.system.refinFallbackEn = false → d.activePaths.filter d.fireable ≠ [] →
                (∀ n, ref = some n → n < 1534 ∨ 1538 < n) →
                ∃ t : Device, exec (.shotRisingEdge ⟨dt, ref⟩) s = .next { s with dev := t } ∧ t.tr.cyc.inFlight = none ∧
                  t.tr.ext.tokens = d.tr.ext.tokens - 65536 ∧ t.tr.ext.accepted = satInc d.tr.ext.accepted ∧
                  t.tr.tb.failCount = satInc d.tr.tb.failCount ∧ t.tr.tb.failRun = satAdd 8 d.tr.tb.failRun 1)))))) ∧
    (∀ ref, d.power.st = .hibernate ∨ d.power.st = .ship ∨ d.power.st = .unpowered ∨ d.power.holdDue = true →
      exec (.shotRisingEdge ⟨dt, ref⟩) s = .next { s with dev := d }))

/-- R79, R99, R104, R129, R131, R147. -/
def Obligations.PathPairsAreGradedAndBooked : Prop :=
  ∀ (dt : Nat) (cap : PairCapture) (s : State) (d : Device), d = s.dev.elapse dt → d.secondary = false →
    (∀ (i : Nat) (x : PathState), d.tr.cyc.inFlight = some i → d.tr.paths[i]? = some x →
      ((d.flightKey i).1.getD {}).devUp = 0 → ((d.flightKey i).1.getD {}).devDown = 0 →
      d.conf.shot.external = false → d.on .transit = true → x.work.stale = false →
      ∃ t : Device, ∃ y : PathState, exec (.pathPairDone dt cap) s = .next { s with dev := t } ∧
        t.tr.paths[i]? = some y ∧ y.tune.parity = !x.tune.parity ∧ y.health.pairs = satInc x.health.pairs ∧
        (∀ j, j ≠ i → t.tr.paths[j]? = d.tr.paths[j]?) ∧ t.tr.tdc.pairsSpan = d.tr.tdc.pairsSpan + 1 ∧
        t.tr.tdc.pairsFull = d.tr.tdc.pairsFull + 1 ∧
        (∀ k ks, d.tr.cyc.toFire = k :: ks → t.tr.cyc.inFlight = some k ∧ t.tr.cyc.toFire = ks) ∧
        (d.tr.cyc.toFire = [] → t.tr.cyc.inFlight = none ∧ t.tr.cyc.complete = true) ∧
        (d.tr.cyc.probe = true → y.res = x.res ∧ y.tpl = x.tpl) ∧
        (d.tr.cyc.probe = false → y.res.cycleSeq = d.tr.cyc.seq % 2 ^ 16 ∧
          (cap.overflow = true → y.res.grade = .void) ∧
          (y.res.grade = .void → y.res.tUd = 0 ∧ y.res.tDu = 0 ∧ y.res.dt = 0 ∧ y.res.sos = 0 ∧
            y.health.voidPairs = satInc x.health.voidPairs ∧
            (x.work.sweeping = false → y.health.voidRun = satAdd 16 x.health.voidRun 1)) ∧
          (y.res.grade ≠ .void → y.health.voidRun = 0 ∧ y.res.voidCause = 0)) ∧
        t.toll.led = d.toll.led ∧ t.conf = d.conf ∧ t.flow = d.flow ∧ t.land.tick = d.land.tick ∧ t.sec.keys = d.sec.keys) ∧
    (d.tr.cyc.inFlight = none → exec (.pathPairDone dt cap) s = .next { s with dev := d }) ∧
    (∀ (i : Nat) (x : PathState), d.tr.tb.refinActive = true → d.tr.cyc.inFlight = some i → d.tr.paths[i]? = some x →
      d.tr.cyc.probe = false → x.work.stale = false →
      ∃ t : Device, ∃ y : PathState, exec (.refInLoss dt) s = .next { s with dev := t } ∧ t.tr.paths[i]? = some y ∧
        y.res.grade = .void ∧ y.res.voidCause = 12 ∧ y.res.tUd = 0 ∧ y.res.tDu = 0 ∧ y.res.dt = 0 ∧ y.res.sos = 0 ∧
        y.health.voidPairs = satInc x.health.voidPairs ∧ (∀ j, j ≠ i → t.tr.paths[j]? = d.tr.paths[j]?) ∧
        t.tr.cyc.inFlight = none ∧ t.tr.cyc.toFire = [] ∧ t.tr.cyc.complete = true ∧
        t.tr.tb.failCount = satInc d.tr.tb.failCount ∧ t.toll.led = d.toll.led ∧ t.conf = d.conf ∧ t.flow = d.flow ∧
        t.land = d.land) ∧
    (d.tr.tb.refinActive = false ∨ d.tr.cyc.inFlight = none ∧ d.haw.job = none → exec (.refInLoss dt) s = .next { s with dev := d })

/-- R96 to R98, R101. -/
def Obligations.CalibrationOfTimeRunsInSteps : Prop :=
  (∀ (dt : Nat) (s : State) (d : Device), d = (s.dev.elapse dt).woken 1 → d.up = true →
    (d.trusted = true → d.secondary = false → d.fired 1 = true →
      ∀ (n : Nat) (e : Int), n = (d.land.tick - d.conf.calib.age.calTime) / 2831155200 → e = ageEps d.conf.calib.age n →
        ∃ t : Device, exec (.hfxCorrRecompute dt) s = .next { s with dev := t } ∧
          t.tr.tb = { d.tr.tb with
            hfxCorr := max (-109951163) (min e 109951163), ageDays := n % 2 ^ 16, corrHeld := false
            corrClamped := decide (e < -109951163 ∨ 109951163 < e) } ∧
          (d.land.supply = .bat →
            t.land.alarms = (d.land.arm 1 ((d.land.tick / 2831155200 + 1) * 2831155200) false).alarms) ∧
          t.land.tick = d.land.tick ∧ t.conf = d.conf ∧ t.sec = d.sec ∧ t.toll.led = d.toll.led) ∧
    (d.trusted = false → d.secondary = false → d.fired 1 = true → d.land.supply = .bat →
      exec (.hfxCorrRecompute dt) s = .next { s with dev := { d with
        land := d.land.arm 1 ((d.land.tick / 2831155200 + 1) * 2831155200) false
        tr := { d.tr with tb := { d.tr.tb with corrHeld := true } } } }) ∧
    (d.secondary = true ∨ d.fired 1 = false → exec (.hfxCorrRecompute dt) s = .next { s with dev := d })) ∧
  (∀ (dt : Nat) (s : State) (d : Device), d = s.dev.elapse dt → d.up = true →
    (d.on .transit = true → ∀ td : Int,
      (2 ^ 20 ≤ d.tr.tdc.pairsFull ∨ 2048 ≤ (td - d.tr.tdc.fullTemp).natAbs →
        exec (.tdcCalTrigger dt td) s = .next { s with dev := { d with
          land := { d.land with dieTemp := td }
          tr := { d.tr with tdc := { d.tr.tdc with due := max d.tr.tdc.due 2 } } } }) ∧
      (d.tr.tdc.pairsFull < 2 ^ 20 → (td - d.tr.tdc.fullTemp).natAbs < 2048 →
        (4096 ≤ d.tr.tdc.pairsSpan ∨ 512 ≤ (td - d.tr.tdc.spanTemp).natAbs →
          exec (.tdcCalTrigger dt td) s = .next { s with dev := { d with
            land := { d.land with dieTemp := td }
            tr := { d.tr with tdc := { d.tr.tdc with due := max d.tr.tdc.due 1 } } } }) ∧
        (d.tr.tdc.pairsSpan < 4096 → (td - d.tr.tdc.spanTemp).natAbs < 512 →
          exec (.tdcCalTrigger dt td) s = .next { s with dev := d }))) ∧
    (d.on .transit = true → d.tr.cyc.inFlight = none → d.haw.job = none →
      d.gapOf 14 = true ∨ d.store.due.getD 0 false = true →
      (∀ raw : Nat, d.tr.tdc.stepsDone = 0 → 8192 ≤ raw → raw ≤ 12287 →
        (d.tr.tdc.act.rawSpanRef = 0 ∨ 50 * ((raw : Int) - d.tr.tdc.act.rawSpanRef).natAbs ≤ d.tr.tdc.act.rawSpanRef) →
        (d.tr.tdc.due = 1 → ∃ t : Device, exec (.tdcCalStep dt (.span raw)) s = .next { s with dev := t } ∧
          t.tr.tdc.shadowReady = true ∧ t.tr.tdc.shadow.rawSpanNow = raw ∧ t.tr.tdc.pairsSpan = 0 ∧ t.tr.tdc.due = 0 ∧
          t.tr.tdc.calCount = d.tr.tdc.calCount ∧ t.tr.tdc.act = d.tr.tdc.act ∧
          t = { d with tr := { d.tr with tdc := t.tr.tdc }, store := { d.store with due := t.store.due, readySince := t.store.readySince } }) ∧
        (d.tr.tdc.due = 2 → ∃ t : Device, exec (.tdcCalStep dt (.span raw)) s = .next { s with dev := t } ∧
          t.tr.tdc.build.rawSpanNow = raw ∧ t.tr.tdc.stepsDone = 1 ∧ t.tr.tdc.due = 2 ∧
          t.tr.tdc.shadow = d.tr.tdc.shadow ∧ t.tr.tdc.shadowReady = d.tr.tdc.shadowReady ∧ t.tr.tdc.act = d.tr.tdc.act ∧
          t = { d with tr := { d.tr with tdc := t.tr.tdc }, store := { d.store with due := t.store.due, readySince := t.store.readySince } })) ∧
      (∀ raw : Nat, d.tr.tdc.stepsDone = 0 → d.tr.tdc.due ≠ 0 → (raw < 8192 ∨ 12287 < raw ∨ (d.tr.tdc.act.rawSpanRef ≠ 0 ∧
          d.tr.tdc.act.rawSpanRef < 50 * ((raw : Int) - d.tr.tdc.act.rawSpanRef).natAbs)) →
        ∃ t : Device, exec (.tdcCalStep dt (.span raw)) s = .next { s with dev := t } ∧
          t.tr.tdc.failRun = satAdd 7 d.tr.tdc.failRun 1 ∧ t.tr.tdc.stepsDone = 0 ∧
          t.tr.tdc.due = (if d.tr.tdc.due = 2 then 2 else 1) ∧ t.tr.tdc.act = d.tr.tdc.act ∧
          t.tr.tdc.shadow = d.tr.tdc.shadow ∧ t.tr.tdc.shadowReady = d.tr.tdc.shadowReady ∧
          (d.tr.tdc.failRun + 1 < 3 → t.tr.tdc.fault = d.tr.tdc.fault) ∧
          (3 ≤ satAdd 7 d.tr.tdc.failRun 1 → t.tr.tdc.fault = true)) ∧
      (∀ a b, d.tr.tdc.due = 2 → d.tr.tdc.stepsDone = 24 →
        ∃ t : Device, exec (.tdcCalStep dt (.loopback 7 a b)) s = .next { s with dev := t } ∧
          t.tr.tdc.calCount = satInc d.tr.tdc.calCount ∧ t.tr.tdc.fault = false ∧ t.tr.tdc.failRun = 0 ∧
          t.tr.tdc.shadowReady = true ∧ t.tr.tdc.shadow.delayA = d.tr.tdc.build.delayA.set 7 a ∧
          t.tr.tdc.shadow.delayB = d.tr.tdc.build.delayB.set 7 b ∧ t.tr.tdc.pairsFull = 0 ∧ t.tr.tdc.pairsSpan = 0 ∧
          t.tr.tdc.due = 0 ∧ t.tr.tdc.act = d.tr.tdc.act)))

/-- R169. `b` is the device once a boundary of the same tick has been taken (R12), `a` once the cycle is closed, its
retirements made and its medium classified. -/
def Obligations.IncrementsTelescope : Prop :=
  (∀ (dt : Nat) (s : State) (d b : Device), d = s.dev.elapse dt → d.tolling = true → d.tr.cyc.complete = true →
    b = d.boundaryFirst → b.st.legalHold = false →
    ∀ (a c : Device) (q : Int), (∀ z : Cycle, z = { b.tr.cyc with complete := false, running := false } →
        a = ({ b with tr := { b.tr with cyc := z } } : Device).retire.classify) →
      a.live = true → a.reconstruct = (c, some q) →
      ∃ t : Device, exec (.admitIncrement dt) s = .next { s with dev := t } ∧ t.flow.qf = some q ∧
        t.toll.led.vol.tPrev = d.land.tick ∧ t.tr.cyc.complete = false ∧ t.tr.cyc.running = false ∧
        t.conf = d.conf ∧ t.land.tick = d.land.tick ∧
        (∀ qf, b.flow.qf = some qf →
          225 * (t.toll.led.vol.net - b.toll.led.vol.net) + t.toll.led.vol.incRem =
            qf * ((d.land.tick - b.toll.led.vol.tPrev : Nat) : Int) * 32 + b.toll.led.vol.incRem ∧
          t.toll.led.vol.incRem < 225) ∧
        (b.flow.qf = none → t.toll.led.vol.net = b.toll.led.vol.net ∧ t.toll.led.vol.hwm = b.toll.led.vol.hwm)) ∧
  (∀ (l : List (Int × Nat)) (r : Nat), r < 225 →
    let run := l.foldl (fun (a : Int × Nat) x => (a.1 + (incOf x.1 x.2 a.2).1, (incOf x.1 x.2 a.2).2)) (0, r)
    run.1 = ((l.map fun x => x.1 * (x.2 : Int) * 32).sum + r) / 225 ∧ run.2 < 225)

/-- R173, R174: what one admitted increment does. -/
def Obligations.AdmittedIncrementsReachTheLedgers : Prop :=
  ∀ (s t : Device) (inc : Int) (q : Option Int), t = s.admitInc inc q →
    (s.st.legalHold = false →
      t.toll.led.vol = { s.toll.led.vol with
        net := s.toll.led.vol.net + inc
        hwm := max s.toll.led.vol.hwm (s.toll.led.vol.net + inc)
        rev := if inc < 0 then s.toll.led.vol.rev + inc.natAbs else s.toll.led.vol.rev } ∧
      t.conf = s.conf ∧ t.land.tick = s.land.tick ∧ t.flow = s.flow ∧ t.sec.keys = s.sec.keys ∧
      (s.cap.qTurnN ≠ 0 → ∀ p : Int, p = s.cap.qTurnN * 2 ^ 32 →
        p * t.cap.turns + t.cap.phase = p * s.cap.turns + s.cap.phase + 20 * inc ∧ (t.cap.phase : Int) < p ∧
        (0 ≤ s.cap.hwm → t.cap.hwm = max s.cap.hwm t.cap.turns)) ∧
      (s.cap.qTurnN = 0 → t.cap = s.cap)) ∧
    (s.st.legalHold = true → t = s)

/-- R234, through the routing of R233. -/
def Obligations.TariffRegistersSumToTheTotal : Prop :=
  ∀ (s : Device) (sd : Side) (num : Int) (u : Nat) (l t : SideLedger),
    u = (if s.toll.unitMJ then 4294967296000000 else 15461882265600) → l = s.toll.led.side sd →
    t = (s.routeBilled sd num).toll.led.side sd → 1 ≤ s.bill.now.tariff → s.bill.now.tariff ≤ 8 →
    l.tar.length = 8 → l.reg = l.tar.map (· / u) → (l.tar.sum : Int) = l.hwm →
    t.tar.length = 8 ∧ t.reg = t.tar.map (· / u) ∧ (t.tar.sum : Int) = t.hwm ∧ t.hwm = max l.hwm t.net ∧
    16777216000 * (t.net - l.net) + t.rem = num + l.rem ∧ t.rem < 16777216000 ∧
    (∀ k, k + 1 ≠ s.bill.now.tariff → t.tar[k]? = l.tar[k]?) ∧ t.total = t.reg.sum ∧
    (t.total : Int) ≤ t.hwm / u ∧ t.hwm / u - 7 ≤ (t.total : Int) ∧
    (∀ o, o ≠ sd → (s.routeBilled sd num).toll.led.side o = s.toll.led.side o)

/-- R170, R143. `b` is the device once a boundary of the same tick has been taken (R12). -/
def Obligations.GapsCloseAtGapHold : Prop :=
  ∀ (dt : Nat) (s : State) (d b : Device), d = (s.dev.elapse dt).woken 1 → b = d.boundaryFirst →
    (∀ qf, d.fired 2 = true → d.live = true → d.flow.qf = some qf → d.flow.gapWait = false →
      (b.cycleSpansGap = false → b.st.legalHold = false →
        ∃ t : Device, exec (.gapHoldExpiry dt) s = .next { s with dev := t } ∧ t.flow.qf = none ∧
          t.tr.cs.flowFault = true ∧ t.tr.cs.flowHeld = false ∧
          t.tr.cs.tFaultStart = b.toll.led.vol.tPrev + d.conf.shot.gapHold * 32768 ∧
          225 * (t.toll.led.vol.net - b.toll.led.vol.net) + t.toll.led.vol.incRem =
            qf * (d.conf.shot.gapHold * 32768 : Nat) * 32 + b.toll.led.vol.incRem ∧
          t.toll.led.vol.incRem < 225 ∧ t.toll.led.vol.tPrev = d.land.tick ∧ t.conf = d.conf ∧
          t.land.tick = d.land.tick) ∧
      (b.cycleSpansGap = true →
        ∃ t : Device, exec (.gapHoldExpiry dt) s = .next { s with dev := t } ∧
          t.flow = { d.flow with gapWait := true } ∧ t.toll.led = b.toll.led ∧ t.tr = b.tr ∧ t.conf = d.conf ∧
          t.land.tick = d.land.tick)) ∧
    (d.fired 2 = false ∨ d.flow.qf = none ∨ d.flow.gapWait = true ∨ d.live = false →
      exec (.gapHoldExpiry dt) s = .next { s with dev := d })

/-- R11, R201, R202, R204. -/
def Obligations.TemperatureSamplesComplete : Prop :=
  (∀ (dt : Nat) (s : State) (d : Device), d = (s.dev.elapse dt).woken 1 →
    (d.tolling = true → d.fired 3 = true ∨ d.temp.due = true →
      (d.on .converter = true → d.temp.running = false →
        ∃ t : Device, exec (.tempSampleDue dt) s = .next { s with dev := t } ∧ t.temp.running = true ∧ t.temp.due = false ∧
          t.temp.lastDue = d.land.tick ∧ t.cap = { d.cap with tempTurns := 0 } ∧ t.temp.sample = d.temp.sample ∧
          (d.land.supply = .bat → 0 < d.conf.clamp.tMax → ∀ a, d.land.alarms[3]? = some a → t.land.alarms[3]? = some
            { armed := true, fired := false, elapsed := true
              target := min (d.land.tick + d.conf.clamp.tMax * 2048) (2 ^ 48 - 1) }) ∧
          t.toll = d.toll ∧ t.tr = d.tr ∧ t.conf = d.conf ∧ t.land.tick = d.land.tick) ∧
      (d.on .converter = false ∨ d.temp.running = true →
        exec (.tempSampleDue dt) s = .next { s with dev := { d with temp := { d.temp with due := true } } })) ∧
    (d.tolling = false ∨ (d.fired 3 = false ∧ d.temp.due = false) →
      exec (.tempSampleDue dt) s = .next { s with dev := d })) ∧
  (∀ (dt : Nat) (m : SampleInput) (s : State) (d : Device), d = s.dev.elapse dt →
    (d.haw.role = 0 → d.up = true → d.temp.running = true → d.on .converter = true → d.temp.awaiting = [] →
      ∃ t : Device, exec (.sampleComplete dt m) s = .next { s with dev := t } ∧ t.temp.sample.tick = d.land.tick ∧
        t.temp.sample.seq = (d.temp.sample.seq + 1) % 2 ^ 16 ∧ t.temp.running = false ∧ t.temp.any = true ∧
        t.temp.pricing = some t.temp.sample ∧ t.temp.prevPricing = d.temp.pricing ∧
        (∀ (i j : Nat) (x : Int), d.roleIdx 2 = some i → d.roleIdx 3 = some j → i < 4 → j < 4 →
          t.temp.sample.present i = true → t.temp.sample.present j = true →
          x = t.temp.sample.theta.getD i 0 - t.temp.sample.theta.getD j 0 →
          (-(2 ^ 31) ≤ x → x < 2 ^ 31 → t.temp.sample.dtheta = x) ∧
          (d.conf.cls = 1 ∨ d.conf.cls = 4 → t.temp.sample.mode =
            (if (d.conf.medium.dthetaZero : Int) ≤ x then .heat
             else if -(d.conf.medium.dthetaNeg : Int) < x then .none else ThermalMode.neg)) ∧
          (d.conf.cls = 0 ∨ 7 ≤ d.conf.cls → t.temp.sample.mode = .none)) ∧
        t.toll.led.vol = d.toll.led.vol ∧ t.toll.led.heat = d.toll.led.heat ∧ t.toll.led.cool = d.toll.led.cool ∧
        t.flow = d.flow ∧ t.tr = d.tr ∧ t.conf = d.conf ∧ t.land.tick = d.land.tick) ∧
    (d.haw.role = 1 → d.up = true → d.temp.running = true → d.on .converter = true → d.temp.awaiting ≠ [] →
      exec (.sampleComplete dt m) s = .next { s with dev := { d with
        temp := { d.temp with ownPart := some (d.ownConvert m) } } }) ∧
    (d.secondary = false → d.temp.running = false ∨ d.on .converter = false →
      exec (.sampleComplete dt m) s = .next { s with dev := d }))

/-- R260, R263, R272, R281. -/
def Obligations.BoundariesCloseOnOneTick : Prop :=
  ∀ (dt : Nat) (s : State) (d : Device), d = (s.dev.elapse dt).woken 1 →
    (d.tolling = true → d.fired 0 = true ∨ d.bill.trusted ≠ d.trusted →
      ∃ t : Device, exec (.boundaryTransaction dt) s = .next { s with dev := t } ∧ t.bill.lastTick = d.land.tick ∧
        t.bill.trusted = d.trusted ∧ t.toll.ft.tCond = d.land.tick ∧
        (d.bill.dem.nextEnd ≤ d.land.tick → t.bill.dem.tSubStart = d.land.tick ∧ t.bill.dem.accE = 0 ∧ t.bill.dem.accV = 0) ∧
        (d.bill.hour.nextEnd ≤ d.land.tick → t.bill.hour.tStart = d.land.tick) ∧
        (d.trusted = true → d.bill.st.schedLast ≠ 0 → ∀ last : Nat,
          last = (if d.bill.trusted then max d.bill.st.schedLast d.bill.lastTick else d.bill.st.schedLast) →
          (0 < (billEndsIn d.bill.calActive last d.land.tick).1 →
            t.bill.st.seqLast = (d.bill.st.seqLast + 1) % 2 ^ 32 ∧
            (t.bill.snaps.head?.map fun b => (b.seq, b.tStart, b.tEnd)) =
              some ((d.bill.st.seqLast + 1) % 2 ^ 32, d.bill.st.tStart, d.land.tick)) ∧
          ((billEndsIn d.bill.calActive last d.land.tick).1 = 0 →
            t.bill.st.seqLast = d.bill.st.seqLast ∧ t.bill.snaps = d.bill.snaps)) ∧
        t.bill.now.tariff = (if d.trusted then (evalTariff t.bill.calActive d.land.tick).tariff
          else t.bill.calActive.tariffDefault) ∧
        t.toll.led.vol = d.toll.led.vol ∧ t.conf = d.conf ∧ t.land.tick = d.land.tick ∧ t.sec.keys = d.sec.keys) ∧
    (d.tolling = false ∨ (d.fired 0 = false ∧ d.bill.trusted = d.trusted) →
      exec (.boundaryTransaction dt) s = .next { s with dev := d })

/-- R495, R497, R505, R509. -/
def Obligations.StoreWorksInBackground : Prop :=
  ∀ (dt : Nat) (s : State) (d : Device), d = s.dev.elapse dt → d.up = true →
    (∀ (u : BgUnit) (k n m : Nat), k = bgUnitNo u → (n, m) = d.bgPeriod k →
      (∀ r, d.store.readySince.getD k none = some r → 4 * n ≤ (d.land.osc - r) * m → d.store.due.getD k false = false →
        exec (.bgStepDue dt u) s = .next { s with dev := { d with store := { d.store with
          due := setAt d.store.due k fun _ => true, bgDue := setAt d.store.bgDue k satInc } } }) ∧
      (d.store.readySince.getD k none = none ∨ d.store.due.getD k false = true ∨
          (∃ r, d.store.readySince.getD k none = some r ∧ (d.land.osc - r) * m < 4 * n) →
        exec (.bgStepDue dt u) s = .next { s with dev := d })) ∧
    (∀ (q : Store) (room : Nat → Prop),
      q = { d.store with due := setAt d.store.due 3 fun _ => false, readySince := setAt d.store.readySince 3 fun _ => none } →
      room = (fun n => d.store.scrubRead + n ≤ 65536 ∧
        (d.store.scrubRead + n) * 2831155200 ≤ 65536 * (d.land.tick - d.store.scrubTick)) →
      (∀ l e, ¬ room l.length → exec (.scrubStep dt (.singles l) e) s = .next { s with dev := d }) ∧
      (∀ l e, ¬ room (3 * l.length) → exec (.scrubStep dt (.triples l) e) s = .next { s with dev := d }) ∧
      (∀ l r : List (Nat × WordAt), (∀ x ∈ l, ∃ v, x.2.read = .good v) → room (l ++ r).length →
        (r = [] →
          (∀ e, e = false ∨ d.store.scrubRead + l.length ≠ 65536 →
            exec (.scrubStep dt (.singles l) e) s = .next { s with dev := { d with
              store := { q with scrubRead := d.store.scrubRead + l.length } } }) ∧
          (d.store.scrubRead + l.length = 65536 →
            exec (.scrubStep dt (.singles l) true) s = .next { s with dev := { d with store := { q with
              scrubPasses := satInc q.scrubPasses, scrubTick := d.land.tick, scrubRead := 0 } } })) ∧
        (∀ o w v rs, r = (o, ⟨w, .single v⟩) :: rs →
          exec (.scrubStep dt (.singles (l ++ r)) false) s = .next { s with dev := { d with store := { q with
            framCorrected := satInc q.framCorrected, scrubRead := d.store.scrubRead + l.length + 1 } } }) ∧
        (∀ o w rs, r = (o, ⟨w, .double⟩) :: rs →
          ∃ t : Device, exec (.scrubStep dt (.singles (l ++ r)) false) s = .next { s with dev := t } ∧
            t.store.scrubRead = d.store.scrubRead + l.length + 1 ∧
            t.power.deg.fram = true ∧ (o ≠ 0x0EF0 → t.store.framUncorrectable = satInc d.store.framUncorrectable) ∧
            (d.secondary = false → t.jnl.entries.head? = some ⟨d.land.tick, 0xA07, !d.trusted, w % 2 ^ 32, o % 2 ^ 32⟩) ∧
            t.toll.led.vol = d.toll.led.vol ∧ t.toll.led.heat = d.toll.led.heat ∧ t.toll.led.cool = d.toll.led.cool ∧
            t.sec.lc = d.sec.lc ∧ t.land.tick = d.land.tick)) ∧
      (∀ (o a b c v u : Nat) (l : List (Nat × WordAt × WordAt × WordAt)), u ≠ v → room (3 * (l.length + 1)) →
        ∃ t : Device, exec (.scrubStep dt (.triples ((o, ⟨a, .good v⟩, ⟨b, .good u⟩, ⟨c, .good v⟩) :: l)) false) s =
            .next { s with dev := t } ∧
          t.store.copyRepairs = satInc d.store.copyRepairs ∧ t.store.scrubRead = d.store.scrubRead + 3 ∧
          (d.secondary = false → t.jnl.entries.head? = some ⟨d.land.tick, 0xA08, !d.trusted, b % 2 ^ 32, 1⟩) ∧
          t = { d with jnl := t.jnl, store := t.store, toll := { d.toll with ft := t.toll.ft } }) ∧
      (∀ (o a b c v w : Nat) (l : List (Nat × WordAt × WordAt × WordAt)) (x : WordRead), v ≠ w →
        x = .double ∨ (∃ u, x = .good u ∧ u ≠ v ∧ u ≠ w) → room (3 * (l.length + 1)) →
        ∃ t : Device, exec (.scrubStep dt (.triples ((o, ⟨a, .good v⟩, ⟨b, .good w⟩, ⟨c, x⟩) :: l)) false) s =
            .next { s with dev := t } ∧
          t.st = { d.st with holdVote := true } ∧ t.toll.led.vol = d.toll.led.vol ∧ t.toll.led.heat = d.toll.led.heat ∧
          t.toll.led.cool = d.toll.led.cool ∧ t.conf = d.conf ∧ t.land = d.land)) ∧
    (∀ (h : HourEntry) (r : List Staged) (cs : List Bool), d.bill.staged = .hour h :: r →
      ∃ t : Device, exec (.flashCopy dt (true :: cs)) s = .next { s with dev := t } ∧ t.bill.staged = r ∧
        t.store.hourPos = d.store.hourPos + 1 ∧
        t.store.hourRing.head? = some (d.store.hourPos % 131400, h.bytes) ∧ t.store.dayPos = d.store.dayPos ∧
        t.toll.led = d.toll.led ∧ t.conf = d.conf ∧ t.land = d.land) ∧
    (∀ (n : Nat) (e : DaySnap) (r : List Staged) (cs : List Bool), d.bill.staged = .day n e :: r → d.store.dayPos < n →
      ∃ t : Device, exec (.flashCopy dt (true :: cs)) s = .next { s with dev := t } ∧ t.bill.staged = r ∧
        t.store.dayPos = n ∧ t.store.dayRing.head? = some ((n - 1) % 400, e.bytes) ∧
        t.store.hourPos = d.store.hourPos ∧ t.toll.led = d.toll.led ∧ t.conf = d.conf ∧ t.land = d.land) ∧
    (∀ cs, d.bill.staged = [] → d.store.badSectors = [] → exec (.flashCopy dt cs) s = .next { s with dev := d }) ∧
    (∀ (p : Nat × Nat) (ps : List (Nat × Nat)) (vs : List Bool), d.store.poolDirty = p :: ps →
      ∃ t : Device, exec (.flashErase dt (true :: vs)) s = .next { s with dev := t } ∧ t.store.poolDirty = ps ∧
        t.store.poolErased = d.store.poolErased ++ [(p.1, p.2 + 1)] ∧
        t.store.flashErases = satInc d.store.flashErases ∧ t = { d with store := t.store }) ∧
    (∀ (l : Nat) (ls : List Nat) (vs : List Bool), d.store.poolDirty = [] → d.store.ringErase = l :: ls →
      ∃ t : Device, exec (.flashErase dt (true :: vs)) s = .next { s with dev := t } ∧ t.store.ringErase = ls ∧
        t.store.ringUsed = d.store.ringUsed.filter (· != l) ∧ t.store.flashErases = satInc d.store.flashErases ∧
        t = { d with store := t.store }) ∧
    (∀ vs, d.store.poolDirty = [] → d.store.ringErase = [] → exec (.flashErase dt vs) s = .next { s with dev := d })

/-- R512 to R518. Half a cycle of 187 500 is 200 ppm: |n - 187 500| above 37.5. -/
def Obligations.SelfTestsRunInRounds : Prop :=
  (∀ (dt : Nat) (s : State) (d : Device), d = (s.dev.elapse dt).woken 1 → d.up = true →
    (d.fired 10 = true → ∀ c,
      ∃ t : Device, exec (.selftestRound dt c) s = .next { s with dev := t } ∧
        t.st.roundLeft = [1, 2, 3, 4, 5, 6, 7, 8, 9] ∧
        (d.land.supply = .bat → ∀ a, d.land.alarms[10]? = some a → (t.land.alarms[10]?.map fun b => (b.armed, b.elapsed, b.target)) =
          some (true, true, min (d.land.tick + 2831155200) (2 ^ 48 - 1))) ∧
        (∀ n, c = some n → (t.st.clockFault = true ↔ 75 < 2 * ((n : Int) - 187500).natAbs) ∧
          (75 < 2 * ((n : Int) - 187500).natAbs → d.secondary = false →
            t.jnl.entries.head? = some ⟨d.land.tick, 0xA05, !d.trusted, bitsOf 32 (hfxPpm n), 0⟩)) ∧
        (c = none → t.st.clockFault = d.st.clockFault) ∧ t.st.failed = d.st.failed ∧ t.toll.led = d.toll.led ∧
        t.conf = d.conf ∧ t.fn = d.fn ∧ t.land.tick = d.land.tick) ∧
    (d.fired 10 = false → ∀ c, exec (.selftestRound dt c) s = .next { s with dev := d })) ∧
  (∀ (dt : Nat) (s : State) (d : Device), d = s.dev.elapse dt → d.up = true →
    (∀ b v l f g m, d.st.roundLeft.contains b = false ∨ d.blockIdle b = false →
      exec (.selftestStep dt b v l f g m) s = .next { s with dev := d }) ∧
    (∀ b v m, d.st.roundLeft.contains b = true → d.blockIdle b = true →
      (∀ l f g, v < 855 ∨ 945 < v →
        ∃ t : Device, exec (.selftestStep dt b v l f g m) s = .next { s with dev := t } ∧
          t.st.condDefer = satInc d.st.condDefer ∧ t.st.deferRun = d.st.deferRun + 1 ∧
          t.st.roundLeft = d.st.roundLeft ∧ t.st.failed = d.st.failed ∧ t.fn = d.fn ∧ t.conf = d.conf ∧ t.land = d.land) ∧
      (855 ≤ v → v ≤ 945 →
        (∀ g, ∃ t : Device, exec (.selftestStep dt b v true true g m) s = .next { s with dev := t } ∧
          t.st.roundLeft = d.st.roundLeft.filter (· != b) ∧ t.st.failed = d.st.failed ∧ t.st.failCount = d.st.failCount ∧
          t.st.rounds = (if d.st.roundLeft.filter (· != b) = [] then satInc d.st.rounds else d.st.rounds) ∧
          (∀ x, d.st.misr[b]? = some x → t.st.misr[b]? = some (compact b (d.st.misrAt b) m % 2 ^ 32)) ∧
          (∀ x, d.st.runs[b]? = some x → t.st.runs[b]? = some none) ∧ t.toll.led = d.toll.led ∧
          t.conf = d.conf ∧ t.fn = d.fn ∧ t.land = d.land) ∧
        (∀ f g, ∃ t : Device, exec (.selftestStep dt b v false f g m) s = .next { s with dev := t } ∧
          (∀ x, d.st.runs[b]? = some x → t.st.runs[b]? = some (some (compact b (d.st.misrAt b) m))) ∧
          t.st.roundLeft = d.st.roundLeft ∧ t.st.misr = d.st.misr ∧ t.st.failed = d.st.failed ∧ t.conf = d.conf ∧
          t.fn = d.fn ∧ t.land = d.land) ∧
        (∃ t : Device, exec (.selftestStep dt b v true false false m) s = .next { s with dev := t } ∧
          t.st.roundLeft = d.st.roundLeft.filter (· != b) ∧ t.st.failed = d.st.failed ||| 2 ^ b ∧
          t.st.failCount = satInc d.st.failCount ∧ t.power.deg.block = true ∧ (b = 1 → t.st.holdEcc = true) ∧
          (b = 2 → t.st.holdKat = true) ∧ (b = 4 → t.fn.transit.retired = true) ∧
          (b = 5 → t.fn.converter.retired = true) ∧
          (b = 6 → t.fn.ferryman.retired = true ∧ t.fn.wmbus.retired = true) ∧ (b = 7 → t.fn.hawser.retired = true) ∧
          (b = 8 → t.fn.display.retired = true) ∧ (b = 3 ∨ b = 9 → t.st.secIsolated = true) ∧
          t.toll.led.vol = d.toll.led.vol ∧ t.toll.led.heat = d.toll.led.heat ∧ t.toll.led.cool = d.toll.led.cool ∧
          t.conf = d.conf ∧ t.land = d.land))))

/-- R418, R420, R421, R423, R428. 20 ms to 3 s is 656 to 98 303 cycles. -/
def Obligations.DisplayShowsItsPages : Prop :=
  (∀ (dt : Nat) (s : State) (d : Device), d = (s.dev.elapse dt).woken 1 → d.tolling = true →
    (d.fired 5 = true →
      (d.on .display = true → ∃ t : Device, exec (.displayRefresh dt) s = .next { s with dev := t } ∧
        t.disp.page = d.disp.page ∧ t.disp.budgetUsed = d.disp.budgetUsed ∧ t.land.alarms = d.armRefresh.land.alarms ∧
        t.conf = d.conf ∧ t.toll = d.toll ∧ t.refusals = d.refusals ∧ t.land.tick = d.land.tick) ∧
      (d.on .display = false → exec (.displayRefresh dt) s = .next { s with dev := d.armRefresh })) ∧
    (d.fired 5 = false → exec (.displayRefresh dt) s = .next { s with dev := d })) ∧
  (∀ (dt : Nat) (s : State) (d : Device), d = (s.dev.elapse dt).woken 5 → d.tolling = true →
    (∀ held, 656 ≤ held → held < 98304 →
      (d.on .display = false → exec (.buttonPress dt held) s = .next { s with dev := d.refuse 8 }) ∧
      (d.on .display = true →
        (d.disp.budgetUsed < (d.conf.g.display.getD {}).updCap → d.conf.safePreset = false →
          ∃ t : Device, exec (.buttonPress dt held) s = .next { s with dev := t } ∧ t.disp.page = d.nextPage ∧
            t.disp.budgetUsed = d.disp.budgetUsed + 1 ∧ t.refusals = d.refusals ∧ t.conf = d.conf ∧ t.toll = d.toll ∧
            t.land.tick = d.land.tick) ∧
        ((d.conf.g.display.getD {}).updCap ≤ d.disp.budgetUsed →
          ∃ t : Device, exec (.buttonPress dt held) s = .next { s with dev := t } ∧
            t.refusals = setAt d.refusals 5 satInc ∧ t.disp = { d.disp with budgetRefused := true } ∧
            t.conf = d.conf ∧ t.toll.led = d.toll.led ∧ t.land = d.land))) ∧
    (∀ held, 98304 ≤ held → exec (.buttonPress dt held) s = .next { s with dev := d })) ∧
  (∀ (dt : Nat) (s : State) (d : Device), d = s.dev.elapse dt → d.tolling = true →
    (d.disp.timerRun = true → d.disp.frameAt ≤ d.land.osc → d.disp.regions.length = 8 →
      ∃ t : Device, exec (.displayFrameBoundary dt) s = .next { s with dev := t } ∧
        (∀ (r : Nat) (g : Region) (w : Run), d.disp.regions[r]? = some g → g.run = some w →
          (w.frame + 1 < w.len →
            ((t.disp.regions[r]?).bind (·.run)) = some { w with frame := w.frame + 1 }) ∧
          (w.len ≤ w.frame + 1 → (∀ k ∈ d.disp.regions, k.next = none ∧ k.resume = none) →
            ((t.disp.regions[r]?).bind (·.run)) = none ∧
            ∀ x ∈ d.disp.tables.segs r, ∀ y, d.disp.image[x]? = some y → t.disp.image[x]? = some (y.2, y.2))) ∧
        t.disp.frameAt = d.disp.frameAt + 524 ∧
        t.disp.page = d.disp.page ∧ t.conf = d.conf ∧ t.toll.led = d.toll.led ∧ t.refusals = d.refusals ∧ t.land = d.land) ∧
    (d.disp.timerRun = false ∨ d.land.osc < d.disp.frameAt → exec (.displayFrameBoundary dt) s = .next { s with dev := d }) ∧
    (∀ held, held < 656 → exec (.buttonPress dt held) s = .next { s with dev := d }) ∧
    (∀ u, d.disp.pageUntil = some u →
      (u ≤ d.land.tick → d.on .display = true → ∃ t : Device, exec (.pageTimeout dt) s = .next { s with dev := t } ∧
        t.disp.page = 0 ∧ t.disp.pageUntil = none ∧ t.disp.budgetUsed = d.disp.budgetUsed ∧ t.conf = d.conf ∧
        t.toll = d.toll ∧ t.land.tick = d.land.tick) ∧
      (u ≤ d.land.tick → d.on .display = false →
        exec (.pageTimeout dt) s = .next { s with dev := { d with disp := { d.disp with pageUntil := none } } }) ∧
      (d.land.tick < u → exec (.pageTimeout dt) s = .next { s with dev := d })) ∧
    (d.disp.pageUntil = none → exec (.pageTimeout dt) s = .next { s with dev := d }) ∧
    (∀ n, n = (d.land.tick - d.disp.budgetStart) / 117964800 →
      (0 < n → exec (.displayBudgetWindow dt) s = .next { s with dev := { d with disp := { d.disp with
        budgetUsed := 0, budgetRefused := false, budgetStart := d.disp.budgetStart + n * 117964800 } } }) ∧
      (n = 0 → exec (.displayBudgetWindow dt) s = .next { s with dev := d })))

/-- R451 to R453. `e` is the device once the frame's characters are noted, `took` when an answer ends. -/
def Obligations.OpticalPortAnswers : Prop :=
  ∀ (dt : Nat) (s : State) (d e : Device) (took : Bytes → Nat), d = s.dev.elapse dt →
    took = (fun a => d.land.osc +
      (a.length * 327680 + [2400, 9600, 19200].getD d.opt.baud 2400 - 1) / [2400, 9600, 19200].getD d.opt.baud 2400) →
    e = { d with opt := { d.opt with active := true, lastChar := d.land.osc } } →
    (d.up = true → d.awake = true → d.on .optical = true → d.land.lfxRunning = false ∨ d.opt.answerEnd ≤ d.land.osc →
      (∀ (b p : Bytes) (tag : Nat), optParse b = some ⟨1, tag, p⟩ →
        (∀ c, c = (if e.st.secIsolated then 14 else e.recCause .optical (recOf p)) →
          ∃ t : Device, exec (.optRecord dt b none) s = .next { s with dev := t } ∧
            t.opt.lastAnswer = optBytes ⟨0x81, tag, leBytes 1 c ++ leBytes 2 0xFFFF⟩ ∧
            (t.sec.verdicts.head?.map (·.cause)) = some c) ∧
        (∀ ms, ∃ t : Device, exec (.optRecord dt b (some ms)) s = .next { s with dev := t } ∧
          t.opt = { e.opt with
            lastAnswer := optBytes ⟨0x81, tag, leBytes 1 14 ++ leBytes 2 (min ms 0xFFFE)⟩, answerEnd := t.opt.answerEnd } ∧
          (t.sec.verdicts.head?.map (·.cause)) = some 14 ∧ t.sec.keys = d.sec.keys ∧ t.sec.lc = d.sec.lc ∧
          t.conf = d.conf ∧ t.land = d.land ∧ t.toll.led = d.toll.led)) ∧
      (∀ (b q : Bytes) (tag : Nat), optParse b = some ⟨2, tag, q⟩ → q.length = 7 →
        1 ≤ getU q 5 2 → getU q 5 2 ≤ 1024 →
        (∀ x a, (e.loadShadow 3).readPiece false (getU q 0 2) (getU q 2 3) (getU q 5 2) = .piece x →
          a = optBytes ⟨0x82, tag, leBytes 2 (getU q 0 2) ++ leBytes 3 (getU q 2 3) ++ leBytes 2 x.length ++ x⟩ →
          exec (.optRead dt b) s = .next { s with dev := { e with opt := { e.opt with
            lastAnswer := a, answerEnd := took a } } }) ∧
        (∀ r a, (e.loadShadow 3).readPiece false (getU q 0 2) (getU q 2 3) (getU q 5 2) = .refused r →
          a = optBytes ⟨0x82, tag, leBytes 2 (getU q 0 2) ++ leBytes 3 (getU q 2 3) ++ leBytes 2 0 ++ leBytes 1 r⟩ →
          exec (.optRead dt b) s = .next { s with dev := { e with opt := { e.opt with
            lastAnswer := a, answerEnd := took a } } })) ∧
      (∀ (b q a : Bytes) (tag n : Nat), optParse b = some ⟨3, tag, q⟩ → q.length = 1 → n = getU q 0 1 → n ≤ 2 →
        a = optBytes ⟨0x83, tag, leBytes 8 (d.sec.devEui.getD 0) ++ leBytes 1 d.sec.lc.code ++ leBytes 1 n⟩ →
        exec (.optBaud dt b) s = .next { s with dev := { e with opt := { e.opt with
          baud := n, lastAnswer := a, answerEnd := took a } } }) ∧
      (∀ (b q a : Bytes) (tag : Nat), optParse b = some ⟨4, tag, q⟩ →
        a = optBytes ⟨0x83, tag, leBytes 8 (d.sec.devEui.getD 0) ++ leBytes 1 d.sec.lc.code ++ leBytes 1 d.opt.baud⟩ →
        exec (.optHello dt b) s = .next { s with dev := { e with opt := { e.opt with
            lastAnswer := a, answerEnd := took a } } }) ∧
      (∀ (b : Bytes), optParse b = none → exec (.optRecord dt b none) s = .next { s with dev := e } ∧
        exec (.optRead dt b) s = .next { s with dev := e } ∧ exec (.optBaud dt b) s = .next { s with dev := e } ∧
        exec (.optHello dt b) s = .next { s with dev := e }) ∧
      exec (.optFrameGap dt) s = .next { s with dev := { d with opt := { d.opt with
        active := true, lastChar := max d.opt.lastChar (d.land.osc - 656) } } }) ∧
    (d.up = true → d.awake = true → d.on .optical = true → d.land.lfxRunning = true → d.land.osc < d.opt.answerEnd →
      ∀ b m, exec (.optRecord dt b m) s = .next { s with dev := e } ∧ exec (.optRead dt b) s = .next { s with dev := e } ∧
        exec (.optBaud dt b) s = .next { s with dev := e } ∧ exec (.optHello dt b) s = .next { s with dev := e }) ∧
    (∀ b m, d.up = true → d.awake = true → d.on .optical = false →
      (optParse b = none → exec (.optRecord dt b m) s = .next { s with dev := d }) ∧
      (∀ k tag p, optParse b = some ⟨k, tag, p⟩ →
        (k ≠ 1 ∨ d.fn.optical.st ≠ .stopping → exec (.optRecord dt b m) s = .next { s with dev := d.refuse 8 }) ∧
        (k = 1 → d.fn.optical.st = .stopping →
          ∃ t : Device, exec (.optRecord dt b m) s = .next { s with dev := t } ∧
            t.opt = { d.opt with
              lastAnswer := optBytes ⟨0x81, tag, leBytes 1 14 ++ leBytes 2 0xFFFF⟩, answerEnd := t.opt.answerEnd } ∧
            t.refusals = setAt d.refusals 8 satInc ∧ (t.sec.verdicts.head?.map (·.cause)) = some 14 ∧
            t.sec.keys = d.sec.keys ∧ t.sec.lc = d.sec.lc ∧ t.conf = d.conf ∧ t.land = d.land))) ∧
    (d.opt.active = true → d.opt.lastChar + 163840 ≤ d.land.osc →
      exec (.optIdleTimeout dt) s = .next { s with dev := { d with opt := { d.opt with baud := 0, active := false } } }) ∧
    (d.opt.active = false ∨ d.land.osc < d.opt.lastChar + 163840 → exec (.optIdleTimeout dt) s = .next { s with dev := d })

/-- R340, R344, R350, R352, R358, R362, R363, R364, R367, R373. -/
def Obligations.ParentHearsItsChildren : Prop :=
  ∀ (dt : Nat) (f : RxFrame) (s : State) (d : Device) (r : Radio), d = s.dev.elapse dt → r = (d.keepListening f).radio →
    (∀ (x : Instr) (mine : AirHeader → Bool),
      (x, mine) ∈ [(Instr.rxPoll dt f, fun h : AirHeader => h.typ == 1 && !h.longSrc),
        (.rxJoinPoll dt f, fun h => h.typ == 1 && h.longSrc && d.joinHeard f.chan), (.rxAck dt f, fun h => h.typ == 2), (.rxData dt f, fun h => h.typ == 3),
        (.rxRead dt f, fun h => h.typ == 4), (.rxNote dt f, fun h => h.typ == 5), (.rxTime dt f, fun h => h.typ == 6)] →
      (d.up = false ∨ d.awake = false ∨ d.on .ferryman = false ∨ d.listening = false ∨ d.hearing.contains f.chan = false →
        exec x s = .next { s with dev := d }) ∧
      (Receives d f → f.modeSwitch = true ∨ (fcsGood f.psdu f.fcsLen = true ∧ ∃ p, airParse f.psdu f.fcsLen = some p ∧
          p.version = 0 ∧ 1 ≤ p.hdr.typ ∧ p.hdr.typ ≤ 6 ∧ (mine p.hdr = false ∨ d.linkOf p.hdr = none ∨
            ((∃ j, d.linkOf p.hdr = some (.stranger j)) ∧ p.hdr.asks = false))) →
        ∃ t : Device, exec x s = .next { s with dev := t } ∧ t.radio = { r with out := [], outCh := [] } ∧
          t = { d with radio := t.radio, land := t.land } ∧ t.land = { d.land with alarms := t.land.alarms }) ∧
      (Receives d f → f.modeSwitch = false → ∀ k : Nat,
        (fcsGood f.psdu f.fcsLen = false ∧ k = 2) ∨
        (fcsGood f.psdu f.fcsLen = true ∧ (∀ p, airParse f.psdu f.fcsLen = some p →
          p.version ≠ 0 ∨ p.hdr.typ = 0 ∨ 6 < p.hdr.typ) ∧ k = 4) ∨
        (fcsGood f.psdu f.fcsLen = true ∧ (∃ p l, airParse f.psdu f.fcsLen = some p ∧ p.version = 0 ∧ mine p.hdr = true ∧
          d.linkOf p.hdr = some l ∧ (∀ j, l ≠ .stranger j) ∧ (∀ key, d.netKey (decide (l = .up)) p.hdr.keyId = some key →
            ccmOpen key (airNonce (d.peerEui p.hdr l) p.fcnt) p.head p.cipher p.mic = none)) ∧ k = 3) ∨
        ((∃ p l m, Hears d f p.hdr.typ p l m ∧ mine p.hdr = true ∧
          (d.replay l (d.newUpper p.hdr) p.fcnt).1 = .drop) ∧ k = 5) →
        ∃ t : Device, exec x s = .next { s with dev := t } ∧
          t.radio = { r with out := [], outCh := [], counters := setAt d.radio.counters k satInc } ∧
          t = { d with radio := t.radio, land := t.land } ∧ t.land = { d.land with alarms := t.land.alarms })) ∧
    (∀ p m i c, Hears d f 1 p (.child i) m → IsFresh d p (.child i) → d.radio.child i = some c → pollOk m = true →
      ∃ (t : Device) (b : Child) (n : Nat), exec (.rxPoll dt f) s = .next { s with dev := t } ∧ t.radio.child i = some b ∧
        b.contactEvery = getU m 0 4 ∧ b.phy = c.phy ∧ b.missRun = 0 ∧ b.search = false ∧
        b.searchLevel = 0 ∧ b.windowOpen = false ∧ b.lastFrame = d.land.tick ∧ b.tSync = f.sfd / 64 ∧ b.eui = c.eui ∧
        getU m 0 4 * 32768 - getU m 0 4 * 32768 / 64 ≤ n ∧ n ≤ getU m 0 4 * 32768 + getU m 0 4 * 32768 / 64 ∧
        b.tExp = expectAt (64 * (f.txSfd : Int)) n b.d ∧ b.nextCh < max 1 d.radioP.chCount ∧
        (∀ j, j ≠ i → t.radio.child j = r.child j) ∧
        t.conf = d.conf ∧ t.toll.led = d.toll.led ∧ t.sec.keys = d.sec.keys ∧ t.sec.lc = d.sec.lc ∧ t.land.tick = d.land.tick) ∧
    (∀ p m i c l, Hears d f 3 p (.child i) m → IsFresh d p (.child i) → d.radio.child i = some c → d.radio.exch = none →
      parseItems 40 m = some l →
      ∃ (t : Device) (b : Child), exec (.rxData dt f) s = .next { s with dev := t } ∧ t.radio.child i = some b ∧
        b.missRun = 0 ∧ b.search = false ∧ b.windowOpen = false ∧ b.lastFrame = d.land.tick ∧ b.tSync = f.sfd / 64 ∧
        b.contactEvery = c.contactEvery ∧ b.eui = c.eui ∧
        (∀ y, l.find? (fun (y : RxItem) => y.src == 0 && y.obj == 0x0EA4 && y.off == 0 && (y.bytes.map (·.length)) == some 64) =
            some y →
          ∃ g, t.radio.digests.find? (·.child == i + 1) = some g ∧ g.bytes = y.bytes.getD [] ∧ g.fresh = true ∧
            g.tick = d.land.tick) ∧
        (∀ j, j ≠ i → t.radio.child j = r.child j) ∧
        t.conf = d.conf ∧ t.toll.led = d.toll.led ∧ t.sec.keys = d.sec.keys ∧ t.sec.lc = d.sec.lc ∧ t.land.tick = d.land.tick) ∧
    (∀ p m eui, Hears d f 1 p (.joiner eui) m → IsFresh d p (.joiner eui) →
      (d.joinHeard f.chan = true → pollOk m = true → d.radio.children.find? (·.eui == eui) = none →
        d.joinFits (getU m 0 4) = true → ∀ i, d.radio.freeIdx = some i →
        ∃ (t : Device) (b : Child), exec (.rxJoinPoll dt f) s = .next { s with dev := t } ∧ t.radio.child i = some b ∧
          b.eui = eui ∧ b.contactEvery = getU m 0 4 ∧ b.phy = field (getU m 4 1) 1 2 ∧ b.driftValid = false ∧ b.missRun = 0 ∧ b.tSync = f.sfd / 64 ∧
          t.radio.counters[11]? = (d.radio.counters[11]?).map satInc ∧
          (∀ j, j ≠ i → t.radio.child j = r.child j) ∧
          t.conf = d.conf ∧ t.toll.led = d.toll.led ∧ t.sec.keys = d.sec.keys ∧ t.sec.lc = d.sec.lc ∧
          t.land.tick = d.land.tick) ∧
      (d.joinHeard f.chan = false → ∃ t : Device, exec (.rxJoinPoll dt f) s = .next { s with dev := t } ∧
        t.radio.counters[11]? = d.radio.counters[11]? ∧
        (∀ j, (t.radio.child j).isSome = (d.radio.child j).isSome) ∧ t.radio.out = [] ∧
        t = { d with radio := t.radio, land := t.land } ∧ t.land = { d.land with alarms := t.land.alarms }))

/-- R353, R355, R356, R357, R369, R371, R372. -/
def Obligations.LowerSideTakesTheUpperSidesFrames : Prop :=
  ∀ (dt : Nat) (f : RxFrame) (s : State) (d : Device) (p : AirParts) (m : Bytes), d = s.dev.elapse dt → IsFresh d p .up →
    (∀ e, Hears d f 2 p .up m → d.radio.exch = some e → m.length = 15 → getU m 0 4 = e.sentFcnt →
      ∃ t : Device, exec (.rxAck dt f) s = .next { s with dev := t } ∧ t.radio.orphanRun = 0 ∧
        t.radio.rssiUp = clampS 8 f.rssi ∧
        (getU m 6 4 ≠ 0 → t.radio.nextCh = getU m 10 1 ∧ t.radio.tContact = min (f.sfd / 64 + getU m 6 4) (2 ^ 48 - 1)) ∧
        (getU m 6 4 = 0 → t.radio.nextCh = d.radio.nextCh ∧ t.radio.tContact = d.radio.tContact) ∧
        (e.sent = .join → getU m 4 1 = 8 → t.radio.link = 1 ∧ t.radio.ownShort = getU m 11 2 ∧
          t.radio.counters[11]? = (d.radio.counters[11]?).map satInc) ∧
        (getU m 4 1 = 10 → t.radio.link = 0 ∧ t.radio.ownShort = 0xFFFF) ∧
        (getU m 4 1 ≠ 10 → e.sent ≠ .join ∨ getU m 4 1 ≠ 8 → t.radio.link = d.radio.link ∧ t.radio.ownShort = d.radio.ownShort) ∧
        t.conf = d.conf ∧ t.toll.led = d.toll.led ∧ t.sec.keys = d.sec.keys ∧ t.sec.lc = d.sec.lc ∧ t.land.tick = d.land.tick) ∧
    (Hears d f 4 p .up m → 1 ≤ getU m 4 1 → getU m 4 1 ≤ 8 → m.length = 5 + 6 * getU m 4 1 →
      (getU m 0 2 = 0 → MaySend d → AnswerFits d 0 →
        ∃ t : Device, exec (.rxRead dt f) s = .next { s with dev := t } ∧ t.radio.out.length = 1 ∧
          t.radio.fcntTx = d.radio.fcntTx + 1 ∧ (AnswerFits d 1 → t.radio.exch.map (·.sent) = some .data) ∧
          t.refusals = d.refusals ∧
          t.conf = d.conf ∧ t.toll.led = d.toll.led ∧ t.sec.keys = d.sec.keys ∧ t.land.tick = d.land.tick) ∧
      (∀ c k, getU m 0 2 ≠ 0 → d.radio.child (getU m 0 2 - 1) = some c → c.search = false → d.radio.reasm = none →
        d.radio.digests.any (·.child == getU m 0 2) = false → d.radio.queue.length = 24 →
        sumNat ((objRefs (getU m 4 1) (m.drop 5)).map fun o => 8 + max 1 o.len) ≤ 237 →
        (∀ j, 8 ≤ j → (d.radio.queue.getD j {}).state ≠ 1 ∨ (d.radio.queue.getD j {}).child ≠ getU m 0 2) →
        8 ≤ k → k < 24 → (d.radio.queue.getD k {}).state = 0 →
        ∃ (t : Device) (j : Nat) (q : QEntry), exec (.rxRead dt f) s = .next { s with dev := t } ∧ 8 ≤ j ∧
          t.radio.queue[j]? = some q ∧ q.state = 1 ∧ q.child = getU m 0 2 ∧ q.data = uB 2 0 ++ m.drop 2 ∧
          q.tExpiry = d.promise c ∧ t.refusals = d.refusals ∧ t.conf = d.conf ∧ t.toll.led = d.toll.led ∧
          t.sec.keys = d.sec.keys ∧ t.land.tick = d.land.tick)) ∧
    (∀ g, g = fragOf m → Hears d f 5 p .up m → 11 ≤ m.length → g.sizeOk = true → g.lenOk = true → g.frag = 0 →
      d.radio.reasm = none →
      (d.noteUndecided = false → g.target = d.radio.ownShort → 1 < g.count → p.hdr.pending = true → MaySend d → AnswerFits d 1 →
        ∃ t : Device, exec (.rxNote dt f) s = .next { s with dev := t } ∧
          t.radio.reasm = some ⟨g.noteId, g.count, g.totalLen, g.target, 1, g.data, none⟩ ∧ t.sec = d.sec ∧ t.conf = d.conf ∧
          t.toll.led = d.toll.led ∧ t.land.tick = d.land.tick) ∧
      (d.noteUndecided = false → g.target = d.radio.ownShort → g.count = 1 → g.data.length = g.totalLen → MaySend d → AnswerFits d 0 →
        ∃ t : Device, exec (.rxNote dt f) s = .next { s with dev := t } ∧ t.radio.reasm = none ∧
          (t.sec.verdicts.head?.map fun v => (v.tick, v.recType, v.air)) = some (d.land.tick, (recOf g.data).typ, true) ∧
          t.land.tick = d.land.tick) ∧
      (∀ c k, d.radio.role = 2 → g.target ≠ d.radio.ownShort → g.target ≠ 0 → d.radio.child (g.target - 1) = some c →
        d.admitChild g (some c) (f.sfd / 64) f.txSfd = none → g.count = 1 → g.data.length = g.totalLen → d.radio.queue.length = 24 →
        k < 8 → (d.radio.queue.getD k {}).state = 0 → MaySend d → AnswerFits d 0 →
        (∀ e, d.radio.exch = some e → e.attempt = none) →
        ∃ (t : Device) (j : Nat) (q : QEntry), exec (.rxNote dt f) s = .next { s with dev := t } ∧ j < 8 ∧
          t.radio.queue[j]? = some q ∧ q.state = 1 ∧ q.id = g.noteId ∧ q.child = g.target ∧ q.data = g.data ∧
          q.reserved = false ∧ q.tExpiry = d.promise c ∧ t.sec = d.sec ∧ t.conf = d.conf ∧ t.toll.led = d.toll.led ∧
          t.land.tick = d.land.tick)) ∧
    (Hears d f 6 p .up m → m.length = 6 →
      (d.secondary = false → d.sec.lc ≠ .blank → d.sec.lc ≠ .scrapped → d.writable = true → d.trusted = false →
        ∃ t : Device, exec (.rxTime dt f) s = .next { s with dev := t } ∧
          t.land.pendSet = some (.since (getU m 0 6) (f.sfd / 64)) ∧ t.radio.lastTime = some d.land.tick ∧
          t.refusals = d.refusals ∧ t.sec = d.sec ∧ t.conf = d.conf ∧ t.toll.led = d.toll.led ∧ t.land.tick = d.land.tick) ∧
      (∀ sg, sg = rne (64 * (getU m 0 6 : Int) - f.sfd) 64 → d.secondary = false → d.sec.lc ≠ .blank → d.sec.lc ≠ .scrapped →
        d.writable = true → d.trusted = true → sg.natAbs ≤ d.land.adjLimit * 32768 → d.relFits (.rel sg) = true →
        ∃ t : Device, exec (.rxTime dt f) s = .next { s with dev := t } ∧ t.land.pendSet = some (.rel sg) ∧
          t.radio.lastTime = some d.land.tick ∧ t.refusals = d.refusals ∧ t.sec = d.sec ∧ t.conf = d.conf ∧
          t.toll.led = d.toll.led ∧ t.land.tick = d.land.tick) ∧
      (d.sec.lc = .blank ∨ d.sec.lc = .scrapped →
        ∃ t : Device, exec (.rxTime dt f) s = .next { s with dev := t } ∧ t.land.pendSet = d.land.pendSet ∧
          t.radio.lastTime = d.radio.lastTime ∧ t.refusals = setAt d.refusals 2 satInc ∧ t.sec = d.sec ∧ t.conf = d.conf ∧
          t.land.tick = d.land.tick))

/-- R352, R358 to R361. -/
def Obligations.ContactsKeepTheirSchedule : Prop :=
  (∀ (dt : Nat) (s : State) (d : Device), d = (s.dev.elapse dt).woken 1 →
    (d.up = true → d.contacts = true → d.fired 6 = true → MaySend d → 1 < d.phyP.exchMax →
      ∃ (t : Device) (e : Exchange), exec (.contactAlarm dt) s = .next { s with dev := t } ∧ t.radio.exch = some e ∧
        e.peer = .up ∧ e.frames = 1 ∧ e.repeats = 0 ∧ t.radio.out = [e.bytes] ∧ t.radio.fcntTx = d.radio.fcntTx + 1 ∧
        e.sentFcnt = d.radio.fcntTx ∧
        e.sent = (if d.radio.link ≠ 1 then .join
          else if d.radio.contacts % d.phyP.uplinkEvery = 0 then .data else .poll) ∧
        t.radio.contacts = d.radio.contacts + 1 ∧
        t.radio.tContact = min (max (d.radio.tContact + d.phyP.contactEvery * 32768) (d.land.tick + 1)) (2 ^ 48 - 1) ∧
        t.conf = d.conf ∧ t.toll.led = d.toll.led ∧ t.sec.keys = d.sec.keys ∧ t.sec.lc = d.sec.lc ∧ t.land.tick = d.land.tick) ∧
    (d.up = true → d.contacts = false → d.fired 6 = true →
      ∃ t : Device, exec (.contactAlarm dt) s = .next { s with dev := t } ∧
        t.radio = { d.radio with
          tContact := min (max (d.radio.tContact + d.phyP.contactEvery * 32768) (d.land.tick + 1)) (2 ^ 48 - 1) } ∧
        t = { d with radio := t.radio, land := t.land } ∧ t.land = { d.land with alarms := t.land.alarms }) ∧
    (d.up = false ∨ d.fired 6 = false → exec (.contactAlarm dt) s = .next { s with dev := d })) ∧
  (∀ (dt : Nat) (s : State) (d : Device), d = s.dev.elapse dt →
    (d.up = true → d.on .ferryman = true →
      (∀ e, d.radio.exch = some e → e.peer = .up → e.frames = 1 →
        (e.repeats < 2 → MaySend d →
          ∃ t : Device, exec (.ackWaitTimeout dt) s = .next { s with dev := t } ∧ t.radio.out = [e.bytes] ∧
            t.radio.fcntTx = d.radio.fcntTx ∧ t.radio.exch = some { e with repeats := e.repeats + 1 } ∧
            t.radio.counters = setAt d.radio.counters 0 satInc ∧ t = { d with radio := t.radio }) ∧
        (2 ≤ e.repeats →
          ∃ t : Device, exec (.ackWaitTimeout dt) s = .next { s with dev := t } ∧ t.radio.exch = none ∧ t.radio.out = [] ∧
            t.radio.counters = setAt d.radio.counters 7 satInc ∧ t.radio.orphanRun = satAdd 16 d.radio.orphanRun 1 ∧
            t.radio.link = (if d.phyP.orphanContacts ≤ satAdd 16 d.radio.orphanRun 1 ∧
                (d.radio.orphanRun < d.phyP.orphanContacts ∨ d.radio.link = 1) then 2 else d.radio.link) ∧
            t.radio.tContact = d.radio.tContact ∧ t.conf = d.conf ∧ t.toll.led = d.toll.led ∧ t.sec = d.sec ∧
            t.land = d.land)) ∧
      (∀ e, d.radio.exch = some e → e.peer ≠ .up ∨ e.frames ≠ 1 →
        ∃ t : Device, exec (.ackWaitTimeout dt) s = .next { s with dev := t } ∧ t.radio.exch = none ∧
          t.radio.counters = d.radio.counters ∧ t = { d with radio := t.radio }) ∧
      (d.radio.exch = none → ∃ r, r = { d.radio with out := [], outCh := [] } ∧
        exec (.ackWaitTimeout dt) s = .next { s with dev := { d with radio := r } })) ∧
    (d.up = true → ∀ e, d.radio.exch = some e →
      (e.peer = .up → e.answered = false →
        ∃ t : Device, exec (.missingResponse dt) s = .next { s with dev := t } ∧ t.radio.exch = none ∧
          t.radio.counters = setAt d.radio.counters 7 satInc ∧ t.radio.orphanRun = satAdd 16 d.radio.orphanRun 1 ∧
          t.conf = d.conf ∧ t.toll.led = d.toll.led ∧ t.sec = d.sec ∧ t.land = d.land) ∧
      (e.peer ≠ .up ∨ e.answered = true →
        ∃ t : Device, exec (.missingResponse dt) s = .next { s with dev := t } ∧ t.radio.exch = none ∧
          t.radio.counters = d.radio.counters ∧ t.radio.orphanRun = d.radio.orphanRun ∧ t = { d with radio := t.radio })) ∧
    (d.up = false ∨ d.radio.exch = none → exec (.missingResponse dt) s = .next { s with dev := d }))

/-- R365 to R368. -/
def Obligations.ParentWindowsOpenMissAndSearch : Prop :=
  (∀ (dt k : Nat) (s : State) (d : Device) (c : Child), d = (s.dev.elapse dt).woken 1 → k ≠ 0 → d.radio.child (k - 1) = some c →
    ((d.parenting = true ∧ c.search = false ∧ c.windowOpen = false ∧ (d.windowOf c).1 ≤ (d.land.tick : Int)) →
      (d.radio.exch = none → (∀ x ∈ d.radio.children, x.windowOpen = true → d.radioP.chanAt x.nextCh = d.radioP.chanAt c.nextCh) →
        (d.land.tick : Int) ≤ (d.windowOf c).2 → d.radioP.budgetUs = none →
        ∃ t : Device, exec (.parentWindowOpen dt k) s = .next { s with dev := t } ∧
          t.radio.child (k - 1) = some { c with windowOpen := true, skippedLast := false } ∧
          (∀ j, j ≠ k - 1 → t.radio.child j = d.radio.child j) ∧ t.radio.counters = d.radio.counters ∧
          t = { d with radio := t.radio, land := t.land } ∧ t.land = { d.land with alarms := t.land.alarms }) ∧
      (d.radio.exch.isSome = true ∨
          (∃ x ∈ d.radio.children, x.windowOpen = true ∧ d.radioP.chanAt x.nextCh ≠ d.radioP.chanAt c.nextCh) →
        ∃ (t : Device) (b : Child), exec (.parentWindowOpen dt k) s = .next { s with dev := t } ∧
          t.radio.child (k - 1) = some b ∧ b.windowOpen = false ∧ b.skippedLast = true ∧ b.missRun = c.missRun ∧
          b.tExp = expectAt c.tExp (c.contactEvery * 32768) c.d ∧ t.radio.counters = setAt d.radio.counters 9 satInc ∧
          (∀ j, j ≠ k - 1 → t.radio.child j = d.radio.child j) ∧
          t = { d with radio := t.radio, land := t.land } ∧ t.land = { d.land with alarms := t.land.alarms })) ∧
    ((d.parenting = true ∧ c.search = true ∧ c.windowOpen = false ∧ (d.windowOf c).1 ≤ (d.land.tick : Int)) →
      d.radio.exch = none → (∀ x ∈ d.radio.children, x.windowOpen = true → d.radioP.chanAt x.nextCh = d.radioP.chanAt c.nextCh) →
      (d.land.tick : Int) ≤ (d.windowOf c).2 → d.radioP.budgetUs = none →
      (d.radio.searchMs + d.searchLen c ≤ d.phyP.searchCap * 1000 →
        ∃ t : Device, exec (.searchWindow dt k) s = .next { s with dev := t } ∧
          t.radio.child (k - 1) = some { c with windowOpen := true, skippedLast := false } ∧
          t.radio.searchMs = d.radio.searchMs + d.searchLen c ∧ t.radio.counters = setAt d.radio.counters 10 satInc ∧
          t = { d with radio := t.radio, land := t.land }) ∧
      (d.phyP.searchCap * 1000 < d.radio.searchMs + d.searchLen c →
        ∃ t : Device, exec (.searchWindow dt k) s = .next { s with dev := t } ∧
          t.radio.searchMs = d.radio.searchMs ∧ t.radio.counters = setAt d.radio.counters 9 satInc ∧
          t.radio.capJournalled = true ∧ t.conf = d.conf ∧ t.toll.led = d.toll.led ∧ t.sec = d.sec ∧
          t.land.tick = d.land.tick)) ∧
    (∀ (x : Instr) (other : Bool), (x, other) ∈ [(Instr.parentWindowOpen dt k, c.search), (.searchWindow dt k, !c.search)] →
      (d.up = true → d.on .ferryman = false → d.radio.role = 2 → c.windowOpen = false → (d.windowOf c).1 ≤ (d.land.tick : Int) →
        ∃ t : Device, exec x s = .next { s with dev := t } ∧
          t.radio.child (k - 1) = some { c.fallback with skippedLast := true } ∧
          (∀ j, j ≠ k - 1 → t.radio.child j = d.radio.child j) ∧ t.radio.counters = d.radio.counters ∧
          t = { d with radio := t.radio, land := t.land } ∧ t.land = { d.land with alarms := t.land.alarms }) ∧
      (d.up = false ∨ d.radio.role ≠ 2 ∨ c.windowOpen = true ∨ (d.land.tick : Int) < (d.windowOf c).1 ∨
          (d.on .ferryman = true ∧ other = true) →
        exec x s = .next { s with dev := d }))) ∧
  (∀ (dt k : Nat) (s : State) (d : Device) (c : Child), d = s.dev.elapse dt → k ≠ 0 → d.radio.child (k - 1) = some c →
    (d.parenting = true → c.windowOpen = true → (d.windowOf c).2 ≤ (d.land.tick : Int) → c.listenTo.getD 0 ≤ d.land.tick →
      ∃ (t : Device) (b : Child), exec (.windowMiss dt k) s = .next { s with dev := t } ∧ t.radio.child (k - 1) = some b ∧
        b.windowOpen = false ∧ b.missRun = min (c.missRun + 1) 15 ∧ b.tExp = expectAt c.tExp (c.contactEvery * 32768) c.d ∧
        (c.search = false → 2 ≤ c.missRun → b.search = true ∧ b.searchLevel = 1 ∧ b.driftValid = false ∧ b.d = 0) ∧
        (c.search = false → c.missRun < 2 → b.search = false ∧ b.d = c.d) ∧
        (c.search = true → b.search = true ∧ b.searchLevel = min (c.searchLevel + 1) 15) ∧
        t.radio.counters = setAt d.radio.counters 8 satInc ∧ (∀ j, j ≠ k - 1 → t.radio.child j = d.radio.child j) ∧
        t.conf = d.conf ∧ t.toll.led = d.toll.led ∧ t.sec = d.sec ∧ t.land.tick = d.land.tick) ∧
    (d.parenting = false ∨ c.windowOpen = false ∨ (d.land.tick : Int) < (d.windowOf c).2 ∨ d.land.tick < c.listenTo.getD 0 →
      exec (.windowMiss dt k) s = .next { s with dev := d }) ∧
    (d.parenting = true → c.search = true → c.lastFrame + d.phyP.evictDays * 2831155200 ≤ d.land.tick →
      ∃ t : Device, exec (.childEvicted dt k) s = .next { s with dev := t } ∧ t.radio.child (k - 1) = none ∧
        (∀ j, j ≠ k - 1 → t.radio.child j = d.radio.child j) ∧ t.radio.digests.find? (·.child == k) = none ∧
        t.radio.counters = setAt d.radio.counters 12 satInc ∧
        (d.secondary = false → t.jnl.entries.head? = some ⟨d.land.tick, 0x506, !d.trusted, k % 2 ^ 32, c.eui % 2 ^ 32⟩) ∧
        t.conf = d.conf ∧ t.toll.led = d.toll.led ∧ t.sec = d.sec ∧ t.land.tick = d.land.tick) ∧
    (d.parenting = false ∨ c.search = false ∨ d.land.tick < c.lastFrame + d.phyP.evictDays * 2831155200 →
      exec (.childEvicted dt k) s = .next { s with dev := d }))

/-- R345, R362, R366, R370, R372, R375. -/
def Obligations.QueueBudgetsAndTelegrams : Prop :=
  (∀ (dt : Nat) (s : State) (d : Device), d = (s.dev.elapse dt).woken 1 →
    (∀ k q, d.radio.queue[k]? = some q →
      (d.up = true → k < 8 → q.state = 1 → q.reserved = false → q.tExpiry ≤ d.land.tick →
        ∃ t : Device, exec (.dlExpired dt k) s = .next { s with dev := t } ∧
          t.radio.queue = setAt d.radio.queue k (fun _ => { q with state := 3, data := [] }) ∧
          t.radio.counters = setAt d.radio.counters 14 satInc ∧
          (d.secondary = false → t.jnl.entries.head? = some ⟨d.land.tick, 0x508, !d.trusted, q.child % 2 ^ 32, q.id % 2 ^ 32⟩) ∧
          t.conf = d.conf ∧ t.toll.led = d.toll.led ∧ t.sec = d.sec ∧ t.land = d.land) ∧
      (d.up = false ∨ 8 ≤ k ∨ q.state ≠ 1 ∨ q.reserved = true ∨ d.land.tick < q.tExpiry →
        exec (.dlExpired dt k) s = .next { s with dev := d }) ∧
      (d.up = true → 8 ≤ k → k < 24 → ∀ r,
        (q.state = 1 ∧ q.tExpiry ≤ d.land.tick ∧ r = { q with state := 3, data := [] }) ∨
        (q.state = 2 ∧ q.tAnswer + d.phyP.proxyHold * 32768 ≤ d.land.tick ∧ r = {}) →
        ∃ t : Device, exec (.proxyExpired dt k) s = .next { s with dev := t } ∧
          t.radio.queue = setAt d.radio.queue k (fun _ => r) ∧ t.radio.counters = setAt d.radio.counters 16 satInc ∧
          t.conf = d.conf ∧ t.toll.led = d.toll.led ∧ t.sec = d.sec ∧ t.land = d.land) ∧
      (d.up = false ∨ k < 8 ∨ 24 ≤ k ∨ q.state = 0 ∨ (q.state = 1 ∧ d.land.tick < q.tExpiry) ∨
          (q.state = 2 ∧ d.land.tick < q.tAnswer + d.phyP.proxyHold * 32768) ∨ 3 ≤ q.state →
        exec (.proxyExpired dt k) s = .next { s with dev := d })) ∧
    (d.up = true → d.on .wmbus = true → d.fired 9 = true →
      (∀ key b, d.sec.keys.wmbus = some key → d.radio.cfg ≠ [] → b = (d.loadShadow 1).wmTelegram key d.radio.accessNo →
        d.wmFree (wmAirUs d.radio.wmbus b.length) = true → d.radio.wmbusUs + wmAirUs d.radio.wmbus b.length ≤ 3600000 →
        ∃ t : Device, exec (.wmbusTelegram dt) s = .next { s with dev := t } ∧ t.radio.lastTelegram = b ∧
          t.radio.accessNo = (d.radio.accessNo + 1) % 256 ∧ t.radio.counters = setAt d.radio.counters 17 satInc ∧
          t.radio.wmbusUs = d.radio.wmbusUs + wmAirUs d.radio.wmbus b.length ∧
          t.radio.wmbusCount = d.radio.wmbusCount + 1 ∧ t.radio.wmbusNext = d.radio.wmbusNext + d.wmInterval ∧
          t = { d with radio := t.radio, land := t.land } ∧ t.land.tick = d.land.tick) ∧
      (d.sec.keys.wmbus = none → ∃ t : Device, exec (.wmbusTelegram dt) s = .next { s with dev := t } ∧
        t.radio.lastTelegram = d.radio.lastTelegram ∧ t.radio.accessNo = d.radio.accessNo ∧
        t.radio.wmbusCount = d.radio.wmbusCount + 1 ∧ t.radio.wmbusNext = d.radio.wmbusNext + d.wmInterval ∧
        t = { d with radio := t.radio, land := t.land } ∧ t.land.tick = d.land.tick)) ∧
    (d.up = true → d.on .wmbus = false → d.fired 9 = true → ∃ t : Device,
      exec (.wmbusTelegram dt) s = .next { s with dev := t } ∧ t.radio.lastTelegram = d.radio.lastTelegram ∧
        t.radio.accessNo = d.radio.accessNo ∧ t.radio.wmbusCount = d.radio.wmbusCount + 1 ∧
        t.radio.wmbusNext = d.radio.wmbusNext + d.wmInterval ∧
        t = { d with radio := t.radio, land := t.land } ∧ t.land.tick = d.land.tick) ∧
    (d.up = false ∨ d.fired 9 = false → exec (.wmbusTelegram dt) s = .next { s with dev := d })) ∧
  (∀ (dt : Nat) (s : State) (d : Device), d = (s.dev.elapse dt).woken 5 →
    (∀ n, n = getU d.radio.cfg 4 2 →
      (d.up = true → d.radio.role = 2 → 0 < n → d.on .ferryman = true →
        ∃ r, r = { d.radio with joinOpen := true, joinUntil := d.land.tick + n * 32768 } ∧
          exec (.buttonHoldJoin dt) s = .next { s with dev := { d with radio := r } }) ∧
      (d.up = false ∨ d.radio.role ≠ 2 ∨ n = 0 ∨ d.on .ferryman = false →
        exec (.buttonHoldJoin dt) s = .next { s with dev := d }))) ∧
  (∀ (dt : Nat) (s : State) (d : Device), d = s.dev.elapse dt →
    (d.radio.joinOpen = true → d.radio.joinUntil ≤ d.land.tick →
      exec (.joinWindowClose dt) s = .next { s with dev := { d with radio := { d.radio with joinOpen := false } } }) ∧
    (d.radio.joinOpen = false ∨ d.land.tick < d.radio.joinUntil → exec (.joinWindowClose dt) s = .next { s with dev := d }) ∧
    (∀ n, n = (d.land.tick - d.radio.txWindow) / 117964800 →
      (d.up = true → 0 < n → exec (.txBudgetWindow dt) s = .next { s with dev := { d with radio := { d.radio with
        txUs := 0, wmbusUs := 0, budgetExhausted := false, budgetJournalled := false
        txWindow := d.radio.txWindow + n * 117964800 } } }) ∧
      (d.up = false ∨ n = 0 → exec (.txBudgetWindow dt) s = .next { s with dev := d })) ∧
    (∀ n, n = (d.land.tick - d.radio.searchPeriod) / 2831155200 →
      (d.up = true → 0 < n → exec (.searchBudgetPeriod dt) s = .next { s with dev := { d with radio := { d.radio with
        searchMs := 0, capJournalled := false, searchPeriod := d.radio.searchPeriod + n * 2831155200 } } }) ∧
      (d.up = false ∨ n = 0 → exec (.searchBudgetPeriod dt) s = .next { s with dev := d })))

/-- R392 to R395, R397, R400, R403, R404; a FIRE in a cycle whose check failed and one to all are the model's choices (log 28). -/
def Obligations.SecondaryServesItsPrimary : Prop :=
  ∀ (dt : Nat) (f : HwFrame) (s : State) (d e : Device), d = s.dev.elapse dt → d.secondary = true →
    e = { d with haw := { d.haw with lastFrame := d.land.osc, attending := true } } →
    (∀ (x : Instr) (typ : Nat) (a : RawStamp), (x, typ) ∈ [(Instr.syncReq dt f, 1), (.cfg dt f, 3), (.mark dt f, 5),
        (.loopcal dt f a, 10), (.time dt f, 12)] →
      d.on .hawser = false ∨ d.hwLive = false ∨ (hwParse f.bytes ≠ none ∧ d.hwAccept typ f = none) →
        exec x s = .next { s with dev := d }) ∧
    (∀ (a : RawStamp) (ref : Option Nat), ∀ x ∈ [Instr.syncReq dt f, .cfg dt f, .mark dt f, .loopcal dt f a, .time dt f,
        .fire dt ⟨f, ref⟩, .sampleReq dt f],
      (d.on .hawser = true → d.hwLive = true → hwParse f.bytes = none → ∃ h, h = { d.haw with crcFail := satInc d.haw.crcFail } ∧
        exec x s = .next { s with dev := { d with haw := h } })) ∧
    (∀ p, HwHears d f 1 p →
      (p.dst = 7 → ∃ h, h = { e.haw with synced := true, loopIdx := 0, loopSeq := none } ∧
        exec (.syncReq dt f) s = .next { s with dev := { d with haw := h } }) ∧
      (p.dst ≠ 7 → ∃ t : Device, exec (.syncReq dt f) s = .next { s with dev := t } ∧ t.haw.synced = true ∧
        t.haw.lastTx = hwFrame 0 d.hwNo 2 d.haw.seq d.syncPayload ∧ t.haw.seq = (d.haw.seq + 1) % 256 ∧
        t.haw.loopIdx = 0 ∧ t = { d with haw := t.haw, power := d.toRun.power, land := d.toRun.land })) ∧
    (∀ p n b, HwHears d f 3 p → p.dst ≠ 7 → p.payload = n :: b →
      ∃ t : Device, exec (.cfg dt f) s = .next { s with dev := t } ∧
        t.haw.lastTx = hwFrame 0 d.hwNo 14 d.haw.seq (leBytes 1 p.seq) ∧
        (n.toNat = 0 → t.haw.hfxCorr = getS b 0 4) ∧
        (16 ≤ n.toNat → n.toNat < 64 → ∀ q, q = (⟨n.toNat - 16, pathOf b, getU b 20 4, getU b 24 4⟩ : PushedPath) →
          t.haw.pushed.find? (·.path == n.toNat - 16) = some q ∧
          (∀ o, d.haw.pushedAt (n.toNat - 16) = some o → o ≠ q →
            t.tr.paths[n.toNat - 16]? = (d.tr.paths[n.toNat - 16]?).map fun x =>
              PathState.inService { res := x.res, health := x.health })) ∧
        (n.toNat = 1 → t.haw.pushedThr = { pathListOf (b.take 14) with paths := [], basic := bitAt (getU b 15 1) 0 } ∧
          t.haw.pushedCls = getU b 14 1) ∧
        (∀ j, j ≠ n.toNat - 16 → t.tr.paths[j]? = d.tr.paths[j]?) ∧
        t = { d with haw := t.haw, power := d.toRun.power, land := d.toRun.land,
                     tr := { d.tr with paths := t.tr.paths, ports := t.tr.ports } }) ∧
    (∀ p, HwHears d f 5 p → ∃ h, h = { e.haw with job := d.haw.job.map fun j => { j with r2 := some (d.edge f.stamp) } } ∧
      exec (.mark dt f) s = .next { s with dev := { d with haw := h } }) ∧
    (∀ p t3, HwHears d f 10 p → p.dst ≠ 7 →
      (d.haw.loopSeq ≠ some p.seq →
        ∃ t : Device, exec (.loopcal dt f t3) s = .next { s with dev := t } ∧ t.haw.turn = (d.edge t3 : Int) - d.edge f.stamp ∧
          t.haw.lastTx = hwFrame 0 d.hwNo 11 d.haw.seq (leBytesS 4 (if d.haw.loopIdx = 0 then 0 else d.haw.turn)) ∧
          t.haw.turnSent = (if d.haw.loopIdx = 0 then 0 else d.haw.turn) ∧
          t.haw.loopIdx = (d.haw.loopIdx + 1) % 65 ∧ t.haw.loopSeq = some p.seq ∧
          t = { d with haw := t.haw, power := d.toRun.power, land := d.toRun.land }) ∧
      (d.haw.loopSeq = some p.seq →
        ∃ t : Device, exec (.loopcal dt f t3) s = .next { s with dev := t } ∧ t.haw.turn = (d.edge t3 : Int) - d.edge f.stamp ∧
          t.haw.lastTx = hwFrame 0 d.hwNo 11 d.haw.seq (leBytesS 4 d.haw.turnSent) ∧ t.haw.loopIdx = d.haw.loopIdx ∧
          t = { d with haw := t.haw, power := d.toRun.power, land := d.toRun.land })) ∧
    (∀ p, HwHears d f 12 p →
      ∃ t : Device, exec (.time dt f) s = .next { s with dev := t } ∧
        t.land.tick = min (getU p.payload 0 6) (2 ^ 48 - 1) ∧ t.trusted = d.trusted ∧ t.jnl = d.jnl ∧
        (p.dst ≠ 7 → t.haw.lastTx = hwFrame 0 d.hwNo 14 d.haw.seq (leBytes 1 p.seq)) ∧ (p.dst = 7 → t.haw.lastTx = d.haw.lastTx) ∧
        t.conf = d.conf ∧ t.sec.keys = d.sec.keys ∧ t.sec.lc = d.sec.lc ∧ t.toll.led = d.toll.led) ∧
    (∀ p ref j, HwHears d f 4 p → p.dst ≠ 7 → j = jobOf p.payload (d.edge f.stamp) → d.on .transit = true →
      d.haw.synced = true → d.haw.job = none → d.store.due.getD 0 false = false → d.store.due.getD 2 false = false →
      (d.haw.cycle = 1 → ∃ h, h = { e.haw with job := some j, cycle := if j.last then 0 else 1 } ∧
        exec (.fire dt ⟨f, ref⟩) s = .next { s with dev := { d with haw := h, power := d.toRun.power, land := d.toRun.land } }) ∧
      (d.haw.cycle = 2 → ∃ h, h = { e.haw with cycle := if j.last then 0 else 2 } ∧
        exec (.fire dt ⟨f, ref⟩) s = .next { s with dev := { d with haw := h } }) ∧
      (d.haw.cycle = 0 → d.tr.tb.refinSel = false ∨ refPass ref = true →
        ∃ t : Device, exec (.fire dt ⟨f, ref⟩) s = .next { s with dev := t } ∧ t.haw.job = some (jobOf p.payload (t.edge f.stamp)) ∧
          t.haw.cycle = (if j.last then 0 else 1) ∧ t.tr.cyc.seq = d.tr.cyc.seq + 1 ∧ t.tr.tb.corrInForce = d.haw.hfxCorr ∧
          t.tr.paths = d.tr.paths ∧ t.conf = d.conf ∧ t.sec = d.sec ∧ t.toll.led = d.toll.led ∧ t.land.tick = d.land.tick)) ∧
    (∀ p, d.conf.wiring.roles.any (· != 0) = true → HwHears d f 8 p → d.on .converter = true → d.haw.synced = true →
      d.haw.sampling = false → d.store.due.getD 1 false = false → d.store.due.getD 2 false = false → ∃ h, h = { e.haw with sampling := true } ∧
        exec (.sampleReq dt f) s = .next { s with dev := { d with haw := h } }) ∧
    (∀ (x : Instr) (typ bg most : Nat) (unit : Func) (busy ok : Bool) (ref : Option Nat),
      (x, typ, bg, most, unit, busy, ok) ∈ [(Instr.fire dt ⟨f, ref⟩, 4, 0, 1000, .transit, d.haw.job.isSome, true),
        (.sampleReq dt f, 8, 1, 45000, .converter, d.haw.sampling, d.conf.wiring.roles.any (· != 0))] →
      ok = true → d.fn.hawser.st ≠ .off → d.hwLive = true → ∀ p, d.hwAccept typ f = some p → typ = 8 ∨ p.dst ≠ 7 → ∀ r : Device,
        r = { e with haw := { e.haw with attending := typ == 8 || !bitAt (getU p.payload 1 1) 2 } } →
        (d.on .hawser = false ∨ d.on unit = false → exec x s = .next { s with dev := r.hwRefuse 1 0xFFFF }) ∧
        (d.on .hawser = true → d.on unit = true → d.haw.synced = false →
          exec x s = .next { s with dev := r.hwRefuse 2 0xFFFF }) ∧
        (∀ c, d.on .hawser = true → d.on unit = true → d.haw.synced = true →
          (busy = true ∧ c = 3) ∨ (busy = false ∧ (d.store.due.getD bg false = true ∨ d.store.due.getD 2 false = true) ∧ c = 4) →
          ∃ (t : Device) (us : Nat), exec x s = .next { s with dev := t } ∧ us ≤ (if c = 4 then 200 else most) ∧
            t.haw.lastTx = hwFrame 0 d.hwNo 13 d.haw.seq (leBytes 1 c ++ leBytes 2 us) ∧ t.haw.job = d.haw.job ∧
            t.haw.sampling = d.haw.sampling ∧ t.haw.attending = r.haw.attending ∧ t.refusals = setAt d.refusals 6 satInc ∧ t.free = d.free + 1 ∧
            t.conf = d.conf ∧ t.land = d.toRun.land)) ∧
    (∀ p ref, HwHears d f 4 p → p.dst = 7 → exec (.fire dt ⟨f, ref⟩) s = .next { s with dev := e }) ∧
    (d.haw.sampling = true → d.on .converter = true → ∀ m,
      ∃ t : Device, exec (.sampleComplete dt m) s = .next { s with dev := t } ∧ t.haw.sampling = false ∧
        getU t.haw.lastTx 1 1 = 9 ∧ t.temp.any = true ∧ t.temp.sample.tick = d.land.tick ∧
        t = { d with haw := t.haw, temp := t.temp, power := d.toRun.power, land := d.toRun.land }) ∧
    (∀ n, d.power.st = .nap → n = d.haw.deviceNo ∨ n = 7 →
      exec (.hawserWakeBurst dt n) s = .next { s with dev := { d with haw := { d.haw with wakeReq := true } } }) ∧
    (∀ n, d.power.st ≠ .nap ∨ (n ≠ d.haw.deviceNo ∧ n ≠ 7) → exec (.hawserWakeBurst dt n) s = .next { s with dev := d }) ∧
    (d.up = true → d.haw.lastFrame + 328 ≤ d.land.osc →
      ∃ t : Device, exec (.hawserIdleTimeout dt) s = .next { s with dev := t } ∧ t.haw.wakeReq = false ∧
        t.haw.attending = false ∧ t.conf = d.conf ∧ t.sec.keys = d.sec.keys ∧ t.toll.led = d.toll.led ∧ t.land.tick = d.land.tick) ∧
    (d.up = false ∨ d.land.osc < d.haw.lastFrame + 328 → exec (.hawserIdleTimeout dt) s = .next { s with dev := d })

/-- R393, R395 to R398, R400 to R405; the burst to all is the model's reading (log 28). -/
def Obligations.PrimaryRunsItsCascade : Prop :=
  (∀ (dt : Nat) (f : HwFrame) (s : State) (d : Device), d = s.dev.elapse dt →
    (∀ p k ks, HwAnswers d f 2 1 p → d.haw.expectedKnown = false ∨ bitAt d.haw.expected (p.src - 1) = true →
      d.haw.syncing = k :: ks → d.tr.cyc.inFlight = none →
      ∃ (t : Device) (x : Secondary), exec (.syncRsp dt f) s = .next { s with dev := t } ∧
        t.haw.secs[p.src - 1]? = some x ∧ x.state = 1 ∧ x.epoch = getU p.payload 0 1 ∧ x.timeBase = getU p.payload 1 1 ∧
        x.codes = getU p.payload 2 6 ∧ x.wiring = getU p.payload 8 4 ∧ x.missRun = 0 ∧ t.haw.burst = k ∧
        (t.haw.out.map fun o => (o.dst, o.typ, o.tries)) = some (k, 1, 1) ∧ t.haw.syncing = ks ∧
        t.toll.led = d.toll.led ∧ t.conf = d.conf ∧ t.tr = d.tr ∧ t.sec = d.sec ∧ t.land = d.toRun.land) ∧
    (∀ p k n ps, HwAnswers d f 14 3 p → (∀ o, d.haw.out = some o → getU p.payload 0 1 = getU o.bytes 2 1) →
      d.haw.syncing = [] → d.tr.cyc.inFlight = none → d.haw.cfgParts.filter (fun q => (d.sec1 q.1).state == 1) = (k, n) :: ps →
      ∃ t : Device, exec (.ack dt f) s = .next { s with dev := t } ∧
        (t.haw.out.map fun o => (o.dst, o.typ, o.tries)) = some (k, 3, 1) ∧ t.haw.cfgParts = ps ∧
        t = { d with haw := t.haw, power := d.toRun.power, land := d.toRun.land }) ∧
    (∀ p i x, HwAnswers d f 7 4 p → d.tr.cyc.inFlight = some i → getU p.payload 0 1 = i → d.tr.paths[i]? = some x →
      x.work.stale = false → d.tr.cyc.probe = false → d.conf.shot.external = false → d.on .transit = true →
      ∃ (t : Device) (y : PathState), exec (.result dt f) s = .next { s with dev := t } ∧ t.tr.paths[i]? = some y ∧
        y.res.cycleSeq = d.tr.cyc.seq % 2 ^ 16 ∧ y.health.pairs = satInc x.health.pairs ∧ y.tune.parity = (!x.tune.parity) ∧
        (x.work.sweeping = false → y.res.grade = (PathResult.ofBytes (p.payload.drop 3)).grade ∧
          y.res.tUd = (PathResult.ofBytes (p.payload.drop 3)).tUd ∧ y.res.tDu = (PathResult.ofBytes (p.payload.drop 3)).tDu ∧
          y.res.dt = (PathResult.ofBytes (p.payload.drop 3)).dt) ∧
        (x.work.sweeping = true → y.res.grade = .void) ∧ (∀ j, j ≠ i → t.tr.paths[j]? = d.tr.paths[j]?) ∧
        (∀ k ks, d.tr.cyc.toFire = k :: ks → t.tr.cyc.inFlight = some k ∧ t.tr.cyc.toFire = ks) ∧
        (d.tr.cyc.toFire = [] → t.tr.cyc.inFlight = none ∧ t.tr.cyc.complete = true) ∧
        t.toll.led = d.toll.led ∧ t.conf = d.conf ∧ t.flow = d.flow ∧ t.land.tick = d.land.tick) ∧
    (∀ p own tf tm i x, HwAnswers d f 6 4 p → d.tr.cyc.inFlight = some i → getU p.payload 0 1 = i → d.tr.paths[i]? = some x →
      x.work.stale = false → d.tr.cyc.probe = false → getU p.payload 14 6 < getU p.payload 20 6 →
      d.conf.shot.external = false → d.on .transit = true →
      ∃ (t : Device) (y : PathState), exec (.half dt f own tf tm) s = .next { s with dev := t } ∧ t.tr.paths[i]? = some y ∧
        y.res.cycleSeq = d.tr.cyc.seq % 2 ^ 16 ∧ y.health.pairs = satInc x.health.pairs ∧
        y.tune.parity = (!x.tune.parity) ∧ (getU p.payload 1 1 ≠ 0 ∨ own.overflow = true → y.res.grade = .void) ∧
        (y.res.grade = .void → y.res.tUd = 0 ∧ y.res.tDu = 0 ∧ y.res.dt = 0 ∧ y.res.sos = 0) ∧
        (∀ j, j ≠ i → t.tr.paths[j]? = d.tr.paths[j]?) ∧ t.tr.tdc.pairsSpan = d.tr.tdc.pairsSpan + 1 ∧
        (∀ k ks, d.tr.cyc.toFire = k :: ks → t.tr.cyc.inFlight = some k ∧ t.tr.cyc.toFire = ks) ∧
        t.toll.led = d.toll.led ∧ t.conf = d.conf ∧ t.flow = d.flow ∧ t.land.tick = d.land.tick) ∧
    (∀ p, d.haw.role = 1 → HwHears d f 9 p → 1 ≤ p.src → p.src ≤ 5 → d.temp.running = true →
      d.temp.awaiting.contains p.src = true → p.payload.length = 5 * (d.usedChans p.src).length + 4 → d.temp.ownPart = none →
      ∃ t : Device, exec (.sampleRsp dt f) s = .next { s with dev := t } ∧
        t.temp = { d.temp with awaiting := d.temp.awaiting.filter (· != p.src)
                               parts := d.temp.parts ++ [(p.src, sampleParts (d.usedChans p.src) p.payload)] } ∧
        t = { d with temp := t.temp, haw := t.haw }) ∧
    (∀ p r t1, HwAnswers d f 11 10 p → d.haw.loop = some r → r.dst = p.src → r.exchanges + 1 < 65 → (d.sec1 p.src).state = 1 →
      ∃ t : Device, exec (.loopcalRsp dt f t1) s = .next { s with dev := t } ∧
        (t.haw.loop.map fun q => (q.dst, q.exchanges, q.lastRound)) =
          some (p.src, r.exchanges + 1, some ((d.edge f.stamp : Int) - d.edge t1)) ∧
        (∀ x, r.lastRound = some x → t.haw.loop.map (·.rhos) = some (r.rhos ++ [x - getS p.payload 0 4])) ∧
        (d.tr.cyc.inFlight = none → d.haw.syncing = [] → d.haw.cfgParts = [] → d.gapOf 14 = true →
          (t.haw.out.map fun o => (o.dst, o.typ, o.tries)) = some (p.src, 10, 1)) ∧
        (d.tr.cyc.inFlight.isSome = true → t.haw.out = none) ∧
        t = { d with haw := t.haw, power := t.power, land := { d.land with pwrEn := t.land.pwrEn },
                     store := { d.store with due := t.store.due, readySince := t.store.readySince } }) ∧
    (∀ p, HwAnswers d f 13 4 p → ∀ i x, d.tr.cyc.inFlight = some i → d.tr.paths[i]? = some x → x.work.stale = false →
      d.tr.cyc.probe = false → d.conf.shot.external = false → d.on .transit = true →
      ∃ (t : Device) (y : PathState) (z : Secondary), exec (.refuse dt f) s = .next { s with dev := t } ∧
        t.tr.paths[i]? = some y ∧ y.res = x.res ∧ y.tune = x.tune ∧ y.health = x.health ∧ y.work.delivered = false ∧
        t.haw.secs[p.src - 1]? = some z ∧ z.refusals = satInc (d.sec1 p.src).refusals ∧
        (∀ j, j ≠ i → t.tr.paths[j]? = d.tr.paths[j]?) ∧
        (∀ k ks, d.tr.cyc.toFire = k :: ks → t.tr.cyc.inFlight = some k ∧ t.tr.cyc.toFire = ks) ∧
        t.toll.led = d.toll.led ∧ t.conf = d.conf ∧ t.flow = d.flow ∧ t.land.tick = d.land.tick) ∧
    (∀ q, d.up = true → d.haw.role = 1 → d.on .hawser = true → d.loopDueNow q = true →
      ∃ t : Device, exec (.loopcalRun dt q) s = .next { s with dev := t } ∧ t.haw.loopTick = d.land.tick ∧ t.haw.loopTemp = q ∧
        (d.hwFree = false → t = { d with haw := { d.haw with
          loopDue := secMask fun k => (d.sec1 k).state == 1 && d.hasCross k, loopTick := d.land.tick, loopTemp := q } }) ∧
        t = { d with haw := t.haw, power := t.power, land := { d.land with pwrEn := t.land.pwrEn } }) ∧
    (∀ q, d.up = true → d.haw.role = 1 → d.on .hawser = false → d.loopDueNow q = true →
      exec (.loopcalRun dt q) s = .next { s with dev := { d with haw := { d.haw with loopTick := d.land.tick, loopTemp := q } } }) ∧
    (∀ q, d.up = false ∨ d.haw.role ≠ 1 ∨ d.loopDueNow q = false →
      exec (.loopcalRun dt q) s = .next { s with dev := d }) ∧
    (d.up = true → d.haw.role = 1 → d.on .hawser = true → d.haw.lastBroadcast + 2831155200 ≤ d.land.tick →
      ∃ t : Device, exec (.hawserTimeBroadcast dt) s = .next { s with dev := t } ∧
        t.haw.lastTx = hwFrame 7 0 12 d.haw.seq (leBytes 6 (d.loadShadow 4).land.shown.tick) ∧
        (4 < d.land.shadows.length → (d.loadShadow 4).land.shown.tick = d.land.tick) ∧ t.haw.lastBroadcast = d.land.tick ∧
        t = { d with haw := t.haw, power := d.toRun.power,
                     land := { (d.loadShadow 4).land with pwrEn := d.toRun.land.pwrEn } }) ∧
    (d.up = true → d.haw.role = 1 → d.on .hawser = false → d.haw.lastBroadcast + 2831155200 ≤ d.land.tick →
      exec (.hawserTimeBroadcast dt) s = .next { s with dev := { d with haw := { d.haw with lastBroadcast := d.land.tick } } }) ∧
    (d.up = false ∨ d.haw.role ≠ 1 ∨ d.land.tick < d.haw.lastBroadcast + 2831155200 →
      exec (.hawserTimeBroadcast dt) s = .next { s with dev := d }) ∧
    (d.haw.role = 1 → ∀ o, d.haw.out = some o →
      (o.typ ≠ 4 → o.tries < 2 → ∀ q, q = { o with tries := o.tries + 1 } →
        exec (.hawserAnswerTimeout dt) s = .next { s with dev := { d with haw := { d.haw with
          lastTx := o.bytes, out := some q } } }) ∧
      (o.typ = 4 → ∀ i x z, d.tr.cyc.inFlight = some i → d.tr.paths[i]? = some x → 1 ≤ o.dst → d.haw.secs[o.dst - 1]? = some z →
        z.state ≠ 3 → z.missSeq ≠ some d.tr.cyc.seq → bitAt d.haw.expected (o.dst - 1) = false → x.work.stale = false →
        d.tr.cyc.probe = false → d.conf.shot.external = false → d.on .transit = true →
        ∃ (t : Device) (y : PathState) (w : Secondary), exec (.hawserAnswerTimeout dt) s = .next { s with dev := t } ∧
          t.tr.paths[i]? = some y ∧ y.res = x.res ∧ y.tune.parity = (!x.tune.parity) ∧ y.health.pairs = satInc x.health.pairs ∧
          y.work.delivered = false ∧ (∀ j, j ≠ i → t.tr.paths[j]? = d.tr.paths[j]?) ∧
          t.haw.secs[o.dst - 1]? = some w ∧ w.missRun = satAdd 16 z.missRun 1 ∧ w.state = z.state ∧
          t.toll.led = d.toll.led ∧ t.conf = d.conf ∧ t.flow = d.flow ∧ t.land.tick = d.land.tick)) ∧
    (d.haw.role ≠ 1 ∨ (d.haw.out = none ∧ d.tr.cyc.inFlight = none ∧ d.temp.running = false) →
      exec (.hawserAnswerTimeout dt) s = .next { s with dev := d })) ∧
  (∀ (dt : Nat) (s : State) (d : Device), d = (s.dev.elapse dt).woken 1 →
    (d.tolling = true → d.fired 11 = true →
      ∃ t : Device, exec (.hawserWakeSchedule dt) s = .next { s with dev := t } ∧ t.power = d.toRun.power ∧
        (d.writable = true → ∀ a, d.land.alarms[11]? = some a → t.land.alarms[11]? = some ({} : Alarm)) ∧
        (d.haw.syncing = [] → (∀ k, 1 ≤ k → k ≤ 5 → (d.sec1 k).resync = false) → t.haw.burst = 7) ∧
        t = { d with haw := t.haw, power := t.power, land := { d.land with alarms := t.land.alarms, pwrEn := t.land.pwrEn } }) ∧
    (d.tolling = false ∨ d.fired 11 = false → exec (.hawserWakeSchedule dt) s = .next { s with dev := d }))
end

