-- ==== Sys2Proof/Laws/AirIn.lean ====
section
/-! SUPPORT. What becomes of a received Itwen Air frame: not heard, dropped, or handed to its handler. -/

namespace Sys2Proof.Machine

@[simp] theorem Device.airClear_children (s : Device) : s.airClear.radio.children = s.radio.children := rfl
@[simp] theorem Device.airClear_conf (s : Device) : s.airClear.conf = s.conf := rfl
@[simp] theorem Device.airClear_land (s : Device) : s.airClear.land = s.land := rfl
@[simp] theorem Device.airClear_out (s : Device) : s.airClear.radio.out = [] := rfl
@[simp] theorem Device.airClear_outCh (s : Device) : s.airClear.radio.outCh = [] := rfl

/-- A frame that the receiver does not hear changes nothing. -/
theorem Device.airIn_closed (s : Device) (mine : AirHeader → Bool) (f : RxFrame) (h : Heard → Device → Device)
    (c : s.up = false ∨ s.awake = false ∨ s.on .ferryman = false ∨ s.listening = false ∨ s.hearing.contains f.chan = false) :
    s.airIn mine f h = s := by
  unfold Device.airIn
  rcases c with c | c | c | c | c <;> (simp only [c, Bool.false_and, Bool.and_false]; exact if_neg (by decide))

/-- A frame that the receiver hears. -/
theorem Device.airIn_open {s : Device} {f : RxFrame} (mine : AirHeader → Bool) (h : Heard → Device → Device)
    (a : Receives s f) :
    s.airIn mine f h =
      ((if f.modeSwitch then s.airClear else s.airClear.airFrameIn mine f h).keepListening f).armWindows := by
  obtain ⟨a, w, b, c, e⟩ := a
  unfold Device.airIn
  rw [a, w, b, c, e]; rfl

/-- What a frame does to the windows it is heard in: an open one of its channel listens on (R358). -/
theorem Device.keepListening_child (s : Device) (f : RxFrame) (j : Nat) :
    (s.keepListening f).radio.child j = (s.radio.child j).map fun c =>
      if c.windowOpen && s.radioP.chanAt c.nextCh == f.chan then
        { c with listenTo := some (c.listenTo.getD (s.repeatsEnd f)) } else c := by
  unfold Device.keepListening Radio.child
  dsimp only
  induction s.radio.children with
  | nil => rfl
  | cons a l ih =>
    have k : (if a.windowOpen && s.radioP.chanAt a.nextCh == f.chan then
        { a with listenTo := some (a.listenTo.getD (s.repeatsEnd f)) } else a).idx = a.idx := by split <;> rfl
    rw [List.map_cons, List.find?_cons, List.find?_cons, k]
    by_cases hj : a.idx == j
    · rw [hj]; rfl
    · rw [Bool.eq_false_iff.mpr hj]; exact ih

/-- Entry j after a frame that touched nothing else of it. -/
theorem Device.keepListening_child_congr {t s : Device} (f : RxFrame) (j : Nat) (a : t.conf = s.conf) (b : t.radio.phy = s.radio.phy)
    (c : t.radio.child j = s.radio.child j) : (t.keepListening f).radio.child j = (s.keepListening f).radio.child j := by
  have k : t.repeatsEnd f = s.repeatsEnd f := by
    unfold Device.repeatsEnd Device.airUs Device.shr Device.phyP; rw [a, b]
  have r : t.radioP = s.radioP := by unfold Device.radioP; rw [a]
  rw [t.keepListening_child, s.keepListening_child, c, k, r]

theorem Device.airClear_replay (s : Device) (l : Link) (b : Bool) (n : Nat) :
    (s.airClear.replay l b n).1 = (s.replay l b n).1 := by
  have k : ∀ i, s.airClear.radio.child i = s.radio.child i := fun _ => rfl
  cases l with
  | up => rfl
  | child i => simp only [Device.replay, k]; split <;> rfl
  | joiner e =>
    simp only [Device.replay, k, Device.airClear_children]
    split
    · split <;> rfl
    · rfl
  | stranger k => rfl

/-- A good frame reaches its handler. -/
theorem Device.airIn_fresh {s : Device} {f : RxFrame} {typ : Nat} {p : AirParts} {l : Link} {m : Bytes}
    (mine : AirHeader → Bool) (h : Heard → Device → Device) (a : Hears s f typ p l m) (b : IsFresh s p l)
    (c : mine p.hdr = true) :
    s.airIn mine f h =
      ((h ⟨l, p.hdr, p.fcnt, m, true, f⟩ (((s.airClear.replay l (s.newUpper p.hdr) p.fcnt).2).count 1)).keepListening f).armWindows := by
  obtain ⟨a1, a2, a4, a5, a6, a7, a8, a9, a10, a11, key, a12, a13⟩ := a
  obtain ⟨x, y, b⟩ := b
  have k1 : s.airClear.linkOf p.hdr = some l := a10
  have k2 : s.airClear.netKey (decide (l = .up)) p.hdr.keyId = some key := a12
  have k3 : ccmOpen key (airNonce (s.airClear.peerEui p.hdr l) p.fcnt) p.head p.cipher p.mic = some m := a13
  have k4 : (s.airClear.replay l (s.airClear.newUpper p.hdr) p.fcnt).1 = .accept x y :=
    (s.airClear_replay l (s.newUpper p.hdr) p.fcnt).trans b
  have k5 : ¬(p.version ≠ 0 ∨ p.hdr.typ = 0 ∨ 6 < p.hdr.typ) := by omega
  rw [Device.airIn_open mine h a1, a2, if_neg (by decide)]
  congr 2
  unfold Device.airFrameIn
  rw [a4, a5, if_neg (by decide)]
  dsimp only
  rw [if_neg k5, c, if_neg (by decide), k1]
  cases l with
  | stranger k => exact absurd rfl (a11 k)
  | up => dsimp only; rw [k2]; dsimp only; rw [k3]; dsimp only; rw [k4]; rfl
  | child i => dsimp only; rw [k2]; dsimp only; rw [k3]; dsimp only; rw [k4]; rfl
  | joiner e => dsimp only; rw [k2]; dsimp only; rw [k3]; dsimp only; rw [k4]; rfl

end Sys2Proof.Machine
end

