-- ==== Sys2Proof/Laws/Calm.lean ====
section
/-! SUPPORT. What the radio and the Hawser leave alone: configuration, billed registers, flow, billing, display, keys, life-cycle state, clock. -/

namespace Sys2Proof.Machine

/-- The configuration in force, the billed registers, flow, billing, display, function states, keys, life-cycle state and clock are the same. -/
abbrev Device.Calm (t s : Device) : Prop :=
  t.conf = s.conf ∧ t.toll.led = s.toll.led ∧ t.flow = s.flow ∧ t.bill = s.bill ∧ t.disp = s.disp ∧ t.sec.lc = s.sec.lc ∧ t.sec.keys = s.sec.keys ∧ t.land.tick = s.land.tick ∧ t.land.osc = s.land.osc ∧ t.fn = s.fn ∧ t.straps = s.straps ∧ t.haw.role = s.haw.role ∧ t.opt = s.opt

theorem Device.Calm.refl (s : Device) : s.Calm s := ⟨rfl, rfl, rfl, rfl, rfl, rfl, rfl, rfl, rfl, rfl, rfl, rfl, rfl⟩

theorem Device.Calm.trans {a b c : Device} (h : a.Calm b) (k : b.Calm c) : a.Calm c := by
  obtain ⟨h1, h2, h3, h4, h5, h6, h7, h8, h9, h10, h11, h12, h13⟩ := h
  obtain ⟨k1, k2, k3, k4, k5, k6, k7, k8, k9, k10, k11, k12, k13⟩ := k
  exact ⟨h1.trans k1, h2.trans k2, h3.trans k3, h4.trans k4, h5.trans k5, h6.trans k6, h7.trans k7, h8.trans k8, h9.trans k9, h10.trans k10, h11.trans k11, h12.trans k12, h13.trans k13⟩

theorem foldl_calm {α : Type} (f : Device → α → Device) (h : ∀ s a, (f s a).Calm s) (l : List α) (s : Device) :
    (l.foldl f s).Calm s := by
  induction l generalizing s with
  | nil => exact .refl s
  | cons a l ih => rw [List.foldl_cons]; exact (ih _).trans (h s a)

theorem calm_ite {c : Prop} [Decidable c] {a b x : Device} (h : a.Calm x) (k : b.Calm x) :
    (if c then a else b).Calm x := by
  split <;> assumption

/-! ## Ops -/

@[simp] theorem Device.loadShadow_calm (s : Device) (i : Nat) : Device.Calm (Device.loadShadow s i) s := by
  unfold Device.Calm Device.loadShadow; simp

@[simp] theorem Device.draw_calm (s : Device) : Device.Calm (Device.draw s).2 s := by
  unfold Device.Calm Device.draw; simp

@[simp] theorem Device.stepRan_calm (s : Device) (u : Nat) : Device.Calm (Device.stepRan s u) s := by
  unfold Device.Calm Device.stepRan; simp

@[simp] theorem Device.commit_calm (s : Device) : Device.Calm (Device.commit s) s := by
  unfold Device.Calm Device.commit; split <;> simp

@[simp] theorem Device.journalWith_calm (s : Device) (t : Nat) (untrusted : Bool) (code arg0 arg1 : Nat) : Device.Calm (Device.journalWith s t untrusted code arg0 arg1) s := by
  unfold Device.Calm Device.journalWith; split <;> simp

@[simp] theorem Device.journalAt_calm (s : Device) (t code arg0 arg1 : Nat) : Device.Calm (Device.journalAt s t code arg0 arg1) s := by
  unfold Device.Calm Device.journalAt; simp

@[simp] theorem Device.journal_calm (s : Device) (code arg0 arg1 : Nat) : Device.Calm (Device.journal s code arg0 arg1) s := by
  unfold Device.Calm Device.journal; simp

@[simp] theorem Device.journal64_calm (s : Device) (code : Nat) (v : Int) : Device.Calm (Device.journal64 s code v) s := by
  unfold Device.Calm Device.journal64; simp

@[simp] theorem Device.refuse_calm (s : Device) (i : Nat) : Device.Calm (Device.refuse s i) s := by
  unfold Device.Calm Device.refuse; simp

@[simp] theorem Device.refuseN_calm (s : Device) (i n : Nat) : Device.Calm (Device.refuseN s i n) s := by
  unfold Device.Calm Device.refuseN; simp

@[simp] theorem Device.tamperWith_calm (s : Device) (k t : Nat) (untrusted : Bool) : Device.Calm (Device.tamperWith s k t untrusted) s := by
  unfold Device.tamperWith; split
  · split
    · exact .refl _
    · dsimp only; split
      · exact Device.commit_calm _
      · exact Device.journalWith_calm _ _ _ _ _ _
  · exact .refl _

@[simp] theorem Device.tamperAt_calm (s : Device) (k t : Nat) : Device.Calm (Device.tamperAt s k t) s := by
  unfold Device.Calm Device.tamperAt; repeat' (first | (simp; done) | split | (dsimp only; split))

@[simp] theorem Device.tamper_calm (s : Device) (k : Nat) : Device.Calm (Device.tamper s k) s := by
  unfold Device.Calm Device.tamper; simp

@[simp] theorem Device.arm_calm (s : Device) (i target : Nat) (elapsed : Bool) : Device.Calm (s.arm i target elapsed) s := by
  unfold Device.arm; split <;> exact .refl _

@[simp] theorem Device.disarm_calm (s : Device) (i : Nat) : Device.Calm (s.disarm i) s := by
  unfold Device.disarm; split <;> exact .refl _

@[simp] theorem Device.pwrUpdate_calm (s : Device) : Device.Calm (Device.pwrUpdate s) s := by
  unfold Device.Calm Device.pwrUpdate; simp

@[simp] theorem Device.toRun_calm (s : Device) : Device.Calm (Device.toRun s) s := by
  unfold Device.Calm Device.toRun; simp

@[simp] theorem Device.stopping_calm (s : Device) (k : Func) : Device.Calm (Device.stopping s k) s := by
  unfold Device.Calm Device.stopping; split <;> simp

@[simp] theorem Device.wentOff_calm (s : Device) (k : Func) : Device.Calm (Device.wentOff s k) s := by
  unfold Device.Calm Device.wentOff; split <;> simp

@[simp] theorem Device.owe_calm (s : Device) (i n : Nat) : Device.Calm (Device.owe s i n) s := by
  unfold Device.Calm Device.owe; repeat' (first | (simp; done) | split | (dsimp only; split))

@[simp] theorem Device.oweMode_calm (s : Device) (m n : Nat) : Device.Calm (Device.oweMode s m n) s := by
  unfold Device.Calm Device.oweMode; repeat' (first | (simp; done) | split)

/-! ## Wire -/

@[simp] theorem Device.hwBad_calm (s : Device) : Device.Calm (Device.hwBad s) s := by
  unfold Device.Calm Device.hwBad; simp

@[simp] theorem Device.attend_calm (s : Device) : Device.Calm (Device.attend s) s := by
  unfold Device.Calm Device.attend; simp

@[simp] theorem Device.fireAnswered_calm (s : Device) (last : Bool) : Device.Calm (Device.fireAnswered s last) s := by
  unfold Device.Calm Device.fireAnswered; simp

@[simp] theorem Device.hwReceive_calm (s : Device) (typ : Nat) (f : HwFrame) (h : HwParts → Device → Device)
    (hh : ∀ p x, (h p x).Calm x) : Device.Calm (Device.hwReceive s typ f h) s := by
  unfold Device.hwReceive; split
  · exact .refl s
  · split
    · exact Device.hwBad_calm s
    · split
      · exact hh _ _
      · exact .refl s

@[simp] theorem Device.hwBurst_calm (s : Device) (n : Nat) : Device.Calm (Device.hwBurst s n) s := by
  unfold Device.Calm Device.hwBurst; simp

@[simp] theorem Device.hwSend_calm (s : Device) (dst typ : Nat) (payload : Bytes) : Device.Calm (Device.hwSend s dst typ payload) s := by
  unfold Device.Calm Device.hwSend; simp

@[simp] theorem Device.hwAsk_calm (s : Device) (dst typ : Nat) (payload : Bytes) : Device.Calm (Device.hwAsk s dst typ payload) s := by
  unfold Device.Calm Device.hwAsk; simp

/-! ## Flow -/

@[simp] theorem Device.setPort_calm (s : Device) (p : Nat) (f : Port → Port) : Device.Calm (Device.setPort s p f) s := by
  unfold Device.Calm Device.setPort; simp

@[simp] theorem Device.markPort_calm (s : Device) (q : Nat × Nat) : Device.Calm (Device.markPort s q) s := by
  unfold Device.Calm Device.markPort; split <;> simp

@[simp] theorem Device.retirePort_calm (s : Device) (q : Nat × Nat) (electrical : Bool) : Device.Calm (Device.retirePort s q electrical) s := by
  unfold Device.Calm Device.retirePort; repeat' (first | (simp; done) | split | (dsimp only; split))

@[simp] theorem Device.retireFaulty_calm (act : List Nat) (s : Device) (q : Nat × Nat) : Device.Calm (Device.retireFaulty act s q) s := by
  unfold Device.Calm Device.retireFaulty; split <;> simp

@[simp] theorem Device.retireShared_calm (act meets : List Nat) (s : Device) (q : Nat × Nat) : Device.Calm (Device.retireShared act meets s q) s := by
  unfold Device.Calm Device.retireShared; repeat' (first | (simp; done) | split | (dsimp only; split))

@[simp] theorem Device.armGap_calm (s : Device) : Device.Calm (Device.armGap s) s := by
  unfold Device.Calm Device.armGap; simp

@[simp] theorem Device.armWake_calm (s : Device) : Device.Calm (Device.armWake s) s := by
  unfold Device.Calm Device.armWake; repeat' (first | simp | split)

/-! ## HawserOps -/

@[simp] theorem Device.setSec_calm (s : Device) (k : Nat) (f : Secondary → Secondary) : Device.Calm (Device.setSec s k f) s := by
  unfold Device.Calm Device.setSec; split <;> simp

@[simp] theorem Device.hwDone_calm (s : Device) : Device.Calm (Device.hwDone s) s := by
  unfold Device.Calm Device.hwDone; simp

@[simp] theorem Device.hwAnswered_calm (s : Device) (k : Nat) : Device.Calm (Device.hwAnswered s k) s := by
  unfold Device.Calm Device.hwAnswered; simp

@[simp] theorem Device.retireChannels_calm (s : Device) (k : Nat) : Device.Calm (Device.retireChannels s k) s := by
  unfold Device.Calm Device.retireChannels; simp

@[simp] theorem Device.hwShelve_calm (s : Device) : Device.Calm (Device.hwShelve s) s := by
  unfold Device.Calm Device.hwShelve; repeat' (first | (simp; done) | split)

@[simp] theorem Device.hwAgain_calm (s : Device) (o : Outstanding) : Device.Calm (Device.hwAgain s o) s := by
  unfold Device.Calm Device.hwAgain; simp

@[simp] theorem Device.loopAsk_calm (s : Device) (r : LoopRun) : Device.Calm (Device.loopAsk s r) s := by
  unfold Device.Calm Device.loopAsk; split <;> simp

@[simp] theorem Device.loopPump_calm (s : Device) : Device.Calm (Device.loopPump s) s := by
  unfold Device.Calm Device.loopPump; repeat' (first | (simp; done) | split)

@[simp] theorem Device.hwPump_calm (s : Device) : Device.Calm (Device.hwPump s) s := by
  unfold Device.Calm Device.hwPump; repeat' (first | (simp; done) | split)

@[simp] theorem Device.hwGap_calm (s : Device) : Device.Calm (Device.hwGap s) s := by
  unfold Device.Calm Device.hwGap; dsimp only; split <;> simp

/-! ## PathInit -/

@[simp] theorem Device.initPorts_calm (s : Device) (cold : Bool) : Device.Calm (Device.initPorts s cold) s := by
  unfold Device.Calm Device.initPorts; simp

@[simp] theorem Device.initPaths_calm (s : Device) (old : Conf) (cold : Bool) : Device.Calm (Device.initPaths s old cold) s := by
  unfold Device.Calm Device.initPaths; simp

@[simp] theorem Device.settle_calm (s : Device) (i : Nat) : Device.Calm (Device.settle s i) s := by
  unfold Device.settle; dsimp only; repeat' (first | exact .refl _ | split)

/-! ## Transit -/

@[simp] theorem Device.fireRemote_calm (s : Device) (i : Nat) : Device.Calm (Device.fireRemote s i) s := by
  unfold Device.Calm Device.fireRemote; repeat' (first | (simp; done) | split | (dsimp only; split))

@[simp] theorem Device.launch_calm (s : Device) (i : Nat) : Device.Calm (Device.launch s i) s := by
  unfold Device.Calm Device.launch; simp

@[simp] theorem Device.fireNext_calm (s : Device) : Device.Calm (Device.fireNext s) s := by
  unfold Device.Calm Device.fireNext; split <;> simp

@[simp] theorem Device.landPair_calm (s : Device) (i : Nat) : Device.Calm (Device.landPair s i) s := by
  unfold Device.Calm Device.landPair; simp

@[simp] theorem Device.takeSets_calm (s : Device) : Device.Calm (Device.takeSets s) s := by
  unfold Device.Calm Device.takeSets; simp

@[simp] theorem Device.openCycle_calm (s : Device) : Device.Calm (Device.openCycle s) s := by
  unfold Device.Calm Device.openCycle; simp

@[simp] theorem Device.restartShot_calm (s : Device) : Device.Calm (Device.restartShot s) s := by
  unfold Device.Calm Device.restartShot; simp

@[simp] theorem Device.extSkip_calm (s : Device) : Device.Calm (Device.extSkip s) s := by
  unfold Device.Calm Device.extSkip; simp

@[simp] theorem Device.extFire_calm (s : Device) (i : Nat) : Device.Calm (Device.extFire s i) s := by
  unfold Device.Calm Device.extFire; simp

@[simp] theorem Device.extRefuse_calm (s : Device) (f : ExtShot → ExtShot) : Device.Calm (Device.extRefuse s f) s := by
  unfold Device.Calm Device.extRefuse; simp

@[simp] theorem Device.notePorts_calm (s : Device) (p : PathP) (no : Nat) (cap : PairCapture) : Device.Calm (Device.notePorts s p no cap).1 s := by
  unfold Device.Calm Device.notePorts; repeat' (first | (simp; done) | split | (dsimp only; split))

@[simp] theorem Device.countPair_calm (s : Device) (overflow : Bool) : Device.Calm (Device.countPair s overflow) s := by
  unfold Device.Calm Device.countPair; simp

@[simp] theorem Device.probeLost_calm (s : Device) (i : Nat) : Device.Calm (Device.probeLost s i) s := by
  unfold Device.probeLost; exact .refl _

@[simp] theorem Device.sendResult_calm (s : Device) (i prx : Nat) (r : PathResult) : Device.Calm (Device.sendResult s i prx r) s := by
  unfold Device.Calm Device.sendResult; simp

@[simp] theorem Device.pushCorr_calm (s : Device) : Device.Calm (Device.pushCorr s) s := by
  unfold Device.Calm Device.pushCorr; simp

@[simp] theorem Device.ageRecompute_calm (s : Device) : Device.Calm (Device.ageRecompute s) s := by
  unfold Device.Calm Device.ageRecompute; repeat' (first | (simp; done) | split | (dsimp only; split))

@[simp] theorem Device.armMidnight_calm (s : Device) : Device.Calm (Device.armMidnight s) s := by
  unfold Device.Calm Device.armMidnight; split <;> simp

@[simp] theorem Device.calDue_calm (s : Device) (kind : Nat) : Device.Calm (Device.calDue s kind) s := by
  unfold Device.Calm Device.calDue; simp

/-! ## Air -/

@[simp] theorem Device.pickKey_calm (s : Device) (up : Bool) : Device.Calm (Device.pickKey s up).2 s := by
  unfold Device.Calm Device.pickKey; split <;> simp

@[simp] theorem Device.count_calm (s : Device) (k : Nat) : Device.Calm (Device.count s k) s := by
  unfold Device.Calm Device.count; simp

@[simp] theorem Device.budgetHit_calm (s : Device) : Device.Calm (Device.budgetHit s) s := by
  unfold Device.Calm Device.budgetHit; dsimp only; split <;> simp

@[simp] theorem Device.fcntCheck_calm (s : Device) : Device.Calm (Device.fcntCheck s) s := by
  unfold Device.Calm Device.fcntCheck; split <;> simp

@[simp] theorem Device.onAir_calm (s : Device) (ch : Nat) (b : Bytes) : Device.Calm (Device.onAir s ch b) s := by
  unfold Device.Calm Device.onAir; simp

@[simp] theorem Device.sendAir_calm (s : Device) (up : Bool) (ch : Nat) (h : AirHeader) (payload : Bytes) : Device.Calm ((Device.sendAir s up ch h payload).2) s := by
  unfold Device.Calm Device.sendAir; repeat' (first | (simp; done) | split | (dsimp only; split))

@[simp] theorem Device.contactAt_calm (s : Device) (t : Nat) : Device.Calm (Device.contactAt s t) s := by
  unfold Device.Calm Device.contactAt; simp

/-! ## Sched -/

@[simp] theorem Device.startContacts_calm (s : Device) : Device.Calm (Device.startContacts s) s := by
  unfold Device.Calm Device.startContacts; repeat' (first | (simp; done) | split | (dsimp only; split))

@[simp] theorem Device.setChild_calm (s : Device) (i : Nat) (f : Child → Child) : Device.Calm (Device.setChild s i f) s := by
  unfold Device.Calm Device.setChild; simp

@[simp] theorem Device.armWindows_calm (s : Device) : Device.Calm (Device.armWindows s) s := by
  unfold Device.Calm Device.armWindows; repeat' (first | (simp; done) | split | (dsimp only; split))

@[simp] theorem Device.wmArm_calm (s : Device) : Device.Calm (Device.wmArm s) s := by
  unfold Device.Calm Device.wmArm; simp

@[simp] theorem Device.wmStart_calm (s : Device) : Device.Calm (Device.wmStart s) s := by
  unfold Device.Calm Device.wmStart; split <;> simp

@[simp] theorem Device.planRadio_calm (s : Device) : Device.Calm (Device.planRadio s) s := by
  unfold Device.Calm Device.planRadio; repeat' (first | (simp; done) | split | (dsimp only; split))

/-! ## Cascade -/

@[simp] theorem Device.cfgFaulted_calm (s : Device) (cause : Nat) (dev : Option Nat) : Device.Calm (Device.cfgFaulted s cause dev) s := by
  unfold Device.Calm Device.cfgFaulted; split <;> simp

@[simp] theorem Device.broadcastTime_calm (s : Device) : Device.Calm (Device.broadcastTime s) s := by
  unfold Device.Calm Device.broadcastTime; simp

@[simp] theorem Device.configureFresh_calm (s : Device) : Device.Calm (Device.configureFresh s) s := by
  unfold Device.Calm Device.configureFresh; simp

/-! ## Security -/

@[simp] theorem Device.verdict_calm (s : Device) (p : RecPath) (r : Rec) (cause : Nat) : Device.Calm (Device.verdict s p r cause) s := by
  unfold Device.Calm Device.verdict; repeat' (first | (simp; done) | split)

@[simp] theorem Device.legalCount_calm (s : Device) (r : Rec) : Device.Calm (Device.legalCount s r) s := by
  unfold Device.Calm Device.legalCount; split <;> simp

@[simp] theorem Device.waitSet_calm (s : Device) (p : Option PendSet) : Device.Calm (Device.waitSet s p) s := by
  unfold Device.Calm Device.waitSet; split <;> simp

@[simp] theorem Device.applyTimeSet_calm (s : Device) (b : Bytes) : Device.Calm (Device.applyTimeSet s b) s := by
  unfold Device.applyTimeSet; exact Device.waitSet_calm _ _

@[simp] theorem Device.openJoin_calm (s : Device) : Device.Calm (Device.openJoin s) s := by
  unfold Device.Calm Device.openJoin; dsimp only; split <;> simp

@[simp] theorem Device.recCommit_calm (s : Device) (r : Rec) : Device.Calm (Device.recCommit s r) s := by
  unfold Device.recCommit Security.setSeq
  refine (Device.commit_calm _).trans ?_
  split <;> exact .refl _

/-! ## Ferry -/

@[simp] theorem Device.setExch_calm (s : Device) (e : Exchange) : Device.Calm (Device.setExch s e) s := by
  unfold Device.Calm Device.setExch; simp

@[simp] theorem Device.endExchange_calm (s : Device) : Device.Calm (Device.endExchange s) s := by
  unfold Device.Calm Device.endExchange; simp

@[simp] theorem Device.sendIn_calm (s : Device) (x : Sent) (payload : Bytes) (more : Bool) : Device.Calm (Device.sendIn s x payload more) s := by
  unfold Device.Calm Device.sendIn; repeat' (first | (simp; done) | split | (dsimp only; split))

@[simp] theorem Device.forwardData_calm (s : Device) : Device.Calm (Device.forwardData s).2 s := by
  unfold Device.Calm Device.forwardData; simp

@[simp] theorem Device.digestSent_calm (s : Device) (items : Bytes) : Device.Calm (Device.digestSent s items) s := by
  unfold Device.Calm Device.digestSent; split <;> simp

@[simp] theorem Device.ownData_calm (s : Device) : Device.Calm (Device.ownData s).2 s := by
  unfold Device.Calm Device.ownData; simp

@[simp] theorem Device.dataAcked_calm (s : Device) : Device.Calm (Device.dataAcked s) s := by
  unfold Device.Calm Device.dataAcked; simp

@[simp] theorem Device.sendForward_calm (s : Device) : Device.Calm (Device.sendForward s) s := by
  unfold Device.Calm Device.sendForward; simp

@[simp] theorem Device.afterAckUp_calm (s : Device) : Device.Calm (Device.afterAckUp s) s := by
  unfold Device.Calm Device.afterAckUp; repeat' (first | (simp; done) | split)

@[simp] theorem Device.airClear_calm (s : Device) : Device.Calm (Device.airClear s) s := by
  unfold Device.Calm Device.airClear; simp

@[simp] theorem Device.fallbackContact_calm (s : Device) : Device.Calm (Device.fallbackContact s) s := by
  unfold Device.Calm Device.fallbackContact; simp

@[simp] theorem Device.contactMissed_calm (s : Device) : Device.Calm (Device.contactMissed s) s := by
  unfold Device.Calm Device.contactMissed; dsimp only; split <;> simp

@[simp] theorem Device.contactFrame_calm (s : Device) : Device.Calm (Device.contactFrame s) s := by
  unfold Device.Calm Device.contactFrame; repeat' (first | (simp; done) | split)

@[simp] theorem Device.beginContact_calm (s : Device) : Device.Calm (Device.beginContact s) s := by
  unfold Device.Calm Device.beginContact; repeat' (first | (simp; done) | split | (dsimp only; split))

@[simp] theorem Device.ackTimeout_calm (s : Device) : Device.Calm (Device.ackTimeout s) s := by
  unfold Device.Calm Device.ackTimeout; repeat' (first | (simp; done) | split)

@[simp] theorem Device.chooseNext_calm (s : Device) (c : Child) (t : Nat) : Device.Calm (Device.chooseNext s c t).2 s := by
  unfold Device.Calm Device.chooseNext; dsimp only; split <;> simp

@[simp] theorem Device.planChild_calm (s : Device) (i t : Nat) : Device.Calm (Device.planChild s i t).2.2 s := by
  unfold Device.Calm Device.planChild; split <;> simp

@[simp] theorem Device.childContact_calm (s : Device) (i : Nat) (f : RxFrame) (h : AirHeader) : Device.Calm (Device.childContact s i f h) s := by
  unfold Device.Calm Device.childContact; repeat' (first | (simp; done) | split)

@[simp] theorem Device.timeSfd_calm (s : Device) (t : Nat) : Device.Calm (Device.timeSfd s t).2 s := by
  unfold Device.Calm Device.timeSfd; simp

@[simp] theorem Device.sendTodo_calm (s : Device) (t : Nat) : Device.Calm (Device.sendTodo s t) s := by
  unfold Device.Calm Device.sendTodo; repeat' (first | (simp; done) | split)

@[simp] theorem Device.afterAckDown_calm (s : Device) (t : Nat) : Device.Calm (Device.afterAckDown s t) s := by
  unfold Device.Calm Device.afterAckDown; repeat' (first | simp | split)

@[simp] theorem Device.ackChild_calm (s : Device) (i fcnt status tRel t : Nat) : Device.Calm (Device.ackChild s i fcnt status tRel t) s := by
  unfold Device.Calm Device.ackChild; simp

@[simp] theorem Device.replay_calm (s : Device) (l : Link) (new : Bool) (fcnt : Nat) : Device.Calm (Device.replay s l new fcnt).2 s := by
  unfold Device.Calm Device.replay; repeat' (first | (simp; done) | split | (dsimp only; split))

@[simp] theorem Device.ackStranger_calm (s : Device) (ch : Nat) (h : AirHeader) (fcnt short : Nat) : Device.Calm (Device.ackStranger s ch h fcnt short) s := by
  unfold Device.Calm Device.ackStranger; simp

@[simp] theorem Device.airFrameIn_calm (s : Device) (mine : AirHeader → Bool) (f : RxFrame)
    (h : Heard → Device → Device) (hh : ∀ p x, (h p x).Calm x) : Device.Calm (s.airFrameIn mine f h) s := by
  rw [Device.airFrameIn]
  split
  · exact Device.count_calm ..
  split
  · exact Device.count_calm ..
  split
  · exact Device.count_calm ..
  split
  · exact .refl _
  split
  · exact .refl _
  · split
    · exact Device.ackStranger_calm ..
    · exact .refl _
  split
  · exact Device.count_calm ..
  split
  · exact Device.count_calm ..
  dsimp only
  split
  · exact Device.count_calm ..
  · exact (hh _ _).trans ((Device.count_calm ..).trans (Device.count_calm ..))
  · exact (hh _ _).trans ((Device.count_calm ..).trans (Device.replay_calm ..))

@[simp] theorem Device.keepListening_calm (s : Device) (f : RxFrame) : Device.Calm (Device.keepListening s f) s := by
  unfold Device.Calm Device.keepListening; simp

@[simp] theorem Device.airIn_calm (s : Device) (mine : AirHeader → Bool) (f : RxFrame)
    (h : Heard → Device → Device) (hh : ∀ p x, (h p x).Calm x) : Device.Calm (s.airIn mine f h) s := by
  unfold Device.airIn; split
  · have a : Device.Calm ((if f.modeSwitch = true then s.airClear else s.airClear.airFrameIn mine f h)) s := by
      split
      · exact Device.airClear_calm s
      · exact (Device.airFrameIn_calm _ _ _ _ hh).trans (Device.airClear_calm s)
    exact (Device.armWindows_calm _).trans ((Device.keepListening_calm _ _).trans a)
  · exact .refl _

@[simp] theorem Device.airBad_calm (s : Device) : Device.Calm (Device.airBad s) s := by
  unfold Device.Calm Device.airBad; simp

@[simp] theorem Device.noted_calm (s : Device) (x : Heard) : Device.Calm (Device.noted s x) s := by
  unfold Device.Calm Device.noted; split <;> simp

@[simp] theorem Device.gotIn_calm (s : Device) (x : Heard) : Device.Calm (Device.gotIn s x) s := by
  unfold Device.Calm Device.gotIn; dsimp only; split <;> simp

@[simp] theorem Device.childBegin_calm (s : Device) (i : Nat) (x : Heard) : Device.Calm (Device.childBegin s i x) s := by
  unfold Device.Calm Device.childBegin; simp

@[simp] theorem Device.contactOf_calm (s : Device) (i : Nat) (x : Heard) : Device.Calm (Device.contactOf s i x) s := by
  unfold Device.Calm Device.contactOf; split <;> simp

@[simp] theorem Device.onPoll_calm (x : Heard) (s : Device) : Device.Calm (Device.onPoll x s) s := by
  unfold Device.Calm Device.onPoll; repeat' (first | (simp; done) | split)

@[simp] theorem Device.cacheDigest_calm (s : Device) (i : Nat) (l : List RxItem) : Device.Calm (Device.cacheDigest s i l) s := by
  unfold Device.Calm Device.cacheDigest; split <;> simp

@[simp] theorem Device.readAnswered_calm (s : Device) (i k : Nat) (l : List RxItem) : Device.Calm (Device.readAnswered s i k l) s := by
  unfold Device.Calm Device.readAnswered; simp

@[simp] theorem Device.onData_calm (x : Heard) (s : Device) : Device.Calm (Device.onData x s) s := by
  unfold Device.Calm Device.onData; repeat' (first | (simp; done) | split | (dsimp only; split))

@[simp] theorem Device.joinReply_calm (s : Device) (x : Heard) (status nextIn nextCh tRel : Nat) (pending : Bool) : Device.Calm (Device.joinReply s x status nextIn nextCh tRel pending).2 s := by
  unfold Device.Calm Device.joinReply; simp

@[simp] theorem Device.joinFull_calm (s : Device) (x : Heard) : Device.Calm (Device.joinFull s x) s := by
  unfold Device.Calm Device.joinFull; repeat' (first | (simp; done) | split | (dsimp only; split))

@[simp] theorem Device.joinAnswer_calm (s : Device) (i : Nat) (x : Heard) : Device.Calm (Device.joinAnswer s i x) s := by
  unfold Device.Calm Device.joinAnswer; repeat' (first | (simp; done) | split | (dsimp only; split))

@[simp] theorem Device.joinOk_calm (s : Device) (i : Nat) (x : Heard) : Device.Calm (Device.joinOk s i x) s := by
  unfold Device.Calm Device.joinOk; simp

@[simp] theorem Device.joinAgain_calm (s : Device) (i : Nat) (x : Heard) : Device.Calm (Device.joinAgain s i x) s := by
  unfold Device.Calm Device.joinAgain; repeat' (first | (simp; done) | split | (dsimp only; split))

@[simp] theorem Device.onJoin_calm (x : Heard) (s : Device) : Device.Calm (Device.onJoin x s) s := by
  unfold Device.Calm Device.onJoin; repeat' (first | (simp; done) | split | (dsimp only; split))

@[simp] theorem Device.joined_calm (s : Device) (x : Heard) : Device.Calm (Device.joined s x) s := by
  unfold Device.Calm Device.joined; simp

@[simp] theorem Device.ackUp_calm (s : Device) (x : Heard) (e : Exchange) : Device.Calm (Device.ackUp s x e) s := by
  unfold Device.Calm Device.ackUp; repeat' (first | (simp; done) | split | (dsimp only; split))

@[simp] theorem Device.noteDone_calm (s : Device) (i k st : Nat) : Device.Calm (Device.noteDone s i k st) s := by
  unfold Device.Calm Device.noteDone; repeat' (first | (simp; done) | split)

@[simp] theorem Device.ackDown_calm (s : Device) (i : Nat) (x : Heard) (e : Exchange) : Device.Calm (Device.ackDown s i x e) s := by
  unfold Device.Calm Device.ackDown; repeat' (first | (simp; done) | split | (dsimp only; split))

@[simp] theorem Device.onAck_calm (x : Heard) (s : Device) : Device.Calm (Device.onAck x s) s := by
  unfold Device.Calm Device.onAck; repeat' (first | (simp; done) | split)

@[simp] theorem Device.ackUpper_calm (s : Device) (fcnt status tRel : Nat) : Device.Calm (Device.ackUpper s fcnt status tRel) s := by
  unfold Device.Calm Device.ackUpper; simp

@[simp] theorem Device.keepAck_calm (s : Device) (status tRel : Nat) (slot : Option Nat) : Device.Calm (Device.keepAck s status tRel slot) s := by
  unfold Device.Calm Device.keepAck; repeat' (first | (simp; done) | split | (dsimp only; split))

@[simp] theorem Device.ackAgain_calm (s : Device) (x : Heard) : Device.Calm (Device.ackAgain s x) s := by
  unfold Device.Calm Device.ackAgain; repeat' (first | (simp; done) | split | (dsimp only; split))

@[simp] theorem Device.decideRead_calm (s : Device) (x : Heard) (short : Nat) (l : List ObjRef) : Device.Calm (Device.decideRead s x short l).2.2 s := by
  unfold Device.Calm Device.decideRead; repeat' (first | (simp; done) | split | (dsimp only; split))

@[simp] theorem Device.onRead_calm (x : Heard) (s : Device) : Device.Calm (Device.onRead x s) s := by
  unfold Device.Calm Device.onRead; repeat' (first | (simp; done) | split | (dsimp only; split))

@[simp] theorem Device.fragAck_calm (s : Device) (x : Heard) (status : Nat) (slot : Option Nat) : Device.Calm (Device.fragAck s x status slot) s := by
  unfold Device.Calm Device.fragAck; simp

@[simp] theorem Device.ackRefused_calm (s : Device) (x : Heard) (status tRel : Nat) : Device.Calm (Device.ackRefused s x status tRel) s := by
  unfold Device.Calm Device.ackRefused; repeat' (first | (simp; done) | split | (dsimp only; split))

@[simp] theorem Device.handOver_calm (s : Device) : Device.Calm (Device.handOver s) s := by
  unfold Device.Calm Device.handOver; repeat' (first | (simp; done) | split | (dsimp only; split))

@[simp] theorem Device.onTime_calm (x : Heard) (s : Device) : Device.Calm (Device.onTime x s) s := by
  unfold Device.Calm Device.onTime; dsimp only; repeat' (first | (simp; done) | exact .refl _ | split)

/-! ## Hawser -/

@[simp] theorem Device.hwAnswer_calm (s : Device) (p : HwParts) (typ : Nat) (payload : Bytes) : Device.Calm (Device.hwAnswer s p typ payload) s := by
  unfold Device.Calm Device.hwAnswer; split <;> simp

@[simp] theorem Device.onSyncReq_calm (p : HwParts) (x : Device) : Device.Calm (Device.onSyncReq p x) x := by
  unfold Device.Calm Device.onSyncReq; simp

@[simp] theorem Device.repush_calm (s : Device) (old : Hawser) (i : Nat) : Device.Calm (Device.repush s old i) s := by
  unfold Device.repush; dsimp only; repeat' split
  all_goals exact .refl _

@[simp] theorem Device.hwHears_calm (s : Device) (typ : Nat) (f : HwFrame) (h : HwParts → Device → Device)
    (hh : ∀ p x, (h p x).Calm x) : Device.Calm (Device.hwHears s typ f h) s := by
  unfold Device.hwHears; split
  · exact .refl s
  · split
    · exact Device.hwBad_calm s
    · split
      · exact hh _ _
      · exact .refl s

@[simp] theorem Device.hwRefuse_calm (s : Device) (cause retry : Nat) : Device.Calm (Device.hwRefuse s cause retry) s := by
  unfold Device.Calm Device.hwRefuse; simp

@[simp] theorem Device.hwTurnAway_calm (s : Device) (cause most : Nat) : Device.Calm (Device.hwTurnAway s cause most) s := by
  unfold Device.Calm Device.hwTurnAway; split <;> simp

@[simp] theorem Device.takeJob_calm (s : Device) (j : FireJob) : Device.Calm (Device.takeJob s j) s := by
  unfold Device.Calm Device.takeJob; repeat' (first | (simp; done) | split | (dsimp only; split))

@[simp] theorem Device.onMark_calm (r2 : RawStamp) (_x : HwParts) (x : Device) : Device.Calm (Device.onMark r2 _x x) x := by
  unfold Device.Calm Device.onMark; simp

@[simp] theorem Device.onSampleReq_calm (_x : HwParts) (x : Device) : Device.Calm (Device.onSampleReq _x x) x := by
  unfold Device.Calm Device.onSampleReq; repeat' (first | (simp; done) | split | (dsimp only; split))

@[simp] theorem Device.loopAnswer_calm (s : Device) (p : HwParts) (t2 t3 : Nat) : Device.Calm (Device.loopAnswer s p t2 t3) s := by
  unfold Device.Calm Device.loopAnswer; simp

@[simp] theorem Device.atPrimary_calm (s : Device) (typ : Nat) (f : HwFrame) (h : HwParts → Device → Device)
    (hh : ∀ p x, (h p x).Calm x) : Device.Calm (s.atPrimary typ f h) s := by
  unfold Device.atPrimary; dsimp only; split
  · exact Device.hwReceive_calm _ _ _ _ fun p x => calm_ite (hh p x) (.refl x)
  · exact .refl s

@[simp] theorem Device.synced_calm (s : Device) (k : Nat) (b : Bytes) : Device.Calm (Device.synced s k b) s := by
  unfold Device.Calm Device.synced; split <;> simp

@[simp] theorem Device.badSyncRsp_calm (s : Device) : Device.Calm (Device.badSyncRsp s) s := by
  unfold Device.Calm Device.badSyncRsp; repeat' (first | (simp; done) | split)

@[simp] theorem Device.hwOnAck_calm (p : HwParts) (x : Device) : Device.Calm (Device.hwOnAck p x) x := by
  unfold Device.Calm Device.hwOnAck; repeat' (first | simp | split)

/-! ## Windows -/

@[simp] theorem Device.passWindow_calm (s : Device) (i : Nat) : Device.Calm (Device.passWindow s i) s := by
  unfold Device.Calm Device.passWindow; simp

@[simp] theorem Device.skipWindow_calm (s : Device) (i : Nat) : Device.Calm (Device.skipWindow s i) s := by
  unfold Device.Calm Device.skipWindow; simp

@[simp] theorem Device.openWindow_calm (s : Device) (c : Child) : Device.Calm (Device.openWindow s c) s := by
  unfold Device.Calm Device.openWindow; repeat' (first | (simp; done) | split | (dsimp only; split))

@[simp] theorem Device.beginSearch_calm (s : Device) (i : Nat) : Device.Calm (Device.beginSearch s i) s := by
  unfold Device.Calm Device.beginSearch; simp

@[simp] theorem Device.missWindow_calm (s : Device) (c : Child) : Device.Calm (Device.missWindow s c) s := by
  unfold Device.Calm Device.missWindow; dsimp only; split <;> simp

@[simp] theorem Device.openSearch_calm (s : Device) (c : Child) : Device.Calm (Device.openSearch s c) s := by
  unfold Device.Calm Device.openSearch; repeat' (first | (simp; done) | split | (dsimp only; split))

@[simp] theorem Device.evict_calm (s : Device) (c : Child) : Device.Calm (Device.evict s c) s := by
  unfold Device.Calm Device.evict; simp

@[simp] theorem Device.setEntry_calm (s : Device) (k : Nat) (q : QEntry) : Device.Calm (Device.setEntry s k q) s := by
  unfold Device.Calm Device.setEntry; simp

/-! ## Wmbus -/

@[simp] theorem Device.wmNext_calm (s : Device) : Device.Calm (Device.wmNext s) s := by
  unfold Device.Calm Device.wmNext; simp

@[simp] theorem Device.wmSend_calm (s : Device) (key : Bytes) : Device.Calm (Device.wmSend s key) s := by
  unfold Device.Calm Device.wmSend; repeat' (first | (simp; done) | split | (dsimp only; split))

end Sys2Proof.Machine
end

