-- ==== Sys2Proof/Laws/Kids.lean ====
section
/-! SUPPORT. What sending and the end of an exchange leave alone: the neighbour table and the own link of the radio. -/

namespace Sys2Proof.Machine

/-- The neighbour table, the own link and the plan of the own contacts are the same (R380, R382). -/
abbrev Device.Kids (t s : Device) : Prop :=
  t.radio.children = s.radio.children ∧ t.radio.role = s.radio.role ∧ t.radio.phy = s.radio.phy ∧ t.radio.link = s.radio.link ∧ t.radio.ownShort = s.radio.ownShort ∧ t.radio.parentEui = s.radio.parentEui ∧ t.radio.tContact = s.radio.tContact ∧ t.radio.nextCh = s.radio.nextCh ∧ t.radio.orphanRun = s.radio.orphanRun ∧ t.radio.rssiUp = s.radio.rssiUp ∧ t.radio.lastTime = s.radio.lastTime ∧ t.radio.contacts = s.radio.contacts ∧ t.radio.cfg = s.radio.cfg ∧ t.radio.netId = s.radio.netId ∧ t.radio.searchMs = s.radio.searchMs ∧ t.radio.joinOpen = s.radio.joinOpen ∧ t.radio.accessNo = s.radio.accessNo

theorem Device.Kids.refl (s : Device) : s.Kids s := ⟨rfl, rfl, rfl, rfl, rfl, rfl, rfl, rfl, rfl, rfl, rfl, rfl, rfl, rfl, rfl, rfl, rfl⟩

theorem Device.Kids.trans {a b c : Device} (h : a.Kids b) (k : b.Kids c) : a.Kids c := by
  obtain ⟨h1, h2, h3, h4, h5, h6, h7, h8, h9, h10, h11, h12, h13, h14, h15, h16, h17⟩ := h
  obtain ⟨k1, k2, k3, k4, k5, k6, k7, k8, k9, k10, k11, k12, k13, k14, k15, k16, k17⟩ := k
  exact ⟨h1.trans k1, h2.trans k2, h3.trans k3, h4.trans k4, h5.trans k5, h6.trans k6, h7.trans k7, h8.trans k8, h9.trans k9, h10.trans k10, h11.trans k11, h12.trans k12, h13.trans k13, h14.trans k14, h15.trans k15, h16.trans k16, h17.trans k17⟩

theorem foldl_kids {α : Type} (f : Device → α → Device) (h : ∀ s a, (f s a).Kids s) (l : List α) (s : Device) :
    (l.foldl f s).Kids s := by
  induction l generalizing s with
  | nil => exact .refl s
  | cons a l ih => rw [List.foldl_cons]; exact (ih _).trans (h s a)

theorem kids_ite {c : Prop} [Decidable c] {a b x : Device} (h : a.Kids x) (k : b.Kids x) :
    (if c then a else b).Kids x := by
  split <;> assumption

/-! ## Ops -/

@[simp] theorem Device.loadShadow_kids (s : Device) (i : Nat) : Device.Kids (Device.loadShadow s i) s := by
  unfold Device.Kids Device.loadShadow; simp

@[simp] theorem Device.draw_kids (s : Device) : Device.Kids (Device.draw s).2 s := by
  unfold Device.Kids Device.draw; simp

@[simp] theorem Device.stepRan_kids (s : Device) (u : Nat) : Device.Kids (Device.stepRan s u) s := by
  unfold Device.Kids Device.stepRan; simp

@[simp] theorem Device.commit_kids (s : Device) : Device.Kids (Device.commit s) s := by
  unfold Device.Kids Device.commit; split <;> simp

@[simp] theorem Device.journalWith_kids (s : Device) (t : Nat) (untrusted : Bool) (code arg0 arg1 : Nat) : Device.Kids (Device.journalWith s t untrusted code arg0 arg1) s := by
  unfold Device.Kids Device.journalWith; split <;> simp

@[simp] theorem Device.journalAt_kids (s : Device) (t code arg0 arg1 : Nat) : Device.Kids (Device.journalAt s t code arg0 arg1) s := by
  unfold Device.Kids Device.journalAt; simp

@[simp] theorem Device.journal_kids (s : Device) (code arg0 arg1 : Nat) : Device.Kids (Device.journal s code arg0 arg1) s := by
  unfold Device.Kids Device.journal; simp

@[simp] theorem Device.journal64_kids (s : Device) (code : Nat) (v : Int) : Device.Kids (Device.journal64 s code v) s := by
  unfold Device.Kids Device.journal64; simp

@[simp] theorem Device.refuse_kids (s : Device) (i : Nat) : Device.Kids (Device.refuse s i) s := by
  unfold Device.Kids Device.refuse; simp

@[simp] theorem Device.refuseN_kids (s : Device) (i n : Nat) : Device.Kids (Device.refuseN s i n) s := by
  unfold Device.Kids Device.refuseN; simp

@[simp] theorem Device.tamperWith_kids (s : Device) (k t : Nat) (untrusted : Bool) : Device.Kids (Device.tamperWith s k t untrusted) s := by
  unfold Device.tamperWith; split
  · split
    · exact .refl _
    · dsimp only; split
      · exact Device.commit_kids _
      · exact Device.journalWith_kids _ _ _ _ _ _
  · exact .refl _

@[simp] theorem Device.tamperAt_kids (s : Device) (k t : Nat) : Device.Kids (Device.tamperAt s k t) s := by
  unfold Device.Kids Device.tamperAt; repeat' (first | (simp; done) | split | (dsimp only; split))

@[simp] theorem Device.tamper_kids (s : Device) (k : Nat) : Device.Kids (Device.tamper s k) s := by
  unfold Device.Kids Device.tamper; simp

@[simp] theorem Device.degrade_kids (s : Device) (f : Degraded → Degraded) : Device.Kids (Device.degrade s f) s := by
  unfold Device.Kids Device.degrade; simp

@[simp] theorem Device.arm_kids (s : Device) (i target : Nat) (elapsed : Bool) : Device.Kids (s.arm i target elapsed) s := by
  unfold Device.Kids Device.arm; split <;> simp

@[simp] theorem Device.disarm_kids (s : Device) (i : Nat) : Device.Kids (s.disarm i) s := by
  unfold Device.Kids Device.disarm; split <;> simp

@[simp] theorem Device.elapse_kids (s : Device) (n : Nat) : Device.Kids (Device.elapse s n) s := by
  unfold Device.Kids Device.elapse; split <;> simp

@[simp] theorem Device.pwrUpdate_kids (s : Device) : Device.Kids (Device.pwrUpdate s) s := by
  unfold Device.Kids Device.pwrUpdate; simp

@[simp] theorem Device.toRun_kids (s : Device) : Device.Kids (Device.toRun s) s := by
  unfold Device.Kids Device.toRun; simp

@[simp] theorem Device.wentOff_kids (s : Device) (k : Func) : Device.Kids (Device.wentOff s k) s := by
  unfold Device.Kids Device.wentOff; split <;> simp

@[simp] theorem Device.owe_kids (s : Device) (i n : Nat) : Device.Kids (Device.owe s i n) s := by
  unfold Device.Kids Device.owe; repeat' (first | (simp; done) | split | (dsimp only; split))

@[simp] theorem Device.oweMode_kids (s : Device) (m n : Nat) : Device.Kids (Device.oweMode s m n) s := by
  unfold Device.Kids Device.oweMode; repeat' (first | (simp; done) | split)

/-! ## Air -/

@[simp] theorem Device.pickKey_kids (s : Device) (up : Bool) : Device.Kids (Device.pickKey s up).2 s := by
  unfold Device.Kids Device.pickKey; split <;> simp

@[simp] theorem Device.count_kids (s : Device) (k : Nat) : Device.Kids (Device.count s k) s := by
  unfold Device.Kids Device.count; simp

@[simp] theorem Device.budgetHit_kids (s : Device) : Device.Kids (Device.budgetHit s) s := by
  unfold Device.Kids Device.budgetHit; dsimp only; split <;> simp

@[simp] theorem Device.fcntCheck_kids (s : Device) : Device.Kids (Device.fcntCheck s) s := by
  unfold Device.Kids Device.fcntCheck; split <;> simp

@[simp] theorem Device.onAir_kids (s : Device) (ch : Nat) (b : Bytes) : Device.Kids (Device.onAir s ch b) s := by
  unfold Device.Kids Device.onAir; simp

@[simp] theorem Device.sendAir_kids (s : Device) (up : Bool) (ch : Nat) (h : AirHeader) (payload : Bytes) : Device.Kids ((Device.sendAir s up ch h payload).2) s := by
  unfold Device.sendAir; split
  · exact .refl s
  split
  · exact Device.fcntCheck_kids s
  dsimp only
  generalize (if h.longSrc = true then 18 else 12) = n
  split
  · exact Device.budgetHit_kids s
  · refine ((Device.fcntCheck_kids _).trans (Device.onAir_kids ..)).trans ?_
    unfold Device.Kids Radio.takeFcnt; simp

/-! ## Sched -/

@[simp] theorem Device.armWindows_kids (s : Device) : Device.Kids (Device.armWindows s) s := by
  unfold Device.Kids Device.armWindows; repeat' (first | (simp; done) | split | (dsimp only; split))

@[simp] theorem Device.wmArm_kids (s : Device) : Device.Kids (Device.wmArm s) s := by
  unfold Device.Kids Device.wmArm; simp

@[simp] theorem Device.wmStart_kids (s : Device) : Device.Kids (Device.wmStart s) s := by
  unfold Device.Kids Device.wmStart; split <;> simp

/-! ## Security -/

@[simp] theorem Device.waitSet_kids (s : Device) (p : Option PendSet) : Device.Kids (Device.waitSet s p) s := by
  unfold Device.Kids Device.waitSet; split <;> simp

/-! ## Ferry -/

@[simp] theorem Device.setExch_kids (s : Device) (e : Exchange) : Device.Kids (Device.setExch s e) s := by
  unfold Device.Kids Device.setExch; simp

@[simp] theorem Device.endExchange_kids (s : Device) : Device.Kids (Device.endExchange s) s := by
  unfold Device.Kids Device.endExchange Radio.endExch; split
  · unfold Radio.landed Radio.dropReasm Radio.cutShort; repeat' (first | (simp; done) | split)
  · simp

@[simp] theorem Device.sendIn_kids (s : Device) (x : Sent) (payload : Bytes) (more : Bool) : Device.Kids (Device.sendIn s x payload more) s := by
  unfold Device.Kids Device.sendIn; repeat' (first | (simp; done) | split | (dsimp only; split))

@[simp] theorem Device.forwardData_kids (s : Device) : Device.Kids (Device.forwardData s).2 s := by
  unfold Device.Kids Device.forwardData; simp

@[simp] theorem Device.digestSent_kids (s : Device) (items : Bytes) : Device.Kids (Device.digestSent s items) s := by
  unfold Device.Kids Device.digestSent; split <;> simp

@[simp] theorem Device.ownData_kids (s : Device) : Device.Kids (Device.ownData s).2 s := by
  unfold Device.Kids Device.ownData; simp

@[simp] theorem Device.dataAcked_kids (s : Device) : Device.Kids (Device.dataAcked s) s := by
  unfold Device.Kids Device.dataAcked; simp

@[simp] theorem Device.sendForward_kids (s : Device) : Device.Kids (Device.sendForward s) s := by
  unfold Device.Kids Device.sendForward; simp

@[simp] theorem Device.afterAckUp_kids (s : Device) : Device.Kids (Device.afterAckUp s) s := by
  unfold Device.Kids Device.afterAckUp; repeat' (first | (simp; done) | split)

@[simp] theorem Device.airClear_kids (s : Device) : Device.Kids (Device.airClear s) s := by
  unfold Device.Kids Device.airClear; simp

@[simp] theorem Device.contactFrame_kids (s : Device) : Device.Kids (Device.contactFrame s) s := by
  unfold Device.Kids Device.contactFrame; repeat' (first | (simp; done) | split)

@[simp] theorem Device.chooseNext_kids (s : Device) (c : Child) (t : Nat) : Device.Kids (Device.chooseNext s c t).2 s := by
  unfold Device.Kids Device.chooseNext; dsimp only; split <;> simp

@[simp] theorem Device.timeSfd_kids (s : Device) (t : Nat) : Device.Kids (Device.timeSfd s t).2 s := by
  unfold Device.Kids Device.timeSfd; simp

@[simp] theorem Device.sendTodo_kids (s : Device) (t : Nat) : Device.Kids (Device.sendTodo s t) s := by
  unfold Device.Kids Device.sendTodo; repeat' (first | (simp; done) | split)

@[simp] theorem Device.afterAckDown_kids (s : Device) (t : Nat) : Device.Kids (Device.afterAckDown s t) s := by
  unfold Device.Kids Device.afterAckDown; repeat' (first | simp | split)

@[simp] theorem Device.ackStranger_kids (s : Device) (ch : Nat) (h : AirHeader) (fcnt short : Nat) : Device.Kids (Device.ackStranger s ch h fcnt short) s := by
  unfold Device.Kids Device.ackStranger; simp

@[simp] theorem Device.airBad_kids (s : Device) : Device.Kids (Device.airBad s) s := by
  unfold Device.Kids Device.airBad; simp

/-- A frame of the upper side touches no child's entry. -/
@[simp] theorem Device.noted_up (s : Device) (x : Heard) (h : x.link = .up) : s.noted x = s := by
  unfold Device.noted; rw [h]

theorem Device.gotIn_kids (s : Device) (x : Heard) (h : x.link = .up) : Device.Kids (Device.gotIn s x) s := by
  unfold Device.Kids Device.gotIn; rw [Device.noted_up s x h]; dsimp only; split <;> simp

@[simp] theorem Device.childBegin_kids (s : Device) (i : Nat) (x : Heard) : Device.Kids (Device.childBegin s i x) s := by
  unfold Device.childBegin; dsimp only
  refine (Device.setExch_kids _ _).trans ?_
  cases s.radio.exch with
  | none => exact .refl _
  | some e =>
    dsimp only
    unfold Radio.cutShort
    split <;> exact ⟨rfl, rfl, rfl, rfl, rfl, rfl, rfl, rfl, rfl, rfl, rfl, rfl, rfl, rfl, rfl, rfl, rfl⟩

@[simp] theorem Device.cacheDigest_kids (s : Device) (i : Nat) (l : List RxItem) : Device.Kids (Device.cacheDigest s i l) s := by
  unfold Device.Kids Device.cacheDigest; split <;> simp

@[simp] theorem Device.readAnswered_kids (s : Device) (i k : Nat) (l : List RxItem) : Device.Kids (Device.readAnswered s i k l) s := by
  unfold Device.Kids Device.readAnswered; simp

@[simp] theorem Device.joinReply_kids (s : Device) (x : Heard) (status nextIn nextCh tRel : Nat) (pending : Bool) : Device.Kids (Device.joinReply s x status nextIn nextCh tRel pending).2 s := by
  unfold Device.Kids Device.joinReply; simp

@[simp] theorem Device.noteDone_kids (s : Device) (i k st : Nat) : Device.Kids (Device.noteDone s i k st) s := by
  unfold Device.Kids Device.noteDone; repeat' (first | (simp; done) | split)

@[simp] theorem Device.ackUpper_kids (s : Device) (fcnt status tRel : Nat) : Device.Kids (Device.ackUpper s fcnt status tRel) s := by
  unfold Device.Kids Device.ackUpper; simp

@[simp] theorem Device.keepAck_kids (s : Device) (status tRel : Nat) (slot : Option Nat) : Device.Kids (Device.keepAck s status tRel slot) s := by
  unfold Device.Kids Device.keepAck; repeat' (first | (simp; done) | split | (dsimp only; split))

@[simp] theorem Device.ackAgain_kids (s : Device) (x : Heard) : Device.Kids (Device.ackAgain s x) s := by
  unfold Device.Kids Device.ackAgain; repeat' (first | (simp; done) | split | (dsimp only; split))

@[simp] theorem Device.decideRead_kids (s : Device) (x : Heard) (short : Nat) (l : List ObjRef) : Device.Kids (Device.decideRead s x short l).2.2 s := by
  unfold Device.Kids Device.decideRead; repeat' (first | (simp; done) | split | (dsimp only; split))

@[simp] theorem Device.onRead_kids (x : Heard) (s : Device) : Device.Kids (Device.onRead x s) s := by
  unfold Device.onRead
  dsimp only
  split
  · exact Device.airBad_kids s
  · rename_i h
    have up : x.link = .up := by by_cases k : x.link = .up <;> simp_all
    have g := s.gotIn_kids x up
    unfold Device.Kids at g ⊢
    repeat' (first | (simp [g]; done) | split)

@[simp] theorem Device.fragAck_kids (s : Device) (x : Heard) (status : Nat) (slot : Option Nat) : Device.Kids (Device.fragAck s x status slot) s := by
  unfold Device.Kids Device.fragAck; simp

@[simp] theorem Device.ackRefused_kids (s : Device) (x : Heard) (status tRel : Nat) : Device.Kids (Device.ackRefused s x status tRel) s := by
  unfold Device.Kids Device.ackRefused; repeat' (first | (simp; done) | split | (dsimp only; split))

/-! ## Windows -/

@[simp] theorem Device.setEntry_kids (s : Device) (k : Nat) (q : QEntry) : Device.Kids (Device.setEntry s k q) s := by
  unfold Device.Kids Device.setEntry; simp

end Sys2Proof.Machine
end

