-- ==== Sys2Proof/Laws/Children.lean ====
section
/-! SUPPORT. The neighbour table under its updates, and the plan of a child's next contact (R364, R367). -/

namespace Sys2Proof.Machine

theorem Radio.child_idx {r : Radio} {i : Nat} {c : Child} (h : r.child i = some c) : c.idx = i := by
  have := List.find?_some h
  simpa using this

theorem find_map_same (l : List Child) (i : Nat) (f : Child → Child) (hf : ∀ c, c.idx = i → (f c).idx = i) :
    (l.map fun c => if c.idx = i then f c else c).find? (·.idx == i) = (l.find? (·.idx == i)).map f := by
  induction l with
  | nil => rfl
  | cons a l ih =>
    by_cases h : a.idx = i
    · simp [h, hf a h]
    · simp [h, ih]

theorem find_map_ne (l : List Child) (i j : Nat) (f : Child → Child) (hf : ∀ c, c.idx = i → (f c).idx = i) (n : j ≠ i) :
    (l.map fun c => if c.idx = i then f c else c).find? (·.idx == j) = l.find? (·.idx == j) := by
  induction l with
  | nil => rfl
  | cons a l ih =>
    by_cases h : a.idx = i
    · have h2 : ¬(f a).idx = j := by rw [hf a h]; exact fun k => n k.symm
      have h3 : ¬a.idx = j := by rw [h]; exact fun k => n k.symm
      simp [h, h2, h3, ih]; simp [h3, ← h]
    · simp [h, List.find?_cons, ih]

/-- An update of entry i is read at i. -/
theorem Radio.child_setChild {r : Radio} {i : Nat} {c : Child} (f : Child → Child) (h : r.child i = some c)
    (hf : ∀ c, c.idx = i → (f c).idx = i) : (r.setChild i f).child i = some (f c) := by
  unfold Radio.child Radio.setChild at *
  rw [find_map_same _ _ _ hf, h]; rfl

/-- An update of entry i leaves the others. -/
theorem Radio.child_setChild_ne (r : Radio) (i j : Nat) (f : Child → Child) (hf : ∀ c, c.idx = i → (f c).idx = i) (n : j ≠ i) :
    (r.setChild i f).child j = r.child j := by
  unfold Radio.child Radio.setChild
  exact find_map_ne _ _ _ _ hf n

theorem Device.child_setChild_ne (s : Device) (i j : Nat) (f : Child → Child) (hf : ∀ c, c.idx = i → (f c).idx = i)
    (n : j ≠ i) : (s.setChild i f).radio.child j = s.radio.child j := Radio.child_setChild_ne _ i j f hf n

theorem Device.child_of_kids {t s : Device} (h : t.Kids s) (i : Nat) : t.radio.child i = s.radio.child i := by
  unfold Radio.child; rw [h.1]

/-- `next_in` lies within 1/64 of the interval. -/
theorem Device.chooseNext_range (s : Device) (c : Child) (t : Nat) :
    c.contactEvery * 32768 - c.contactEvery * 32768 / 64 ≤ (s.chooseNext c t).1 ∧
      (s.chooseNext c t).1 ≤ c.contactEvery * 32768 + c.contactEvery * 32768 / 64 := by
  unfold Device.chooseNext
  dsimp only
  have hx := Nat.mod_lt s.draw.1 (show 0 < c.contactEvery * 32768 + c.contactEvery * 32768 / 64 -
    (c.contactEvery * 32768 - c.contactEvery * 32768 / 64) + 1 by omega)
  split
  · constructor <;> dsimp only <;> omega
  · dsimp only
    cases hg : ((s.nextEdges c t (c.contactEvery * 32768 - c.contactEvery * 32768 / 64)
        (c.contactEvery * 32768 + c.contactEvery * 32768 / 64)).find? (s.nextOk c t)) with
    | none => simp only [Option.getD_none]; constructor <;> omega
    | some n =>
      have hm := List.mem_of_find?_eq_some hg
      unfold Device.nextEdges at hm
      simp only [List.mem_append, List.mem_cons, List.mem_filter, List.not_mem_nil, or_false, Bool.and_eq_true,
        decide_eq_true_eq] at hm
      simp only [Option.getD_some]
      rcases hm with (rfl | rfl) | ⟨_, h1, h2⟩ <;> constructor <;> omega

/-- The plan of a child after an ACK (R364, R367): its expectation lies `next_in` after the ACK, its other fields stay. -/
theorem Device.planChild_spec (s : Device) (i t : Nat) (c : Child) (h : s.radio.child i = some c) :
    ∃ n ch, c.contactEvery * 32768 - c.contactEvery * 32768 / 64 ≤ n ∧ n ≤ c.contactEvery * 32768 + c.contactEvery * 32768 / 64 ∧
      ch < max 1 s.radioP.chCount ∧ (s.planChild i t).2.2.radio.child i = some { c with
        tExp := expectAt (64 * (t : Int)) n c.d, tNext := min (expectAt (64 * (t : Int)) n c.d / 64).toNat tickMax, nextCh := ch } ∧
      ∀ j, j ≠ i → (s.planChild i t).2.2.radio.child j = s.radio.child j := by
  have r := s.chooseNext_range c t
  unfold Device.planChild
  rw [h]
  dsimp only
  have k : (s.chooseNext c t).2.draw.2.radio.children = s.radio.children := by
    have a := (Device.draw_kids (s.chooseNext c t).2).trans (Device.chooseNext_kids s c t)
    exact a.1
  have k2 : (s.chooseNext c t).2.draw.2.radio.child i = some c := by unfold Radio.child at *; rw [k]; exact h
  refine ⟨(s.chooseNext c t).1, (s.chooseNext c t).2.draw.1 % max 1 s.radioP.chCount, r.1, r.2, Nat.mod_lt _ (by omega), ?_, ?_⟩
  · exact Radio.child_setChild _ k2 fun _ h => h
  · intro j n
    refine (Device.child_setChild_ne _ i j _ (by intro c h; exact h) n).trans ?_
    unfold Radio.child; rw [k]

/-- The replay bitmap and the stamp of a contact frame keep the child's place in the table. -/
theorem Device.replay_child (s : Device) (i n : Nat) (w : Bool) (c : Child) (h : s.radio.child i = some c) :
    ∃ h' b' n', ((s.replay (.child i) w n).2).radio.child i = some { c with fcntH := h', bitmap := b', seen := n' } ∧
      (∀ j, j ≠ i → ((s.replay (.child i) w n).2).radio.child j = s.radio.child j) ∧
      (s.replay (.child i) w n).2 = { s with radio := { s.radio with children := ((s.replay (.child i) w n).2).radio.children } } := by
  have e : (s.replay (.child i) w n).2 = (match replayOf c.seen c.fcntH c.bitmap n with
      | .accept x y => s.setChild i fun c => { c with fcntH := x, bitmap := y, seen := true }
      | .again | .drop => s) := by
    cases hv : replayOf c.seen c.fcntH c.bitmap n <;> simp [Device.replay, h, hv]
  rw [e]
  split
  · rename_i x y _
    refine ⟨x, y, true, Radio.child_setChild _ h fun _ h => h, fun j n => ?_, rfl⟩
    exact Device.child_setChild_ne _ i j _ (by intro c h; exact h) n
  · exact ⟨c.fcntH, c.bitmap, c.seen, h, fun _ _ => rfl, rfl⟩
  · exact ⟨c.fcntH, c.bitmap, c.seen, h, fun _ _ => rfl, rfl⟩

/-- The child that a contact frame leaves (R364, R366). -/
theorem Device.childContact_spec (s : Device) (i : Nat) (f : RxFrame) (h : AirHeader) (c : Child) (hc : s.radio.child i = some c) :
    ∃ b, (s.childContact i f h).radio.child i = some b ∧ b.missRun = 0 ∧ b.searchLevel = 0 ∧ b.search = false ∧
      b.windowOpen = false ∧ b.lastFrame = s.land.tick ∧ b.tSync = f.sfd / 64 ∧ b.eui = c.eui ∧
      b.contactEvery = c.contactEvery ∧ b.phy = c.phy ∧ b.timeUntrusted = h.timeReq ∧
      ∀ j, j ≠ i → (s.childContact i f h).radio.child j = s.radio.child j := by
  have hi := Radio.child_idx hc
  unfold Device.childContact
  rw [hc]
  dsimp only
  generalize hx : (if c.search = true then { c with driftValid := false, d := 0 }
    else if c.windowOpen = true then c.learn f.sfd else c) = x
  have hk : x.idx = i ∧ x.eui = c.eui ∧ x.contactEvery = c.contactEvery ∧ x.phy = c.phy := by
    subst hx
    repeat' split
    all_goals first
      | exact ⟨hi, rfl, rfl, rfl⟩
      | (unfold Child.learn; dsimp only; repeat' split
         all_goals exact ⟨hi, rfl, rfl, rfl⟩)
  obtain ⟨k1, k3, k4, k5⟩ := hk
  have a : (s.setChild i fun _ => x.heard f h.timeReq s.land.tick).radio.child i = some (x.heard f h.timeReq s.land.tick) :=
    Radio.child_setChild _ hc fun _ _ => k1
  have b : ∀ j, j ≠ i → (s.setChild i fun _ => x.heard f h.timeReq s.land.tick).radio.child j = s.radio.child j :=
    fun j n => Device.child_setChild_ne _ i j _ (fun _ _ => k1) n
  split
  · refine ⟨_, (Device.child_of_kids (Device.journal_kids _ _ _ _) i).trans a, rfl, rfl, rfl, rfl, rfl, rfl, k3, k4, k5, rfl, ?_⟩
    intro j n
    exact (Device.child_of_kids (Device.journal_kids _ _ _ _) j).trans (b j n)
  · exact ⟨_, a, rfl, rfl, rfl, rfl, rfl, rfl, k3, k4, k5, rfl, b⟩

/-- The ACK of a contact plans the next one and touches no other entry. -/
theorem Device.ackChild_spec (s : Device) (i fcnt st rel t : Nat) (c : Child) (h : s.radio.child i = some c) :
    ∃ n ch, c.contactEvery * 32768 - c.contactEvery * 32768 / 64 ≤ n ∧ n ≤ c.contactEvery * 32768 + c.contactEvery * 32768 / 64 ∧
      ch < max 1 s.radioP.chCount ∧ (s.ackChild i fcnt st rel t).radio.child i = some { c with
        tExp := expectAt (64 * (t : Int)) n c.d, tNext := min (expectAt (64 * (t : Int)) n c.d / 64).toNat tickMax, nextCh := ch } ∧
      ∀ j, j ≠ i → (s.ackChild i fcnt st rel t).radio.child j = s.radio.child j := by
  obtain ⟨n, ch, a1, a2, a3, a4, a5⟩ := s.planChild_spec i t c h
  have k := (Device.afterAckDown_kids ((s.planChild i t).2.2.sendIn .ack ((s.planChild i t).2.2.ackBytes fcnt st (s.planChild i t).1
    (s.planChild i t).2.1 rel) ((s.planChild i t).2.2.radio.exch.any fun e => !e.todo.isEmpty)) t).trans (Device.sendIn_kids ..)
  exact ⟨n, ch, a1, a2, a3, (Device.child_of_kids k i).trans a4, fun j hj => (Device.child_of_kids k j).trans (a5 j hj)⟩

end Sys2Proof.Machine
end

