-- ==== Sys2Proof/Laws/Clock.lean ====
section
/-! SUPPORT. Where the start sequence stands and what the clock says: unchanged by every operation but the few that
move them. -/

namespace Sys2Proof.Machine

/-- Where the start sequence stands, the clock and its trust are the same (R298, R304, R479). -/
abbrev Device.Same (t s : Device) : Prop :=
  t.power.phase = s.power.phase ∧ t.power.held = s.power.held ∧ t.power.landRestarted = s.power.landRestarted ∧
    t.power.coldDue = s.power.coldDue ∧ t.power.startCause = s.power.startCause ∧ t.land.tick = s.land.tick ∧
    t.land.osc = s.land.osc ∧ t.land.oscStopped = s.land.oscStopped ∧ t.land.neverSet = s.land.neverSet ∧
    t.land.lfxRunning = s.land.lfxRunning ∧ t.land.supply = s.land.supply

theorem Device.Same.refl (s : Device) : s.Same s := ⟨rfl, rfl, rfl, rfl, rfl, rfl, rfl, rfl, rfl, rfl, rfl⟩

theorem Device.Same.trans {a b c : Device} (h : a.Same b) (k : b.Same c) : a.Same c := by
  obtain ⟨h1, h2, h3, h4, h5, h6, h7, h8, h9, h10, h11⟩ := h
  obtain ⟨k1, k2, k3, k4, k5, k6, k7, k8, k9, k10, k11⟩ := k
  exact ⟨h1.trans k1, h2.trans k2, h3.trans k3, h4.trans k4, h5.trans k5, h6.trans k6, h7.trans k7, h8.trans k8, h9.trans k9,
    h10.trans k10, h11.trans k11⟩

theorem foldl_same {α : Type} (f : Device → α → Device) (h : ∀ s a, (f s a).Same s) (l : List α) (s : Device) :
    (l.foldl f s).Same s := by
  induction l generalizing s with
  | nil => exact .refl s
  | cons a l ih => rw [List.foldl_cons]; exact (ih _).trans (h s a)

theorem same_ite {c : Prop} [Decidable c] {a b x : Device} (h : a.Same x) (k : b.Same x) :
    (if c then a else b).Same x := by
  split <;> assumption

/-! ## Ops -/

@[simp] theorem Device.loadShadow_same (s : Device) (i : Nat) : Device.Same (Device.loadShadow s i) s := by
  unfold Device.Same Device.loadShadow; simp

@[simp] theorem Device.draw_same (s : Device) : Device.Same (Device.draw s).2 s := by
  unfold Device.Same Device.draw; simp

@[simp] theorem Device.stepRan_same (s : Device) (u : Nat) : Device.Same (Device.stepRan s u) s := by
  unfold Device.Same Device.stepRan; simp

@[simp] theorem Device.commit_same (s : Device) : Device.Same (Device.commit s) s := by
  unfold Device.Same Device.commit; split <;> simp

@[simp] theorem Device.journalWith_same (s : Device) (t : Nat) (untrusted : Bool) (code arg0 arg1 : Nat) : Device.Same (Device.journalWith s t untrusted code arg0 arg1) s := by
  unfold Device.Same Device.journalWith; split <;> simp

@[simp] theorem Device.journalAt_same (s : Device) (t code arg0 arg1 : Nat) : Device.Same (Device.journalAt s t code arg0 arg1) s := by
  unfold Device.Same Device.journalAt; simp

@[simp] theorem Device.journal_same (s : Device) (code arg0 arg1 : Nat) : Device.Same (Device.journal s code arg0 arg1) s := by
  unfold Device.Same Device.journal; simp

@[simp] theorem Device.journal64_same (s : Device) (code : Nat) (v : Int) : Device.Same (Device.journal64 s code v) s := by
  unfold Device.Same Device.journal64; simp

@[simp] theorem Device.refuse_same (s : Device) (i : Nat) : Device.Same (Device.refuse s i) s := by
  unfold Device.Same Device.refuse; simp

@[simp] theorem Device.refuseN_same (s : Device) (i n : Nat) : Device.Same (Device.refuseN s i n) s := by
  unfold Device.Same Device.refuseN; simp

@[simp] theorem Device.tamperWith_same (s : Device) (k t : Nat) (untrusted : Bool) : Device.Same (Device.tamperWith s k t untrusted) s := by
  unfold Device.tamperWith; split
  · split
    · exact .refl _
    · dsimp only; split
      · exact Device.commit_same _
      · exact Device.journalWith_same _ _ _ _ _ _
  · exact .refl _

@[simp] theorem Device.tamperAt_same (s : Device) (k t : Nat) : Device.Same (Device.tamperAt s k t) s := by
  unfold Device.Same Device.tamperAt; repeat' (first | (simp; done) | split | (dsimp only; split))

@[simp] theorem Device.tamper_same (s : Device) (k : Nat) : Device.Same (Device.tamper s k) s := by
  unfold Device.Same Device.tamper; simp

@[simp] theorem Device.degrade_same (s : Device) (f : Degraded → Degraded) : Device.Same (Device.degrade s f) s := by
  unfold Device.Same Device.degrade; simp

@[simp] theorem Device.arm_same (s : Device) (i target : Nat) (elapsed : Bool) : Device.Same (s.arm i target elapsed) s := by
  unfold Device.arm; split <;> exact .refl _

@[simp] theorem Device.disarm_same (s : Device) (i : Nat) : Device.Same (s.disarm i) s := by
  unfold Device.disarm; split <;> exact .refl _

@[simp] theorem Device.pwrUpdate_same (s : Device) : Device.Same (Device.pwrUpdate s) s := by
  unfold Device.Same Device.pwrUpdate; simp

@[simp] theorem Device.toRun_same (s : Device) : Device.Same (Device.toRun s) s := by
  unfold Device.Same Device.toRun; simp

@[simp] theorem Device.resetFunc_same (s : Device) (k : Func) : Device.Same (s.resetFunc k) s := by
  cases k <;> exact .refl s

@[simp] theorem Device.stopping_same (s : Device) (k : Func) : Device.Same (Device.stopping s k) s := by
  unfold Device.Same Device.stopping; split <;> simp

@[simp] theorem Device.setFunc_same (s : Device) (k : Func) (v : FuncState) : Device.Same (Device.setFunc s k v) s := by
  unfold Device.Same Device.setFunc; repeat' (first | (simp; done) | split | (dsimp only; split))

@[simp] theorem Device.enable_same (s : Device) (k : Func) : Device.Same (Device.enable s k) s := by
  unfold Device.Same Device.enable; simp

@[simp] theorem Device.disable_same (s : Device) (k : Func) : Device.Same (Device.disable s k) s := by
  unfold Device.Same Device.disable; simp

@[simp] theorem Device.wentOff_same (s : Device) (k : Func) : Device.Same (Device.wentOff s k) s := by
  unfold Device.Same Device.wentOff; split <;> simp

@[simp] theorem Device.drain_same (s : Device) (k : Func) : Device.Same (Device.drain s k) s := by
  unfold Device.Same Device.drain; repeat' (first | (simp; done) | split | (dsimp only; split))

@[simp] theorem Device.bounce_same (s : Device) (k : Func) : Device.Same (Device.bounce s k) s := by
  unfold Device.Same Device.bounce; split <;> simp

@[simp] theorem Device.want_same (s : Device) (k : Func) (b : Bool) : Device.Same (Device.want s k b) s := by
  unfold Device.Same Device.want; split <;> simp

@[simp] theorem Device.owe_same (s : Device) (i n : Nat) : Device.Same (Device.owe s i n) s := by
  unfold Device.Same Device.owe; repeat' (first | (simp; done) | split | (dsimp only; split))

@[simp] theorem Device.oweMode_same (s : Device) (m n : Nat) : Device.Same (Device.oweMode s m n) s := by
  unfold Device.Same Device.oweMode; repeat' (first | (simp; done) | split)

/-! ## Wire -/

@[simp] theorem Device.hwBad_same (s : Device) : Device.Same (Device.hwBad s) s := by
  unfold Device.Same Device.hwBad; simp

@[simp] theorem Device.attend_same (s : Device) : Device.Same (Device.attend s) s := by
  unfold Device.Same Device.attend; simp

@[simp] theorem Device.fireAnswered_same (s : Device) (last : Bool) : Device.Same (Device.fireAnswered s last) s := by
  unfold Device.Same Device.fireAnswered; simp

@[simp] theorem Device.hwReceive_same (s : Device) (typ : Nat) (f : HwFrame) (h : HwParts → Device → Device)
    (hh : ∀ p x, (h p x).Same x) : Device.Same (Device.hwReceive s typ f h) s := by
  unfold Device.hwReceive; split
  · exact .refl s
  · split
    · exact Device.hwBad_same s
    · split
      · exact hh _ _
      · exact .refl s

@[simp] theorem Device.hwBurst_same (s : Device) (n : Nat) : Device.Same (Device.hwBurst s n) s := by
  unfold Device.Same Device.hwBurst; simp

@[simp] theorem Device.hwSend_same (s : Device) (dst typ : Nat) (payload : Bytes) : Device.Same (Device.hwSend s dst typ payload) s := by
  unfold Device.Same Device.hwSend; simp

@[simp] theorem Device.hwAsk_same (s : Device) (dst typ : Nat) (payload : Bytes) : Device.Same (Device.hwAsk s dst typ payload) s := by
  unfold Device.Same Device.hwAsk; simp

/-! ## Wake -/

@[simp] theorem Device.journalLand_same (s : Device) (e : LandEvent) : Device.Same (Device.journalLand s e) s := by
  unfold Device.Same Device.journalLand; repeat' (first | (simp; done) | split)

@[simp] theorem Device.flushEvents_same (s : Device) : Device.Same (s.flushEvents) s := by
  exact foldl_same _ Device.journalLand_same _ _

@[simp] theorem Device.landEvent_same (s : Device) (code arg0 arg1 : Nat) : Device.Same (Device.landEvent s code arg0 arg1) s := by
  unfold Device.Same Device.landEvent; dsimp only; split <;> simp

@[simp] theorem Device.landEventS_same (s : Device) (code : Nat) (v : Int) : Device.Same (Device.landEventS s code v) s := by
  unfold Device.Same Device.landEventS; simp

@[simp] theorem Device.reloadBank0_same (s : Device) : Device.Same (Device.reloadBank0 s) s := by
  unfold Device.Same Device.reloadBank0; simp

@[simp] theorem Device.wakeUp_same (s : Device) (src : Nat) (hib : Bool) : Device.Same (Device.wakeUp s src hib) s := by
  unfold Device.Same Device.wakeUp; split <;> simp

@[simp] theorem Device.woken_same (s : Device) (src : Nat) : Device.Same (Device.woken s src) s := by
  unfold Device.Same Device.woken; repeat' (first | (simp; done) | split | (dsimp only; split))

/-! ## Toll -/

@[simp] theorem Device.creditRise_same (s : Device) (d : Side) (l : SideLedger) (rise : Nat) : Device.Same (Device.creditRise s d l rise) s := by
  unfold Device.Same Device.creditRise; simp

@[simp] theorem Device.routeBilled_same (s : Device) (d : Side) (num : Int) : Device.Same (Device.routeBilled s d num) s := by
  unfold Device.Same Device.routeBilled; dsimp only; split <;> simp

@[simp] theorem Device.routeEst_same (s : Device) (d : Side) (num : Int) : Device.Same (Device.routeEst s d num) s := by
  unfold Device.Same Device.routeEst; simp

@[simp] theorem Device.routeGas_same (s : Device) (ib : Int) (cv : Nat) (billed : Bool) : Device.Same (Device.routeGas s ib cv billed) s := by
  unfold Device.Same Device.routeGas; repeat' (first | (simp; done) | split | (dsimp only; split))

@[simp] theorem Device.convert_same (s : Device) (inc : Int) (billed : Bool) : Device.Same (Device.convert s inc billed) s := by
  unfold Device.Same Device.convert; repeat' (first | (simp; done) | split | (dsimp only; split))

@[simp] theorem Device.unpriced_same (s : Device) : Device.Same (Device.unpriced s) s := by
  unfold Device.Same Device.unpriced; simp

@[simp] theorem Device.powerRule_same (s : Device) : Device.Same (Device.powerRule s) s := by
  unfold Device.Same Device.powerRule; repeat' (first | (simp; done) | split)

@[simp] theorem Device.samplePriced_same (s : Device) : Device.Same (Device.samplePriced s) s := by
  unfold Device.samplePriced; dsimp only; repeat' (first | exact .refl _ | exact Device.powerRule_same _ | split)

@[simp] theorem Device.routeEnergy_same (s : Device) (inc : Int) (q : Option Int) : Device.Same (Device.routeEnergy s inc q) s := by
  unfold Device.Same Device.routeEnergy; repeat' (first | (simp; done) | split)

@[simp] theorem Device.routeEstEnergy_same (s : Device) (inc : Int) : Device.Same (Device.routeEstEnergy s inc) s := by
  unfold Device.Same Device.routeEstEnergy; repeat' (first | (simp; done) | split)

@[simp] theorem Device.accrueEst_same (s : Device) (t : Nat) : Device.Same (Device.accrueEst s t) s := by
  unfold Device.Same Device.accrueEst; repeat' (first | (simp; done) | split)

@[simp] theorem Device.bringUp_same (s : Device) (t : Nat) : Device.Same (Device.bringUp s t) s := by
  unfold Device.Same Device.bringUp; simp

@[simp] theorem Device.safeEdge_same (s : Device) : Device.Same (Device.safeEdge s) s := by
  unfold Device.Same Device.safeEdge; split <;> simp

@[simp] theorem Device.recond_same (s : Device) : Device.Same (Device.recond s) s := by
  unfold Device.Same Device.recond; split <;> simp

@[simp] theorem Device.addVolume_same (s : Device) (inc : Int) : Device.Same (Device.addVolume s inc) s := by
  unfold Device.Same Device.addVolume; repeat' (first | (simp; done) | split | (dsimp only; split))

@[simp] theorem Device.fallDue_same (s : Device) : Device.Same (Device.fallDue s) s := by
  unfold Device.Same Device.fallDue; repeat' (first | (simp; done) | split | (dsimp only; split))

@[simp] theorem Device.tempRule_same (s : Device) : Device.Same (Device.tempRule s) s := by
  unfold Device.Same Device.tempRule; repeat' (first | (simp; done) | split | (dsimp only; split))

@[simp] theorem Device.rateRise_same (s : Device) (q : Option Int) : Device.Same (Device.rateRise s q) s := by
  unfold Device.Same Device.rateRise; repeat' (first | (simp; done) | split)

@[simp] theorem Device.turnMark_same (s : Device) (h : Nat) : Device.Same (Device.turnMark s h) s := by
  unfold Device.Same Device.turnMark; repeat' (first | (simp; done) | split | (dsimp only; split))

@[simp] theorem Device.turnMarks_same (s : Device) (a : Nat) (_x : Nat) : Device.Same (Device.turnMarks s a _x) s := by
  induction _x with
  | zero => unfold Device.turnMarks; exact .refl _
  | succ k ih => unfold Device.turnMarks; exact (Device.turnMark_same _ _).trans ih

@[simp] theorem Device.turnsUp_same (s : Device) (new : Nat) (q : Option Int) : Device.Same (s.turnsUp new q) s := by
  unfold Device.turnsUp; dsimp only
  exact (Device.rateRise_same _ _).trans ((Device.tempRule_same _).trans (Device.turnMarks_same _ _ _))

@[simp] theorem Device.turnsDown_same (s : Device) (n : Nat) : Device.Same (Device.turnsDown s n) s := by
  unfold Device.Same Device.turnsDown; simp

@[simp] theorem Device.turn_same (s : Device) (inc : Int) (q : Option Int) : Device.Same (Device.turn s inc q) s := by
  unfold Device.Same Device.turn; repeat' (first | (simp; done) | split | (dsimp only; split))

@[simp] theorem Device.admitInc_same (s : Device) (inc : Int) (q : Option Int) : Device.Same (Device.admitInc s inc q) s := by
  unfold Device.Same Device.admitInc; repeat' (first | (simp; done) | split | (dsimp only; split))

/-! ## Medium -/

@[simp] theorem Device.setPath_same (s : Device) (i : Nat) (f : PathState → PathState) : Device.Same (Device.setPath s i f) s := by
  unfold Device.Same Device.setPath; simp

@[simp] theorem sosPaths_same (ref : Nat) (l : List Nat) (s : Device) : Device.Same (sosPaths ref l s) s := by
  induction l generalizing s with
  | nil => exact .refl s
  | cons i l ih =>
    unfold sosPaths
    repeat' (first | exact ih _ | (refine (ih _).trans ?_) | (unfold Device.Same; simp; done) | split)

@[simp] theorem Device.sosCheck_same (s : Device) : Device.Same (s.sosCheck) s := by
  unfold Device.sosCheck; split
  · exact .refl s
  · exact (Device.degrade_same _ _).trans (sosPaths_same ..)

@[simp] theorem Device.wPriceStep_same (s : Device) : Device.Same (Device.wPriceStep s) s := by
  unfold Device.Same Device.wPriceStep; dsimp only; split <;> simp

@[simp] theorem Device.adopt_same (s : Device) (m : Medium) (frac : Nat) : Device.Same (Device.adopt s m frac) s := by
  unfold Device.Same Device.adopt; dsimp only; split <;> simp

@[simp] theorem Device.emptyOn_same (s : Device) : Device.Same (Device.emptyOn s) s := by
  unfold Device.Same Device.emptyOn; split <;> simp

@[simp] theorem Device.candidate_same (s : Device) (m : Medium) (frac : Nat) : Device.Same (Device.candidate s m frac) s := by
  unfold Device.Same Device.candidate; repeat' (first | (simp; done) | split | (dsimp only; split))

@[simp] theorem Device.nuStep_same (s : Device) : Device.Same (Device.nuStep s) s := by
  unfold Device.Same Device.nuStep; simp

@[simp] theorem Device.classifyWith_same (s : Device) (c : Nat) : Device.Same (Device.classifyWith s c) s := by
  unfold Device.Same Device.classifyWith; repeat' (first | (simp; done) | split | (dsimp only; split))

@[simp] theorem Device.pairSeen_same (s : Device) (i : Nat) : Device.Same (Device.pairSeen s i) s := by
  unfold Device.Same Device.pairSeen; repeat' (first | (simp; done) | split | (dsimp only; split))

@[simp] theorem Device.classify_same (s : Device) : Device.Same (Device.classify s) s := by
  unfold Device.Same Device.classify; repeat' (first | (simp; done) | split | (dsimp only; split))

/-! ## Flow -/

@[simp] theorem Device.setPort_same (s : Device) (p : Nat) (f : Port → Port) : Device.Same (Device.setPort s p f) s := by
  unfold Device.Same Device.setPort; simp

@[simp] theorem Device.markPort_same (s : Device) (q : Nat × Nat) : Device.Same (Device.markPort s q) s := by
  unfold Device.Same Device.markPort; split <;> simp

@[simp] theorem Device.retirePort_same (s : Device) (q : Nat × Nat) (electrical : Bool) : Device.Same (Device.retirePort s q electrical) s := by
  unfold Device.Same Device.retirePort; repeat' (first | (simp; done) | split | (dsimp only; split))

@[simp] theorem Device.retirePath_same (s : Device) (i cause : Nat) : Device.Same (Device.retirePath s i cause) s := by
  unfold Device.Same Device.retirePath; simp

@[simp] theorem Device.retireFaulty_same (act : List Nat) (s : Device) (q : Nat × Nat) : Device.Same (Device.retireFaulty act s q) s := by
  unfold Device.Same Device.retireFaulty; split <;> simp

@[simp] theorem Device.retireShared_same (act meets : List Nat) (s : Device) (q : Nat × Nat) : Device.Same (Device.retireShared act meets s q) s := by
  unfold Device.Same Device.retireShared; repeat' (first | (simp; done) | split | (dsimp only; split))

@[simp] theorem Device.retireUser_same (s : Device) (i : Nat) : Device.Same (Device.retireUser s i) s := by
  unfold Device.Same Device.retireUser; split <;> simp

@[simp] theorem Device.retireAlone_same (s : Device) (i : Nat) : Device.Same (Device.retireAlone s i) s := by
  unfold Device.Same Device.retireAlone; split <;> simp

@[simp] theorem Device.retire_same (s : Device) : Device.Same (s.retire) s := by
  unfold Device.Same Device.retire; dsimp only
  have a : ∀ (u l : List Nat) (k : List (Nat × Nat)) (x : Device), Device.Same (k.foldl (Device.retireShared u l) x) x :=
    fun u l k x => foldl_same _ (Device.retireShared_same u l) k x
  have b : ∀ (u : List Nat) (k : List (Nat × Nat)) (x : Device), Device.Same (k.foldl (Device.retireFaulty u) x) x :=
    fun u k x => foldl_same _ (Device.retireFaulty_same u) k x
  have c : ∀ (l : List Nat) (x : Device), Device.Same (l.foldl Device.retireUser x) x := fun l x => foldl_same _ Device.retireUser_same l x
  have d : ∀ (l : List Nat) (x : Device), Device.Same (l.foldl Device.retireAlone x) x := fun l x => foldl_same _ Device.retireAlone_same l x
  split <;> simp [a, b, c, d]

@[simp] theorem Device.reconstructWith_same (s : Device) (fc : FlowCal) (si : Nat) (w : WeightSet) : Device.Same (Device.reconstructWith s fc si w).1 s := by
  unfold Device.Same Device.reconstructWith; dsimp only; split <;> simp

@[simp] theorem Device.reconstruct_same (s : Device) : Device.Same (Device.reconstruct s).1 s := by
  unfold Device.Same Device.reconstruct; repeat' (first | (simp; done) | split | (dsimp only; split))

@[simp] theorem Device.armGap_same (s : Device) : Device.Same (Device.armGap s) s := by
  unfold Device.Same Device.armGap; simp

@[simp] theorem Device.formIncrement_same (s : Device) (q : Int) (span : Nat) : Device.Same (Device.formIncrement s q span).1 s := by
  unfold Device.Same Device.formIncrement; simp

@[simp] theorem Device.setPrev_same (s : Device) (t : Nat) : Device.Same (Device.setPrev s t) s := by
  unfold Device.Same Device.setPrev; simp

@[simp] theorem Device.endFlowFault_same (s : Device) (t : Nat) : Device.Same (Device.endFlowFault s t) s := by
  unfold Device.Same Device.endFlowFault; split <;> simp

@[simp] theorem Device.yieldFlow_same (s : Device) (q : Int) : Device.Same (Device.yieldFlow s q) s := by
  unfold Device.Same Device.yieldFlow; split <;> simp

@[simp] theorem Device.closeGap_same (s : Device) : Device.Same (Device.closeGap s) s := by
  unfold Device.Same Device.closeGap; split <;> simp

@[simp] theorem Device.armWake_same (s : Device) : Device.Same (Device.armWake s) s := by
  unfold Device.Same Device.armWake; repeat' (first | simp | split)

@[simp] theorem Device.noFlow_same (s : Device) : Device.Same (Device.noFlow s) s := by
  unfold Device.Same Device.noFlow; repeat' (first | (simp; done) | split | (dsimp only; split))

@[simp] theorem Device.flowStep_same (s : Device) : Device.Same (Device.flowStep s) s := by
  unfold Device.Same Device.flowStep; repeat' (first | (simp; done) | split | (dsimp only; split))

@[simp] theorem Device.endCycle_same (s : Device) : Device.Same (Device.endCycle s) s := by
  unfold Device.Same Device.endCycle; simp

@[simp] theorem Device.decideGap_same (s : Device) : Device.Same (Device.decideGap s) s := by
  unfold Device.Same Device.decideGap; split <;> simp

/-! ## HawserOps -/

@[simp] theorem Device.setSec_same (s : Device) (k : Nat) (f : Secondary → Secondary) : Device.Same (Device.setSec s k f) s := by
  unfold Device.Same Device.setSec; split <;> simp

@[simp] theorem Device.hwDone_same (s : Device) : Device.Same (Device.hwDone s) s := by
  unfold Device.Same Device.hwDone; simp

@[simp] theorem Device.hwAnswered_same (s : Device) (k : Nat) : Device.Same (Device.hwAnswered s k) s := by
  unfold Device.Same Device.hwAnswered; simp

@[simp] theorem Device.retireChannels_same (s : Device) (k : Nat) : Device.Same (Device.retireChannels s k) s := by
  unfold Device.Same Device.retireChannels; simp

@[simp] theorem Device.dropFires_same (s : Device) (l : List Nat) : Device.Same (Device.dropFires s l) s := by
  unfold Device.Same Device.dropFires; repeat' (first | (simp; done) | split | (dsimp only; split))

@[simp] theorem Device.loseSecondary_same (s : Device) (k : Nat) : Device.Same (s.loseSecondary k) s := by
  unfold Device.Same Device.loseSecondary; dsimp only
  have a : ∀ (l : List Nat) (x : Device), Device.Same (l.foldl (fun (y : Device) i => y.retirePath i 2) x) x :=
    fun l x => foldl_same _ (fun s a => Device.retirePath_same s a 2) l x
  have b : ∀ (l : List (Nat × Nat)) (x : Device), Device.Same (l.foldl (fun (y : Device) q => y.retirePort q false) x) x :=
    fun l x => foldl_same _ (fun s a => Device.retirePort_same s a false) l x
  simp [a, b]

@[simp] theorem Device.hwMissed_same (s : Device) (k : Nat) : Device.Same (Device.hwMissed s k) s := by
  unfold Device.Same Device.hwMissed; repeat' (first | (simp; done) | split | (dsimp only; split))

@[simp] theorem Device.hwShelve_same (s : Device) : Device.Same (Device.hwShelve s) s := by
  unfold Device.Same Device.hwShelve; repeat' (first | (simp; done) | split)

@[simp] theorem Device.hwAgain_same (s : Device) (o : Outstanding) : Device.Same (Device.hwAgain s o) s := by
  unfold Device.Same Device.hwAgain; simp

@[simp] theorem Device.loopAsk_same (s : Device) (r : LoopRun) : Device.Same (Device.loopAsk s r) s := by
  unfold Device.Same Device.loopAsk; split <;> simp

@[simp] theorem Device.loopPump_same (s : Device) : Device.Same (Device.loopPump s) s := by
  unfold Device.Same Device.loopPump; repeat' (first | (simp; done) | split)

@[simp] theorem Device.hwPump_same (s : Device) : Device.Same (Device.hwPump s) s := by
  unfold Device.Same Device.hwPump; repeat' (first | (simp; done) | split)

@[simp] theorem Device.hwGap_same (s : Device) : Device.Same (Device.hwGap s) s := by
  unfold Device.Same Device.hwGap; dsimp only; split <;> simp

/-! ## PathInit -/

@[simp] theorem Device.initPorts_same (s : Device) (cold : Bool) : Device.Same (Device.initPorts s cold) s := by
  unfold Device.Same Device.initPorts; simp

@[simp] theorem Device.initPaths_same (s : Device) (old : Conf) (cold : Bool) : Device.Same (Device.initPaths s old cold) s := by
  unfold Device.Same Device.initPaths; simp

@[simp] theorem Device.settle_same (s : Device) (i : Nat) : Device.Same (Device.settle s i) s := by
  unfold Device.Same Device.settle; repeat' (first | (simp; done) | split | (dsimp only; split))

/-! ## Bill -/

@[simp] theorem Device.stage_same (s : Device) (e : Staged) : Device.Same (Device.stage s e) s := by
  unfold Device.Same Device.stage; repeat' (first | (simp; done) | split)

@[simp] theorem Device.formValue_same (s : Device) (t e accE accV : Nat) (short bad : Bool) (k : EndKind) : Device.Same (Device.formValue s t e accE accV short bad k) s := by
  unfold Device.Same Device.formValue; simp

@[simp] theorem Device.endSub_same (s : Device) (t : Nat) (k : EndKind) : Device.Same (Device.endSub s t k) s := by
  unfold Device.Same Device.endSub; repeat' (first | (simp; done) | split | (dsimp only; split))

@[simp] theorem Device.beginSub_same (s : Device) (t : Nat) : Device.Same (Device.beginSub s t) s := by
  unfold Device.Same Device.beginSub; simp

@[simp] theorem Device.endHour_same (s : Device) (t : Nat) (k : EndKind) : Device.Same (Device.endHour s t k) s := by
  unfold Device.Same Device.endHour; simp

@[simp] theorem Device.beginHour_same (s : Device) (t : Nat) : Device.Same (Device.beginHour s t) s := by
  unfold Device.Same Device.beginHour; simp

@[simp] theorem Device.gapEntry_same (s : Device) (t0 hours : Nat) : Device.Same (Device.gapEntry s t0 hours) s := by
  unfold Device.Same Device.gapEntry; simp

@[simp] theorem Device.crossDay_same (s : Device) (t n : Nat) (last localDay : Int) (late : Bool) : Device.Same (Device.crossDay s t n last localDay late) s := by
  unfold Device.Same Device.crossDay; split <;> simp

@[simp] theorem Device.crossBill_same (s : Device) (t n : Nat) (last : Int) (late : Bool) : Device.Same (Device.crossBill s t n last late) s := by
  unfold Device.Same Device.crossBill; split <;> simp

@[simp] theorem Device.seedSched_same (s : Device) (t : Nat) : Device.Same (Device.seedSched s t) s := by
  unfold Device.Same Device.seedSched; split <;> simp

@[simp] theorem Device.crossEnds_same (s : Device) (t : Nat) (late : Bool) : Device.Same (Device.crossEnds s t late) s := by
  unfold Device.Same Device.crossEnds; repeat' (first | (simp; done) | split | (dsimp only; split))

@[simp] theorem Device.armRefresh_same (s : Device) : Device.Same (Device.armRefresh s) s := by
  unfold Device.Same Device.armRefresh; dsimp only; split <;> simp

@[simp] theorem Device.realignRefresh_same (s : Device) : Device.Same (Device.realignRefresh s) s := by
  unfold Device.Same Device.realignRefresh; repeat' (first | (simp; done) | split | (dsimp only; split))

@[simp] theorem Device.activate_same (s : Device) (t : Nat) (p : Calendar) : Device.Same (Device.activate s t p) s := by
  unfold Device.Same Device.activate; simp

@[simp] theorem Device.calStep_same (s : Device) (t : Nat) : Device.Same (Device.calStep s t) s := by
  unfold Device.Same Device.calStep; repeat' (first | (simp; done) | split)

@[simp] theorem Device.tariffStep_same (s : Device) (t : Nat) : Device.Same (Device.tariffStep s t) s := by
  unfold Device.Same Device.tariffStep; simp

@[simp] theorem Device.trustStep_same (s : Device) : Device.Same (Device.trustStep s) s := by
  unfold Device.Same Device.trustStep; repeat' (first | (simp; done) | split)

@[simp] theorem Device.closeStep_same (s : Device) (t : Nat) (x : TxnCtx) : Device.Same (Device.closeStep s t x) s := by
  unfold Device.Same Device.closeStep; repeat' (first | (simp; done) | split | (dsimp only; split))

@[simp] theorem Device.splitMarks_same (s : Device) (x : TxnCtx) : Device.Same (Device.splitMarks s x) s := by
  unfold Device.Same Device.splitMarks; repeat' (first | (simp; done) | split)

@[simp] theorem Device.armBoundary_same (s : Device) : Device.Same (Device.armBoundary s) s := by
  unfold Device.Same Device.armBoundary; dsimp only; split <;> simp

@[simp] theorem Device.rearmBoundary_same (s : Device) : Device.Same (Device.rearmBoundary s) s := by
  unfold Device.Same Device.rearmBoundary; split <;> simp

@[simp] theorem Device.transaction_same (s : Device) (x : TxnCtx) : Device.Same (Device.transaction s x) s := by
  unfold Device.Same Device.transaction; repeat' (first | (simp; done) | split | (dsimp only; split))

@[simp] theorem Device.transactionT0_same (s : Device) : Device.Same (Device.transactionT0 s) s := by
  unfold Device.Same Device.transactionT0; dsimp only; split <;> simp

@[simp] theorem Device.holdClose_same (s : Device) (t : Nat) : Device.Same (Device.holdClose s t) s := by
  unfold Device.Same Device.holdClose; simp

@[simp] theorem Device.shiftOrigins_same (s : Device) (d : Int) : Device.Same (Device.shiftOrigins s d) s := by
  unfold Device.Same Device.shiftOrigins; simp

@[simp] theorem Device.boundaryFirst_same (s : Device) : Device.Same (Device.boundaryFirst s) s := by
  unfold Device.Same Device.boundaryFirst; split <;> simp

/-! ## Transit -/

@[simp] theorem Device.fireRemote_same (s : Device) (i : Nat) : Device.Same (Device.fireRemote s i) s := by
  unfold Device.Same Device.fireRemote; repeat' (first | (simp; done) | split | (dsimp only; split))

@[simp] theorem Device.launch_same (s : Device) (i : Nat) : Device.Same (Device.launch s i) s := by
  unfold Device.Same Device.launch; simp

@[simp] theorem Device.fireNext_same (s : Device) : Device.Same (Device.fireNext s) s := by
  unfold Device.Same Device.fireNext; split <;> simp

@[simp] theorem Device.landPair_same (s : Device) (i : Nat) : Device.Same (Device.landPair s i) s := by
  unfold Device.Same Device.landPair; simp

@[simp] theorem Device.closeWaiting_same (s : Device) : Device.Same (Device.closeWaiting s) s := by
  unfold Device.Same Device.closeWaiting; repeat' (first | (simp; done) | split | (dsimp only; split))

@[simp] theorem Device.endPair_same (s : Device) : Device.Same (Device.endPair s) s := by
  unfold Device.Same Device.endPair; repeat' (first | (simp; done) | split | (dsimp only; split))

@[simp] theorem Device.afterPair_same (s : Device) : Device.Same (Device.afterPair s) s := by
  unfold Device.Same Device.afterPair; simp

@[simp] theorem Device.takeSets_same (s : Device) : Device.Same (Device.takeSets s) s := by
  unfold Device.Same Device.takeSets; simp

@[simp] theorem Device.openCycle_same (s : Device) : Device.Same (Device.openCycle s) s := by
  unfold Device.Same Device.openCycle; simp

@[simp] theorem Device.enterFallback_same (s : Device) : Device.Same (Device.enterFallback s) s := by
  unfold Device.Same Device.enterFallback; simp

@[simp] theorem Device.leaveFallback_same (s : Device) : Device.Same (Device.leaveFallback s) s := by
  unfold Device.Same Device.leaveFallback; simp

@[simp] theorem Device.refFailed_same (s : Device) : Device.Same (Device.refFailed s) s := by
  unfold Device.Same Device.refFailed; dsimp only; split <;> simp

@[simp] theorem Device.refCheck_same (s : Device) (ref : Option Nat) : Device.Same (Device.refCheck s ref).1 s := by
  unfold Device.Same Device.refCheck; repeat' (first | (simp; done) | split | (dsimp only; split))

@[simp] theorem Device.hwSilent_same (s : Device) : Device.Same (Device.hwSilent s) s := by
  unfold Device.hwSilent; split
  · exact foldl_same _ Device.hwMissed_same _ _
  · exact .refl _

@[simp] theorem Device.beginCycle_same (s : Device) (ref : Option Nat) : Device.Same (Device.beginCycle s ref) s := by
  unfold Device.Same Device.beginCycle; dsimp only; split <;> simp

@[simp] theorem Device.restartShot_same (s : Device) : Device.Same (Device.restartShot s) s := by
  unfold Device.Same Device.restartShot; simp

@[simp] theorem Device.shotExpire_same (s : Device) (ref : Option Nat) : Device.Same (Device.shotExpire s ref) s := by
  unfold Device.Same Device.shotExpire; dsimp only; split <;> simp

@[simp] theorem Device.extSkip_same (s : Device) : Device.Same (Device.extSkip s) s := by
  unfold Device.Same Device.extSkip; simp

@[simp] theorem Device.extFire_same (s : Device) (i : Nat) : Device.Same (Device.extFire s i) s := by
  unfold Device.Same Device.extFire; simp

@[simp] theorem Device.barCycle_same (s : Device) : Device.Same (Device.barCycle s) s := by
  unfold Device.Same Device.barCycle; repeat' (first | (simp; done) | split | (dsimp only; split))

@[simp] theorem Device.extAccept_same (s : Device) (ref : Option Nat) : Device.Same (Device.extAccept s ref) s := by
  unfold Device.Same Device.extAccept; repeat' (first | (simp; done) | split | (dsimp only; split))

@[simp] theorem Device.extRefuse_same (s : Device) (f : ExtShot → ExtShot) : Device.Same (Device.extRefuse s f) s := by
  unfold Device.Same Device.extRefuse; simp

@[simp] theorem Device.shotEdge_same (s : Device) (ref : Option Nat) : Device.Same (Device.shotEdge s ref) s := by
  unfold Device.Same Device.shotEdge; repeat' (first | (simp; done) | split | (dsimp only; split))

@[simp] theorem Device.notePorts_same (s : Device) (p : PathP) (no : Nat) (cap : PairCapture) : Device.Same (Device.notePorts s p no cap).1 s := by
  unfold Device.Same Device.notePorts; repeat' (first | (simp; done) | split | (dsimp only; split))

@[simp] theorem Device.countPair_same (s : Device) (overflow : Bool) : Device.Same (Device.countPair s overflow) s := by
  unfold Device.Same Device.countPair; simp

@[simp] theorem Device.ownPair_same (s : Device) (i : Nat) (cap : PairCapture) : Device.Same (Device.ownPair s i cap) s := by
  unfold Device.Same Device.ownPair; dsimp only; split <;> simp

@[simp] theorem Device.probeEnd_same (s : Device) (good : Bool) : Device.Same (Device.probeEnd s good) s := by
  unfold Device.Same Device.probeEnd; repeat' (first | (simp; done) | split | (dsimp only; split))

@[simp] theorem Device.probePair_same (s : Device) (i : Nat) (cap : PairCapture) : Device.Same (Device.probePair s i cap) s := by
  unfold Device.Same Device.probePair; repeat' (first | (simp; done) | split | (dsimp only; split))

@[simp] theorem Device.probeLost_same (s : Device) (i : Nat) : Device.Same (Device.probeLost s i) s := by
  unfold Device.Same Device.probeLost; simp

@[simp] theorem Device.sendResult_same (s : Device) (i prx : Nat) (r : PathResult) : Device.Same (Device.sendResult s i prx r) s := by
  unfold Device.Same Device.sendResult; simp

@[simp] theorem Device.jobResult_same (s : Device) (j : FireJob) (cap : PairCapture) : Device.Same (Device.jobResult s j cap) s := by
  unfold Device.Same Device.jobResult; simp

@[simp] theorem Device.jobHalf_same (s : Device) (j : FireJob) (r2 : Nat) (cap : PairCapture) : Device.Same (Device.jobHalf s j r2 cap) s := by
  unfold Device.Same Device.jobHalf; simp

@[simp] theorem Device.jobDone_same (s : Device) (j : FireJob) (cap : PairCapture) : Device.Same (Device.jobDone s j cap) s := by
  unfold Device.Same Device.jobDone; repeat' (first | (simp; done) | split | (dsimp only; split))

@[simp] theorem Device.refLoss_same (s : Device) (i : Nat) : Device.Same (Device.refLoss s i) s := by
  unfold Device.Same Device.refLoss; split <;> simp

@[simp] theorem Device.refLossJob_same (s : Device) (j : FireJob) : Device.Same (Device.refLossJob s j) s := by
  unfold Device.Same Device.refLossJob; repeat' (first | (simp; done) | split | (dsimp only; split))

@[simp] theorem Device.pushCorr_same (s : Device) : Device.Same (Device.pushCorr s) s := by
  unfold Device.Same Device.pushCorr; simp

@[simp] theorem Device.ageRecompute_same (s : Device) : Device.Same (Device.ageRecompute s) s := by
  unfold Device.Same Device.ageRecompute; repeat' (first | (simp; done) | split | (dsimp only; split))

@[simp] theorem Device.armMidnight_same (s : Device) : Device.Same (Device.armMidnight s) s := by
  unfold Device.Same Device.armMidnight; split <;> simp

@[simp] theorem Device.calDue_same (s : Device) (kind : Nat) : Device.Same (Device.calDue s kind) s := by
  unfold Device.Same Device.calDue; simp

@[simp] theorem Device.endCalRun_same (s : Device) (full ok : Bool) : Device.Same (Device.endCalRun s full ok) s := by
  unfold Device.Same Device.endCalRun; repeat' (first | (simp; done) | split | (dsimp only; split))

@[simp] theorem Device.calStepRun_same (s : Device) (x : CalStep) : Device.Same (Device.calStepRun s x) s := by
  unfold Device.Same Device.calStepRun; repeat' (first | (simp; done) | split | (dsimp only; split))

/-! ## Landing -/

@[simp] theorem Device.correctTokens_same (s : Device) : Device.Same (Device.correctTokens s) s := by
  unfold Device.Same Device.correctTokens; repeat' (first | (simp; done) | split | (dsimp only; split))

@[simp] theorem Device.corrHold_same (s : Device) : Device.Same (Device.corrHold s) s := by
  unfold Device.Same Device.corrHold; split <;> simp

@[simp] theorem Device.updateTimeNow_same (s : Device) : Device.Same (Device.updateTimeNow s) s := by
  unfold Device.Same Device.updateTimeNow; simp

@[simp] theorem Device.shiftWorking_same (s : Device) (d : Int) : Device.Same (Device.shiftWorking s d) s := by
  unfold Device.Same Device.shiftWorking; simp

@[simp] theorem Device.classEvent_same (s : Device) (k : SetClass) (sigma : Int) : Device.Same (Device.classEvent s k sigma) s := by
  unfold Device.Same Device.classEvent; split <;> simp

@[simp] theorem Device.stepTransaction_same (s : Device) (k : SetClass) (sigma : Int) : Device.Same (Device.stepTransaction s k sigma) s := by
  unfold Device.Same Device.stepTransaction; split <;> simp

@[simp] theorem Device.rearmMidnight_same (s : Device) : Device.Same (Device.rearmMidnight s) s := by
  unfold Device.Same Device.rearmMidnight; split <;> simp

@[simp] theorem Device.tamperIn_same (s : Device) (k : TamperIn) : Device.Same (Device.tamperIn s k) s := by
  unfold Device.Same Device.tamperIn; split <;> simp

@[simp] theorem Device.setSeal_same (s : Device) (v : SealState) : Device.Same (Device.setSeal s v) s := by
  unfold Device.Same Device.setSeal; repeat' (first | (simp; done) | split)

@[simp] theorem Device.probe_same (s : Device) (high between : Bool) : Device.Same (Device.probe s high between) s := by
  unfold Device.Same Device.probe; repeat' (first | (simp; done) | split | (dsimp only; split))

@[simp] theorem Device.setCaseMag_same (s : Device) (pin : CaseMag) (high : Bool) : Device.Same (Device.setCaseMag s pin high) s := by
  unfold Device.Same Device.setCaseMag; repeat' (first | (simp; done) | split)

@[simp] theorem Device.serveTamper_same (s : Device) (e : TamperEvt) : Device.Same (Device.serveTamper s e) s := by
  unfold Device.Same Device.serveTamper; split <;> simp

@[simp] theorem Device.mirrorPulses_same (s : Device) : Device.Same (Device.mirrorPulses s) s := by
  unfold Device.Same Device.mirrorPulses; simp

@[simp] theorem Device.discardSet_same (s : Device) : Device.Same (Device.discardSet s) s := by
  unfold Device.Same Device.discardSet; split <;> simp

@[simp] theorem Device.evalPins_same (s : Device) (p : PinLevels) : Device.Same (Device.evalPins s p) s := by
  unfold Device.Same Device.evalPins; repeat' (first | (simp; done) | split | (dsimp only; split))

/-! ## PulseOut -/

@[simp] theorem Device.restarted_same (s : Device) (dt : Nat) (f : Func) : Device.Same (Device.restarted s dt f) s := by
  unfold Device.Same Device.restarted; split <;> simp

/-! ## Temp -/

@[simp] theorem Device.unitStep_same (s : Device) (x : Nat) (v : Int) (fault : Nat) : Device.Same (Device.unitStep s x v fault).1 s := by
  unfold Device.Same Device.unitStep; repeat' (first | (simp; done) | split | (dsimp only; split))

@[simp] theorem unitSteps_same (l : List (Nat × Option (Int × Nat))) (s : Device) (acc : List (Option Int × Bool)) :
    Device.Same (unitSteps l s acc).1 s := by
  induction l generalizing s acc with
  | nil => exact .refl s
  | cons i l ih =>
    obtain ⟨x, _ | p⟩ := i
    · exact ih ..
    · exact (ih ..).trans (Device.unitStep_same ..)

@[simp] theorem Device.swapStep_same (s : Device) (mode : ThermalMode) : Device.Same (Device.swapStep s mode) s := by
  unfold Device.Same Device.swapStep; repeat' (first | (simp; done) | split | (dsimp only; split))

@[simp] theorem checkSteps_same (vals : List (Option Int × Bool)) (l : List (Chan × Nat)) (s : Device) : Device.Same (checkSteps vals l s) s := by
  induction l generalizing s with
  | nil => exact .refl s
  | cons i l ih =>
    unfold checkSteps
    repeat' (first | exact ih _ | (refine (ih _).trans ?_) | (unfold Device.Same; simp; done) | split)

@[simp] theorem Device.checkFlag_same (s : Device) : Device.Same (Device.checkFlag s) s := by
  unfold Device.Same Device.checkFlag; simp

@[simp] theorem Device.bridgeStep_same (s : Device) (b : Option ((Int × Nat) × (Int × Nat))) (thetaM : Int) :
    Device.Same (Device.bridgeStep s b thetaM).1 s := by
  unfold Device.Same Device.bridgeStep; repeat' (first | (simp; done) | split | (dsimp only; split))

@[simp] theorem Device.useUnits_same (s : Device) : Device.Same (Device.useUnits s) s := by
  unfold Device.Same Device.useUnits; simp

@[simp] theorem Device.dropBridge_same (s : Device) : Device.Same (Device.dropBridge s) s := by
  unfold Device.Same Device.dropBridge; repeat' (first | (simp; done) | split | (dsimp only; split))

@[simp] theorem Device.refStep_same (s : Device) (own : OwnPart) : Device.Same (Device.refStep s own) s := by
  unfold Device.Same Device.refStep; repeat' (first | (simp; done) | split | (dsimp only; split))

@[simp] theorem Device.completeSample_same (s : Device) (own : OwnPart) : Device.Same (Device.completeSample s own) s := by
  unfold Device.completeSample
  refine (Device.commit_same _).trans ((Device.recond_same _).trans ((Device.samplePriced_same _).trans ?_))
  exact (Device.checkFlag_same _).trans ((checkSteps_same _ _ _).trans ((Device.swapStep_same _ _).trans
    ((Device.bridgeStep_same _ _ _).trans ((unitSteps_same _ _ _).trans (Device.refStep_same _ _)))))

@[simp] theorem Device.trySample_same (s : Device) : Device.Same (s.trySample) s := by
  unfold Device.trySample; split
  · split
    · exact (Device.completeSample_same _ _).trans (Device.boundaryFirst_same _)
    · exact .refl _
  · exact .refl _

@[simp] theorem Device.secondarySample_same (s : Device) (p : OwnPart) : Device.Same (Device.secondarySample s p) s := by
  unfold Device.Same Device.secondarySample; simp

@[simp] theorem Device.sampleAnswer_same (s : Device) (m : SampleInput) : Device.Same (Device.sampleAnswer s m) s := by
  unfold Device.Same Device.sampleAnswer; simp

/-! ## Air -/

@[simp] theorem Device.pickKey_same (s : Device) (up : Bool) : Device.Same (Device.pickKey s up).2 s := by
  unfold Device.Same Device.pickKey; split <;> simp

@[simp] theorem Device.count_same (s : Device) (k : Nat) : Device.Same (Device.count s k) s := by
  unfold Device.Same Device.count; simp

@[simp] theorem Device.budgetHit_same (s : Device) : Device.Same (Device.budgetHit s) s := by
  unfold Device.Same Device.budgetHit; dsimp only; split <;> simp

@[simp] theorem Device.fcntCheck_same (s : Device) : Device.Same (Device.fcntCheck s) s := by
  unfold Device.Same Device.fcntCheck; split <;> simp

@[simp] theorem Device.onAir_same (s : Device) (ch : Nat) (b : Bytes) : Device.Same (Device.onAir s ch b) s := by
  unfold Device.Same Device.onAir; simp

@[simp] theorem Device.sendAir_same (s : Device) (up : Bool) (ch : Nat) (h : AirHeader) (payload : Bytes) : Device.Same ((Device.sendAir s up ch h payload).2) s := by
  unfold Device.Same Device.sendAir; repeat' (first | (simp; done) | split | (dsimp only; split))

@[simp] theorem Device.contactAt_same (s : Device) (t : Nat) : Device.Same (Device.contactAt s t) s := by
  unfold Device.Same Device.contactAt; simp

/-! ## Sched -/

@[simp] theorem Device.startContacts_same (s : Device) : Device.Same (Device.startContacts s) s := by
  unfold Device.Same Device.startContacts; repeat' (first | (simp; done) | split | (dsimp only; split))

@[simp] theorem Device.setChild_same (s : Device) (i : Nat) (f : Child → Child) : Device.Same (Device.setChild s i f) s := by
  unfold Device.Same Device.setChild; simp

@[simp] theorem Device.armWindows_same (s : Device) : Device.Same (Device.armWindows s) s := by
  unfold Device.Same Device.armWindows; repeat' (first | (simp; done) | split | (dsimp only; split))

@[simp] theorem Device.wmArm_same (s : Device) : Device.Same (Device.wmArm s) s := by
  unfold Device.Same Device.wmArm; simp

@[simp] theorem Device.wmStart_same (s : Device) : Device.Same (Device.wmStart s) s := by
  unfold Device.Same Device.wmStart; split <;> simp

@[simp] theorem Device.planRadio_same (s : Device) : Device.Same (Device.planRadio s) s := by
  unfold Device.Same Device.planRadio; repeat' (first | (simp; done) | split | (dsimp only; split))

/-! ## Display -/

@[simp] theorem Device.displayCompose_same (s : Device) (full : Bool) (accepted : Nat) : Device.Same (Device.displayCompose s full accepted) s := by
  unfold Device.Same Device.displayCompose; dsimp only; split <;> simp

@[simp] theorem Device.displayTables_same (s : Device) : Device.Same (Device.displayTables s) s := by
  unfold Device.Same Device.displayTables; repeat' (first | (simp; done) | split | (dsimp only; split))

@[simp] theorem Device.displayRetable_same (s : Device) : Device.Same (Device.displayRetable s) s := by
  unfold Device.Same Device.displayRetable; repeat' (first | (simp; done) | split | (dsimp only; split))

@[simp] theorem Device.frameBoundary_same (s : Device) : Device.Same (Device.frameBoundary s) s := by
  unfold Device.Same Device.frameBoundary; repeat' (first | (simp; done) | split | (dsimp only; split))

@[simp] theorem Device.budgetRefused_same (s : Device) : Device.Same (Device.budgetRefused s) s := by
  unfold Device.Same Device.budgetRefused; split <;> simp

@[simp] theorem Device.displayAdmit_same (s : Device) (f : Device → Device) (hh : ∀ x, (f x).Same x) : Device.Same (s.displayAdmit f) s := by
  unfold Device.displayAdmit; split
  · exact Device.refuse_same ..
  · split
    · exact hh _
    · exact Device.budgetRefused_same s

@[simp] theorem Device.showPage_same (s : Device) (p seconds : Nat) : Device.Same (Device.showPage s p seconds) s := by
  unfold Device.Same Device.showPage; simp

@[simp] theorem Device.displayRequest_same (s : Device) (page : Nat) (full : Bool) (hold : Nat) :
    Device.Same (s.displayRequest page full hold) s := by
  exact Device.displayAdmit_same _ _ fun x => (Device.displayCompose_same ..).trans (Device.showPage_same ..)

@[simp] theorem Device.displayStart_same (s : Device) : Device.Same (Device.displayStart s) s := by
  unfold Device.Same Device.displayStart; dsimp only; split <;> simp

/-! ## Apply -/

@[simp] theorem Device.wantStep_same (s : Device) (f : Func) : Device.Same (Device.wantStep s f) s := by
  unfold Device.Same Device.wantStep; simp

@[simp] theorem Device.applyFunctions_same (s : Device) : Device.Same (s.applyFunctions) s := by
  rw [Device.applyFunctions]; exact foldl_same Device.wantStep Device.wantStep_same allFuncs s

@[simp] theorem Device.initShot_same (s : Device) : Device.Same (Device.initShot s) s := by
  unfold Device.Same Device.initShot; simp

@[simp] theorem Device.shotChanged_same (s : Device) (old : Conf) : Device.Same (Device.shotChanged s old) s := by
  unfold Device.Same Device.shotChanged; dsimp only; split <;> simp

@[simp] theorem Device.initPulse_same (s : Device) : Device.Same (Device.initPulse s) s := by
  unfold Device.Same Device.initPulse; simp

@[simp] theorem Device.initRadio_same (s : Device) : Device.Same (Device.initRadio s) s := by
  unfold Device.Same Device.initRadio; simp

@[simp] theorem Device.initRole_same (s : Device) : Device.Same (Device.initRole s) s := by
  unfold Device.Same Device.initRole; repeat' (first | (simp; done) | split | (dsimp only; split))

@[simp] theorem Device.renameSecs_same (s : Device) : Device.Same (Device.renameSecs s) s := by
  unfold Device.Same Device.renameSecs; repeat' (first | (simp; done) | split | (dsimp only; split))

@[simp] theorem Device.classDefault_same (s : Device) : Device.Same (Device.classDefault s) s := by
  unfold Device.Same Device.classDefault; repeat' (first | (simp; done) | split | (dsimp only; split))

@[simp] theorem Device.calibTest_same (s : Device) : Device.Same (Device.calibTest s) s := by
  unfold Device.Same Device.calibTest; repeat' (first | (simp; done) | split | (dsimp only; split))

@[simp] theorem Device.startMetering_same (s : Device) : Device.Same (Device.startMetering s) s := by
  unfold Device.Same Device.startMetering; simp

@[simp] theorem Device.bounceIf_same (s : Device) (b : Bool) (f : Func) : Device.Same (Device.bounceIf s b f) s := by
  unfold Device.Same Device.bounceIf; split <;> simp

@[simp] theorem Device.recommitA_same (s : Device) (old : Conf) : Device.Same (Device.recommitA s old) s := by
  unfold Device.Same Device.recommitA; repeat' (first | (simp; done) | split)

@[simp] theorem Device.recommitB_same (s : Device) (o n : Groups) : Device.Same (Device.recommitB s o n) s := by
  unfold Device.Same Device.recommitB; repeat' (first | (simp; done) | split)

@[simp] theorem Device.recommitT_same (s : Device) (o n : Groups) : Device.Same (Device.recommitT s o n) s := by
  unfold Device.Same Device.recommitT; split <;> simp

@[simp] theorem Device.tablesGone_same (s : Device) : Device.Same (Device.tablesGone s) s := by
  unfold Device.Same Device.tablesGone; repeat' (first | (simp; done) | split | (dsimp only; split))

@[simp] theorem Device.recommitC_same (s : Device) (old new : Conf) : Device.Same (Device.recommitC s old new) s := by
  unfold Device.Same Device.recommitC; repeat' (first | (simp; done) | split)

@[simp] theorem Device.recommitD_same (s : Device) (o n : Groups) : Device.Same (s.recommitD o n) s := by
  rw [Device.recommitD]
  refine (Device.applyFunctions_same _).trans ?_
  exact foldl_same (fun (x : Device) (r : Bool × Func) => x.bounceIf r.1 r.2) (fun x r => Device.bounceIf_same x r.1 r.2) _ s

@[simp] theorem Device.recommitE_same (s : Device) (was : Bool) (o n : Groups) : Device.Same (Device.recommitE s was o n) s := by
  unfold Device.Same Device.recommitE; repeat' (first | (simp; done) | split | (dsimp only; split))

@[simp] theorem Device.applyCommit_same (s : Device) (old : Conf) : Device.Same (Device.applyCommit s old) s := by
  unfold Device.Same Device.applyCommit; simp

@[simp] theorem Device.enterSafe_same (s : Device) : Device.Same (Device.enterSafe s) s := by
  unfold Device.Same Device.enterSafe; simp

@[simp] theorem Device.reconcile_same (s : Device) : Device.Same (Device.reconcile s) s := by
  unfold Device.Same Device.reconcile; split <;> simp

/-! ## PowerOps -/

@[simp] theorem Device.mirrorBank0_same (s : Device) : Device.Same (Device.mirrorBank0 s) s := by
  unfold Device.Same Device.mirrorBank0; simp

@[simp] theorem Device.sleepEffects_same (s : Device) (p : PState) : Device.Same (Device.sleepEffects s p) s := by
  unfold Device.Same Device.sleepEffects; repeat' (first | (simp; done) | split)

@[simp] theorem Device.enterState_same (s : Device) (p : PState) (n : Nat) : Device.Same (Device.enterState s p n) s := by
  unfold Device.Same Device.enterState; simp

@[simp] theorem Device.rest_same (s : Device) (n : Nat) : Device.Same (Device.rest s n) s := by
  unfold Device.Same Device.rest; dsimp only; split <;> simp

/-! ## Cascade -/

@[simp] theorem Device.recordExpected_same (s : Device) : Device.Same (Device.recordExpected s) s := by
  unfold Device.Same Device.recordExpected; repeat' (first | (simp; done) | split)

@[simp] theorem Device.cfgFaulted_same (s : Device) (cause : Nat) (dev : Option Nat) : Device.Same (Device.cfgFaulted s cause dev) s := by
  unfold Device.Same Device.cfgFaulted; split <;> simp

@[simp] theorem Device.loseMissing_same (s : Device) : Device.Same (s.loseMissing) s := by
  exact foldl_same _ Device.loseSecondary_same _ _

@[simp] theorem Device.broadcastTime_same (s : Device) : Device.Same (Device.broadcastTime s) s := by
  unfold Device.Same Device.broadcastTime; simp

@[simp] theorem Device.configureFresh_same (s : Device) : Device.Same (Device.configureFresh s) s := by
  unfold Device.Same Device.configureFresh; simp

@[simp] theorem Device.syncEnd_same (s : Device) : Device.Same (Device.syncEnd s) s := by
  unfold Device.Same Device.syncEnd; repeat' (first | (simp; done) | split | (dsimp only; split))

@[simp] theorem Device.syncStep_same (s : Device) : Device.Same (Device.syncStep s) s := by
  unfold Device.Same Device.syncStep; split <;> simp

@[simp] theorem Device.startSync_same (s : Device) : Device.Same (Device.startSync s) s := by
  unfold Device.Same Device.startSync; repeat' (first | (simp; done) | split | (dsimp only; split))

/-! ## Wipe -/

@[simp] theorem Device.wipe1_same (s : Device) : Device.Same (Device.wipe1 s) s := by
  unfold Device.Same Device.wipe1; by_cases h : s.writable = true <;> simp [h]

@[simp] theorem Device.wipe2_same (s : Device) : Device.Same (Device.wipe2 s) s := by
  unfold Device.Same Device.wipe2 Device.wipeLand; by_cases h : s.writable = true <;> simp only [h] <;> split <;> simp

@[simp] theorem Device.wipe3_same (s : Device) : Device.Same (Device.wipe3 s) s := by
  unfold Device.Same Device.wipe3; simp

@[simp] theorem Device.wipe4_same (s : Device) : Device.Same (Device.wipe4 s) s := by
  unfold Device.Same Device.wipe4; simp

@[simp] theorem Device.builtInCalendar_same (s : Device) : Device.Same (Device.builtInCalendar s) s := by
  unfold Device.Same Device.builtInCalendar; dsimp only; split <;> simp

@[simp] theorem Device.wipe5_same (s : Device) : Device.Same (Device.wipe5 s) s := by
  unfold Device.Same Device.wipe5; dsimp only; split <;> simp

@[simp] theorem Device.wipe6_same (s : Device) (scrap : Bool) : Device.Same (Device.wipe6 s scrap) s := by
  unfold Device.Same Device.wipe6; simp

@[simp] theorem Device.reseed_same (s : Device) : Device.Same (Device.reseed s) s := by
  unfold Device.Same Device.reseed; repeat' (first | (simp; done) | split | (dsimp only; split))

@[simp] theorem Device.wipeSeed_same (s : Device) (mask : Nat) : Device.Same (Device.wipeSeed s mask) s := by
  unfold Device.Same Device.wipeSeed; split <;> simp

/-! ## HoldUp -/

@[simp] theorem Device.holdBegin_same (s : Device) (ship : Bool) : Device.Same (Device.holdBegin s ship) s := by
  unfold Device.holdBegin; split
  · exact (Device.resetFunc_same _ _).trans ((Device.resetFunc_same _ _).trans ⟨rfl, rfl, rfl, rfl, rfl, rfl, rfl, rfl, rfl, rfl, rfl⟩)
  · exact .refl s

@[simp] theorem Device.holdStart_same (s : Device) : Device.Same (Device.holdStart s) s :=
  Device.Same.trans ⟨rfl, rfl, rfl, rfl, rfl, rfl, rfl, rfl, rfl, rfl, rfl⟩ (Device.holdBegin_same s false)

@[simp] theorem Device.disableAll_same (s : Device) : Device.Same (Device.disableAll s) s := by
  unfold Device.Same Device.disableAll; repeat' (first | (simp; done) | split | (dsimp only; split))

/-! ## Security -/

@[simp] theorem Device.verdict_same (s : Device) (p : RecPath) (r : Rec) (cause : Nat) : Device.Same (Device.verdict s p r cause) s := by
  unfold Device.Same Device.verdict; repeat' (first | (simp; done) | split)

@[simp] theorem Device.applyKeys_same (s : Device) (b : Bytes) : Device.Same (Device.applyKeys s b) s := by
  unfold Device.Same Device.applyKeys; split <;> simp

@[simp] theorem Device.applyIdentity_same (s : Device) (b : Bytes) : Device.Same (Device.applyIdentity s b) s := by
  unfold Device.applyIdentity; exact Device.planRadio_same _

@[simp] theorem Device.applyRadioKeys_same (s : Device) (b : Bytes) : Device.Same (Device.applyRadioKeys s b) s := by
  unfold Device.applyRadioKeys; dsimp only; split
  · exact (Device.planRadio_same _).trans (Device.tamper_same _ _)
  · exact Device.planRadio_same _

@[simp] theorem Device.legalCount_same (s : Device) (r : Rec) : Device.Same (Device.legalCount s r) s := by
  unfold Device.Same Device.legalCount; split <;> simp

@[simp] theorem Device.applyCalib_same (s : Device) (r : Rec) : Device.Same (Device.applyCalib s r) s := by
  unfold Device.Same Device.applyCalib; repeat' (first | (simp; done) | split | (dsimp only; split))

@[simp] theorem Device.applyExpert_same (s : Device) (r : Rec) : Device.Same (Device.applyExpert s r) s := by
  unfold Device.Same Device.applyExpert; repeat' (first | (simp; done) | split | (dsimp only; split))

@[simp] theorem Device.applyCalendar_same (s : Device) (r : Rec) : Device.Same (Device.applyCalendar s r) s := by
  unfold Device.Same Device.applyCalendar; dsimp only; split <;> simp

@[simp] theorem Device.waitSet_same (s : Device) (p : Option PendSet) : Device.Same (Device.waitSet s p) s := by
  unfold Device.Same Device.waitSet; split <;> simp

@[simp] theorem Device.applyTimeSet_same (s : Device) (b : Bytes) : Device.Same (Device.applyTimeSet s b) s := by
  unfold Device.Same Device.applyTimeSet; simp

@[simp] theorem Device.openJoin_same (s : Device) : Device.Same (Device.openJoin s) s := by
  unfold Device.Same Device.openJoin; dsimp only; split <;> simp

@[simp] theorem Device.applyRadioCfg_same (s : Device) (b : Bytes) : Device.Same (Device.applyRadioCfg s b) s := by
  unfold Device.Same Device.applyRadioCfg; simp

@[simp] theorem Device.recCommit_same (s : Device) (r : Rec) : Device.Same (Device.recCommit s r) s := by
  unfold Device.Same Device.recCommit; simp

@[simp] theorem Device.tapLoad_same (s : Device) (l : TapLevel) : Device.Same (Device.tapLoad s l) s := by
  unfold Device.Same Device.tapLoad; repeat' (first | (simp; done) | split | (dsimp only; split))

/-! ## Ferry -/

@[simp] theorem Device.setExch_same (s : Device) (e : Exchange) : Device.Same (Device.setExch s e) s := by
  unfold Device.Same Device.setExch; simp

@[simp] theorem Device.endExchange_same (s : Device) : Device.Same (Device.endExchange s) s := by
  unfold Device.Same Device.endExchange; simp

@[simp] theorem Device.sendIn_same (s : Device) (x : Sent) (payload : Bytes) (more : Bool) : Device.Same (Device.sendIn s x payload more) s := by
  unfold Device.Same Device.sendIn; repeat' (first | (simp; done) | split | (dsimp only; split))

@[simp] theorem Device.forwardData_same (s : Device) : Device.Same (Device.forwardData s).2 s := by
  unfold Device.Same Device.forwardData; simp

@[simp] theorem Device.digestSent_same (s : Device) (items : Bytes) : Device.Same (Device.digestSent s items) s := by
  unfold Device.Same Device.digestSent; split <;> simp

@[simp] theorem Device.ownData_same (s : Device) : Device.Same (Device.ownData s).2 s := by
  unfold Device.Same Device.ownData; simp

@[simp] theorem Device.dataAcked_same (s : Device) : Device.Same (Device.dataAcked s) s := by
  unfold Device.Same Device.dataAcked; simp

@[simp] theorem Device.sendForward_same (s : Device) : Device.Same (Device.sendForward s) s := by
  unfold Device.Same Device.sendForward; simp

@[simp] theorem Device.afterAckUp_same (s : Device) : Device.Same (Device.afterAckUp s) s := by
  unfold Device.Same Device.afterAckUp; repeat' (first | (simp; done) | split)

@[simp] theorem Device.airClear_same (s : Device) : Device.Same (Device.airClear s) s := by
  unfold Device.Same Device.airClear; simp

@[simp] theorem Device.fallbackContact_same (s : Device) : Device.Same (Device.fallbackContact s) s := by
  unfold Device.Same Device.fallbackContact; simp

@[simp] theorem Device.contactMissed_same (s : Device) : Device.Same (Device.contactMissed s) s := by
  unfold Device.Same Device.contactMissed; dsimp only; split <;> simp

@[simp] theorem Device.contactFrame_same (s : Device) : Device.Same (Device.contactFrame s) s := by
  unfold Device.Same Device.contactFrame; repeat' (first | (simp; done) | split)

@[simp] theorem Device.beginContact_same (s : Device) : Device.Same (Device.beginContact s) s := by
  unfold Device.Same Device.beginContact; repeat' (first | (simp; done) | split | (dsimp only; split))

@[simp] theorem Device.ackTimeout_same (s : Device) : Device.Same (Device.ackTimeout s) s := by
  unfold Device.Same Device.ackTimeout; repeat' (first | (simp; done) | split)

@[simp] theorem Device.chooseNext_same (s : Device) (c : Child) (t : Nat) : Device.Same (Device.chooseNext s c t).2 s := by
  unfold Device.Same Device.chooseNext; dsimp only; split <;> simp

@[simp] theorem Device.planChild_same (s : Device) (i t : Nat) : Device.Same (Device.planChild s i t).2.2 s := by
  unfold Device.Same Device.planChild; split <;> simp

@[simp] theorem Device.childContact_same (s : Device) (i : Nat) (f : RxFrame) (h : AirHeader) : Device.Same (Device.childContact s i f h) s := by
  unfold Device.Same Device.childContact; repeat' (first | (simp; done) | split)

@[simp] theorem Device.timeSfd_same (s : Device) (t : Nat) : Device.Same (Device.timeSfd s t).2 s := by
  unfold Device.Same Device.timeSfd; simp

@[simp] theorem Device.sendTodo_same (s : Device) (t : Nat) : Device.Same (Device.sendTodo s t) s := by
  unfold Device.Same Device.sendTodo; repeat' (first | (simp; done) | split)

@[simp] theorem Device.afterAckDown_same (s : Device) (t : Nat) : Device.Same (Device.afterAckDown s t) s := by
  unfold Device.Same Device.afterAckDown; repeat' (first | simp | split)

@[simp] theorem Device.ackChild_same (s : Device) (i fcnt status tRel t : Nat) : Device.Same (Device.ackChild s i fcnt status tRel t) s := by
  unfold Device.Same Device.ackChild; simp

@[simp] theorem Device.replay_same (s : Device) (l : Link) (new : Bool) (fcnt : Nat) : Device.Same (Device.replay s l new fcnt).2 s := by
  unfold Device.Same Device.replay; repeat' (first | (simp; done) | split | (dsimp only; split))

@[simp] theorem Device.ackStranger_same (s : Device) (ch : Nat) (h : AirHeader) (fcnt short : Nat) : Device.Same (Device.ackStranger s ch h fcnt short) s := by
  unfold Device.Same Device.ackStranger; simp

@[simp] theorem Device.airFrameIn_same (s : Device) (mine : AirHeader → Bool) (f : RxFrame)
    (h : Heard → Device → Device) (hh : ∀ p x, (h p x).Same x) : Device.Same (s.airFrameIn mine f h) s := by
  rw [Device.airFrameIn]
  split
  · exact Device.count_same ..
  split
  · exact Device.count_same ..
  split
  · exact Device.count_same ..
  split
  · exact .refl _
  split
  · exact .refl _
  · split
    · exact Device.ackStranger_same ..
    · exact .refl _
  split
  · exact Device.count_same ..
  split
  · exact Device.count_same ..
  dsimp only
  split
  · exact Device.count_same ..
  · exact (hh _ _).trans ((Device.count_same ..).trans (Device.count_same ..))
  · exact (hh _ _).trans ((Device.count_same ..).trans (Device.replay_same ..))

@[simp] theorem Device.keepListening_same (s : Device) (f : RxFrame) : Device.Same (Device.keepListening s f) s := by
  unfold Device.Same Device.keepListening; simp

@[simp] theorem Device.airIn_same (s : Device) (mine : AirHeader → Bool) (f : RxFrame)
    (h : Heard → Device → Device) (hh : ∀ p x, (h p x).Same x) : Device.Same (s.airIn mine f h) s := by
  unfold Device.airIn; split
  · have a : Device.Same ((if f.modeSwitch = true then s.airClear else s.airClear.airFrameIn mine f h)) s := by
      split
      · exact Device.airClear_same s
      · exact (Device.airFrameIn_same _ _ _ _ hh).trans (Device.airClear_same s)
    exact (Device.armWindows_same _).trans ((Device.keepListening_same _ _).trans a)
  · exact .refl _

@[simp] theorem Device.airBad_same (s : Device) : Device.Same (Device.airBad s) s := by
  unfold Device.Same Device.airBad; simp

@[simp] theorem Device.noted_same (s : Device) (x : Heard) : Device.Same (Device.noted s x) s := by
  unfold Device.Same Device.noted; split <;> simp

@[simp] theorem Device.gotIn_same (s : Device) (x : Heard) : Device.Same (Device.gotIn s x) s := by
  unfold Device.Same Device.gotIn; dsimp only; split <;> simp

@[simp] theorem Device.childBegin_same (s : Device) (i : Nat) (x : Heard) : Device.Same (Device.childBegin s i x) s := by
  unfold Device.Same Device.childBegin; simp

@[simp] theorem Device.contactOf_same (s : Device) (i : Nat) (x : Heard) : Device.Same (Device.contactOf s i x) s := by
  unfold Device.Same Device.contactOf; split <;> simp

@[simp] theorem Device.onPoll_same (x : Heard) (s : Device) : Device.Same (Device.onPoll x s) s := by
  unfold Device.Same Device.onPoll; repeat' (first | (simp; done) | split)

@[simp] theorem Device.cacheDigest_same (s : Device) (i : Nat) (l : List RxItem) : Device.Same (Device.cacheDigest s i l) s := by
  unfold Device.Same Device.cacheDigest; split <;> simp

@[simp] theorem Device.readAnswered_same (s : Device) (i k : Nat) (l : List RxItem) : Device.Same (Device.readAnswered s i k l) s := by
  unfold Device.Same Device.readAnswered; simp

@[simp] theorem Device.onData_same (x : Heard) (s : Device) : Device.Same (Device.onData x s) s := by
  unfold Device.Same Device.onData; repeat' (first | (simp; done) | split | (dsimp only; split))

@[simp] theorem Device.joinReply_same (s : Device) (x : Heard) (status nextIn nextCh tRel : Nat) (pending : Bool) : Device.Same (Device.joinReply s x status nextIn nextCh tRel pending).2 s := by
  unfold Device.Same Device.joinReply; simp

@[simp] theorem Device.joinFull_same (s : Device) (x : Heard) : Device.Same (Device.joinFull s x) s := by
  unfold Device.Same Device.joinFull; repeat' (first | (simp; done) | split | (dsimp only; split))

@[simp] theorem Device.joinAnswer_same (s : Device) (i : Nat) (x : Heard) : Device.Same (Device.joinAnswer s i x) s := by
  unfold Device.Same Device.joinAnswer; repeat' (first | (simp; done) | split | (dsimp only; split))

@[simp] theorem Device.joinOk_same (s : Device) (i : Nat) (x : Heard) : Device.Same (Device.joinOk s i x) s := by
  unfold Device.Same Device.joinOk; simp

@[simp] theorem Device.joinAgain_same (s : Device) (i : Nat) (x : Heard) : Device.Same (Device.joinAgain s i x) s := by
  unfold Device.Same Device.joinAgain; repeat' (first | (simp; done) | split | (dsimp only; split))

@[simp] theorem Device.onJoin_same (x : Heard) (s : Device) : Device.Same (Device.onJoin x s) s := by
  unfold Device.Same Device.onJoin; repeat' (first | (simp; done) | split)

@[simp] theorem Device.joined_same (s : Device) (x : Heard) : Device.Same (Device.joined s x) s := by
  unfold Device.Same Device.joined; simp

@[simp] theorem Device.ackUp_same (s : Device) (x : Heard) (e : Exchange) : Device.Same (Device.ackUp s x e) s := by
  unfold Device.Same Device.ackUp; repeat' (first | (simp; done) | split | (dsimp only; split))

@[simp] theorem Device.noteDone_same (s : Device) (i k st : Nat) : Device.Same (Device.noteDone s i k st) s := by
  unfold Device.Same Device.noteDone; repeat' (first | (simp; done) | split)

@[simp] theorem Device.ackDown_same (s : Device) (i : Nat) (x : Heard) (e : Exchange) : Device.Same (Device.ackDown s i x e) s := by
  unfold Device.Same Device.ackDown; repeat' (first | (simp; done) | split | (dsimp only; split))

@[simp] theorem Device.onAck_same (x : Heard) (s : Device) : Device.Same (Device.onAck x s) s := by
  unfold Device.Same Device.onAck; repeat' (first | (simp; done) | split)

@[simp] theorem Device.ackUpper_same (s : Device) (fcnt status tRel : Nat) : Device.Same (Device.ackUpper s fcnt status tRel) s := by
  unfold Device.Same Device.ackUpper; simp

@[simp] theorem Device.keepAck_same (s : Device) (status tRel : Nat) (slot : Option Nat) : Device.Same (Device.keepAck s status tRel slot) s := by
  unfold Device.Same Device.keepAck; repeat' (first | (simp; done) | split | (dsimp only; split))

@[simp] theorem Device.ackAgain_same (s : Device) (x : Heard) : Device.Same (Device.ackAgain s x) s := by
  unfold Device.Same Device.ackAgain; repeat' (first | (simp; done) | split | (dsimp only; split))

@[simp] theorem Device.decideRead_same (s : Device) (x : Heard) (short : Nat) (l : List ObjRef) : Device.Same (Device.decideRead s x short l).2.2 s := by
  unfold Device.Same Device.decideRead; repeat' (first | (simp; done) | split | (dsimp only; split))

@[simp] theorem Device.onRead_same (x : Heard) (s : Device) : Device.Same (Device.onRead x s) s := by
  unfold Device.Same Device.onRead; repeat' (first | (simp; done) | split | (dsimp only; split))

@[simp] theorem Device.fragAck_same (s : Device) (x : Heard) (status : Nat) (slot : Option Nat) : Device.Same (Device.fragAck s x status slot) s := by
  unfold Device.Same Device.fragAck; simp

@[simp] theorem Device.ackRefused_same (s : Device) (x : Heard) (status tRel : Nat) : Device.Same (Device.ackRefused s x status tRel) s := by
  unfold Device.Same Device.ackRefused; repeat' (first | (simp; done) | split | (dsimp only; split))

@[simp] theorem Device.handOver_same (s : Device) : Device.Same (Device.handOver s) s := by
  unfold Device.Same Device.handOver; repeat' (first | (simp; done) | split | (dsimp only; split))

@[simp] theorem Device.onTime_same (x : Heard) (s : Device) : Device.Same (Device.onTime x s) s := by
  unfold Device.Same Device.onTime; repeat' (first | (simp; done) | split | (dsimp only; split))

/-! ## Hawser -/

@[simp] theorem Device.hwAnswer_same (s : Device) (p : HwParts) (typ : Nat) (payload : Bytes) : Device.Same (Device.hwAnswer s p typ payload) s := by
  unfold Device.Same Device.hwAnswer; split <;> simp

@[simp] theorem Device.onSyncReq_same (p : HwParts) (x : Device) : Device.Same (Device.onSyncReq p x) x := by
  unfold Device.Same Device.onSyncReq; simp

@[simp] theorem Device.repush_same (s : Device) (old : Hawser) (i : Nat) : Device.Same (Device.repush s old i) s := by
  unfold Device.Same Device.repush; repeat' (first | (simp; done) | split | (dsimp only; split))

@[simp] theorem Device.onCfg_same (p : HwParts) (x : Device) : Device.Same (Device.onCfg p x) x := by
  unfold Device.Same Device.onCfg; repeat' (first | (simp; done) | split | (dsimp only; split))

@[simp] theorem Device.hwHears_same (s : Device) (typ : Nat) (f : HwFrame) (h : HwParts → Device → Device)
    (hh : ∀ p x, (h p x).Same x) : Device.Same (Device.hwHears s typ f h) s := by
  unfold Device.hwHears; split
  · exact .refl s
  · split
    · exact Device.hwBad_same s
    · split
      · exact hh _ _
      · exact .refl s

@[simp] theorem Device.hwRefuse_same (s : Device) (cause retry : Nat) : Device.Same (Device.hwRefuse s cause retry) s := by
  unfold Device.Same Device.hwRefuse; simp

@[simp] theorem Device.hwTurnAway_same (s : Device) (cause most : Nat) : Device.Same (Device.hwTurnAway s cause most) s := by
  unfold Device.Same Device.hwTurnAway; split <;> simp

@[simp] theorem Device.jobCycle_same (s : Device) (ref : Option Nat) : Device.Same (Device.jobCycle s ref) s := by
  unfold Device.Same Device.jobCycle; split <;> simp

@[simp] theorem Device.takeJob_same (s : Device) (j : FireJob) : Device.Same (Device.takeJob s j) s := by
  unfold Device.Same Device.takeJob; repeat' (first | (simp; done) | split | (dsimp only; split))

@[simp] theorem Device.onFire_same (r1 : RawStamp) (ref : Option Nat) (p : HwParts) (x : Device) : Device.Same (Device.onFire r1 ref p x) x := by
  unfold Device.Same Device.onFire; repeat' (first | (simp; done) | split | (dsimp only; split))

@[simp] theorem Device.onMark_same (r2 : RawStamp) (_x : HwParts) (x : Device) : Device.Same (Device.onMark r2 _x x) x := by
  unfold Device.Same Device.onMark; simp

@[simp] theorem Device.onSampleReq_same (_x : HwParts) (x : Device) : Device.Same (Device.onSampleReq _x x) x := by
  unfold Device.Same Device.onSampleReq; repeat' (first | (simp; done) | split | (dsimp only; split))

@[simp] theorem Device.loopAnswer_same (s : Device) (p : HwParts) (t2 t3 : Nat) : Device.Same (Device.loopAnswer s p t2 t3) s := by
  unfold Device.Same Device.loopAnswer; simp

@[simp] theorem Device.atPrimary_same (s : Device) (typ : Nat) (f : HwFrame) (h : HwParts → Device → Device)
    (hh : ∀ p x, (h p x).Same x) : Device.Same (s.atPrimary typ f h) s := by
  unfold Device.atPrimary; dsimp only; split
  · exact Device.hwReceive_same _ _ _ _ fun p x => same_ite (hh p x) (.refl x)
  · exact .refl s

@[simp] theorem Device.synced_same (s : Device) (k : Nat) (b : Bytes) : Device.Same (Device.synced s k b) s := by
  unfold Device.Same Device.synced; split <;> simp

@[simp] theorem Device.badSyncRsp_same (s : Device) : Device.Same (Device.badSyncRsp s) s := by
  unfold Device.Same Device.badSyncRsp; repeat' (first | (simp; done) | split)

@[simp] theorem Device.onSyncRsp_same (p : HwParts) (x : Device) : Device.Same (Device.onSyncRsp p x) x := by
  unfold Device.Same Device.onSyncRsp; split <;> simp

@[simp] theorem Device.hwOnAck_same (p : HwParts) (x : Device) : Device.Same (Device.hwOnAck p x) x := by
  unfold Device.Same Device.hwOnAck; repeat' (first | simp | split)

@[simp] theorem Device.remoteDone_same (s : Device) (i : Nat) (r : PairDone) : Device.Same (Device.remoteDone s i r) s := by
  unfold Device.Same Device.remoteDone; split <;> simp

@[simp] theorem Device.probeAway_same (s : Device) (i : Nat) : Device.Same (Device.probeAway s i) s := by
  unfold Device.Same Device.probeAway; simp

@[simp] theorem Device.onResult_same (p : HwParts) (x : Device) : Device.Same (Device.onResult p x) x := by
  unfold Device.Same Device.onResult; repeat' (first | (simp; done) | split | (dsimp only; split))

@[simp] theorem Device.halfDone_same (s : Device) (k : Nat) (h : HalfMsg) (cap : PairCapture) (tf tm : Nat) : Device.Same (Device.halfDone s k h cap tf tm) s := by
  unfold Device.Same Device.halfDone; simp

@[simp] theorem Device.onHalf_same (own : PairCapture) (tf tm : RawStamp) (p : HwParts) (x : Device) : Device.Same (Device.onHalf own tf tm p x) x := by
  unfold Device.Same Device.onHalf; repeat' (first | (simp; done) | split | (dsimp only; split))

@[simp] theorem Device.pathMissing_same (s : Device) (fired : Bool) : Device.Same (Device.pathMissing s fired) s := by
  unfold Device.Same Device.pathMissing; repeat' (first | (simp; done) | split | (dsimp only; split))

@[simp] theorem Device.sampleIn_same (s : Device) (k : Nat) (part : Option (List (Int × Nat))) : Device.Same (Device.sampleIn s k part) s := by
  unfold Device.Same Device.sampleIn; simp

@[simp] theorem Device.onSampleRsp_same (p : HwParts) (x : Device) : Device.Same (Device.onSampleRsp p x) x := by
  unfold Device.Same Device.onSampleRsp; dsimp only; split <;> simp

@[simp] theorem Device.refused_same (s : Device) (k cause : Nat) : Device.Same (Device.refused s k cause) s := by
  unfold Device.Same Device.refused; repeat' (first | (simp; done) | split | (dsimp only; split))

@[simp] theorem Device.loopEnd_same (s : Device) (k : Nat) (rhos : List Int) : Device.Same (Device.loopEnd s k rhos) s := by
  unfold Device.Same Device.loopEnd; repeat' (first | (simp; done) | split | (dsimp only; split))

@[simp] theorem Device.loopTake_same (s : Device) (r : LoopRun) (turn : Int) (t1 t4 : Nat) : Device.Same (Device.loopTake s r turn t1 t4) s := by
  unfold Device.Same Device.loopTake; repeat' (first | (simp; done) | split | (dsimp only; split))

@[simp] theorem Device.onLoopRsp_same (t1 t4 : RawStamp) (p : HwParts) (x : Device) : Device.Same (Device.onLoopRsp t1 t4 p x) x := by
  unfold Device.Same Device.onLoopRsp; repeat' (first | (simp; done) | split)

@[simp] theorem Device.syncFailed_same (s : Device) (o : Outstanding) : Device.Same (Device.syncFailed s o) s := by
  unfold Device.Same Device.syncFailed; simp

@[simp] theorem Device.exchangeFailed_same (s : Device) (o : Outstanding) : Device.Same (Device.exchangeFailed s o) s := by
  unfold Device.Same Device.exchangeFailed; simp

@[simp] theorem Device.fireFailed_same (s : Device) (k : Nat) : Device.Same (Device.fireFailed s k) s := by
  unfold Device.Same Device.fireFailed; simp

@[simp] theorem Device.sampleFailed_same (s : Device) : Device.Same (s.sampleFailed) s := by
  exact (Device.trySample_same _).trans (foldl_same _ Device.hwMissed_same _ _)

@[simp] theorem Device.hwTimeout_same (s : Device) : Device.Same (Device.hwTimeout s) s := by
  unfold Device.Same Device.hwTimeout; repeat' (first | (simp; done) | split)

/-! ## Optical -/

@[simp] theorem Device.optAnswer_same (s : Device) (f : OptFrame) : Device.Same (Device.optAnswer s f) s := by
  unfold Device.Same Device.optAnswer; simp

@[simp] theorem Device.optVerdict_same (s : Device) (tag cause retry : Nat) : Device.Same (Device.optVerdict s tag cause retry) s := by
  unfold Device.Same Device.optVerdict; simp

@[simp] theorem Device.optData_same (s : Device) (tag : Nat) (q : Bytes) : Device.Same (Device.optData s tag q) s := by
  unfold Device.Same Device.optData; simp

@[simp] theorem Device.optInfo_same (s : Device) (tag : Nat) : Device.Same (Device.optInfo s tag) s := by
  unfold Device.Same Device.optInfo; simp

@[simp] theorem Device.optSeen_same (s : Device) : Device.Same (Device.optSeen s) s := by
  unfold Device.Same Device.optSeen; simp

@[simp] theorem Device.optReceive_same (s : Device) (kind : Nat) (b : Bytes) (h : OptFrame → Device → Device)
    (hh : ∀ p x, (h p x).Same x) : Device.Same (s.optReceive kind b h) s := by
  unfold Device.optReceive; split
  · exact .refl s
  · repeat' split
    all_goals first | exact Device.optSeen_same s | exact (hh _ _).trans (Device.optSeen_same s)

@[simp] theorem Device.optStopping_same (s : Device) (b : Bytes) : Device.Same (Device.optStopping s b) s := by
  unfold Device.Same Device.optStopping; repeat' (first | (simp; done) | split | (dsimp only; split))

@[simp] theorem Device.optBaud_same (s : Device) (f : OptFrame) : Device.Same (Device.optBaud s f) s := by
  unfold Device.Same Device.optBaud; dsimp only; split <;> simp

@[simp] theorem Device.optGap_same (s : Device) : Device.Same (Device.optGap s) s := by
  unfold Device.Same Device.optGap; repeat' (first | (simp; done) | split | (dsimp only; split))

/-! ## SelfTest -/

@[simp] theorem Device.legalEnter_same (s : Device) (c arg : Nat) : Device.Same (Device.legalEnter s c arg) s := by
  unfold Device.Same Device.legalEnter; repeat' (first | (simp; done) | split | (dsimp only; split))

@[simp] theorem Device.legalClear_same (s : Device) : Device.Same (Device.legalClear s) s := by
  unfold Device.Same Device.legalClear; dsimp only; split <;> simp

@[simp] theorem Device.retireFunc_same (s : Device) (f : Func) : Device.Same (Device.retireFunc s f) s := by
  unfold Device.Same Device.retireFunc; simp

@[simp] theorem Device.blockFailed_same (s : Device) (b misr : Nat) : Device.Same (Device.blockFailed s b misr) s := by
  unfold Device.Same Device.blockFailed; repeat' (first | (simp; done) | split)

@[simp] theorem Device.blockResult_same (s : Device) (b : Nat) (first second : Bool) (misr : Nat) : Device.Same (Device.blockResult s b first second misr) s := by
  unfold Device.Same Device.blockResult; dsimp only; split <;> simp

@[simp] theorem Device.hfxCheck_same (s : Device) (count : Option Nat) : Device.Same (Device.hfxCheck s count) s := by
  unfold Device.Same Device.hfxCheck; repeat' (first | (simp; done) | split | (dsimp only; split))

@[simp] theorem Device.deferStep_same (s : Device) : Device.Same (Device.deferStep s) s := by
  unfold Device.Same Device.deferStep; dsimp only; split <;> simp

@[simp] theorem Device.condPass_same (s : Device) : Device.Same (Device.condPass s) s := by
  unfold Device.Same Device.condPass; split <;> simp

@[simp] theorem Device.afterTest_same (s : Device) (b : Nat) : Device.Same (Device.afterTest s b) s := by
  unfold Device.Same Device.afterTest; repeat' (first | simp | split)

@[simp] theorem Device.testEnds_same (s : Device) (b : Nat) (first second : Bool) (responses : List Nat) : Device.Same (Device.testEnds s b first second responses) s := by
  unfold Device.Same Device.testEnds; simp

@[simp] theorem Device.testStep_same (s : Device) (b vcoreMv : Nat) (last first second : Bool) (responses : List Nat) : Device.Same (Device.testStep s b vcoreMv last first second responses) s := by
  unfold Device.Same Device.testStep; repeat' (first | (simp; done) | split)

@[simp] theorem Device.beginRound_same (s : Device) (count : Option Nat) : Device.Same (Device.beginRound s count) s := by
  unfold Device.Same Device.beginRound; simp

/-! ## Store -/

@[simp] theorem Device.lostLegal_same (s : Device) (obj : Nat) : Device.Same (Device.lostLegal s obj) s := by
  unfold Device.Same Device.lostLegal; split <;> simp

@[simp] theorem Device.lostConfig_same (s : Device) (obj : Nat) : Device.Same (Device.lostConfig s obj) s := by
  unfold Device.Same Device.lostConfig; repeat' (first | (simp; done) | split | (dsimp only; split))

@[simp] theorem Device.lostLearned_same (s : Device) (obj : Nat) : Device.Same (Device.lostLearned s obj) s := by
  unfold Device.Same Device.lostLearned; split <;> simp

@[simp] theorem Device.lostTelemetry_same (s : Device) (obj : Nat) : Device.Same (Device.lostTelemetry s obj) s := by
  unfold Device.Same Device.lostTelemetry; split <;> simp

@[simp] theorem Device.framLost_same (s : Device) (word obj : Nat) : Device.Same (Device.framLost s word obj) s := by
  unfold Device.Same Device.framLost; simp

@[simp] theorem Device.corrects_same (s : Device) (w : WordAt) : Device.Same (Device.corrects s w) s := by
  unfold Device.Same Device.corrects; repeat' (first | (simp; done) | split | (dsimp only; split))

@[simp] theorem Device.readSingle_same (s : Device) (obj : Nat) (w : WordAt) : Device.Same (Device.readSingle s obj w) s := by
  unfold Device.Same Device.readSingle; repeat' (first | (simp; done) | split | (dsimp only; split))

@[simp] theorem Device.repairCopy_same (s : Device) (v copy : Nat) (w : WordAt) : Device.Same (Device.repairCopy s v copy w) s := by
  unfold Device.Same Device.repairCopy; repeat' (first | (simp; done) | split | (dsimp only; split))

@[simp] theorem Device.readTriple_same (s : Device) (obj : Nat) (a b c : WordAt) : Device.Same (Device.readTriple s obj a b c) s := by
  unfold Device.Same Device.readTriple; repeat' (first | (simp; done) | split | (dsimp only; split))

theorem singlesGo_same (l : List (Nat × WordAt)) (s : Device) (n : Nat) : Device.Same (singlesGo l s n).1 s := by
  induction l generalizing n with
  | nil => exact .refl s
  | cons e l ih => unfold singlesGo; split; exact ih _; exact Device.readSingle_same s _ _

theorem triplesGo_same (l : List (Nat × WordAt × WordAt × WordAt)) (s : Device) (n : Nat) : Device.Same (triplesGo l s n).1 s := by
  induction l generalizing n with
  | nil => exact .refl s
  | cons e l ih => unfold triplesGo; split; exact ih _; exact Device.readTriple_same s _ _ _ _

@[simp] theorem Device.scrubFound_same (s : Device) (x : ScrubFinding) : Device.Same (Device.scrubFound s x).1 s := by
  unfold Device.scrubFound; split
  · exact singlesGo_same _ s 0
  · exact triplesGo_same _ s 0

@[simp] theorem Device.passEnds_same (s : Device) (passEnd : Bool) : Device.Same (Device.passEnds s passEnd) s := by
  unfold Device.Same Device.passEnds; repeat' (first | (simp; done) | split | (dsimp only; split))

@[simp] theorem Device.scrubStep_same (s : Device) (x : ScrubFinding) (passEnd : Bool) : Device.Same (Device.scrubStep s x passEnd) s := by
  unfold Device.Same Device.scrubStep; repeat' (first | (simp; done) | split | (dsimp only; split))

@[simp] theorem Device.spareCheck_same (s : Device) : Device.Same (Device.spareCheck s) s := by
  unfold Device.Same Device.spareCheck; split <;> simp

@[simp] theorem Device.copyStaged_same (s : Device) (e : Staged) (rest : List Staged) (compares : List Bool) : Device.Same (Device.copyStaged s e rest compares) s := by
  unfold Device.Same Device.copyStaged; simp

@[simp] theorem Device.retireSector_same (s : Device) (p cause : Nat) : Device.Same (Device.retireSector s p cause) s := by
  unfold Device.Same Device.retireSector; simp

@[simp] theorem Device.relocate_same (s : Device) (p : Nat) (rest : List Nat) : Device.Same (Device.relocate s p rest) s := by
  unfold Device.Same Device.relocate; repeat' (first | (simp; done) | split | (dsimp only; split))

@[simp] theorem Device.erasePool_same (s : Device) (p : Nat × Nat) (rest : List (Nat × Nat)) (verifies : List Bool) : Device.Same (Device.erasePool s p rest verifies) s := by
  unfold Device.Same Device.erasePool; dsimp only; split <;> simp

@[simp] theorem Device.eraseRing_same (s : Device) (l : Nat) (rest : List Nat) (verifies : List Bool) : Device.Same (Device.eraseRing s l rest verifies) s := by
  unfold Device.Same Device.eraseRing; repeat' (first | (simp; done) | split | (dsimp only; split))

/-! ## Windows -/

@[simp] theorem Device.passWindow_same (s : Device) (i : Nat) : Device.Same (Device.passWindow s i) s := by
  unfold Device.Same Device.passWindow; simp

@[simp] theorem Device.skipWindow_same (s : Device) (i : Nat) : Device.Same (Device.skipWindow s i) s := by
  unfold Device.Same Device.skipWindow; simp

@[simp] theorem Device.openWindow_same (s : Device) (c : Child) : Device.Same (Device.openWindow s c) s := by
  unfold Device.Same Device.openWindow; repeat' (first | (simp; done) | split | (dsimp only; split))

@[simp] theorem Device.unmade_same (s : Device) (c : Child) : Device.Same (Device.unmade s c) s := by
  unfold Device.Same Device.unmade; repeat' (first | (simp; done) | split | (dsimp only; split))

@[simp] theorem Device.beginSearch_same (s : Device) (i : Nat) : Device.Same (Device.beginSearch s i) s := by
  unfold Device.Same Device.beginSearch; simp

@[simp] theorem Device.missWindow_same (s : Device) (c : Child) : Device.Same (Device.missWindow s c) s := by
  unfold Device.Same Device.missWindow; dsimp only; split <;> simp

@[simp] theorem Device.openSearch_same (s : Device) (c : Child) : Device.Same (Device.openSearch s c) s := by
  unfold Device.Same Device.openSearch; repeat' (first | (simp; done) | split | (dsimp only; split))

@[simp] theorem Device.evict_same (s : Device) (c : Child) : Device.Same (Device.evict s c) s := by
  unfold Device.Same Device.evict; simp

@[simp] theorem Device.setEntry_same (s : Device) (k : Nat) (q : QEntry) : Device.Same (Device.setEntry s k q) s := by
  unfold Device.Same Device.setEntry; simp

/-! ## Wmbus -/

@[simp] theorem Device.wmNext_same (s : Device) : Device.Same (Device.wmNext s) s := by
  unfold Device.Same Device.wmNext; simp

@[simp] theorem Device.wmSend_same (s : Device) (key : Bytes) : Device.Same (Device.wmSend s key) s := by
  unfold Device.Same Device.wmSend; repeat' (first | (simp; done) | split | (dsimp only; split))

/-! ## Power -/

@[simp] theorem Device.strapRead_same (s : Device) (img : StrapImage) : Device.Same (Device.strapRead s img) s := by
  unfold Device.Same Device.strapRead; repeat' (first | (simp; done) | split | (dsimp only; split))

@[simp] theorem Device.boundaryLast_same (s : Device) : Device.Same (Device.boundaryLast s) s := by
  unfold Device.Same Device.boundaryLast; repeat' (first | (simp; done) | split | (dsimp only; split))

@[simp] theorem Device.holdTransaction_same (s : Device) (holdUs records : Nat) : Device.Same (Device.holdTransaction s holdUs records) s := by
  unfold Device.holdTransaction; dsimp only
  refine (Device.commit_same _).trans ?_
  have h := same_ite (c := s.boundaryLast.tolled = true)
    ((Device.holdClose_same _ s.land.tick).trans ((Device.bringUp_same _ s.land.tick).trans (Device.boundaryLast_same s)))
    (Device.boundaryLast_same s)
  revert h
  generalize (if s.boundaryLast.tolled = true then (s.boundaryLast.bringUp s.land.tick).holdClose s.land.tick
    else s.boundaryLast) = z
  intro h
  exact Device.Same.trans ⟨rfl, rfl, rfl, rfl, rfl, rfl, rfl, rfl, rfl, rfl, rfl⟩
    ((Device.mirrorPulses_same _).trans ((Device.refuseN_same z 15 (z.power.heldItems + records)).trans h))

@[simp] theorem Device.pinHeld_same (s : Device) (us : Nat) : Device.Same (Device.pinHeld s us) s := by
  unfold Device.Same Device.pinHeld; repeat' (first | (simp; done) | split | (dsimp only; split))

@[simp] theorem Device.shipEntry_same (s : Device) : Device.Same (Device.shipEntry s) s := by
  unfold Device.Same Device.shipEntry; simp

@[simp] theorem Device.vholdIs_same (s : Device) (mv : Nat) : Device.Same (Device.vholdIs s mv) s := by
  unfold Device.Same Device.vholdIs; repeat' (first | (simp; done) | split)

@[simp] theorem Device.coldTests_same (s : Device) (inp : ColdStartInput) : Device.Same (s.coldTests inp) s := by
  unfold Device.coldTests; dsimp only
  refine (Device.hfxCheck_same ..).trans (same_ite ((Device.legalClear_same _).trans ?_) ?_)
  all_goals exact foldl_same _ (fun s r => Device.blockResult_same s _ _ _ _) _ _

@[simp] theorem Device.undone_same (s : Device) (u : HoldUndo) : Device.Same (Device.undone s u) s := by
  unfold Device.Same Device.undone; repeat' (first | (simp; done) | split | (dsimp only; split))

@[simp] theorem Device.rollBack_same (s : Device) (r : TxnRec) : Device.Same (Device.rollBack s r) s := by
  unfold Device.Same Device.rollBack; repeat' (first | (simp; done) | split | (dsimp only; split))

@[simp] theorem Device.coldJournal_same (s : Device) (j : JournalFound) : Device.Same (Device.coldJournal s j) s := by
  unfold Device.Same Device.coldJournal; repeat' (first | (simp; done) | split | (dsimp only; split))

@[simp] theorem Device.coldLifecycle_same (s : Device) (readable : Bool) : Device.Same (Device.coldLifecycle s readable) s := by
  unfold Device.Same Device.coldLifecycle; repeat' (first | (simp; done) | split | (dsimp only; split))

@[simp] theorem Device.coldCount_same (s : Device) : Device.Same (Device.coldCount s) s := by
  unfold Device.Same Device.coldCount; dsimp only; split <;> simp

@[simp] theorem Device.coldStraps_same (s : Device) (img : StrapImage) : Device.Same (Device.coldStraps s img) s := by
  unfold Device.Same Device.coldStraps; dsimp only; split <;> simp

@[simp] theorem Device.coldPass_same (s : Device) (img : StrapImage) (g : Groups) : Device.Same (Device.coldPass s img g) s := by
  unfold Device.Same Device.coldPass; simp

@[simp] theorem Device.capRestart_same (s : Device) (q : Nat) : Device.Same (Device.capRestart s q) s := by
  unfold Device.Same Device.capRestart; split <;> simp

@[simp] theorem Device.pulseMoved_same (s : Device) (old : Option Nat) (img : StrapImage) : Device.Same (Device.pulseMoved s old img) s := by
  unfold Device.Same Device.pulseMoved; split <;> simp

@[simp] theorem Device.coldImage_same (s : Device) (old : Option Nat) (img : StrapImage) : Device.Same (Device.coldImage s old img) s := by
  unfold Device.Same Device.coldImage; repeat' (first | (simp; done) | split | (dsimp only; split))

@[simp] theorem Device.coldUnit_same (s : Device) : Device.Same (Device.coldUnit s) s := by
  unfold Device.Same Device.coldUnit; dsimp only; repeat' (first | (simp; done) | split)

@[simp] theorem Device.coldSystem_same (s : Device) : Device.Same (Device.coldSystem s) s := by
  unfold Device.Same Device.coldSystem; simp

@[simp] theorem Device.coldTemp_same (s : Device) : Device.Same (Device.coldTemp s) s := by
  unfold Device.Same Device.coldTemp; simp

@[simp] theorem Device.coldAnalog_same (s : Device) (inp : ColdStartInput) : Device.Same (Device.coldAnalog s inp) s := by
  unfold Device.Same Device.coldAnalog; simp

@[simp] theorem Device.coldFit_same (s : Device) : Device.Same (Device.coldFit s) s := by
  unfold Device.Same Device.coldFit; split <;> simp

@[simp] theorem Device.coldClocks_same (s : Device) (inp : ColdStartInput) : Device.Same (s.coldClocks inp) s := by
  exact (foldl_same _ Device.wantStep_same _ _).trans ((Device.armMidnight_same _).trans
    ((Device.ageRecompute_same _).trans (foldl_same _ Device.calStepRun_same _ _)))

@[simp] theorem Device.tollStart_same (s : Device) : Device.Same (Device.tollStart s) s := by
  unfold Device.Same Device.tollStart; dsimp only; split <;> simp

@[simp] theorem Device.functionsStart_same (s : Device) : Device.Same (Device.functionsStart s) s := by
  unfold Device.Same Device.functionsStart; repeat' (first | (simp; done) | split | (dsimp only; split))

end Sys2Proof.Machine
end

