-- ==== Sys2Proof/Laws/Estimate.lean ====
section
/-! SUPPORT. What an estimate and a change of the conditions leave alone: the ledgers of volume and of billed energy
(R233, R242, R243). -/

namespace Sys2Proof.Machine

/-- Volume and the two billed sides of `t` are those of `s`. -/
def Device.SameBilled (t s : Device) : Prop :=
  t.toll.led.vol = s.toll.led.vol ∧ t.toll.led.heat = s.toll.led.heat ∧ t.toll.led.cool = s.toll.led.cool

theorem Device.SameBilled.trans {a b c : Device} (h : a.SameBilled b) (k : b.SameBilled c) : a.SameBilled c :=
  ⟨h.1.trans k.1, h.2.1.trans k.2.1, h.2.2.trans k.2.2⟩

theorem Device.routeEst_billed (s : Device) (d : Side) (num : Int) : (s.routeEst d num).SameBilled s := by
  cases d <;> exact ⟨rfl, rfl, rfl⟩

theorem Device.routeEstEnergy_billed (s : Device) (inc : Int) : (s.routeEstEnergy inc).SameBilled s := by
  unfold Device.routeEstEnergy
  repeat' (first | exact Device.routeEst_billed _ _ _ | exact ⟨rfl, rfl, rfl⟩ | split)

theorem Device.routeGas_est_billed (s : Device) (ib : Int) (cv : Nat) : (s.routeGas ib cv false).SameBilled s :=
  ⟨rfl, rfl, rfl⟩

theorem Device.convert_est_billed (s : Device) (inc : Int) : (s.convert inc false).SameBilled s := by
  unfold Device.convert
  split
  · simp only [Bool.false_and, Bool.false_eq_true, if_false]
    split
    · exact (Device.routeGas_est_billed _ _ _).trans ⟨rfl, rfl, rfl⟩
    · split
      · exact (Device.routeGas_est_billed _ _ _).trans ⟨rfl, rfl, rfl⟩
      · exact ⟨rfl, rfl, rfl⟩
  · exact ⟨rfl, rfl, rfl⟩

theorem Device.accrueEst_billed (s : Device) (t : Nat) : (s.accrueEst t).SameBilled s := by
  unfold Device.accrueEst
  split
  · dsimp only
    split
    · exact ⟨rfl, rfl, rfl⟩
    · exact (Device.convert_est_billed _ _).trans ((Device.routeEstEnergy_billed _ _).trans ⟨rfl, rfl, rfl⟩)
  · exact ⟨rfl, rfl, rfl⟩

theorem Device.bringUp_billed (s : Device) (t : Nat) : (s.bringUp t).SameBilled s :=
  Device.SameBilled.trans ⟨rfl, rfl, rfl⟩ (s.accrueEst_billed t)

theorem Device.recond_billed (s : Device) : s.recond.SameBilled s := by
  unfold Device.recond Device.safeEdge
  split
  · split
    · exact ⟨rfl, rfl, rfl⟩
    · exact Device.SameBilled.trans ⟨rfl, rfl, rfl⟩ (s.accrueEst_billed _)
  · exact ⟨rfl, rfl, rfl⟩

end Sys2Proof.Machine
end

