-- ==== Sys2Proof/Laws/Kept.lean ====
section
/-! SUPPORT. Keys, identity, stored records, groups in force and the strap image: unchanged by every operation but the few that
move them. -/

namespace Sys2Proof.Machine

/-- Keys, identity, the stored records, the groups in force and the strap image are the same (R437, R529, R68, R75). -/
abbrev Device.Kept (t s : Device) : Prop :=
  t.sec.keys = s.sec.keys ∧ t.sec.devEui = s.sec.devEui ∧ t.conf.calibStored = s.conf.calibStored ∧
    t.conf.expertStored = s.conf.expertStored ∧ t.conf.g = s.conf.g ∧ t.conf.calib = s.conf.calib ∧
    t.straps.codes = s.straps.codes

theorem Device.Kept.refl (s : Device) : s.Kept s := ⟨rfl, rfl, rfl, rfl, rfl, rfl, rfl⟩

theorem Device.Kept.trans {a b c : Device} (h : a.Kept b) (k : b.Kept c) : a.Kept c := by
  obtain ⟨h1, h2, h3, h4, h5, h6, h7⟩ := h
  obtain ⟨k1, k2, k3, k4, k5, k6, k7⟩ := k
  exact ⟨h1.trans k1, h2.trans k2, h3.trans k3, h4.trans k4, h5.trans k5, h6.trans k6, h7.trans k7⟩

theorem foldl_kept {α : Type} (f : Device → α → Device) (h : ∀ s a, (f s a).Kept s) (l : List α) (s : Device) :
    (l.foldl f s).Kept s := by
  induction l generalizing s with
  | nil => exact .refl s
  | cons a l ih => rw [List.foldl_cons]; exact (ih _).trans (h s a)

theorem kept_ite {c : Prop} [Decidable c] {a b x : Device} (h : a.Kept x) (k : b.Kept x) :
    (if c then a else b).Kept x := by
  split <;> assumption

/-! ## Ops -/

@[simp] theorem Device.loadShadow_kept (s : Device) (i : Nat) : Device.Kept (Device.loadShadow s i) s := by
  unfold Device.Kept Device.loadShadow; simp

@[simp] theorem Device.draw_kept (s : Device) : Device.Kept (Device.draw s).2 s := by
  unfold Device.Kept Device.draw; simp

@[simp] theorem Device.stepRan_kept (s : Device) (u : Nat) : Device.Kept (Device.stepRan s u) s := by
  unfold Device.Kept Device.stepRan; simp

@[simp] theorem Device.commit_kept (s : Device) : Device.Kept (Device.commit s) s := by
  unfold Device.Kept Device.commit; split <;> simp

@[simp] theorem Device.journalWith_kept (s : Device) (t : Nat) (untrusted : Bool) (code arg0 arg1 : Nat) : Device.Kept (Device.journalWith s t untrusted code arg0 arg1) s := by
  unfold Device.Kept Device.journalWith; split <;> simp

@[simp] theorem Device.journalAt_kept (s : Device) (t code arg0 arg1 : Nat) : Device.Kept (Device.journalAt s t code arg0 arg1) s := by
  unfold Device.Kept Device.journalAt; simp

@[simp] theorem Device.journal_kept (s : Device) (code arg0 arg1 : Nat) : Device.Kept (Device.journal s code arg0 arg1) s := by
  unfold Device.Kept Device.journal; simp

@[simp] theorem Device.journal64_kept (s : Device) (code : Nat) (v : Int) : Device.Kept (Device.journal64 s code v) s := by
  unfold Device.Kept Device.journal64; simp

@[simp] theorem Device.refuse_kept (s : Device) (i : Nat) : Device.Kept (Device.refuse s i) s := by
  unfold Device.Kept Device.refuse; simp

@[simp] theorem Device.refuseN_kept (s : Device) (i n : Nat) : Device.Kept (Device.refuseN s i n) s := by
  unfold Device.Kept Device.refuseN; simp

@[simp] theorem Device.tamperWith_kept (s : Device) (k t : Nat) (untrusted : Bool) : Device.Kept (Device.tamperWith s k t untrusted) s := by
  unfold Device.tamperWith; split
  · split
    · exact .refl _
    · dsimp only; split
      · exact Device.commit_kept _
      · exact Device.journalWith_kept _ _ _ _ _ _
  · exact .refl _

@[simp] theorem Device.tamperAt_kept (s : Device) (k t : Nat) : Device.Kept (Device.tamperAt s k t) s := by
  unfold Device.Kept Device.tamperAt; repeat' (first | (simp; done) | split | (dsimp only; split))

@[simp] theorem Device.tamper_kept (s : Device) (k : Nat) : Device.Kept (Device.tamper s k) s := by
  unfold Device.Kept Device.tamper; simp

@[simp] theorem Device.degrade_kept (s : Device) (f : Degraded → Degraded) : Device.Kept (Device.degrade s f) s := by
  unfold Device.Kept Device.degrade; simp

@[simp] theorem Device.arm_kept (s : Device) (i target : Nat) (elapsed : Bool) : Device.Kept (s.arm i target elapsed) s := by
  unfold Device.Kept Device.arm; split <;> simp

@[simp] theorem Device.disarm_kept (s : Device) (i : Nat) : Device.Kept (s.disarm i) s := by
  unfold Device.Kept Device.disarm; split <;> simp

@[simp] theorem Device.elapse_kept (s : Device) (n : Nat) : Device.Kept (Device.elapse s n) s := by
  unfold Device.Kept Device.elapse; split <;> simp

@[simp] theorem Device.pwrUpdate_kept (s : Device) : Device.Kept (Device.pwrUpdate s) s := by
  unfold Device.Kept Device.pwrUpdate; simp

@[simp] theorem Device.toRun_kept (s : Device) : Device.Kept (Device.toRun s) s := by
  unfold Device.Kept Device.toRun; simp

@[simp] theorem Device.resetFunc_kept (s : Device) (k : Func) : Device.Kept (s.resetFunc k) s := by
  cases k <;> exact .refl s

@[simp] theorem Device.stopping_kept (s : Device) (k : Func) : Device.Kept (Device.stopping s k) s := by
  unfold Device.Kept Device.stopping; split <;> simp

@[simp] theorem Device.setFunc_kept (s : Device) (k : Func) (v : FuncState) : Device.Kept (Device.setFunc s k v) s := by
  unfold Device.Kept Device.setFunc; repeat' (first | (simp; done) | split | (dsimp only; split))

@[simp] theorem Device.enable_kept (s : Device) (k : Func) : Device.Kept (Device.enable s k) s := by
  unfold Device.Kept Device.enable; simp

@[simp] theorem Device.disable_kept (s : Device) (k : Func) : Device.Kept (Device.disable s k) s := by
  unfold Device.Kept Device.disable; simp

@[simp] theorem Device.wentOff_kept (s : Device) (k : Func) : Device.Kept (Device.wentOff s k) s := by
  unfold Device.Kept Device.wentOff; split <;> simp

@[simp] theorem Device.drain_kept (s : Device) (k : Func) : Device.Kept (Device.drain s k) s := by
  unfold Device.Kept Device.drain; repeat' (first | (simp; done) | split | (dsimp only; split))

@[simp] theorem Device.bounce_kept (s : Device) (k : Func) : Device.Kept (Device.bounce s k) s := by
  unfold Device.Kept Device.bounce; split <;> simp

@[simp] theorem Device.want_kept (s : Device) (k : Func) (b : Bool) : Device.Kept (Device.want s k b) s := by
  unfold Device.Kept Device.want; split <;> simp

@[simp] theorem Device.owe_kept (s : Device) (i n : Nat) : Device.Kept (Device.owe s i n) s := by
  unfold Device.Kept Device.owe; repeat' (first | (simp; done) | split | (dsimp only; split))

@[simp] theorem Device.oweMode_kept (s : Device) (m n : Nat) : Device.Kept (Device.oweMode s m n) s := by
  unfold Device.Kept Device.oweMode; repeat' (first | (simp; done) | split)

/-! ## Wire -/

@[simp] theorem Device.hwBad_kept (s : Device) : Device.Kept (Device.hwBad s) s := by
  unfold Device.Kept Device.hwBad; simp

@[simp] theorem Device.attend_kept (s : Device) : Device.Kept (Device.attend s) s := by
  unfold Device.Kept Device.attend; simp

@[simp] theorem Device.fireAnswered_kept (s : Device) (last : Bool) : Device.Kept (Device.fireAnswered s last) s := by
  unfold Device.Kept Device.fireAnswered; simp

@[simp] theorem Device.hwReceive_kept (s : Device) (typ : Nat) (f : HwFrame) (h : HwParts → Device → Device)
    (hh : ∀ p x, (h p x).Kept x) : Device.Kept (Device.hwReceive s typ f h) s := by
  unfold Device.hwReceive; split
  · exact .refl s
  · split
    · exact Device.hwBad_kept s
    · split
      · exact hh _ _
      · exact .refl s

@[simp] theorem Device.hwBurst_kept (s : Device) (n : Nat) : Device.Kept (Device.hwBurst s n) s := by
  unfold Device.Kept Device.hwBurst; simp

@[simp] theorem Device.hwSend_kept (s : Device) (dst typ : Nat) (payload : Bytes) : Device.Kept (Device.hwSend s dst typ payload) s := by
  unfold Device.Kept Device.hwSend; simp

@[simp] theorem Device.hwAsk_kept (s : Device) (dst typ : Nat) (payload : Bytes) : Device.Kept (Device.hwAsk s dst typ payload) s := by
  unfold Device.Kept Device.hwAsk; simp

/-! ## Wake -/

@[simp] theorem Device.journalLand_kept (s : Device) (e : LandEvent) : Device.Kept (Device.journalLand s e) s := by
  unfold Device.Kept Device.journalLand; repeat' (first | (simp; done) | split)

@[simp] theorem Device.flushEvents_kept (s : Device) : Device.Kept (s.flushEvents) s := by
  exact foldl_kept _ Device.journalLand_kept _ _

@[simp] theorem Device.landEvent_kept (s : Device) (code arg0 arg1 : Nat) : Device.Kept (Device.landEvent s code arg0 arg1) s := by
  unfold Device.Kept Device.landEvent; dsimp only; split <;> simp

@[simp] theorem Device.landEventS_kept (s : Device) (code : Nat) (v : Int) : Device.Kept (Device.landEventS s code v) s := by
  unfold Device.Kept Device.landEventS; simp

@[simp] theorem Device.reloadBank0_kept (s : Device) : Device.Kept (Device.reloadBank0 s) s := by
  unfold Device.Kept Device.reloadBank0; simp

@[simp] theorem Device.wakeUp_kept (s : Device) (src : Nat) (hib : Bool) : Device.Kept (Device.wakeUp s src hib) s := by
  unfold Device.Kept Device.wakeUp; split <;> simp

@[simp] theorem Device.woken_kept (s : Device) (src : Nat) : Device.Kept (Device.woken s src) s := by
  unfold Device.Kept Device.woken; repeat' (first | (simp; done) | split | (dsimp only; split))

/-! ## Toll -/

@[simp] theorem Device.creditRise_kept (s : Device) (d : Side) (l : SideLedger) (rise : Nat) : Device.Kept (Device.creditRise s d l rise) s := by
  unfold Device.Kept Device.creditRise; simp

@[simp] theorem Device.routeBilled_kept (s : Device) (d : Side) (num : Int) : Device.Kept (Device.routeBilled s d num) s := by
  unfold Device.Kept Device.routeBilled; dsimp only; split <;> simp

@[simp] theorem Device.routeEst_kept (s : Device) (d : Side) (num : Int) : Device.Kept (Device.routeEst s d num) s := by
  unfold Device.Kept Device.routeEst; simp

@[simp] theorem Device.routeGas_kept (s : Device) (ib : Int) (cv : Nat) (billed : Bool) : Device.Kept (Device.routeGas s ib cv billed) s := by
  unfold Device.Kept Device.routeGas; repeat' (first | (simp; done) | split | (dsimp only; split))

@[simp] theorem Device.convert_kept (s : Device) (inc : Int) (billed : Bool) : Device.Kept (Device.convert s inc billed) s := by
  unfold Device.Kept Device.convert; repeat' (first | (simp; done) | split | (dsimp only; split))

@[simp] theorem Device.unpriced_kept (s : Device) : Device.Kept (Device.unpriced s) s := by
  unfold Device.Kept Device.unpriced; simp

@[simp] theorem Device.powerRule_kept (s : Device) : Device.Kept (Device.powerRule s) s := by
  unfold Device.Kept Device.powerRule; repeat' (first | (simp; done) | split | (dsimp only; split))

@[simp] theorem Device.samplePriced_kept (s : Device) : Device.Kept (Device.samplePriced s) s := by
  unfold Device.Kept Device.samplePriced; repeat' (first | (simp; done) | split)

@[simp] theorem Device.routeEnergy_kept (s : Device) (inc : Int) (q : Option Int) : Device.Kept (Device.routeEnergy s inc q) s := by
  unfold Device.Kept Device.routeEnergy; repeat' (first | (simp; done) | split)

@[simp] theorem Device.routeEstEnergy_kept (s : Device) (inc : Int) : Device.Kept (Device.routeEstEnergy s inc) s := by
  unfold Device.Kept Device.routeEstEnergy; repeat' (first | (simp; done) | split)

@[simp] theorem Device.accrueEst_kept (s : Device) (t : Nat) : Device.Kept (Device.accrueEst s t) s := by
  unfold Device.Kept Device.accrueEst; repeat' (first | (simp; done) | split)

@[simp] theorem Device.bringUp_kept (s : Device) (t : Nat) : Device.Kept (Device.bringUp s t) s := by
  unfold Device.Kept Device.bringUp; simp

@[simp] theorem Device.safeEdge_kept (s : Device) : Device.Kept (Device.safeEdge s) s := by
  unfold Device.Kept Device.safeEdge; split <;> simp

@[simp] theorem Device.recond_kept (s : Device) : Device.Kept (Device.recond s) s := by
  unfold Device.Kept Device.recond; split <;> simp

@[simp] theorem Device.addVolume_kept (s : Device) (inc : Int) : Device.Kept (Device.addVolume s inc) s := by
  unfold Device.Kept Device.addVolume; repeat' (first | (simp; done) | split | (dsimp only; split))

@[simp] theorem Device.fallDue_kept (s : Device) : Device.Kept (Device.fallDue s) s := by
  unfold Device.Kept Device.fallDue; repeat' (first | (simp; done) | split | (dsimp only; split))

@[simp] theorem Device.tempRule_kept (s : Device) : Device.Kept (Device.tempRule s) s := by
  unfold Device.Kept Device.tempRule; repeat' (first | (simp; done) | split | (dsimp only; split))

@[simp] theorem Device.rateRise_kept (s : Device) (q : Option Int) : Device.Kept (Device.rateRise s q) s := by
  unfold Device.Kept Device.rateRise; repeat' (first | (simp; done) | split)

@[simp] theorem Device.turnMark_kept (s : Device) (h : Nat) : Device.Kept (Device.turnMark s h) s := by
  unfold Device.Kept Device.turnMark; repeat' (first | (simp; done) | split | (dsimp only; split))

@[simp] theorem Device.turnMarks_kept (s : Device) (a : Nat) (_x : Nat) : Device.Kept (Device.turnMarks s a _x) s := by
  induction _x with
  | zero => unfold Device.turnMarks; exact .refl _
  | succ k ih => unfold Device.turnMarks; exact (Device.turnMark_kept _ _).trans ih

@[simp] theorem Device.turnsUp_kept (s : Device) (new : Nat) (q : Option Int) : Device.Kept (s.turnsUp new q) s := by
  unfold Device.turnsUp; dsimp only
  exact (Device.rateRise_kept _ _).trans ((Device.tempRule_kept _).trans (Device.turnMarks_kept _ _ _))

@[simp] theorem Device.turnsDown_kept (s : Device) (n : Nat) : Device.Kept (Device.turnsDown s n) s := by
  unfold Device.Kept Device.turnsDown; simp

@[simp] theorem Device.turn_kept (s : Device) (inc : Int) (q : Option Int) : Device.Kept (Device.turn s inc q) s := by
  unfold Device.Kept Device.turn; repeat' (first | (simp; done) | split | (dsimp only; split))

@[simp] theorem Device.admitInc_kept (s : Device) (inc : Int) (q : Option Int) : Device.Kept (Device.admitInc s inc q) s := by
  unfold Device.Kept Device.admitInc; repeat' (first | (simp; done) | split | (dsimp only; split))

/-! ## Medium -/

@[simp] theorem Device.setPath_kept (s : Device) (i : Nat) (f : PathState → PathState) : Device.Kept (Device.setPath s i f) s := by
  unfold Device.Kept Device.setPath; simp

@[simp] theorem sosPaths_kept (ref : Nat) (l : List Nat) (s : Device) : Device.Kept (sosPaths ref l s) s := by
  induction l generalizing s with
  | nil => exact .refl s
  | cons i l ih =>
    unfold sosPaths
    repeat' (first | exact ih _ | (refine (ih _).trans ?_) | (unfold Device.Kept; simp; done) | split)

@[simp] theorem Device.sosCheck_kept (s : Device) : Device.Kept (s.sosCheck) s := by
  unfold Device.sosCheck; split
  · exact .refl s
  · exact (Device.degrade_kept _ _).trans (sosPaths_kept ..)

@[simp] theorem Device.wPriceStep_kept (s : Device) : Device.Kept (Device.wPriceStep s) s := by
  unfold Device.Kept Device.wPriceStep; dsimp only; split <;> simp

@[simp] theorem Device.adopt_kept (s : Device) (m : Medium) (frac : Nat) : Device.Kept (Device.adopt s m frac) s := by
  unfold Device.Kept Device.adopt; dsimp only; split <;> simp

@[simp] theorem Device.emptyOn_kept (s : Device) : Device.Kept (Device.emptyOn s) s := by
  unfold Device.Kept Device.emptyOn; split <;> simp

@[simp] theorem Device.candidate_kept (s : Device) (m : Medium) (frac : Nat) : Device.Kept (Device.candidate s m frac) s := by
  unfold Device.Kept Device.candidate; repeat' (first | (simp; done) | split | (dsimp only; split))

@[simp] theorem Device.nuStep_kept (s : Device) : Device.Kept (Device.nuStep s) s := by
  unfold Device.Kept Device.nuStep; simp

@[simp] theorem Device.classifyWith_kept (s : Device) (c : Nat) : Device.Kept (Device.classifyWith s c) s := by
  unfold Device.Kept Device.classifyWith; repeat' (first | (simp; done) | split | (dsimp only; split))

@[simp] theorem Device.pairSeen_kept (s : Device) (i : Nat) : Device.Kept (Device.pairSeen s i) s := by
  unfold Device.Kept Device.pairSeen; repeat' (first | (simp; done) | split | (dsimp only; split))

@[simp] theorem Device.classify_kept (s : Device) : Device.Kept (Device.classify s) s := by
  unfold Device.Kept Device.classify; repeat' (first | (simp; done) | split | (dsimp only; split))

/-! ## Flow -/

@[simp] theorem Device.setPort_kept (s : Device) (p : Nat) (f : Port → Port) : Device.Kept (Device.setPort s p f) s := by
  unfold Device.Kept Device.setPort; simp

@[simp] theorem Device.markPort_kept (s : Device) (q : Nat × Nat) : Device.Kept (Device.markPort s q) s := by
  unfold Device.Kept Device.markPort; split <;> simp

@[simp] theorem Device.retirePort_kept (s : Device) (q : Nat × Nat) (electrical : Bool) : Device.Kept (Device.retirePort s q electrical) s := by
  unfold Device.Kept Device.retirePort; repeat' (first | (simp; done) | split | (dsimp only; split))

@[simp] theorem Device.retirePath_kept (s : Device) (i cause : Nat) : Device.Kept (Device.retirePath s i cause) s := by
  unfold Device.Kept Device.retirePath; simp

@[simp] theorem Device.retireFaulty_kept (act : List Nat) (s : Device) (q : Nat × Nat) : Device.Kept (Device.retireFaulty act s q) s := by
  unfold Device.Kept Device.retireFaulty; split <;> simp

@[simp] theorem Device.retireShared_kept (act meets : List Nat) (s : Device) (q : Nat × Nat) : Device.Kept (Device.retireShared act meets s q) s := by
  unfold Device.Kept Device.retireShared; repeat' (first | (simp; done) | split | (dsimp only; split))

@[simp] theorem Device.retireUser_kept (s : Device) (i : Nat) : Device.Kept (Device.retireUser s i) s := by
  unfold Device.Kept Device.retireUser; split <;> simp

@[simp] theorem Device.retireAlone_kept (s : Device) (i : Nat) : Device.Kept (Device.retireAlone s i) s := by
  unfold Device.Kept Device.retireAlone; split <;> simp

@[simp] theorem Device.retire_kept (s : Device) : Device.Kept (s.retire) s := by
  unfold Device.Kept Device.retire; dsimp only
  have a : ∀ (u l : List Nat) (k : List (Nat × Nat)) (x : Device), Device.Kept (k.foldl (Device.retireShared u l) x) x :=
    fun u l k x => foldl_kept _ (Device.retireShared_kept u l) k x
  have b : ∀ (u : List Nat) (k : List (Nat × Nat)) (x : Device), Device.Kept (k.foldl (Device.retireFaulty u) x) x :=
    fun u k x => foldl_kept _ (Device.retireFaulty_kept u) k x
  have c : ∀ (l : List Nat) (x : Device), Device.Kept (l.foldl Device.retireUser x) x := fun l x => foldl_kept _ Device.retireUser_kept l x
  have d : ∀ (l : List Nat) (x : Device), Device.Kept (l.foldl Device.retireAlone x) x := fun l x => foldl_kept _ Device.retireAlone_kept l x
  split <;> simp [a, b, c, d]

@[simp] theorem Device.reconstructWith_kept (s : Device) (fc : FlowCal) (si : Nat) (w : WeightSet) : Device.Kept (Device.reconstructWith s fc si w).1 s := by
  unfold Device.Kept Device.reconstructWith; dsimp only; split <;> simp

@[simp] theorem Device.reconstruct_kept (s : Device) : Device.Kept (Device.reconstruct s).1 s := by
  unfold Device.Kept Device.reconstruct; repeat' (first | (simp; done) | split | (dsimp only; split))

@[simp] theorem Device.armGap_kept (s : Device) : Device.Kept (Device.armGap s) s := by
  unfold Device.Kept Device.armGap; simp

@[simp] theorem Device.formIncrement_kept (s : Device) (q : Int) (span : Nat) : Device.Kept (Device.formIncrement s q span).1 s := by
  unfold Device.Kept Device.formIncrement; simp

@[simp] theorem Device.setPrev_kept (s : Device) (t : Nat) : Device.Kept (Device.setPrev s t) s := by
  unfold Device.Kept Device.setPrev; simp

@[simp] theorem Device.endFlowFault_kept (s : Device) (t : Nat) : Device.Kept (Device.endFlowFault s t) s := by
  unfold Device.Kept Device.endFlowFault; split <;> simp

@[simp] theorem Device.yieldFlow_kept (s : Device) (q : Int) : Device.Kept (Device.yieldFlow s q) s := by
  unfold Device.Kept Device.yieldFlow; split <;> simp

@[simp] theorem Device.closeGap_kept (s : Device) : Device.Kept (Device.closeGap s) s := by
  unfold Device.Kept Device.closeGap; split <;> simp

@[simp] theorem Device.armWake_kept (s : Device) : Device.Kept (Device.armWake s) s := by
  unfold Device.Kept Device.armWake; repeat' (first | simp | split)

@[simp] theorem Device.noFlow_kept (s : Device) : Device.Kept (Device.noFlow s) s := by
  unfold Device.Kept Device.noFlow; repeat' (first | (simp; done) | split | (dsimp only; split))

@[simp] theorem Device.flowStep_kept (s : Device) : Device.Kept (Device.flowStep s) s := by
  unfold Device.Kept Device.flowStep; repeat' (first | (simp; done) | split | (dsimp only; split))

@[simp] theorem Device.endCycle_kept (s : Device) : Device.Kept (Device.endCycle s) s := by
  unfold Device.Kept Device.endCycle; simp

@[simp] theorem Device.decideGap_kept (s : Device) : Device.Kept (Device.decideGap s) s := by
  unfold Device.Kept Device.decideGap; split <;> simp

/-! ## HawserOps -/

@[simp] theorem Device.setSec_kept (s : Device) (k : Nat) (f : Secondary → Secondary) : Device.Kept (Device.setSec s k f) s := by
  unfold Device.Kept Device.setSec; split <;> simp

@[simp] theorem Device.hwDone_kept (s : Device) : Device.Kept (Device.hwDone s) s := by
  unfold Device.Kept Device.hwDone; simp

@[simp] theorem Device.hwAnswered_kept (s : Device) (k : Nat) : Device.Kept (Device.hwAnswered s k) s := by
  unfold Device.Kept Device.hwAnswered; simp

@[simp] theorem Device.retireChannels_kept (s : Device) (k : Nat) : Device.Kept (Device.retireChannels s k) s := by
  unfold Device.Kept Device.retireChannels; simp

@[simp] theorem Device.dropFires_kept (s : Device) (l : List Nat) : Device.Kept (Device.dropFires s l) s := by
  unfold Device.Kept Device.dropFires; repeat' (first | (simp; done) | split | (dsimp only; split))

@[simp] theorem Device.loseSecondary_kept (s : Device) (k : Nat) : Device.Kept (s.loseSecondary k) s := by
  unfold Device.Kept Device.loseSecondary; dsimp only
  have a : ∀ (l : List Nat) (x : Device), Device.Kept (l.foldl (fun (y : Device) i => y.retirePath i 2) x) x :=
    fun l x => foldl_kept _ (fun s a => Device.retirePath_kept s a 2) l x
  have b : ∀ (l : List (Nat × Nat)) (x : Device), Device.Kept (l.foldl (fun (y : Device) q => y.retirePort q false) x) x :=
    fun l x => foldl_kept _ (fun s a => Device.retirePort_kept s a false) l x
  simp [a, b]

@[simp] theorem Device.hwMissed_kept (s : Device) (k : Nat) : Device.Kept (Device.hwMissed s k) s := by
  unfold Device.Kept Device.hwMissed; repeat' (first | (simp; done) | split | (dsimp only; split))

@[simp] theorem Device.hwShelve_kept (s : Device) : Device.Kept (Device.hwShelve s) s := by
  unfold Device.Kept Device.hwShelve; repeat' (first | (simp; done) | split)

@[simp] theorem Device.hwAgain_kept (s : Device) (o : Outstanding) : Device.Kept (Device.hwAgain s o) s := by
  unfold Device.Kept Device.hwAgain; simp

@[simp] theorem Device.loopAsk_kept (s : Device) (r : LoopRun) : Device.Kept (Device.loopAsk s r) s := by
  unfold Device.Kept Device.loopAsk; split <;> simp

@[simp] theorem Device.loopPump_kept (s : Device) : Device.Kept (Device.loopPump s) s := by
  unfold Device.Kept Device.loopPump; repeat' (first | (simp; done) | split)

@[simp] theorem Device.hwPump_kept (s : Device) : Device.Kept (Device.hwPump s) s := by
  unfold Device.Kept Device.hwPump; repeat' (first | (simp; done) | split)

@[simp] theorem Device.hwGap_kept (s : Device) : Device.Kept (Device.hwGap s) s := by
  unfold Device.Kept Device.hwGap; dsimp only; split <;> simp

/-! ## PathInit -/

@[simp] theorem Device.initPorts_kept (s : Device) (cold : Bool) : Device.Kept (Device.initPorts s cold) s := by
  unfold Device.Kept Device.initPorts; simp

@[simp] theorem Device.initPaths_kept (s : Device) (old : Conf) (cold : Bool) : Device.Kept (Device.initPaths s old cold) s := by
  unfold Device.Kept Device.initPaths; simp

@[simp] theorem Device.settle_kept (s : Device) (i : Nat) : Device.Kept (Device.settle s i) s := by
  unfold Device.Kept Device.settle; repeat' (first | (simp; done) | split | (dsimp only; split))

/-! ## Bill -/

@[simp] theorem Device.stage_kept (s : Device) (e : Staged) : Device.Kept (Device.stage s e) s := by
  unfold Device.Kept Device.stage; repeat' (first | (simp; done) | split)

@[simp] theorem Device.formValue_kept (s : Device) (t e accE accV : Nat) (short bad : Bool) (k : EndKind) : Device.Kept (Device.formValue s t e accE accV short bad k) s := by
  unfold Device.Kept Device.formValue; simp

@[simp] theorem Device.endSub_kept (s : Device) (t : Nat) (k : EndKind) : Device.Kept (Device.endSub s t k) s := by
  unfold Device.Kept Device.endSub; repeat' (first | (simp; done) | split | (dsimp only; split))

@[simp] theorem Device.beginSub_kept (s : Device) (t : Nat) : Device.Kept (Device.beginSub s t) s := by
  unfold Device.Kept Device.beginSub; simp

@[simp] theorem Device.endHour_kept (s : Device) (t : Nat) (k : EndKind) : Device.Kept (Device.endHour s t k) s := by
  unfold Device.Kept Device.endHour; simp

@[simp] theorem Device.beginHour_kept (s : Device) (t : Nat) : Device.Kept (Device.beginHour s t) s := by
  unfold Device.Kept Device.beginHour; simp

@[simp] theorem Device.gapEntry_kept (s : Device) (t0 hours : Nat) : Device.Kept (Device.gapEntry s t0 hours) s := by
  unfold Device.Kept Device.gapEntry; simp

@[simp] theorem Device.crossDay_kept (s : Device) (t n : Nat) (last localDay : Int) (late : Bool) : Device.Kept (Device.crossDay s t n last localDay late) s := by
  unfold Device.Kept Device.crossDay; split <;> simp

@[simp] theorem Device.crossBill_kept (s : Device) (t n : Nat) (last : Int) (late : Bool) : Device.Kept (Device.crossBill s t n last late) s := by
  unfold Device.Kept Device.crossBill; split <;> simp

@[simp] theorem Device.seedSched_kept (s : Device) (t : Nat) : Device.Kept (Device.seedSched s t) s := by
  unfold Device.Kept Device.seedSched; split <;> simp

@[simp] theorem Device.crossEnds_kept (s : Device) (t : Nat) (late : Bool) : Device.Kept (Device.crossEnds s t late) s := by
  unfold Device.Kept Device.crossEnds; repeat' (first | (simp; done) | split | (dsimp only; split))

@[simp] theorem Device.armRefresh_kept (s : Device) : Device.Kept (Device.armRefresh s) s := by
  unfold Device.Kept Device.armRefresh; dsimp only; split <;> simp

@[simp] theorem Device.realignRefresh_kept (s : Device) : Device.Kept (Device.realignRefresh s) s := by
  unfold Device.Kept Device.realignRefresh; repeat' (first | (simp; done) | split | (dsimp only; split))

@[simp] theorem Device.activate_kept (s : Device) (t : Nat) (p : Calendar) : Device.Kept (Device.activate s t p) s := by
  unfold Device.Kept Device.activate; simp

@[simp] theorem Device.calStep_kept (s : Device) (t : Nat) : Device.Kept (Device.calStep s t) s := by
  unfold Device.Kept Device.calStep; repeat' (first | (simp; done) | split)

@[simp] theorem Device.tariffStep_kept (s : Device) (t : Nat) : Device.Kept (Device.tariffStep s t) s := by
  unfold Device.Kept Device.tariffStep; simp

@[simp] theorem Device.trustStep_kept (s : Device) : Device.Kept (Device.trustStep s) s := by
  unfold Device.Kept Device.trustStep; repeat' (first | (simp; done) | split)

@[simp] theorem Device.closeStep_kept (s : Device) (t : Nat) (x : TxnCtx) : Device.Kept (Device.closeStep s t x) s := by
  unfold Device.Kept Device.closeStep; repeat' (first | (simp; done) | split | (dsimp only; split))

@[simp] theorem Device.splitMarks_kept (s : Device) (x : TxnCtx) : Device.Kept (Device.splitMarks s x) s := by
  unfold Device.Kept Device.splitMarks; repeat' (first | (simp; done) | split)

@[simp] theorem Device.armBoundary_kept (s : Device) : Device.Kept (Device.armBoundary s) s := by
  unfold Device.Kept Device.armBoundary; dsimp only; split <;> simp

@[simp] theorem Device.rearmBoundary_kept (s : Device) : Device.Kept (Device.rearmBoundary s) s := by
  unfold Device.Kept Device.rearmBoundary; split <;> simp

@[simp] theorem Device.transaction_kept (s : Device) (x : TxnCtx) : Device.Kept (Device.transaction s x) s := by
  unfold Device.Kept Device.transaction; repeat' (first | (simp; done) | split | (dsimp only; split))

@[simp] theorem Device.transactionT0_kept (s : Device) : Device.Kept (Device.transactionT0 s) s := by
  unfold Device.Kept Device.transactionT0; dsimp only; split <;> simp

@[simp] theorem Device.holdClose_kept (s : Device) (t : Nat) : Device.Kept (Device.holdClose s t) s := by
  unfold Device.Kept Device.holdClose; simp

@[simp] theorem Device.shiftOrigins_kept (s : Device) (d : Int) : Device.Kept (Device.shiftOrigins s d) s := by
  unfold Device.Kept Device.shiftOrigins; simp

@[simp] theorem Device.boundaryFirst_kept (s : Device) : Device.Kept (Device.boundaryFirst s) s := by
  unfold Device.Kept Device.boundaryFirst; split <;> simp

/-! ## Transit -/

@[simp] theorem Device.fireRemote_kept (s : Device) (i : Nat) : Device.Kept (Device.fireRemote s i) s := by
  unfold Device.Kept Device.fireRemote; repeat' (first | (simp; done) | split | (dsimp only; split))

@[simp] theorem Device.launch_kept (s : Device) (i : Nat) : Device.Kept (Device.launch s i) s := by
  unfold Device.Kept Device.launch; simp

@[simp] theorem Device.fireNext_kept (s : Device) : Device.Kept (Device.fireNext s) s := by
  unfold Device.Kept Device.fireNext; split <;> simp

@[simp] theorem Device.landPair_kept (s : Device) (i : Nat) : Device.Kept (Device.landPair s i) s := by
  unfold Device.Kept Device.landPair; simp

@[simp] theorem Device.closeWaiting_kept (s : Device) : Device.Kept (Device.closeWaiting s) s := by
  unfold Device.Kept Device.closeWaiting; repeat' (first | (simp; done) | split | (dsimp only; split))

@[simp] theorem Device.endPair_kept (s : Device) : Device.Kept (Device.endPair s) s := by
  unfold Device.Kept Device.endPair; repeat' (first | (simp; done) | split | (dsimp only; split))

@[simp] theorem Device.afterPair_kept (s : Device) : Device.Kept (Device.afterPair s) s := by
  unfold Device.Kept Device.afterPair; simp

@[simp] theorem Device.takeSets_kept (s : Device) : Device.Kept (Device.takeSets s) s := by
  unfold Device.Kept Device.takeSets; simp

@[simp] theorem Device.openCycle_kept (s : Device) : Device.Kept (Device.openCycle s) s := by
  unfold Device.Kept Device.openCycle; simp

@[simp] theorem Device.enterFallback_kept (s : Device) : Device.Kept (Device.enterFallback s) s := by
  unfold Device.Kept Device.enterFallback; simp

@[simp] theorem Device.leaveFallback_kept (s : Device) : Device.Kept (Device.leaveFallback s) s := by
  unfold Device.Kept Device.leaveFallback; simp

@[simp] theorem Device.refFailed_kept (s : Device) : Device.Kept (Device.refFailed s) s := by
  unfold Device.Kept Device.refFailed; dsimp only; split <;> simp

@[simp] theorem Device.refCheck_kept (s : Device) (ref : Option Nat) : Device.Kept (Device.refCheck s ref).1 s := by
  unfold Device.Kept Device.refCheck; repeat' (first | (simp; done) | split | (dsimp only; split))

@[simp] theorem Device.hwSilent_kept (s : Device) : Device.Kept (Device.hwSilent s) s := by
  unfold Device.hwSilent; split
  · exact foldl_kept _ Device.hwMissed_kept _ _
  · exact .refl _

@[simp] theorem Device.beginCycle_kept (s : Device) (ref : Option Nat) : Device.Kept (Device.beginCycle s ref) s := by
  unfold Device.Kept Device.beginCycle; dsimp only; split <;> simp

@[simp] theorem Device.restartShot_kept (s : Device) : Device.Kept (Device.restartShot s) s := by
  unfold Device.Kept Device.restartShot; simp

@[simp] theorem Device.shotExpire_kept (s : Device) (ref : Option Nat) : Device.Kept (Device.shotExpire s ref) s := by
  unfold Device.Kept Device.shotExpire; dsimp only; split <;> simp

@[simp] theorem Device.extSkip_kept (s : Device) : Device.Kept (Device.extSkip s) s := by
  unfold Device.Kept Device.extSkip; simp

@[simp] theorem Device.extFire_kept (s : Device) (i : Nat) : Device.Kept (Device.extFire s i) s := by
  unfold Device.Kept Device.extFire; simp

@[simp] theorem Device.barCycle_kept (s : Device) : Device.Kept (Device.barCycle s) s := by
  unfold Device.Kept Device.barCycle; repeat' (first | (simp; done) | split | (dsimp only; split))

@[simp] theorem Device.extAccept_kept (s : Device) (ref : Option Nat) : Device.Kept (Device.extAccept s ref) s := by
  unfold Device.Kept Device.extAccept; repeat' (first | (simp; done) | split | (dsimp only; split))

@[simp] theorem Device.extRefuse_kept (s : Device) (f : ExtShot → ExtShot) : Device.Kept (Device.extRefuse s f) s := by
  unfold Device.Kept Device.extRefuse; simp

@[simp] theorem Device.shotEdge_kept (s : Device) (ref : Option Nat) : Device.Kept (Device.shotEdge s ref) s := by
  unfold Device.Kept Device.shotEdge; repeat' (first | (simp; done) | split | (dsimp only; split))

@[simp] theorem Device.notePorts_kept (s : Device) (p : PathP) (no : Nat) (cap : PairCapture) : Device.Kept (Device.notePorts s p no cap).1 s := by
  unfold Device.Kept Device.notePorts; repeat' (first | (simp; done) | split | (dsimp only; split))

@[simp] theorem Device.countPair_kept (s : Device) (overflow : Bool) : Device.Kept (Device.countPair s overflow) s := by
  unfold Device.Kept Device.countPair; simp

@[simp] theorem Device.ownPair_kept (s : Device) (i : Nat) (cap : PairCapture) : Device.Kept (Device.ownPair s i cap) s := by
  unfold Device.Kept Device.ownPair; dsimp only; split <;> simp

@[simp] theorem Device.probeEnd_kept (s : Device) (good : Bool) : Device.Kept (Device.probeEnd s good) s := by
  unfold Device.Kept Device.probeEnd; repeat' (first | (simp; done) | split | (dsimp only; split))

@[simp] theorem Device.probePair_kept (s : Device) (i : Nat) (cap : PairCapture) : Device.Kept (Device.probePair s i cap) s := by
  unfold Device.Kept Device.probePair; repeat' (first | (simp; done) | split | (dsimp only; split))

@[simp] theorem Device.probeLost_kept (s : Device) (i : Nat) : Device.Kept (Device.probeLost s i) s := by
  unfold Device.Kept Device.probeLost; simp

@[simp] theorem Device.sendResult_kept (s : Device) (i prx : Nat) (r : PathResult) : Device.Kept (Device.sendResult s i prx r) s := by
  unfold Device.Kept Device.sendResult; simp

@[simp] theorem Device.jobResult_kept (s : Device) (j : FireJob) (cap : PairCapture) : Device.Kept (Device.jobResult s j cap) s := by
  unfold Device.Kept Device.jobResult; simp

@[simp] theorem Device.jobHalf_kept (s : Device) (j : FireJob) (r2 : Nat) (cap : PairCapture) : Device.Kept (Device.jobHalf s j r2 cap) s := by
  unfold Device.Kept Device.jobHalf; simp

@[simp] theorem Device.jobDone_kept (s : Device) (j : FireJob) (cap : PairCapture) : Device.Kept (Device.jobDone s j cap) s := by
  unfold Device.Kept Device.jobDone; repeat' (first | (simp; done) | split | (dsimp only; split))

@[simp] theorem Device.refLoss_kept (s : Device) (i : Nat) : Device.Kept (Device.refLoss s i) s := by
  unfold Device.Kept Device.refLoss; split <;> simp

@[simp] theorem Device.refLossJob_kept (s : Device) (j : FireJob) : Device.Kept (Device.refLossJob s j) s := by
  unfold Device.Kept Device.refLossJob; repeat' (first | (simp; done) | split | (dsimp only; split))

@[simp] theorem Device.pushCorr_kept (s : Device) : Device.Kept (Device.pushCorr s) s := by
  unfold Device.Kept Device.pushCorr; simp

@[simp] theorem Device.ageRecompute_kept (s : Device) : Device.Kept (Device.ageRecompute s) s := by
  unfold Device.Kept Device.ageRecompute; repeat' (first | (simp; done) | split | (dsimp only; split))

@[simp] theorem Device.armMidnight_kept (s : Device) : Device.Kept (Device.armMidnight s) s := by
  unfold Device.Kept Device.armMidnight; split <;> simp

@[simp] theorem Device.calDue_kept (s : Device) (kind : Nat) : Device.Kept (Device.calDue s kind) s := by
  unfold Device.Kept Device.calDue; simp

@[simp] theorem Device.endCalRun_kept (s : Device) (full ok : Bool) : Device.Kept (Device.endCalRun s full ok) s := by
  unfold Device.Kept Device.endCalRun; repeat' (first | (simp; done) | split | (dsimp only; split))

@[simp] theorem Device.calStepRun_kept (s : Device) (x : CalStep) : Device.Kept (Device.calStepRun s x) s := by
  unfold Device.Kept Device.calStepRun; repeat' (first | (simp; done) | split | (dsimp only; split))

/-! ## Landing -/

@[simp] theorem Device.correctTokens_kept (s : Device) : Device.Kept (Device.correctTokens s) s := by
  unfold Device.Kept Device.correctTokens; repeat' (first | (simp; done) | split | (dsimp only; split))

@[simp] theorem Device.correct_kept (s : Device) : Device.Kept (Device.correct s) s := by
  unfold Device.Kept Device.correct; simp

@[simp] theorem Device.corrHold_kept (s : Device) : Device.Kept (Device.corrHold s) s := by
  unfold Device.Kept Device.corrHold; split <;> simp

@[simp] theorem Device.updateTimeNow_kept (s : Device) : Device.Kept (Device.updateTimeNow s) s := by
  unfold Device.Kept Device.updateTimeNow; simp

@[simp] theorem Device.shiftWorking_kept (s : Device) (d : Int) : Device.Kept (Device.shiftWorking s d) s := by
  exact .refl _

@[simp] theorem Device.classEvent_kept (s : Device) (k : SetClass) (sigma : Int) : Device.Kept (Device.classEvent s k sigma) s := by
  unfold Device.Kept Device.classEvent; split <;> simp

@[simp] theorem Device.stepTransaction_kept (s : Device) (k : SetClass) (sigma : Int) : Device.Kept (Device.stepTransaction s k sigma) s := by
  unfold Device.Kept Device.stepTransaction; split <;> simp

@[simp] theorem Device.rearmMidnight_kept (s : Device) : Device.Kept (Device.rearmMidnight s) s := by
  unfold Device.Kept Device.rearmMidnight; split <;> simp

@[simp] theorem Device.applySet_kept (s : Device) (p : PendSet) : Device.Kept (Device.applySet s p) s := by
  unfold Device.Kept Device.applySet; repeat' (first | (simp; done) | split | (dsimp only; split))

@[simp] theorem Device.tamperIn_kept (s : Device) (k : TamperIn) : Device.Kept (Device.tamperIn s k) s := by
  unfold Device.Kept Device.tamperIn; split <;> simp

@[simp] theorem Device.setSeal_kept (s : Device) (v : SealState) : Device.Kept (Device.setSeal s v) s := by
  unfold Device.Kept Device.setSeal; repeat' (first | (simp; done) | split)

@[simp] theorem Device.probe_kept (s : Device) (high between : Bool) : Device.Kept (Device.probe s high between) s := by
  unfold Device.Kept Device.probe; repeat' (first | (simp; done) | split | (dsimp only; split))

@[simp] theorem Device.setCaseMag_kept (s : Device) (pin : CaseMag) (high : Bool) : Device.Kept (Device.setCaseMag s pin high) s := by
  unfold Device.Kept Device.setCaseMag; repeat' (first | (simp; done) | split)

@[simp] theorem Device.serveTamper_kept (s : Device) (e : TamperEvt) : Device.Kept (Device.serveTamper s e) s := by
  unfold Device.Kept Device.serveTamper; split <;> simp

@[simp] theorem Device.mirrorPulses_kept (s : Device) : Device.Kept (Device.mirrorPulses s) s := by
  unfold Device.Kept Device.mirrorPulses; simp

@[simp] theorem Device.discardSet_kept (s : Device) : Device.Kept (Device.discardSet s) s := by
  unfold Device.Kept Device.discardSet; split <;> simp

@[simp] theorem Device.evalPins_kept (s : Device) (p : PinLevels) : Device.Kept (Device.evalPins s p) s := by
  unfold Device.Kept Device.evalPins; repeat' (first | (simp; done) | split | (dsimp only; split))

@[simp] theorem Device.landRestart_kept (s : Device) (pins : PinLevels) (cause : Nat) : Device.Kept (Device.landRestart s pins cause) s := by
  unfold Device.Kept Device.landRestart; simp

@[simp] theorem Device.coldFor_kept (s : Device) (cause : Nat) : Device.Kept (Device.coldFor s cause) s := by
  unfold Device.Kept Device.coldFor; simp

@[simp] theorem Device.supplyBack_kept (s : Device) (pins : PinLevels) : Device.Kept (Device.supplyBack s pins) s := by
  unfold Device.Kept Device.supplyBack; split <;> simp

/-! ## PulseOut -/

@[simp] theorem Device.restarted_kept (s : Device) (dt : Nat) (f : Func) : Device.Kept (Device.restarted s dt f) s := by
  unfold Device.Kept Device.restarted; split <;> simp

/-! ## Temp -/

@[simp] theorem Device.unitStep_kept (s : Device) (x : Nat) (v : Int) (fault : Nat) : Device.Kept (Device.unitStep s x v fault).1 s := by
  unfold Device.Kept Device.unitStep; repeat' (first | (simp; done) | split | (dsimp only; split))

@[simp] theorem unitSteps_kept (l : List (Nat × Option (Int × Nat))) (s : Device) (acc : List (Option Int × Bool)) :
    Device.Kept (unitSteps l s acc).1 s := by
  induction l generalizing s acc with
  | nil => exact .refl s
  | cons i l ih =>
    obtain ⟨x, _ | p⟩ := i
    · exact ih ..
    · exact (ih ..).trans (Device.unitStep_kept ..)

@[simp] theorem Device.swapStep_kept (s : Device) (mode : ThermalMode) : Device.Kept (Device.swapStep s mode) s := by
  unfold Device.Kept Device.swapStep; repeat' (first | (simp; done) | split | (dsimp only; split))

@[simp] theorem checkSteps_kept (vals : List (Option Int × Bool)) (l : List (Chan × Nat)) (s : Device) : Device.Kept (checkSteps vals l s) s := by
  induction l generalizing s with
  | nil => exact .refl s
  | cons i l ih =>
    unfold checkSteps
    repeat' (first | exact ih _ | (refine (ih _).trans ?_) | (unfold Device.Kept; simp; done) | split)

@[simp] theorem Device.checkFlag_kept (s : Device) : Device.Kept (Device.checkFlag s) s := by
  unfold Device.Kept Device.checkFlag; simp

@[simp] theorem Device.bridgeStep_kept (s : Device) (b : Option ((Int × Nat) × (Int × Nat))) (thetaM : Int) :
    Device.Kept (Device.bridgeStep s b thetaM).1 s := by
  unfold Device.Kept Device.bridgeStep; repeat' (first | (simp; done) | split | (dsimp only; split))

@[simp] theorem Device.useUnits_kept (s : Device) : Device.Kept (Device.useUnits s) s := by
  unfold Device.Kept Device.useUnits; simp

@[simp] theorem Device.dropBridge_kept (s : Device) : Device.Kept (Device.dropBridge s) s := by
  unfold Device.Kept Device.dropBridge; repeat' (first | (simp; done) | split | (dsimp only; split))

@[simp] theorem Device.refStep_kept (s : Device) (own : OwnPart) : Device.Kept (Device.refStep s own) s := by
  unfold Device.Kept Device.refStep; repeat' (first | (simp; done) | split | (dsimp only; split))

@[simp] theorem Device.completeSample_kept (s : Device) (own : OwnPart) : Device.Kept (Device.completeSample s own) s := by
  unfold Device.completeSample
  refine (Device.commit_kept _).trans ((Device.recond_kept _).trans ((Device.samplePriced_kept _).trans ?_))
  exact (Device.checkFlag_kept _).trans ((checkSteps_kept _ _ _).trans ((Device.swapStep_kept _ _).trans
    ((Device.bridgeStep_kept _ _ _).trans ((unitSteps_kept _ _ _).trans (Device.refStep_kept _ _)))))

@[simp] theorem Device.trySample_kept (s : Device) : Device.Kept (s.trySample) s := by
  unfold Device.trySample; split
  · split
    · exact (Device.completeSample_kept _ _).trans (Device.boundaryFirst_kept _)
    · exact .refl _
  · exact .refl _

@[simp] theorem Device.secondarySample_kept (s : Device) (p : OwnPart) : Device.Kept (Device.secondarySample s p) s := by
  unfold Device.Kept Device.secondarySample; simp

@[simp] theorem Device.sampleAnswer_kept (s : Device) (m : SampleInput) : Device.Kept (Device.sampleAnswer s m) s := by
  unfold Device.Kept Device.sampleAnswer; simp

/-! ## Air -/

@[simp] theorem Device.pickKey_kept (s : Device) (up : Bool) : Device.Kept (Device.pickKey s up).2 s := by
  unfold Device.Kept Device.pickKey; split <;> simp

@[simp] theorem Device.count_kept (s : Device) (k : Nat) : Device.Kept (Device.count s k) s := by
  unfold Device.Kept Device.count; simp

@[simp] theorem Device.budgetHit_kept (s : Device) : Device.Kept (Device.budgetHit s) s := by
  unfold Device.Kept Device.budgetHit; dsimp only; split <;> simp

@[simp] theorem Device.fcntCheck_kept (s : Device) : Device.Kept (Device.fcntCheck s) s := by
  unfold Device.Kept Device.fcntCheck; split <;> simp

@[simp] theorem Device.onAir_kept (s : Device) (ch : Nat) (b : Bytes) : Device.Kept (Device.onAir s ch b) s := by
  unfold Device.Kept Device.onAir; simp

@[simp] theorem Device.sendAir_kept (s : Device) (up : Bool) (ch : Nat) (h : AirHeader) (payload : Bytes) : Device.Kept ((Device.sendAir s up ch h payload).2) s := by
  unfold Device.Kept Device.sendAir; repeat' (first | (simp; done) | split | (dsimp only; split))

@[simp] theorem Device.contactAt_kept (s : Device) (t : Nat) : Device.Kept (Device.contactAt s t) s := by
  unfold Device.Kept Device.contactAt; simp

/-! ## Sched -/

@[simp] theorem Device.startContacts_kept (s : Device) : Device.Kept (Device.startContacts s) s := by
  unfold Device.Kept Device.startContacts; repeat' (first | (simp; done) | split | (dsimp only; split))

@[simp] theorem Device.setChild_kept (s : Device) (i : Nat) (f : Child → Child) : Device.Kept (Device.setChild s i f) s := by
  unfold Device.Kept Device.setChild; simp

@[simp] theorem Device.armWindows_kept (s : Device) : Device.Kept (Device.armWindows s) s := by
  unfold Device.Kept Device.armWindows; repeat' (first | (simp; done) | split | (dsimp only; split))

@[simp] theorem Device.wmArm_kept (s : Device) : Device.Kept (Device.wmArm s) s := by
  unfold Device.Kept Device.wmArm; simp

@[simp] theorem Device.wmStart_kept (s : Device) : Device.Kept (Device.wmStart s) s := by
  unfold Device.Kept Device.wmStart; split <;> simp

@[simp] theorem Device.planRadio_kept (s : Device) : Device.Kept (Device.planRadio s) s := by
  unfold Device.Kept Device.planRadio; repeat' (first | (simp; done) | split | (dsimp only; split))

/-! ## Display -/

@[simp] theorem Device.displayCompose_kept (s : Device) (full : Bool) (accepted : Nat) : Device.Kept (Device.displayCompose s full accepted) s := by
  unfold Device.Kept Device.displayCompose; dsimp only; split <;> simp

@[simp] theorem Device.displayTables_kept (s : Device) : Device.Kept (Device.displayTables s) s := by
  unfold Device.Kept Device.displayTables; repeat' (first | (simp; done) | split | (dsimp only; split))

@[simp] theorem Device.displayRetable_kept (s : Device) : Device.Kept (Device.displayRetable s) s := by
  unfold Device.Kept Device.displayRetable; repeat' (first | (simp; done) | split | (dsimp only; split))

@[simp] theorem Device.frameBoundary_kept (s : Device) : Device.Kept (Device.frameBoundary s) s := by
  unfold Device.Kept Device.frameBoundary; repeat' (first | (simp; done) | split | (dsimp only; split))

@[simp] theorem Device.budgetRefused_kept (s : Device) : Device.Kept (Device.budgetRefused s) s := by
  unfold Device.Kept Device.budgetRefused; split <;> simp

@[simp] theorem Device.displayAdmit_kept (s : Device) (f : Device → Device) (hh : ∀ x, (f x).Kept x) : Device.Kept (s.displayAdmit f) s := by
  unfold Device.displayAdmit; split
  · exact Device.refuse_kept ..
  · split
    · exact hh _
    · exact Device.budgetRefused_kept s

@[simp] theorem Device.showPage_kept (s : Device) (p seconds : Nat) : Device.Kept (Device.showPage s p seconds) s := by
  unfold Device.Kept Device.showPage; simp

@[simp] theorem Device.displayRequest_kept (s : Device) (page : Nat) (full : Bool) (hold : Nat) :
    Device.Kept (s.displayRequest page full hold) s := by
  exact Device.displayAdmit_kept _ _ fun x => (Device.displayCompose_kept ..).trans (Device.showPage_kept ..)

@[simp] theorem Device.displayStart_kept (s : Device) : Device.Kept (Device.displayStart s) s := by
  unfold Device.Kept Device.displayStart; dsimp only; split <;> simp

/-! ## Apply -/

@[simp] theorem Device.wantStep_kept (s : Device) (f : Func) : Device.Kept (Device.wantStep s f) s := by
  unfold Device.Kept Device.wantStep; simp

@[simp] theorem Device.applyFunctions_kept (s : Device) : Device.Kept (s.applyFunctions) s := by
  rw [Device.applyFunctions]; exact foldl_kept Device.wantStep Device.wantStep_kept allFuncs s

@[simp] theorem Device.initShot_kept (s : Device) : Device.Kept (Device.initShot s) s := by
  unfold Device.Kept Device.initShot; simp

@[simp] theorem Device.shotChanged_kept (s : Device) (old : Conf) : Device.Kept (Device.shotChanged s old) s := by
  unfold Device.Kept Device.shotChanged; dsimp only; split <;> simp

@[simp] theorem Device.initPulse_kept (s : Device) : Device.Kept (Device.initPulse s) s := by
  unfold Device.Kept Device.initPulse; simp

@[simp] theorem Device.initRadio_kept (s : Device) : Device.Kept (Device.initRadio s) s := by
  unfold Device.Kept Device.initRadio; simp

@[simp] theorem Device.initRole_kept (s : Device) : Device.Kept (Device.initRole s) s := by
  unfold Device.Kept Device.initRole; repeat' (first | (simp; done) | split | (dsimp only; split))

@[simp] theorem Device.renameSecs_kept (s : Device) : Device.Kept (Device.renameSecs s) s := by
  unfold Device.Kept Device.renameSecs; repeat' (first | (simp; done) | split | (dsimp only; split))

@[simp] theorem Device.classDefault_kept (s : Device) : Device.Kept (Device.classDefault s) s := by
  unfold Device.Kept Device.classDefault; repeat' (first | (simp; done) | split | (dsimp only; split))

@[simp] theorem Device.calibTest_kept (s : Device) : Device.Kept (Device.calibTest s) s := by
  unfold Device.Kept Device.calibTest; repeat' (first | (simp; done) | split | (dsimp only; split))

@[simp] theorem Device.startMetering_kept (s : Device) : Device.Kept (Device.startMetering s) s := by
  unfold Device.Kept Device.startMetering; simp

@[simp] theorem Device.bounceIf_kept (s : Device) (b : Bool) (f : Func) : Device.Kept (Device.bounceIf s b f) s := by
  unfold Device.Kept Device.bounceIf; split <;> simp

@[simp] theorem Device.recommitA_kept (s : Device) (old : Conf) : Device.Kept (Device.recommitA s old) s := by
  unfold Device.Kept Device.recommitA; repeat' (first | (simp; done) | split)

@[simp] theorem Device.recommitB_kept (s : Device) (o n : Groups) : Device.Kept (Device.recommitB s o n) s := by
  unfold Device.Kept Device.recommitB; repeat' (first | (simp; done) | split)

@[simp] theorem Device.recommitT_kept (s : Device) (o n : Groups) : Device.Kept (Device.recommitT s o n) s := by
  unfold Device.Kept Device.recommitT; split <;> simp

@[simp] theorem Device.tablesGone_kept (s : Device) : Device.Kept (Device.tablesGone s) s := by
  unfold Device.Kept Device.tablesGone; repeat' (first | (simp; done) | split | (dsimp only; split))

@[simp] theorem Device.recommitC_kept (s : Device) (old new : Conf) : Device.Kept (Device.recommitC s old new) s := by
  unfold Device.Kept Device.recommitC; repeat' (first | (simp; done) | split)

@[simp] theorem Device.recommitD_kept (s : Device) (o n : Groups) : Device.Kept (s.recommitD o n) s := by
  rw [Device.recommitD]
  refine (Device.applyFunctions_kept _).trans ?_
  exact foldl_kept (fun (x : Device) (r : Bool × Func) => x.bounceIf r.1 r.2) (fun x r => Device.bounceIf_kept x r.1 r.2) _ s

@[simp] theorem Device.recommitE_kept (s : Device) (was : Bool) (o n : Groups) : Device.Kept (Device.recommitE s was o n) s := by
  unfold Device.Kept Device.recommitE; repeat' (first | (simp; done) | split | (dsimp only; split))

@[simp] theorem Device.applyCommit_kept (s : Device) (old : Conf) : Device.Kept (Device.applyCommit s old) s := by
  unfold Device.Kept Device.applyCommit; simp

@[simp] theorem Device.reconcile_kept (s : Device) : Device.Kept (Device.reconcile s) s := by
  unfold Device.Kept Device.reconcile; split <;> simp

/-! ## PowerOps -/

@[simp] theorem Device.mirrorBank0_kept (s : Device) : Device.Kept (Device.mirrorBank0 s) s := by
  unfold Device.Kept Device.mirrorBank0; simp

@[simp] theorem Device.sleepEffects_kept (s : Device) (p : PState) : Device.Kept (Device.sleepEffects s p) s := by
  unfold Device.Kept Device.sleepEffects; repeat' (first | (simp; done) | split)

@[simp] theorem Device.enterState_kept (s : Device) (p : PState) (n : Nat) : Device.Kept (Device.enterState s p n) s := by
  unfold Device.Kept Device.enterState; simp

@[simp] theorem Device.rest_kept (s : Device) (n : Nat) : Device.Kept (Device.rest s n) s := by
  unfold Device.Kept Device.rest; dsimp only; split <;> simp

/-! ## Cascade -/

@[simp] theorem Device.cfgFaulted_kept (s : Device) (cause : Nat) (dev : Option Nat) : Device.Kept (Device.cfgFaulted s cause dev) s := by
  unfold Device.Kept Device.cfgFaulted; split <;> simp

@[simp] theorem Device.loseMissing_kept (s : Device) : Device.Kept (s.loseMissing) s := by
  exact foldl_kept _ Device.loseSecondary_kept _ _

@[simp] theorem Device.broadcastTime_kept (s : Device) : Device.Kept (Device.broadcastTime s) s := by
  unfold Device.Kept Device.broadcastTime; simp

@[simp] theorem Device.configureFresh_kept (s : Device) : Device.Kept (Device.configureFresh s) s := by
  unfold Device.Kept Device.configureFresh; simp

@[simp] theorem Device.startSync_kept (s : Device) : Device.Kept (Device.startSync s) s := by
  unfold Device.Kept Device.startSync; repeat' (first | (simp; done) | split | (dsimp only; split))

/-! ## Wipe -/

@[simp] theorem Device.wipe1_kept (s : Device) : Device.Kept (Device.wipe1 s) s := by
  unfold Device.Kept Device.wipe1; simp

@[simp] theorem Device.wipe2_kept (s : Device) : Device.Kept (Device.wipe2 s) s := by
  unfold Device.Kept Device.wipe2; dsimp only; split <;> simp

@[simp] theorem Device.wipe3_kept (s : Device) : Device.Kept (Device.wipe3 s) s := by
  unfold Device.Kept Device.wipe3; simp

@[simp] theorem Device.wipe4_kept (s : Device) : Device.Kept (Device.wipe4 s) s := by
  unfold Device.Kept Device.wipe4; simp

@[simp] theorem Device.builtInCalendar_kept (s : Device) : Device.Kept (Device.builtInCalendar s) s := by
  unfold Device.Kept Device.builtInCalendar; dsimp only; split <;> simp

@[simp] theorem Device.wipe7_kept (s : Device) : Device.Kept (Device.wipe7 s) s := by
  unfold Device.Kept Device.wipe7; split <;> simp

@[simp] theorem Device.reseed_kept (s : Device) : Device.Kept (Device.reseed s) s := by
  unfold Device.Kept Device.reseed; repeat' (first | (simp; done) | split | (dsimp only; split))

@[simp] theorem Device.wipeSeed_kept (s : Device) (mask : Nat) : Device.Kept (Device.wipeSeed s mask) s := by
  unfold Device.Kept Device.wipeSeed; split <;> simp

/-! ## HoldUp -/

@[simp] theorem Device.holdBegin_kept (s : Device) (ship : Bool) : Device.Kept (Device.holdBegin s ship) s := by
  unfold Device.Kept Device.holdBegin; repeat' (first | (simp; done) | split | (dsimp only; split))

@[simp] theorem Device.holdStart_kept (s : Device) : Device.Kept (Device.holdStart s) s := by
  unfold Device.Kept Device.holdStart; repeat' (first | (simp; done) | split | (dsimp only; split))

@[simp] theorem Device.disableAll_kept (s : Device) : Device.Kept (Device.disableAll s) s := by
  unfold Device.Kept Device.disableAll; repeat' (first | (simp; done) | split | (dsimp only; split))

/-! ## Security -/

@[simp] theorem Device.verdict_kept (s : Device) (p : RecPath) (r : Rec) (cause : Nat) : Device.Kept (Device.verdict s p r cause) s := by
  unfold Device.Kept Device.verdict; repeat' (first | (simp; done) | split)

@[simp] theorem Device.legalCount_kept (s : Device) (r : Rec) : Device.Kept (Device.legalCount s r) s := by
  unfold Device.Kept Device.legalCount; split <;> simp

@[simp] theorem Device.applyCalendar_kept (s : Device) (r : Rec) : Device.Kept (Device.applyCalendar s r) s := by
  unfold Device.Kept Device.applyCalendar; dsimp only; split <;> simp

@[simp] theorem Device.waitSet_kept (s : Device) (p : Option PendSet) : Device.Kept (Device.waitSet s p) s := by
  unfold Device.Kept Device.waitSet; split <;> simp

@[simp] theorem Device.applyTimeSet_kept (s : Device) (b : Bytes) : Device.Kept (Device.applyTimeSet s b) s := by
  unfold Device.Kept Device.applyTimeSet; simp

@[simp] theorem Device.openJoin_kept (s : Device) : Device.Kept (Device.openJoin s) s := by
  unfold Device.Kept Device.openJoin; dsimp only; split <;> simp

@[simp] theorem Device.applyRadioCfg_kept (s : Device) (b : Bytes) : Device.Kept (Device.applyRadioCfg s b) s := by
  unfold Device.Kept Device.applyRadioCfg; simp

@[simp] theorem Device.recCommit_kept (s : Device) (r : Rec) : Device.Kept (Device.recCommit s r) s := by
  unfold Device.recCommit Security.setSeq
  refine (Device.commit_kept _).trans ?_
  split <;> exact .refl _

@[simp] theorem Device.tapLoad_kept (s : Device) (l : TapLevel) : Device.Kept (Device.tapLoad s l) s := by
  unfold Device.Kept Device.tapLoad; repeat' (first | (simp; done) | split | (dsimp only; split))

/-! ## Ferry -/

@[simp] theorem Device.setExch_kept (s : Device) (e : Exchange) : Device.Kept (Device.setExch s e) s := by
  unfold Device.Kept Device.setExch; simp

@[simp] theorem Device.endExchange_kept (s : Device) : Device.Kept (Device.endExchange s) s := by
  unfold Device.Kept Device.endExchange; simp

@[simp] theorem Device.sendIn_kept (s : Device) (x : Sent) (payload : Bytes) (more : Bool) : Device.Kept (Device.sendIn s x payload more) s := by
  unfold Device.Kept Device.sendIn; repeat' (first | (simp; done) | split | (dsimp only; split))

@[simp] theorem Device.forwardData_kept (s : Device) : Device.Kept (Device.forwardData s).2 s := by
  unfold Device.Kept Device.forwardData; simp

@[simp] theorem Device.digestSent_kept (s : Device) (items : Bytes) : Device.Kept (Device.digestSent s items) s := by
  unfold Device.Kept Device.digestSent; split <;> simp

@[simp] theorem Device.ownData_kept (s : Device) : Device.Kept (Device.ownData s).2 s := by
  unfold Device.Kept Device.ownData; simp

@[simp] theorem Device.dataAcked_kept (s : Device) : Device.Kept (Device.dataAcked s) s := by
  unfold Device.Kept Device.dataAcked; simp

@[simp] theorem Device.sendForward_kept (s : Device) : Device.Kept (Device.sendForward s) s := by
  unfold Device.Kept Device.sendForward; simp

@[simp] theorem Device.afterAckUp_kept (s : Device) : Device.Kept (Device.afterAckUp s) s := by
  unfold Device.Kept Device.afterAckUp; repeat' (first | (simp; done) | split)

@[simp] theorem Device.airClear_kept (s : Device) : Device.Kept (Device.airClear s) s := by
  unfold Device.Kept Device.airClear; simp

@[simp] theorem Device.fallbackContact_kept (s : Device) : Device.Kept (Device.fallbackContact s) s := by
  unfold Device.Kept Device.fallbackContact; simp

@[simp] theorem Device.contactMissed_kept (s : Device) : Device.Kept (Device.contactMissed s) s := by
  unfold Device.Kept Device.contactMissed; dsimp only; split <;> simp

@[simp] theorem Device.contactFrame_kept (s : Device) : Device.Kept (Device.contactFrame s) s := by
  unfold Device.Kept Device.contactFrame; repeat' (first | (simp; done) | split)

@[simp] theorem Device.beginContact_kept (s : Device) : Device.Kept (Device.beginContact s) s := by
  unfold Device.Kept Device.beginContact; repeat' (first | (simp; done) | split | (dsimp only; split))

@[simp] theorem Device.ackTimeout_kept (s : Device) : Device.Kept (Device.ackTimeout s) s := by
  unfold Device.Kept Device.ackTimeout; repeat' (first | (simp; done) | split)

@[simp] theorem Device.chooseNext_kept (s : Device) (c : Child) (t : Nat) : Device.Kept (Device.chooseNext s c t).2 s := by
  unfold Device.Kept Device.chooseNext; dsimp only; split <;> simp

@[simp] theorem Device.planChild_kept (s : Device) (i t : Nat) : Device.Kept (Device.planChild s i t).2.2 s := by
  unfold Device.Kept Device.planChild; split <;> simp

@[simp] theorem Device.childContact_kept (s : Device) (i : Nat) (f : RxFrame) (h : AirHeader) : Device.Kept (Device.childContact s i f h) s := by
  unfold Device.Kept Device.childContact; repeat' (first | (simp; done) | split)

@[simp] theorem Device.timeSfd_kept (s : Device) (t : Nat) : Device.Kept (Device.timeSfd s t).2 s := by
  unfold Device.Kept Device.timeSfd; simp

@[simp] theorem Device.sendTodo_kept (s : Device) (t : Nat) : Device.Kept (Device.sendTodo s t) s := by
  unfold Device.Kept Device.sendTodo; repeat' (first | (simp; done) | split)

@[simp] theorem Device.afterAckDown_kept (s : Device) (t : Nat) : Device.Kept (Device.afterAckDown s t) s := by
  unfold Device.Kept Device.afterAckDown; repeat' (first | simp | split)

@[simp] theorem Device.ackChild_kept (s : Device) (i fcnt status tRel t : Nat) : Device.Kept (Device.ackChild s i fcnt status tRel t) s := by
  unfold Device.Kept Device.ackChild; simp

@[simp] theorem Device.replay_kept (s : Device) (l : Link) (new : Bool) (fcnt : Nat) : Device.Kept (Device.replay s l new fcnt).2 s := by
  unfold Device.Kept Device.replay; repeat' (first | (simp; done) | split | (dsimp only; split))

@[simp] theorem Device.ackStranger_kept (s : Device) (ch : Nat) (h : AirHeader) (fcnt short : Nat) : Device.Kept (Device.ackStranger s ch h fcnt short) s := by
  unfold Device.Kept Device.ackStranger; simp

@[simp] theorem Device.airFrameIn_kept (s : Device) (mine : AirHeader → Bool) (f : RxFrame)
    (h : Heard → Device → Device) (hh : ∀ p x, (h p x).Kept x) : Device.Kept (s.airFrameIn mine f h) s := by
  rw [Device.airFrameIn]
  split
  · exact Device.count_kept ..
  split
  · exact Device.count_kept ..
  split
  · exact Device.count_kept ..
  split
  · exact .refl _
  split
  · exact .refl _
  · split
    · exact Device.ackStranger_kept ..
    · exact .refl _
  split
  · exact Device.count_kept ..
  split
  · exact Device.count_kept ..
  dsimp only
  split
  · exact Device.count_kept ..
  · exact (hh _ _).trans ((Device.count_kept ..).trans (Device.count_kept ..))
  · exact (hh _ _).trans ((Device.count_kept ..).trans (Device.replay_kept ..))

@[simp] theorem Device.keepListening_kept (s : Device) (f : RxFrame) : Device.Kept (Device.keepListening s f) s := by
  unfold Device.Kept Device.keepListening; simp

@[simp] theorem Device.airIn_kept (s : Device) (mine : AirHeader → Bool) (f : RxFrame)
    (h : Heard → Device → Device) (hh : ∀ p x, (h p x).Kept x) : Device.Kept (s.airIn mine f h) s := by
  unfold Device.airIn; split
  · have a : Device.Kept ((if f.modeSwitch = true then s.airClear else s.airClear.airFrameIn mine f h)) s := by
      split
      · exact Device.airClear_kept s
      · exact (Device.airFrameIn_kept _ _ _ _ hh).trans (Device.airClear_kept s)
    exact (Device.armWindows_kept _).trans ((Device.keepListening_kept _ _).trans a)
  · exact .refl _

@[simp] theorem Device.airBad_kept (s : Device) : Device.Kept (Device.airBad s) s := by
  unfold Device.Kept Device.airBad; simp

@[simp] theorem Device.noted_kept (s : Device) (x : Heard) : Device.Kept (Device.noted s x) s := by
  unfold Device.Kept Device.noted; split <;> simp

@[simp] theorem Device.gotIn_kept (s : Device) (x : Heard) : Device.Kept (Device.gotIn s x) s := by
  unfold Device.Kept Device.gotIn; dsimp only; split <;> simp

@[simp] theorem Device.childBegin_kept (s : Device) (i : Nat) (x : Heard) : Device.Kept (Device.childBegin s i x) s := by
  unfold Device.Kept Device.childBegin; simp

@[simp] theorem Device.contactOf_kept (s : Device) (i : Nat) (x : Heard) : Device.Kept (Device.contactOf s i x) s := by
  unfold Device.Kept Device.contactOf; split <;> simp

@[simp] theorem Device.onPoll_kept (x : Heard) (s : Device) : Device.Kept (Device.onPoll x s) s := by
  unfold Device.Kept Device.onPoll; repeat' (first | (simp; done) | split)

@[simp] theorem Device.cacheDigest_kept (s : Device) (i : Nat) (l : List RxItem) : Device.Kept (Device.cacheDigest s i l) s := by
  unfold Device.Kept Device.cacheDigest; split <;> simp

@[simp] theorem Device.readAnswered_kept (s : Device) (i k : Nat) (l : List RxItem) : Device.Kept (Device.readAnswered s i k l) s := by
  unfold Device.Kept Device.readAnswered; simp

@[simp] theorem Device.onData_kept (x : Heard) (s : Device) : Device.Kept (Device.onData x s) s := by
  unfold Device.Kept Device.onData; repeat' (first | (simp; done) | split | (dsimp only; split))

@[simp] theorem Device.joinReply_kept (s : Device) (x : Heard) (status nextIn nextCh tRel : Nat) (pending : Bool) : Device.Kept (Device.joinReply s x status nextIn nextCh tRel pending).2 s := by
  unfold Device.Kept Device.joinReply; simp

@[simp] theorem Device.joinFull_kept (s : Device) (x : Heard) : Device.Kept (Device.joinFull s x) s := by
  unfold Device.Kept Device.joinFull; repeat' (first | (simp; done) | split | (dsimp only; split))

@[simp] theorem Device.joinAnswer_kept (s : Device) (i : Nat) (x : Heard) : Device.Kept (Device.joinAnswer s i x) s := by
  unfold Device.Kept Device.joinAnswer; repeat' (first | (simp; done) | split | (dsimp only; split))

@[simp] theorem Device.joinOk_kept (s : Device) (i : Nat) (x : Heard) : Device.Kept (Device.joinOk s i x) s := by
  unfold Device.Kept Device.joinOk; simp

@[simp] theorem Device.joinAgain_kept (s : Device) (i : Nat) (x : Heard) : Device.Kept (Device.joinAgain s i x) s := by
  unfold Device.Kept Device.joinAgain; repeat' (first | (simp; done) | split | (dsimp only; split))

@[simp] theorem Device.onJoin_kept (x : Heard) (s : Device) : Device.Kept (Device.onJoin x s) s := by
  unfold Device.Kept Device.onJoin; repeat' (first | (simp; done) | split)

@[simp] theorem Device.joined_kept (s : Device) (x : Heard) : Device.Kept (Device.joined s x) s := by
  unfold Device.Kept Device.joined; simp

@[simp] theorem Device.ackUp_kept (s : Device) (x : Heard) (e : Exchange) : Device.Kept (Device.ackUp s x e) s := by
  unfold Device.Kept Device.ackUp; repeat' (first | (simp; done) | split | (dsimp only; split))

@[simp] theorem Device.noteDone_kept (s : Device) (i k st : Nat) : Device.Kept (Device.noteDone s i k st) s := by
  unfold Device.Kept Device.noteDone; repeat' (first | (simp; done) | split)

@[simp] theorem Device.ackDown_kept (s : Device) (i : Nat) (x : Heard) (e : Exchange) : Device.Kept (Device.ackDown s i x e) s := by
  unfold Device.Kept Device.ackDown; repeat' (first | (simp; done) | split | (dsimp only; split))

@[simp] theorem Device.onAck_kept (x : Heard) (s : Device) : Device.Kept (Device.onAck x s) s := by
  unfold Device.Kept Device.onAck; repeat' (first | (simp; done) | split)

@[simp] theorem Device.ackUpper_kept (s : Device) (fcnt status tRel : Nat) : Device.Kept (Device.ackUpper s fcnt status tRel) s := by
  unfold Device.Kept Device.ackUpper; simp

@[simp] theorem Device.keepAck_kept (s : Device) (status tRel : Nat) (slot : Option Nat) : Device.Kept (Device.keepAck s status tRel slot) s := by
  unfold Device.Kept Device.keepAck; repeat' (first | (simp; done) | split | (dsimp only; split))

@[simp] theorem Device.ackAgain_kept (s : Device) (x : Heard) : Device.Kept (Device.ackAgain s x) s := by
  unfold Device.Kept Device.ackAgain; repeat' (first | (simp; done) | split | (dsimp only; split))

@[simp] theorem Device.decideRead_kept (s : Device) (x : Heard) (short : Nat) (l : List ObjRef) : Device.Kept (Device.decideRead s x short l).2.2 s := by
  unfold Device.Kept Device.decideRead; repeat' (first | (simp; done) | split | (dsimp only; split))

@[simp] theorem Device.onRead_kept (x : Heard) (s : Device) : Device.Kept (Device.onRead x s) s := by
  unfold Device.Kept Device.onRead; repeat' (first | (simp; done) | split | (dsimp only; split))

@[simp] theorem Device.fragAck_kept (s : Device) (x : Heard) (status : Nat) (slot : Option Nat) : Device.Kept (Device.fragAck s x status slot) s := by
  unfold Device.Kept Device.fragAck; simp

@[simp] theorem Device.ackRefused_kept (s : Device) (x : Heard) (status tRel : Nat) : Device.Kept (Device.ackRefused s x status tRel) s := by
  unfold Device.Kept Device.ackRefused; repeat' (first | (simp; done) | split | (dsimp only; split))

@[simp] theorem Device.handOver_kept (s : Device) : Device.Kept (Device.handOver s) s := by
  unfold Device.Kept Device.handOver; repeat' (first | (simp; done) | split | (dsimp only; split))

@[simp] theorem Device.onTime_kept (x : Heard) (s : Device) : Device.Kept (Device.onTime x s) s := by
  unfold Device.Kept Device.onTime; repeat' (first | (simp; done) | split | (dsimp only; split))

/-! ## Hawser -/

@[simp] theorem Device.hwAnswer_kept (s : Device) (p : HwParts) (typ : Nat) (payload : Bytes) : Device.Kept (Device.hwAnswer s p typ payload) s := by
  unfold Device.Kept Device.hwAnswer; split <;> simp

@[simp] theorem Device.onSyncReq_kept (p : HwParts) (x : Device) : Device.Kept (Device.onSyncReq p x) x := by
  unfold Device.Kept Device.onSyncReq; simp

@[simp] theorem Device.repush_kept (s : Device) (old : Hawser) (i : Nat) : Device.Kept (Device.repush s old i) s := by
  unfold Device.Kept Device.repush; repeat' (first | (simp; done) | split | (dsimp only; split))

@[simp] theorem Device.onCfg_kept (p : HwParts) (x : Device) : Device.Kept (Device.onCfg p x) x := by
  unfold Device.Kept Device.onCfg; repeat' (first | (simp; done) | split | (dsimp only; split))

@[simp] theorem Device.hwHears_kept (s : Device) (typ : Nat) (f : HwFrame) (h : HwParts → Device → Device)
    (hh : ∀ p x, (h p x).Kept x) : Device.Kept (Device.hwHears s typ f h) s := by
  unfold Device.hwHears; split
  · exact .refl s
  · split
    · exact Device.hwBad_kept s
    · split
      · exact hh _ _
      · exact .refl s

@[simp] theorem Device.hwRefuse_kept (s : Device) (cause retry : Nat) : Device.Kept (Device.hwRefuse s cause retry) s := by
  unfold Device.Kept Device.hwRefuse; simp

@[simp] theorem Device.hwTurnAway_kept (s : Device) (cause most : Nat) : Device.Kept (Device.hwTurnAway s cause most) s := by
  unfold Device.Kept Device.hwTurnAway; split <;> simp

@[simp] theorem Device.jobCycle_kept (s : Device) (ref : Option Nat) : Device.Kept (Device.jobCycle s ref) s := by
  unfold Device.Kept Device.jobCycle; split <;> simp

@[simp] theorem Device.takeJob_kept (s : Device) (j : FireJob) : Device.Kept (Device.takeJob s j) s := by
  unfold Device.Kept Device.takeJob; repeat' (first | (simp; done) | split | (dsimp only; split))

@[simp] theorem Device.onFire_kept (r1 : RawStamp) (ref : Option Nat) (p : HwParts) (x : Device) : Device.Kept (Device.onFire r1 ref p x) x := by
  unfold Device.Kept Device.onFire; repeat' (first | (simp; done) | split | (dsimp only; split))

@[simp] theorem Device.onMark_kept (r2 : RawStamp) (_x : HwParts) (x : Device) : Device.Kept (Device.onMark r2 _x x) x := by
  unfold Device.Kept Device.onMark; simp

@[simp] theorem Device.onSampleReq_kept (_x : HwParts) (x : Device) : Device.Kept (Device.onSampleReq _x x) x := by
  unfold Device.Kept Device.onSampleReq; repeat' (first | (simp; done) | split | (dsimp only; split))

@[simp] theorem Device.loopAnswer_kept (s : Device) (p : HwParts) (t2 t3 : Nat) : Device.Kept (Device.loopAnswer s p t2 t3) s := by
  unfold Device.Kept Device.loopAnswer; simp

@[simp] theorem Device.loadTime_kept (s : Device) (t : Nat) : Device.Kept (Device.loadTime s t) s := by
  unfold Device.Kept Device.loadTime; simp

@[simp] theorem Device.hwOnTime_kept (p : HwParts) (x : Device) : Device.Kept (Device.hwOnTime p x) x := by
  unfold Device.Kept Device.hwOnTime; simp

@[simp] theorem Device.atPrimary_kept (s : Device) (typ : Nat) (f : HwFrame) (h : HwParts → Device → Device)
    (hh : ∀ p x, (h p x).Kept x) : Device.Kept (s.atPrimary typ f h) s := by
  unfold Device.atPrimary; dsimp only; split
  · exact Device.hwReceive_kept _ _ _ _ fun p x => kept_ite (hh p x) (.refl x)
  · exact .refl s

@[simp] theorem Device.synced_kept (s : Device) (k : Nat) (b : Bytes) : Device.Kept (Device.synced s k b) s := by
  unfold Device.Kept Device.synced; split <;> simp

@[simp] theorem Device.badSyncRsp_kept (s : Device) : Device.Kept (Device.badSyncRsp s) s := by
  unfold Device.Kept Device.badSyncRsp; repeat' (first | (simp; done) | split)

@[simp] theorem Device.hwOnAck_kept (p : HwParts) (x : Device) : Device.Kept (Device.hwOnAck p x) x := by
  unfold Device.Kept Device.hwOnAck; repeat' (first | simp | split)

@[simp] theorem Device.remoteDone_kept (s : Device) (i : Nat) (r : PairDone) : Device.Kept (Device.remoteDone s i r) s := by
  unfold Device.Kept Device.remoteDone; split <;> simp

@[simp] theorem Device.probeAway_kept (s : Device) (i : Nat) : Device.Kept (Device.probeAway s i) s := by
  unfold Device.Kept Device.probeAway; simp

@[simp] theorem Device.onResult_kept (p : HwParts) (x : Device) : Device.Kept (Device.onResult p x) x := by
  unfold Device.Kept Device.onResult; repeat' (first | (simp; done) | split | (dsimp only; split))

@[simp] theorem Device.halfDone_kept (s : Device) (k : Nat) (h : HalfMsg) (cap : PairCapture) (tf tm : Nat) : Device.Kept (Device.halfDone s k h cap tf tm) s := by
  unfold Device.Kept Device.halfDone; simp

@[simp] theorem Device.onHalf_kept (own : PairCapture) (tf tm : RawStamp) (p : HwParts) (x : Device) : Device.Kept (Device.onHalf own tf tm p x) x := by
  unfold Device.Kept Device.onHalf; repeat' (first | (simp; done) | split | (dsimp only; split))

@[simp] theorem Device.pathMissing_kept (s : Device) (fired : Bool) : Device.Kept (Device.pathMissing s fired) s := by
  unfold Device.Kept Device.pathMissing; repeat' (first | (simp; done) | split | (dsimp only; split))

@[simp] theorem Device.sampleIn_kept (s : Device) (k : Nat) (part : Option (List (Int × Nat))) : Device.Kept (Device.sampleIn s k part) s := by
  unfold Device.Kept Device.sampleIn; simp

@[simp] theorem Device.onSampleRsp_kept (p : HwParts) (x : Device) : Device.Kept (Device.onSampleRsp p x) x := by
  unfold Device.Kept Device.onSampleRsp; dsimp only; split <;> simp

@[simp] theorem Device.refused_kept (s : Device) (k cause : Nat) : Device.Kept (Device.refused s k cause) s := by
  unfold Device.Kept Device.refused; repeat' (first | (simp; done) | split | (dsimp only; split))

@[simp] theorem Device.loopEnd_kept (s : Device) (k : Nat) (rhos : List Int) : Device.Kept (Device.loopEnd s k rhos) s := by
  unfold Device.Kept Device.loopEnd; repeat' (first | (simp; done) | split | (dsimp only; split))

@[simp] theorem Device.loopTake_kept (s : Device) (r : LoopRun) (turn : Int) (t1 t4 : Nat) : Device.Kept (Device.loopTake s r turn t1 t4) s := by
  unfold Device.Kept Device.loopTake; repeat' (first | (simp; done) | split | (dsimp only; split))

@[simp] theorem Device.onLoopRsp_kept (t1 t4 : RawStamp) (p : HwParts) (x : Device) : Device.Kept (Device.onLoopRsp t1 t4 p x) x := by
  unfold Device.Kept Device.onLoopRsp; repeat' (first | (simp; done) | split)

@[simp] theorem Device.exchangeFailed_kept (s : Device) (o : Outstanding) : Device.Kept (Device.exchangeFailed s o) s := by
  unfold Device.Kept Device.exchangeFailed; simp

@[simp] theorem Device.fireFailed_kept (s : Device) (k : Nat) : Device.Kept (Device.fireFailed s k) s := by
  unfold Device.Kept Device.fireFailed; simp

@[simp] theorem Device.sampleFailed_kept (s : Device) : Device.Kept (s.sampleFailed) s := by
  exact (Device.trySample_kept _).trans (foldl_kept _ Device.hwMissed_kept _ _)

/-! ## Optical -/

@[simp] theorem Device.optAnswer_kept (s : Device) (f : OptFrame) : Device.Kept (Device.optAnswer s f) s := by
  unfold Device.Kept Device.optAnswer; simp

@[simp] theorem Device.optVerdict_kept (s : Device) (tag cause retry : Nat) : Device.Kept (Device.optVerdict s tag cause retry) s := by
  unfold Device.Kept Device.optVerdict; simp

@[simp] theorem Device.optData_kept (s : Device) (tag : Nat) (q : Bytes) : Device.Kept (Device.optData s tag q) s := by
  unfold Device.Kept Device.optData; simp

@[simp] theorem Device.optInfo_kept (s : Device) (tag : Nat) : Device.Kept (Device.optInfo s tag) s := by
  unfold Device.Kept Device.optInfo; simp

@[simp] theorem Device.optSeen_kept (s : Device) : Device.Kept (Device.optSeen s) s := by
  unfold Device.Kept Device.optSeen; simp

@[simp] theorem Device.optReceive_kept (s : Device) (kind : Nat) (b : Bytes) (h : OptFrame → Device → Device)
    (hh : ∀ p x, (h p x).Kept x) : Device.Kept (s.optReceive kind b h) s := by
  unfold Device.optReceive; split
  · exact .refl s
  · repeat' split
    all_goals first | exact Device.optSeen_kept s | exact (hh _ _).trans (Device.optSeen_kept s)

@[simp] theorem Device.optStopping_kept (s : Device) (b : Bytes) : Device.Kept (Device.optStopping s b) s := by
  unfold Device.Kept Device.optStopping; repeat' (first | (simp; done) | split | (dsimp only; split))

@[simp] theorem Device.optBaud_kept (s : Device) (f : OptFrame) : Device.Kept (Device.optBaud s f) s := by
  unfold Device.Kept Device.optBaud; dsimp only; split <;> simp

@[simp] theorem Device.optGap_kept (s : Device) : Device.Kept (Device.optGap s) s := by
  unfold Device.Kept Device.optGap; repeat' (first | (simp; done) | split | (dsimp only; split))

/-! ## SelfTest -/

@[simp] theorem Device.legalEnter_kept (s : Device) (c arg : Nat) : Device.Kept (Device.legalEnter s c arg) s := by
  unfold Device.Kept Device.legalEnter; repeat' (first | (simp; done) | split | (dsimp only; split))

@[simp] theorem Device.legalClear_kept (s : Device) : Device.Kept (Device.legalClear s) s := by
  unfold Device.Kept Device.legalClear; dsimp only; split <;> simp

@[simp] theorem Device.retireFunc_kept (s : Device) (f : Func) : Device.Kept (Device.retireFunc s f) s := by
  unfold Device.Kept Device.retireFunc; simp

@[simp] theorem Device.blockFailed_kept (s : Device) (b misr : Nat) : Device.Kept (Device.blockFailed s b misr) s := by
  unfold Device.Kept Device.blockFailed; repeat' (first | (simp; done) | split)

@[simp] theorem Device.blockResult_kept (s : Device) (b : Nat) (first second : Bool) (misr : Nat) : Device.Kept (Device.blockResult s b first second misr) s := by
  unfold Device.Kept Device.blockResult; dsimp only; split <;> simp

@[simp] theorem Device.hfxCheck_kept (s : Device) (count : Option Nat) : Device.Kept (Device.hfxCheck s count) s := by
  unfold Device.Kept Device.hfxCheck; repeat' (first | (simp; done) | split | (dsimp only; split))

@[simp] theorem Device.deferStep_kept (s : Device) : Device.Kept (Device.deferStep s) s := by
  unfold Device.Kept Device.deferStep; dsimp only; split <;> simp

@[simp] theorem Device.condPass_kept (s : Device) : Device.Kept (Device.condPass s) s := by
  unfold Device.Kept Device.condPass; split <;> simp

@[simp] theorem Device.afterTest_kept (s : Device) (b : Nat) : Device.Kept (Device.afterTest s b) s := by
  unfold Device.Kept Device.afterTest; repeat' (first | simp | split)

@[simp] theorem Device.testEnds_kept (s : Device) (b : Nat) (first second : Bool) (responses : List Nat) : Device.Kept (Device.testEnds s b first second responses) s := by
  unfold Device.Kept Device.testEnds; simp

@[simp] theorem Device.testStep_kept (s : Device) (b vcoreMv : Nat) (last first second : Bool) (responses : List Nat) : Device.Kept (Device.testStep s b vcoreMv last first second responses) s := by
  unfold Device.Kept Device.testStep; repeat' (first | (simp; done) | split)

@[simp] theorem Device.beginRound_kept (s : Device) (count : Option Nat) : Device.Kept (Device.beginRound s count) s := by
  unfold Device.Kept Device.beginRound; simp

/-! ## Store -/

@[simp] theorem Device.lostLegal_kept (s : Device) (obj : Nat) : Device.Kept (Device.lostLegal s obj) s := by
  unfold Device.Kept Device.lostLegal; split <;> simp

@[simp] theorem Device.lostLearned_kept (s : Device) (obj : Nat) : Device.Kept (Device.lostLearned s obj) s := by
  unfold Device.Kept Device.lostLearned; split <;> simp

@[simp] theorem Device.lostTelemetry_kept (s : Device) (obj : Nat) : Device.Kept (Device.lostTelemetry s obj) s := by
  unfold Device.Kept Device.lostTelemetry; split <;> simp

@[simp] theorem Device.corrects_kept (s : Device) (w : WordAt) : Device.Kept (Device.corrects s w) s := by
  unfold Device.Kept Device.corrects; repeat' (first | (simp; done) | split | (dsimp only; split))

@[simp] theorem Device.repairCopy_kept (s : Device) (v copy : Nat) (w : WordAt) : Device.Kept (Device.repairCopy s v copy w) s := by
  unfold Device.Kept Device.repairCopy; repeat' (first | (simp; done) | split | (dsimp only; split))

@[simp] theorem Device.readTriple_kept (s : Device) (obj : Nat) (a b c : WordAt) : Device.Kept (Device.readTriple s obj a b c) s := by
  unfold Device.Kept Device.readTriple; repeat' (first | (simp; done) | split | (dsimp only; split))

@[simp] theorem Device.passEnds_kept (s : Device) (passEnd : Bool) : Device.Kept (Device.passEnds s passEnd) s := by
  unfold Device.Kept Device.passEnds; repeat' (first | (simp; done) | split | (dsimp only; split))

@[simp] theorem Device.spareCheck_kept (s : Device) : Device.Kept (Device.spareCheck s) s := by
  unfold Device.Kept Device.spareCheck; split <;> simp

@[simp] theorem Device.copyStaged_kept (s : Device) (e : Staged) (rest : List Staged) (compares : List Bool) : Device.Kept (Device.copyStaged s e rest compares) s := by
  unfold Device.Kept Device.copyStaged; simp

@[simp] theorem Device.retireSector_kept (s : Device) (p cause : Nat) : Device.Kept (Device.retireSector s p cause) s := by
  unfold Device.Kept Device.retireSector; simp

@[simp] theorem Device.relocate_kept (s : Device) (p : Nat) (rest : List Nat) : Device.Kept (Device.relocate s p rest) s := by
  unfold Device.Kept Device.relocate; repeat' (first | (simp; done) | split | (dsimp only; split))

@[simp] theorem Device.erasePool_kept (s : Device) (p : Nat × Nat) (rest : List (Nat × Nat)) (verifies : List Bool) : Device.Kept (Device.erasePool s p rest verifies) s := by
  unfold Device.Kept Device.erasePool; dsimp only; split <;> simp

@[simp] theorem Device.eraseRing_kept (s : Device) (l : Nat) (rest : List Nat) (verifies : List Bool) : Device.Kept (Device.eraseRing s l rest verifies) s := by
  unfold Device.Kept Device.eraseRing; repeat' (first | (simp; done) | split | (dsimp only; split))

/-! ## Windows -/

@[simp] theorem Device.passWindow_kept (s : Device) (i : Nat) : Device.Kept (Device.passWindow s i) s := by
  unfold Device.Kept Device.passWindow; simp

@[simp] theorem Device.skipWindow_kept (s : Device) (i : Nat) : Device.Kept (Device.skipWindow s i) s := by
  unfold Device.Kept Device.skipWindow; simp

@[simp] theorem Device.openWindow_kept (s : Device) (c : Child) : Device.Kept (Device.openWindow s c) s := by
  unfold Device.Kept Device.openWindow; repeat' (first | (simp; done) | split | (dsimp only; split))

@[simp] theorem Device.unmade_kept (s : Device) (c : Child) : Device.Kept (Device.unmade s c) s := by
  unfold Device.Kept Device.unmade; repeat' (first | (simp; done) | split | (dsimp only; split))

@[simp] theorem Device.beginSearch_kept (s : Device) (i : Nat) : Device.Kept (Device.beginSearch s i) s := by
  unfold Device.Kept Device.beginSearch; simp

@[simp] theorem Device.missWindow_kept (s : Device) (c : Child) : Device.Kept (Device.missWindow s c) s := by
  unfold Device.Kept Device.missWindow; dsimp only; split <;> simp

@[simp] theorem Device.openSearch_kept (s : Device) (c : Child) : Device.Kept (Device.openSearch s c) s := by
  unfold Device.Kept Device.openSearch; repeat' (first | (simp; done) | split | (dsimp only; split))

@[simp] theorem Device.evict_kept (s : Device) (c : Child) : Device.Kept (Device.evict s c) s := by
  unfold Device.Kept Device.evict; simp

@[simp] theorem Device.setEntry_kept (s : Device) (k : Nat) (q : QEntry) : Device.Kept (Device.setEntry s k q) s := by
  unfold Device.Kept Device.setEntry; simp

/-! ## Wmbus -/

@[simp] theorem Device.wmNext_kept (s : Device) : Device.Kept (Device.wmNext s) s := by
  unfold Device.Kept Device.wmNext; simp

@[simp] theorem Device.wmSend_kept (s : Device) (key : Bytes) : Device.Kept (Device.wmSend s key) s := by
  unfold Device.Kept Device.wmSend; repeat' (first | (simp; done) | split | (dsimp only; split))

/-! ## Power -/

@[simp] theorem Device.strapRead_kept (s : Device) (img : StrapImage) : Device.Kept (Device.strapRead s img) s := by
  unfold Device.Kept Device.strapRead; repeat' (first | (simp; done) | split | (dsimp only; split))

@[simp] theorem Device.boundaryLast_kept (s : Device) : Device.Kept (Device.boundaryLast s) s := by
  unfold Device.Kept Device.boundaryLast; repeat' (first | (simp; done) | split | (dsimp only; split))

@[simp] theorem Device.holdTransaction_kept (s : Device) (holdUs records : Nat) : Device.Kept (Device.holdTransaction s holdUs records) s := by
  unfold Device.holdTransaction; dsimp only
  refine (Device.commit_kept _).trans ?_
  have h := kept_ite (c := s.boundaryLast.tolled = true)
    ((Device.holdClose_kept _ s.land.tick).trans ((Device.bringUp_kept _ s.land.tick).trans (Device.boundaryLast_kept s)))
    (Device.boundaryLast_kept s)
  revert h
  generalize (if s.boundaryLast.tolled = true then (s.boundaryLast.bringUp s.land.tick).holdClose s.land.tick
    else s.boundaryLast) = z
  intro h
  exact Device.Kept.trans ⟨rfl, rfl, rfl, rfl, rfl, rfl, rfl⟩
    ((Device.mirrorPulses_kept _).trans ((Device.refuseN_kept z 15 (z.power.heldItems + records)).trans h))

@[simp] theorem Device.unpower_kept (s : Device) : Device.Kept (Device.unpower s) s := by
  unfold Device.Kept Device.unpower; simp

@[simp] theorem Device.holdUp_kept (s : Device) (holdUs records : Nat) : Device.Kept (Device.holdUp s holdUs records) s := by
  unfold Device.Kept Device.holdUp; split <;> simp

@[simp] theorem Device.pinHeld_kept (s : Device) (us : Nat) : Device.Kept (Device.pinHeld s us) s := by
  unfold Device.Kept Device.pinHeld; repeat' (first | (simp; done) | split | (dsimp only; split))

@[simp] theorem Device.resetPin_kept (s : Device) (us : Nat) : Device.Kept (Device.resetPin s us) s := by
  unfold Device.Kept Device.resetPin; simp

@[simp] theorem Device.shipEntry_kept (s : Device) : Device.Kept (Device.shipEntry s) s := by
  unfold Device.Kept Device.shipEntry; simp

@[simp] theorem Device.vholdIs_kept (s : Device) (mv : Nat) : Device.Kept (Device.vholdIs s mv) s := by
  unfold Device.Kept Device.vholdIs; repeat' (first | (simp; done) | split)

@[simp] theorem Device.coldClear_kept (s : Device) (inp : ColdStartInput) : Device.Kept (Device.coldClear s inp) s := by
  unfold Device.Kept Device.coldClear; simp

@[simp] theorem Device.coldTests_kept (s : Device) (inp : ColdStartInput) : Device.Kept (s.coldTests inp) s := by
  unfold Device.coldTests; dsimp only
  refine (Device.hfxCheck_kept ..).trans (kept_ite ((Device.legalClear_kept _).trans ?_) ?_)
  all_goals exact foldl_kept _ (fun s r => Device.blockResult_kept s _ _ _ _) _ _

@[simp] theorem Device.undone_kept (s : Device) (u : HoldUndo) : Device.Kept (Device.undone s u) s := by
  unfold Device.Kept Device.undone; repeat' (first | (simp; done) | split | (dsimp only; split))

@[simp] theorem Device.rollBack_kept (s : Device) (r : TxnRec) : Device.Kept (Device.rollBack s r) s := by
  unfold Device.Kept Device.rollBack; repeat' (first | (simp; done) | split | (dsimp only; split))

@[simp] theorem Device.coldJournal_kept (s : Device) (j : JournalFound) : Device.Kept (Device.coldJournal s j) s := by
  unfold Device.Kept Device.coldJournal; repeat' (first | (simp; done) | split | (dsimp only; split))

@[simp] theorem Device.coldCount_kept (s : Device) : Device.Kept (Device.coldCount s) s := by
  unfold Device.Kept Device.coldCount; dsimp only; split <;> simp

@[simp] theorem Device.capRestart_kept (s : Device) (q : Nat) : Device.Kept (Device.capRestart s q) s := by
  unfold Device.Kept Device.capRestart; split <;> simp

@[simp] theorem Device.pulseMoved_kept (s : Device) (old : Option Nat) (img : StrapImage) : Device.Kept (Device.pulseMoved s old img) s := by
  unfold Device.Kept Device.pulseMoved; split <;> simp

@[simp] theorem Device.coldImage_kept (s : Device) (old : Option Nat) (img : StrapImage) : Device.Kept (Device.coldImage s old img) s := by
  unfold Device.Kept Device.coldImage; repeat' (first | (simp; done) | split | (dsimp only; split))

@[simp] theorem Device.coldUnit_kept (s : Device) : Device.Kept (Device.coldUnit s) s := by
  unfold Device.Kept Device.coldUnit; dsimp only; repeat' (first | (simp; done) | split)

@[simp] theorem Device.coldSystem_kept (s : Device) : Device.Kept (Device.coldSystem s) s := by
  unfold Device.Kept Device.coldSystem; simp

@[simp] theorem Device.coldTemp_kept (s : Device) : Device.Kept (Device.coldTemp s) s := by
  unfold Device.Kept Device.coldTemp; simp

@[simp] theorem Device.coldAnalog_kept (s : Device) (inp : ColdStartInput) : Device.Kept (Device.coldAnalog s inp) s := by
  unfold Device.Kept Device.coldAnalog; simp

@[simp] theorem Device.coldFit_kept (s : Device) : Device.Kept (Device.coldFit s) s := by
  unfold Device.Kept Device.coldFit; split <;> simp

@[simp] theorem Device.coldClocks_kept (s : Device) (inp : ColdStartInput) : Device.Kept (s.coldClocks inp) s := by
  exact (foldl_kept _ Device.wantStep_kept _ _).trans ((Device.armMidnight_kept _).trans
    ((Device.ageRecompute_kept _).trans (foldl_kept _ Device.calStepRun_kept _ _)))

@[simp] theorem Device.coldWait_kept (s : Device) : Device.Kept (Device.coldWait s) s := by
  unfold Device.Kept Device.coldWait; repeat' (first | (simp; done) | split | (dsimp only; split))

@[simp] theorem Device.coldBlocks_kept (s : Device) (was : Conf) (inp : ColdStartInput) : Device.Kept (Device.coldBlocks s was inp) s := by
  unfold Device.Kept Device.coldBlocks; simp

@[simp] theorem Device.tollStart_kept (s : Device) : Device.Kept (Device.tollStart s) s := by
  unfold Device.Kept Device.tollStart; dsimp only; split <;> simp

@[simp] theorem Device.functionsStart_kept (s : Device) : Device.Kept (Device.functionsStart s) s := by
  unfold Device.Kept Device.functionsStart; repeat' (first | (simp; done) | split | (dsimp only; split))

@[simp] theorem Device.serviceStart_kept (s : Device) (vholdMv : Nat) : Device.Kept (Device.serviceStart s vholdMv) s := by
  unfold Device.Kept Device.serviceStart; repeat' (first | (simp; done) | split | (dsimp only; split))

end Sys2Proof.Machine
end

