-- ==== Sys2Proof/Laws/Life.lean ====
section
/-! SUPPORT. The life-cycle state and the fuses stand under every operation but the few that move them. -/

namespace Sys2Proof.Machine

/-- What R454 protects: the life-cycle state and the three fuses. -/
def Security.life (x : Security) : Lc × Bool × Bool × Bool := (x.lc, x.fuseP, x.fuseS, x.fuseX)

theorem foldl_life {α : Type} (f : Device → α → Device) (h : ∀ s a, (f s a).sec.life = s.sec.life) (l : List α) (s : Device) :
    (l.foldl f s).sec.life = s.sec.life := by
  induction l generalizing s with
  | nil => rfl
  | cons a l ih => rw [List.foldl_cons, ih, h]

theorem life_ite {c : Prop} [Decidable c] {a b x : Device} (h : a.sec.life = x.sec.life) (k : b.sec.life = x.sec.life) :
    (if c then a else b).sec.life = x.sec.life := by
  split <;> assumption

/-! ## Ops -/

@[simp] theorem Device.loadShadow_life (s : Device) (i : Nat) : (Device.loadShadow s i).sec.life = s.sec.life := by
  unfold Device.loadShadow; simp

@[simp] theorem Device.draw_life (s : Device) : (Device.draw s).2.sec.life = s.sec.life := by
  unfold Device.draw; simp

@[simp] theorem Device.stepRan_life (s : Device) (u : Nat) : (Device.stepRan s u).sec.life = s.sec.life := by
  unfold Device.stepRan; simp

@[simp] theorem Device.commit_life (s : Device) : (Device.commit s).sec.life = s.sec.life := by
  unfold Device.commit; split <;> simp

@[simp] theorem Device.journalWith_life (s : Device) (t : Nat) (untrusted : Bool) (code arg0 arg1 : Nat) : (Device.journalWith s t untrusted code arg0 arg1).sec.life = s.sec.life := by
  unfold Device.journalWith; split <;> simp

@[simp] theorem Device.journalAt_life (s : Device) (t code arg0 arg1 : Nat) : (Device.journalAt s t code arg0 arg1).sec.life = s.sec.life := by
  unfold Device.journalAt; simp

@[simp] theorem Device.journal_life (s : Device) (code arg0 arg1 : Nat) : (Device.journal s code arg0 arg1).sec.life = s.sec.life := by
  unfold Device.journal; simp

@[simp] theorem Device.journal64_life (s : Device) (code : Nat) (v : Int) : (Device.journal64 s code v).sec.life = s.sec.life := by
  unfold Device.journal64; simp

@[simp] theorem Device.refuse_life (s : Device) (i : Nat) : (Device.refuse s i).sec.life = s.sec.life := by
  unfold Device.refuse; simp

@[simp] theorem Device.refuseN_life (s : Device) (i n : Nat) : (Device.refuseN s i n).sec.life = s.sec.life := by
  unfold Device.refuseN; simp

@[simp] theorem Device.tamperWith_life (s : Device) (k t : Nat) (untrusted : Bool) : (Device.tamperWith s k t untrusted).sec.life = s.sec.life := by
  unfold Device.tamperWith; split
  · split
    · rfl
    · dsimp only; split
      · exact Device.commit_life _
      · exact Device.journalWith_life _ _ _ _ _ _
  · rfl

@[simp] theorem Device.tamperAt_life (s : Device) (k t : Nat) : (s.tamperAt k t).sec.life = s.sec.life := by
  unfold Device.tamperAt; simp

@[simp] theorem Device.tamper_life (s : Device) (k : Nat) : (Device.tamper s k).sec.life = s.sec.life := by
  unfold Device.tamper; simp

@[simp] theorem Device.degrade_life (s : Device) (f : Degraded → Degraded) : (Device.degrade s f).sec.life = s.sec.life := by
  unfold Device.degrade; simp

@[simp] theorem Device.arm_life (s : Device) (i target : Nat) (elapsed : Bool) : (Device.arm s i target elapsed).sec.life = s.sec.life := by
  unfold Device.arm; split <;> simp

@[simp] theorem Device.disarm_life (s : Device) (i : Nat) : (Device.disarm s i).sec.life = s.sec.life := by
  unfold Device.disarm; split <;> simp

@[simp] theorem Device.elapse_life (s : Device) (n : Nat) : (Device.elapse s n).sec.life = s.sec.life := by
  unfold Device.elapse; split <;> simp

@[simp] theorem Device.pwrUpdate_life (s : Device) : (Device.pwrUpdate s).sec.life = s.sec.life := by
  unfold Device.pwrUpdate; simp

@[simp] theorem Device.toRun_life (s : Device) : (Device.toRun s).sec.life = s.sec.life := by
  unfold Device.toRun; simp

@[simp] theorem Device.resetFunc_life (s : Device) (k : Func) : (Device.resetFunc s k).sec.life = s.sec.life := by
  unfold Device.resetFunc; split <;> simp

@[simp] theorem Device.stopping_life (s : Device) (k : Func) : (Device.stopping s k).sec.life = s.sec.life := by
  unfold Device.stopping; split <;> simp

@[simp] theorem Device.setFunc_life (s : Device) (k : Func) (v : FuncState) : (Device.setFunc s k v).sec.life = s.sec.life := by
  unfold Device.setFunc; repeat' (first | (simp; done) | split | (dsimp only; split))

@[simp] theorem Device.enable_life (s : Device) (k : Func) : (Device.enable s k).sec.life = s.sec.life := by
  unfold Device.enable; simp

@[simp] theorem Device.disable_life (s : Device) (k : Func) : (Device.disable s k).sec.life = s.sec.life := by
  unfold Device.disable; simp

@[simp] theorem Device.wentOff_life (s : Device) (k : Func) : (Device.wentOff s k).sec.life = s.sec.life := by
  unfold Device.wentOff; split <;> simp

@[simp] theorem Device.drain_life (s : Device) (k : Func) : (Device.drain s k).sec.life = s.sec.life := by
  unfold Device.drain; repeat' (first | (simp; done) | split | (dsimp only; split))

@[simp] theorem Device.bounce_life (s : Device) (k : Func) : (Device.bounce s k).sec.life = s.sec.life := by
  unfold Device.bounce; split <;> simp

@[simp] theorem Device.want_life (s : Device) (k : Func) (b : Bool) : (Device.want s k b).sec.life = s.sec.life := by
  unfold Device.want; split <;> simp

@[simp] theorem Device.owe_life (s : Device) (i n : Nat) : (Device.owe s i n).sec.life = s.sec.life := by
  unfold Device.owe; repeat' (first | (simp; done) | split | (dsimp only; split))

@[simp] theorem Device.oweMode_life (s : Device) (m n : Nat) : (Device.oweMode s m n).sec.life = s.sec.life := by
  unfold Device.oweMode; repeat' (first | (simp; done) | split)

/-! ## Wire -/

@[simp] theorem Device.hwBad_life (s : Device) : (Device.hwBad s).sec.life = s.sec.life := by
  unfold Device.hwBad; simp

@[simp] theorem Device.attend_life (s : Device) : (Device.attend s).sec.life = s.sec.life := by
  unfold Device.attend; rfl

@[simp] theorem Device.fireAnswered_life (s : Device) (last : Bool) : (Device.fireAnswered s last).sec.life = s.sec.life := by
  unfold Device.fireAnswered; rfl

@[simp] theorem Device.hwReceive_life (s : Device) (typ : Nat) (f : HwFrame) (h : HwParts → Device → Device)
    (hh : ∀ p x, (h p x).sec.life = x.sec.life) : (Device.hwReceive s typ f h).sec.life = s.sec.life := by
  unfold Device.hwReceive; split
  · rfl
  · split
    · simp
    · split <;> simp [hh]

@[simp] theorem Device.hwBurst_life (s : Device) (n : Nat) : (Device.hwBurst s n).sec.life = s.sec.life := by
  unfold Device.hwBurst; simp

@[simp] theorem Device.hwSend_life (s : Device) (dst typ : Nat) (payload : Bytes) : (Device.hwSend s dst typ payload).sec.life = s.sec.life := by
  unfold Device.hwSend; simp

@[simp] theorem Device.hwAsk_life (s : Device) (dst typ : Nat) (payload : Bytes) : (Device.hwAsk s dst typ payload).sec.life = s.sec.life := by
  unfold Device.hwAsk; simp

/-! ## Wake -/

@[simp] theorem Device.journalLand_life (s : Device) (e : LandEvent) : (Device.journalLand s e).sec.life = s.sec.life := by
  unfold Device.journalLand; repeat' (first | (simp; done) | split)

@[simp] theorem Device.flushEvents_life (s : Device) : s.flushEvents.sec.life = s.sec.life := by
  unfold Device.flushEvents; rw [foldl_life _ Device.journalLand_life]

@[simp] theorem Device.landEvent_life (s : Device) (code arg0 arg1 : Nat) : (Device.landEvent s code arg0 arg1).sec.life = s.sec.life := by
  unfold Device.landEvent; dsimp only; split <;> simp

@[simp] theorem Device.landEventS_life (s : Device) (code : Nat) (v : Int) : (Device.landEventS s code v).sec.life = s.sec.life := by
  unfold Device.landEventS; simp

@[simp] theorem Device.reloadBank0_life (s : Device) : (Device.reloadBank0 s).sec.life = s.sec.life := by
  unfold Device.reloadBank0; simp

@[simp] theorem Device.wakeUp_life (s : Device) (src : Nat) (hib : Bool) : (Device.wakeUp s src hib).sec.life = s.sec.life := by
  unfold Device.wakeUp; split <;> simp

@[simp] theorem Device.woken_life (s : Device) (src : Nat) : (Device.woken s src).sec.life = s.sec.life := by
  unfold Device.woken; repeat' (first | (simp; done) | split | (dsimp only; split))

/-! ## Toll -/

@[simp] theorem Device.creditRise_life (s : Device) (d : Side) (l : SideLedger) (rise : Nat) : (Device.creditRise s d l rise).sec.life = s.sec.life := by
  unfold Device.creditRise; simp

@[simp] theorem Device.routeBilled_life (s : Device) (d : Side) (num : Int) : (Device.routeBilled s d num).sec.life = s.sec.life := by
  unfold Device.routeBilled; dsimp only; split <;> simp

@[simp] theorem Device.routeEst_life (s : Device) (d : Side) (num : Int) : (Device.routeEst s d num).sec.life = s.sec.life := by
  unfold Device.routeEst; simp

@[simp] theorem Device.routeGas_life (s : Device) (ib : Int) (cv : Nat) (billed : Bool) : (Device.routeGas s ib cv billed).sec.life = s.sec.life := by
  unfold Device.routeGas; repeat' (first | (simp; done) | split | (dsimp only; split))

@[simp] theorem Device.convert_life (s : Device) (inc : Int) (billed : Bool) : (Device.convert s inc billed).sec.life = s.sec.life := by
  unfold Device.convert; repeat' (first | (simp; done) | split | (dsimp only; split))

@[simp] theorem Device.unpriced_life (s : Device) : (Device.unpriced s).sec.life = s.sec.life := by
  unfold Device.unpriced; simp

@[simp] theorem Device.powerRule_life (s : Device) : (Device.powerRule s).sec.life = s.sec.life := by
  unfold Device.powerRule; repeat' (first | (simp; done) | split | (dsimp only; split))

@[simp] theorem Device.samplePriced_life (s : Device) : (Device.samplePriced s).sec.life = s.sec.life := by
  unfold Device.samplePriced; repeat' (first | (simp; done) | split)

@[simp] theorem Device.routeEnergy_life (s : Device) (inc : Int) (q : Option Int) : (Device.routeEnergy s inc q).sec.life = s.sec.life := by
  unfold Device.routeEnergy; repeat' (first | (simp; done) | split)

@[simp] theorem Device.routeEstEnergy_life (s : Device) (inc : Int) : (Device.routeEstEnergy s inc).sec.life = s.sec.life := by
  unfold Device.routeEstEnergy; repeat' (first | (simp; done) | split)

@[simp] theorem Device.accrueEst_life (s : Device) (t : Nat) : (Device.accrueEst s t).sec.life = s.sec.life := by
  unfold Device.accrueEst; repeat' (first | (simp; done) | split)

@[simp] theorem Device.bringUp_life (s : Device) (t : Nat) : (Device.bringUp s t).sec.life = s.sec.life := by
  unfold Device.bringUp; simp

@[simp] theorem Device.safeEdge_life (s : Device) : (Device.safeEdge s).sec.life = s.sec.life := by
  unfold Device.safeEdge; split <;> simp

@[simp] theorem Device.recond_life (s : Device) : (Device.recond s).sec.life = s.sec.life := by
  unfold Device.recond; split <;> simp

@[simp] theorem Device.addVolume_life (s : Device) (inc : Int) : (Device.addVolume s inc).sec.life = s.sec.life := by
  unfold Device.addVolume; repeat' (first | (simp; done) | split | (dsimp only; split))

@[simp] theorem Device.fallDue_life (s : Device) : (Device.fallDue s).sec.life = s.sec.life := by
  unfold Device.fallDue; repeat' (first | (simp; done) | split | (dsimp only; split))

@[simp] theorem Device.tempRule_life (s : Device) : (Device.tempRule s).sec.life = s.sec.life := by
  unfold Device.tempRule; repeat' (first | (simp; done) | split | (dsimp only; split))

@[simp] theorem Device.rateRise_life (s : Device) (q : Option Int) : (Device.rateRise s q).sec.life = s.sec.life := by
  unfold Device.rateRise; repeat' (first | (simp; done) | split)

@[simp] theorem Device.turnMark_life (s : Device) (h : Nat) : (Device.turnMark s h).sec.life = s.sec.life := by
  unfold Device.turnMark; repeat' (first | (simp; done) | split | (dsimp only; split))

@[simp] theorem Device.turnMarks_life (s : Device) (a : Nat) (_x : Nat) : (Device.turnMarks s a _x).sec.life = s.sec.life := by
  induction _x with
  | zero => unfold Device.turnMarks; rfl
  | succ k ih => unfold Device.turnMarks; exact (Device.turnMark_life _ _).trans ih

@[simp] theorem Device.turnsUp_life (s : Device) (new : Nat) (q : Option Int) : (s.turnsUp new q).sec.life = s.sec.life := by
  unfold Device.turnsUp; dsimp only
  exact (Device.rateRise_life _ _).trans ((Device.tempRule_life _).trans (Device.turnMarks_life _ _ _))

@[simp] theorem Device.turnsDown_life (s : Device) (n : Nat) : (Device.turnsDown s n).sec.life = s.sec.life := by
  unfold Device.turnsDown; simp

@[simp] theorem Device.turn_life (s : Device) (inc : Int) (q : Option Int) : (Device.turn s inc q).sec.life = s.sec.life := by
  unfold Device.turn; repeat' (first | (simp; done) | split | (dsimp only; split))

@[simp] theorem Device.admitInc_life (s : Device) (inc : Int) (q : Option Int) : (Device.admitInc s inc q).sec.life = s.sec.life := by
  unfold Device.admitInc; repeat' (first | (simp; done) | split | (dsimp only; split))

/-! ## Medium -/

@[simp] theorem Device.setPath_life (s : Device) (i : Nat) (f : PathState → PathState) : (Device.setPath s i f).sec.life = s.sec.life := by
  unfold Device.setPath; simp

@[simp] theorem sosPaths_life (ref : Nat) (l : List Nat) (s : Device) : (sosPaths ref l s).sec.life = s.sec.life := by
  induction l generalizing s with
  | nil => rfl
  | cons i l ih => unfold sosPaths; repeat' (first | (simp [ih]; done) | split | (dsimp only; split))

@[simp] theorem Device.sosCheck_life (s : Device) : s.sosCheck.sec.life = s.sec.life := by
  unfold Device.sosCheck; split
  · rfl
  · dsimp only; rw [Device.degrade_life]; simp only [sosPaths_life]

@[simp] theorem Device.wPriceStep_life (s : Device) : (Device.wPriceStep s).sec.life = s.sec.life := by
  unfold Device.wPriceStep; dsimp only; split <;> simp

@[simp] theorem Device.adopt_life (s : Device) (m : Medium) (frac : Nat) : (Device.adopt s m frac).sec.life = s.sec.life := by
  unfold Device.adopt; dsimp only; split <;> simp

@[simp] theorem Device.emptyOn_life (s : Device) : (Device.emptyOn s).sec.life = s.sec.life := by
  unfold Device.emptyOn; split <;> simp

@[simp] theorem Device.candidate_life (s : Device) (m : Medium) (frac : Nat) : (Device.candidate s m frac).sec.life = s.sec.life := by
  unfold Device.candidate; repeat' (first | (simp; done) | split | (dsimp only; split))

@[simp] theorem Device.nuStep_life (s : Device) : (Device.nuStep s).sec.life = s.sec.life := by
  unfold Device.nuStep; simp

@[simp] theorem Device.classifyWith_life (s : Device) (c : Nat) : (Device.classifyWith s c).sec.life = s.sec.life := by
  unfold Device.classifyWith; repeat' (first | (simp; done) | split | (dsimp only; split))

@[simp] theorem Device.pairSeen_life (s : Device) (i : Nat) : (Device.pairSeen s i).sec.life = s.sec.life := by
  unfold Device.pairSeen; repeat' (first | (simp; done) | split | (dsimp only; split))

@[simp] theorem Device.classify_life (s : Device) : (Device.classify s).sec.life = s.sec.life := by
  unfold Device.classify; repeat' (first | (simp; done) | split | (dsimp only; split))

/-! ## Flow -/

@[simp] theorem Device.setPort_life (s : Device) (p : Nat) (f : Port → Port) : (Device.setPort s p f).sec.life = s.sec.life := by
  unfold Device.setPort; simp

@[simp] theorem Device.markPort_life (s : Device) (q : Nat × Nat) : (Device.markPort s q).sec.life = s.sec.life := by
  unfold Device.markPort; split <;> simp

@[simp] theorem Device.retirePort_life (s : Device) (q : Nat × Nat) (electrical : Bool) : (Device.retirePort s q electrical).sec.life = s.sec.life := by
  unfold Device.retirePort; repeat' (first | (simp; done) | split | (dsimp only; split))

@[simp] theorem Device.retirePath_life (s : Device) (i cause : Nat) : (Device.retirePath s i cause).sec.life = s.sec.life := by
  unfold Device.retirePath; simp

@[simp] theorem Device.retireFaulty_life (act : List Nat) (s : Device) (q : Nat × Nat) : (Device.retireFaulty act s q).sec.life = s.sec.life := by
  unfold Device.retireFaulty; split <;> simp

@[simp] theorem Device.retireShared_life (act meets : List Nat) (s : Device) (q : Nat × Nat) : (Device.retireShared act meets s q).sec.life = s.sec.life := by
  unfold Device.retireShared; repeat' (first | (simp; done) | split | (dsimp only; split))

@[simp] theorem Device.retireUser_life (s : Device) (i : Nat) : (Device.retireUser s i).sec.life = s.sec.life := by
  unfold Device.retireUser; split <;> simp

@[simp] theorem Device.retireAlone_life (s : Device) (i : Nat) : (Device.retireAlone s i).sec.life = s.sec.life := by
  unfold Device.retireAlone; split <;> simp

@[simp] theorem Device.retire_life (s : Device) : s.retire.sec.life = s.sec.life := by
  unfold Device.retire; dsimp only
  have a : ∀ (u l : List Nat) (k : List (Nat × Nat)) (x : Device), (k.foldl (Device.retireShared u l) x).sec.life = x.sec.life :=
    fun u l k x => foldl_life _ (Device.retireShared_life u l) k x
  have b : ∀ (u : List Nat) (k : List (Nat × Nat)) (x : Device), (k.foldl (Device.retireFaulty u) x).sec.life = x.sec.life :=
    fun u k x => foldl_life _ (Device.retireFaulty_life u) k x
  have c : ∀ (l : List Nat) (x : Device), (l.foldl Device.retireUser x).sec.life = x.sec.life := fun l x => foldl_life _ Device.retireUser_life l x
  have d : ∀ (l : List Nat) (x : Device), (l.foldl Device.retireAlone x).sec.life = x.sec.life := fun l x => foldl_life _ Device.retireAlone_life l x
  split <;> simp [a, b, c, d]

@[simp] theorem Device.reconstructWith_life (s : Device) (fc : FlowCal) (si : Nat) (w : WeightSet) : (Device.reconstructWith s fc si w).1.sec.life = s.sec.life := by
  unfold Device.reconstructWith; dsimp only; split <;> simp

@[simp] theorem Device.reconstruct_life (s : Device) : (Device.reconstruct s).1.sec.life = s.sec.life := by
  unfold Device.reconstruct; repeat' (first | (simp; done) | split | (dsimp only; split))

@[simp] theorem Device.armGap_life (s : Device) : (Device.armGap s).sec.life = s.sec.life := by
  unfold Device.armGap; simp

@[simp] theorem Device.formIncrement_life (s : Device) (q : Int) (span : Nat) : (Device.formIncrement s q span).1.sec.life = s.sec.life := by
  unfold Device.formIncrement; simp

@[simp] theorem Device.setPrev_life (s : Device) (t : Nat) : (Device.setPrev s t).sec.life = s.sec.life := by
  unfold Device.setPrev; simp

@[simp] theorem Device.endFlowFault_life (s : Device) (t : Nat) : (Device.endFlowFault s t).sec.life = s.sec.life := by
  unfold Device.endFlowFault; split <;> simp

@[simp] theorem Device.yieldFlow_life (s : Device) (q : Int) : (Device.yieldFlow s q).sec.life = s.sec.life := by
  unfold Device.yieldFlow; split <;> simp

@[simp] theorem Device.closeGap_life (s : Device) : (Device.closeGap s).sec.life = s.sec.life := by
  unfold Device.closeGap; split <;> simp

@[simp] theorem Device.armWake_life (s : Device) : (Device.armWake s).sec.life = s.sec.life := by
  unfold Device.armWake; repeat' (first | simp | split)

@[simp] theorem Device.noFlow_life (s : Device) : (Device.noFlow s).sec.life = s.sec.life := by
  unfold Device.noFlow; repeat' (first | (simp; done) | split | (dsimp only; split))

@[simp] theorem Device.flowStep_life (s : Device) : (Device.flowStep s).sec.life = s.sec.life := by
  unfold Device.flowStep; repeat' (first | (simp; done) | split | (dsimp only; split))

@[simp] theorem Device.endCycle_life (s : Device) : (Device.endCycle s).sec.life = s.sec.life := by
  unfold Device.endCycle; simp

@[simp] theorem Device.decideGap_life (s : Device) : (Device.decideGap s).sec.life = s.sec.life := by
  unfold Device.decideGap; split <;> simp

/-! ## HawserOps -/

@[simp] theorem Device.setSec_life (s : Device) (k : Nat) (f : Secondary → Secondary) : (Device.setSec s k f).sec.life = s.sec.life := by
  unfold Device.setSec; split <;> simp

@[simp] theorem Device.hwDone_life (s : Device) : (Device.hwDone s).sec.life = s.sec.life := by
  unfold Device.hwDone; simp

@[simp] theorem Device.hwAnswered_life (s : Device) (k : Nat) : (Device.hwAnswered s k).sec.life = s.sec.life := by
  unfold Device.hwAnswered; simp

@[simp] theorem Device.retireChannels_life (s : Device) (k : Nat) : (Device.retireChannels s k).sec.life = s.sec.life := by
  unfold Device.retireChannels; simp

@[simp] theorem Device.dropFires_life (s : Device) (l : List Nat) : (Device.dropFires s l).sec.life = s.sec.life := by
  unfold Device.dropFires; repeat' (first | (simp; done) | split | (dsimp only; split))

@[simp] theorem Device.loseSecondary_life (s : Device) (k : Nat) : (s.loseSecondary k).sec.life = s.sec.life := by
  unfold Device.loseSecondary; dsimp only
  have a : ∀ (l : List Nat) (x : Device), (l.foldl (fun (y : Device) i => y.retirePath i 2) x).sec.life = x.sec.life :=
    fun l x => foldl_life _ (fun s a => Device.retirePath_life s a 2) l x
  have b : ∀ (l : List (Nat × Nat)) (x : Device), (l.foldl (fun (y : Device) q => y.retirePort q false) x).sec.life = x.sec.life :=
    fun l x => foldl_life _ (fun s a => Device.retirePort_life s a false) l x
  simp [a, b]

@[simp] theorem Device.hwMissed_life (s : Device) (k : Nat) : (Device.hwMissed s k).sec.life = s.sec.life := by
  unfold Device.hwMissed; repeat' (first | (simp; done) | split | (dsimp only; split))

@[simp] theorem Device.hwShelve_life (s : Device) : (Device.hwShelve s).sec.life = s.sec.life := by
  unfold Device.hwShelve; repeat' (first | (simp; done) | split)

@[simp] theorem Device.hwAgain_life (s : Device) (o : Outstanding) : (Device.hwAgain s o).sec.life = s.sec.life := by
  unfold Device.hwAgain; simp

@[simp] theorem Device.loopAsk_life (s : Device) (r : LoopRun) : (Device.loopAsk s r).sec.life = s.sec.life := by
  unfold Device.loopAsk; split <;> simp

@[simp] theorem Device.loopPump_life (s : Device) : (Device.loopPump s).sec.life = s.sec.life := by
  unfold Device.loopPump; repeat' (first | (simp; done) | split)

@[simp] theorem Device.hwPump_life (s : Device) : (Device.hwPump s).sec.life = s.sec.life := by
  unfold Device.hwPump; repeat' (first | (simp; done) | split)

@[simp] theorem Device.hwGap_life (s : Device) : (Device.hwGap s).sec.life = s.sec.life := by
  unfold Device.hwGap; dsimp only; split <;> simp

/-! ## PathInit -/

@[simp] theorem Device.initPorts_life (s : Device) (cold : Bool) : (Device.initPorts s cold).sec.life = s.sec.life := by
  unfold Device.initPorts; simp

@[simp] theorem Device.initPaths_life (s : Device) (old : Conf) (cold : Bool) : (Device.initPaths s old cold).sec.life = s.sec.life := by
  unfold Device.initPaths; simp

@[simp] theorem Device.settle_life (s : Device) (i : Nat) : (Device.settle s i).sec.life = s.sec.life := by
  unfold Device.settle; repeat' (first | (simp; done) | split | (dsimp only; split))

/-! ## Bill -/

@[simp] theorem Device.stage_life (s : Device) (e : Staged) : (Device.stage s e).sec.life = s.sec.life := by
  unfold Device.stage; repeat' (first | (simp; done) | split)

@[simp] theorem Device.formValue_life (s : Device) (t e accE accV : Nat) (short bad : Bool) (k : EndKind) :
    (s.formValue t e accE accV short bad k).sec.life = s.sec.life := by
  simp only [Device.formValue]

@[simp] theorem Device.endSub_life (s : Device) (t : Nat) (k : EndKind) : (Device.endSub s t k).sec.life = s.sec.life := by
  unfold Device.endSub; repeat' (first | (simp; done) | split | (dsimp only; split))

@[simp] theorem Device.beginSub_life (s : Device) (t : Nat) : (Device.beginSub s t).sec.life = s.sec.life := by
  unfold Device.beginSub; simp

@[simp] theorem Device.endHour_life (s : Device) (t : Nat) (k : EndKind) : (Device.endHour s t k).sec.life = s.sec.life := by
  unfold Device.endHour; simp

@[simp] theorem Device.beginHour_life (s : Device) (t : Nat) : (Device.beginHour s t).sec.life = s.sec.life := by
  unfold Device.beginHour; simp

@[simp] theorem Device.gapEntry_life (s : Device) (t0 hours : Nat) : (Device.gapEntry s t0 hours).sec.life = s.sec.life := by
  unfold Device.gapEntry; simp

@[simp] theorem Device.crossDay_life (s : Device) (t n : Nat) (last localDay : Int) (late : Bool) : (Device.crossDay s t n last localDay late).sec.life = s.sec.life := by
  unfold Device.crossDay; split <;> simp

@[simp] theorem Device.crossBill_life (s : Device) (t n : Nat) (last : Int) (late : Bool) : (Device.crossBill s t n last late).sec.life = s.sec.life := by
  unfold Device.crossBill; split <;> simp

@[simp] theorem Device.seedSched_life (s : Device) (t : Nat) : (Device.seedSched s t).sec.life = s.sec.life := by
  unfold Device.seedSched; split <;> simp

@[simp] theorem Device.crossEnds_life (s : Device) (t : Nat) (late : Bool) : (Device.crossEnds s t late).sec.life = s.sec.life := by
  unfold Device.crossEnds; repeat' (first | (simp; done) | split | (dsimp only; split))

@[simp] theorem Device.armRefresh_life (s : Device) : (Device.armRefresh s).sec.life = s.sec.life := by
  unfold Device.armRefresh; dsimp only; split <;> simp

@[simp] theorem Device.realignRefresh_life (s : Device) : (Device.realignRefresh s).sec.life = s.sec.life := by
  unfold Device.realignRefresh; repeat' (first | (simp; done) | split | (dsimp only; split))

@[simp] theorem Device.activate_life (s : Device) (t : Nat) (p : Calendar) : (Device.activate s t p).sec.life = s.sec.life := by
  unfold Device.activate; simp

@[simp] theorem Device.calStep_life (s : Device) (t : Nat) : (Device.calStep s t).sec.life = s.sec.life := by
  unfold Device.calStep; repeat' (first | (simp; done) | split)

@[simp] theorem Device.tariffStep_life (s : Device) (t : Nat) : (Device.tariffStep s t).sec.life = s.sec.life := by
  unfold Device.tariffStep; simp

@[simp] theorem Device.trustStep_life (s : Device) : (Device.trustStep s).sec.life = s.sec.life := by
  unfold Device.trustStep; repeat' (first | (simp; done) | split)

@[simp] theorem Device.closeStep_life (s : Device) (t : Nat) (x : TxnCtx) : (Device.closeStep s t x).sec.life = s.sec.life := by
  unfold Device.closeStep; repeat' (first | (simp; done) | split | (dsimp only; split))

@[simp] theorem Device.splitMarks_life (s : Device) (x : TxnCtx) : (Device.splitMarks s x).sec.life = s.sec.life := by
  unfold Device.splitMarks; repeat' (first | (simp; done) | split)

@[simp] theorem Device.armBoundary_life (s : Device) : (Device.armBoundary s).sec.life = s.sec.life := by
  unfold Device.armBoundary; dsimp only; split <;> simp

@[simp] theorem Device.rearmBoundary_life (s : Device) : (Device.rearmBoundary s).sec.life = s.sec.life := by
  unfold Device.rearmBoundary; split <;> simp

@[simp] theorem Device.transaction_life (s : Device) (x : TxnCtx) : (Device.transaction s x).sec.life = s.sec.life := by
  unfold Device.transaction; repeat' (first | (simp; done) | split | (dsimp only; split))

@[simp] theorem Device.transactionT0_life (s : Device) : (Device.transactionT0 s).sec.life = s.sec.life := by
  unfold Device.transactionT0; dsimp only; split <;> simp

@[simp] theorem Device.holdClose_life (s : Device) (t : Nat) : (Device.holdClose s t).sec.life = s.sec.life := by
  unfold Device.holdClose; simp

@[simp] theorem Device.shiftOrigins_life (s : Device) (d : Int) : (Device.shiftOrigins s d).sec.life = s.sec.life := by
  unfold Device.shiftOrigins; simp

@[simp] theorem Device.boundaryFirst_life (s : Device) : (Device.boundaryFirst s).sec.life = s.sec.life := by
  unfold Device.boundaryFirst; split <;> simp

/-! ## Transit -/

@[simp] theorem Device.fireRemote_life (s : Device) (i : Nat) : (Device.fireRemote s i).sec.life = s.sec.life := by
  unfold Device.fireRemote; repeat' (first | (simp; done) | split | (dsimp only; split))

@[simp] theorem Device.launch_life (s : Device) (i : Nat) : (Device.launch s i).sec.life = s.sec.life := by
  unfold Device.launch; simp

@[simp] theorem Device.fireNext_life (s : Device) : (Device.fireNext s).sec.life = s.sec.life := by
  unfold Device.fireNext; split <;> simp

@[simp] theorem Device.landPair_life (s : Device) (i : Nat) : (Device.landPair s i).sec.life = s.sec.life := by
  unfold Device.landPair; simp

@[simp] theorem Device.closeWaiting_life (s : Device) : (Device.closeWaiting s).sec.life = s.sec.life := by
  unfold Device.closeWaiting; repeat' (first | (simp; done) | split | (dsimp only; split))

@[simp] theorem Device.endPair_life (s : Device) : (Device.endPair s).sec.life = s.sec.life := by
  unfold Device.endPair; repeat' (first | (simp; done) | split | (dsimp only; split))

@[simp] theorem Device.afterPair_life (s : Device) : (Device.afterPair s).sec.life = s.sec.life := by
  unfold Device.afterPair; simp

@[simp] theorem Device.takeSets_life (s : Device) : (Device.takeSets s).sec.life = s.sec.life := by
  unfold Device.takeSets; simp

@[simp] theorem Device.openCycle_life (s : Device) : (Device.openCycle s).sec.life = s.sec.life := by
  unfold Device.openCycle; simp

@[simp] theorem Device.enterFallback_life (s : Device) : (Device.enterFallback s).sec.life = s.sec.life := by
  unfold Device.enterFallback; simp

@[simp] theorem Device.leaveFallback_life (s : Device) : (Device.leaveFallback s).sec.life = s.sec.life := by
  unfold Device.leaveFallback; simp

@[simp] theorem Device.refFailed_life (s : Device) : (Device.refFailed s).sec.life = s.sec.life := by
  unfold Device.refFailed; dsimp only; split <;> simp

@[simp] theorem Device.refCheck_life (s : Device) (ref : Option Nat) : (Device.refCheck s ref).1.sec.life = s.sec.life := by
  unfold Device.refCheck; repeat' (first | (simp; done) | split | (dsimp only; split))

@[simp] theorem Device.hwSilent_life (s : Device) : (Device.hwSilent s).sec.life = s.sec.life := by
  unfold Device.hwSilent; split
  · exact foldl_life _ Device.hwMissed_life _ _
  · rfl

@[simp] theorem Device.beginCycle_life (s : Device) (ref : Option Nat) : (Device.beginCycle s ref).sec.life = s.sec.life := by
  unfold Device.beginCycle; dsimp only; split <;> simp

@[simp] theorem Device.restartShot_life (s : Device) : (Device.restartShot s).sec.life = s.sec.life := by
  unfold Device.restartShot; simp

@[simp] theorem Device.shotExpire_life (s : Device) (ref : Option Nat) : (Device.shotExpire s ref).sec.life = s.sec.life := by
  unfold Device.shotExpire; dsimp only; split <;> simp

@[simp] theorem Device.extSkip_life (s : Device) : (Device.extSkip s).sec.life = s.sec.life := by
  unfold Device.extSkip; simp

@[simp] theorem Device.extFire_life (s : Device) (i : Nat) : (Device.extFire s i).sec.life = s.sec.life := by
  unfold Device.extFire; simp

@[simp] theorem Device.barCycle_life (s : Device) : (Device.barCycle s).sec.life = s.sec.life := by
  unfold Device.barCycle; repeat' (first | (simp; done) | split | (dsimp only; split))

@[simp] theorem Device.extAccept_life (s : Device) (ref : Option Nat) : (Device.extAccept s ref).sec.life = s.sec.life := by
  unfold Device.extAccept; repeat' (first | (simp; done) | split | (dsimp only; split))

@[simp] theorem Device.extRefuse_life (s : Device) (f : ExtShot → ExtShot) : (Device.extRefuse s f).sec.life = s.sec.life := by
  unfold Device.extRefuse; simp

@[simp] theorem Device.shotEdge_life (s : Device) (ref : Option Nat) : (Device.shotEdge s ref).sec.life = s.sec.life := by
  unfold Device.shotEdge; repeat' (first | (simp; done) | split | (dsimp only; split))

@[simp] theorem Device.notePorts_life (s : Device) (p : PathP) (no : Nat) (cap : PairCapture) : (Device.notePorts s p no cap).1.sec.life = s.sec.life := by
  unfold Device.notePorts; repeat' (first | (simp; done) | split | (dsimp only; split))

@[simp] theorem Device.countPair_life (s : Device) (overflow : Bool) : (Device.countPair s overflow).sec.life = s.sec.life := by
  unfold Device.countPair; simp

@[simp] theorem Device.ownPair_life (s : Device) (i : Nat) (cap : PairCapture) : (Device.ownPair s i cap).sec.life = s.sec.life := by
  unfold Device.ownPair; dsimp only; split <;> simp

@[simp] theorem Device.probeEnd_life (s : Device) (good : Bool) : (Device.probeEnd s good).sec.life = s.sec.life := by
  unfold Device.probeEnd; repeat' (first | (simp; done) | split | (dsimp only; split))

@[simp] theorem Device.probePair_life (s : Device) (i : Nat) (cap : PairCapture) : (Device.probePair s i cap).sec.life = s.sec.life := by
  unfold Device.probePair; repeat' (first | (simp; done) | split | (dsimp only; split))

@[simp] theorem Device.probeLost_life (s : Device) (i : Nat) : (Device.probeLost s i).sec.life = s.sec.life := by
  unfold Device.probeLost; simp

@[simp] theorem Device.sendResult_life (s : Device) (i prx : Nat) (r : PathResult) : (Device.sendResult s i prx r).sec.life = s.sec.life := by
  unfold Device.sendResult; simp

@[simp] theorem Device.jobResult_life (s : Device) (j : FireJob) (cap : PairCapture) : (Device.jobResult s j cap).sec.life = s.sec.life := by
  unfold Device.jobResult; simp

@[simp] theorem Device.jobHalf_life (s : Device) (j : FireJob) (r2 : Nat) (cap : PairCapture) : (Device.jobHalf s j r2 cap).sec.life = s.sec.life := by
  unfold Device.jobHalf; simp

@[simp] theorem Device.jobDone_life (s : Device) (j : FireJob) (cap : PairCapture) : (Device.jobDone s j cap).sec.life = s.sec.life := by
  unfold Device.jobDone; repeat' (first | (simp; done) | split | (dsimp only; split))

@[simp] theorem Device.refLoss_life (s : Device) (i : Nat) : (Device.refLoss s i).sec.life = s.sec.life := by
  unfold Device.refLoss; split <;> simp

@[simp] theorem Device.refLossJob_life (s : Device) (j : FireJob) : (Device.refLossJob s j).sec.life = s.sec.life := by
  unfold Device.refLossJob; repeat' (first | (simp; done) | split | (dsimp only; split))

@[simp] theorem Device.pushCorr_life (s : Device) : (Device.pushCorr s).sec.life = s.sec.life := by
  unfold Device.pushCorr; simp

@[simp] theorem Device.ageRecompute_life (s : Device) : (Device.ageRecompute s).sec.life = s.sec.life := by
  unfold Device.ageRecompute; repeat' (first | (simp; done) | split | (dsimp only; split))

@[simp] theorem Device.armMidnight_life (s : Device) : (Device.armMidnight s).sec.life = s.sec.life := by
  unfold Device.armMidnight; split <;> simp

@[simp] theorem Device.calDue_life (s : Device) (kind : Nat) : (Device.calDue s kind).sec.life = s.sec.life := by
  unfold Device.calDue; simp

@[simp] theorem Device.endCalRun_life (s : Device) (full ok : Bool) : (Device.endCalRun s full ok).sec.life = s.sec.life := by
  unfold Device.endCalRun; repeat' (first | (simp; done) | split | (dsimp only; split))

@[simp] theorem Device.calStepRun_life (s : Device) (x : CalStep) : (Device.calStepRun s x).sec.life = s.sec.life := by
  unfold Device.calStepRun; repeat' (first | (simp; done) | split | (dsimp only; split))

/-! ## Landing -/

@[simp] theorem Device.correctTokens_life (s : Device) : (Device.correctTokens s).sec.life = s.sec.life := by
  unfold Device.correctTokens; repeat' (first | (simp; done) | split | (dsimp only; split))

@[simp] theorem Device.correct_life (s : Device) : (Device.correct s).sec.life = s.sec.life := by
  unfold Device.correct; simp

@[simp] theorem Device.corrHold_life (s : Device) : (Device.corrHold s).sec.life = s.sec.life := by
  unfold Device.corrHold; split <;> simp

@[simp] theorem Device.updateTimeNow_life (s : Device) : (Device.updateTimeNow s).sec.life = s.sec.life := by
  unfold Device.updateTimeNow; simp

@[simp] theorem Device.shiftWorking_life (s : Device) (d : Int) : (Device.shiftWorking s d).sec.life = s.sec.life := by
  simp [Device.shiftWorking, Security.life]

@[simp] theorem Device.classEvent_life (s : Device) (k : SetClass) (sigma : Int) : (Device.classEvent s k sigma).sec.life = s.sec.life := by
  unfold Device.classEvent; split <;> simp

@[simp] theorem Device.stepTransaction_life (s : Device) (k : SetClass) (sigma : Int) : (Device.stepTransaction s k sigma).sec.life = s.sec.life := by
  unfold Device.stepTransaction; split <;> simp

@[simp] theorem Device.rearmMidnight_life (s : Device) : (Device.rearmMidnight s).sec.life = s.sec.life := by
  unfold Device.rearmMidnight; split <;> simp

@[simp] theorem Device.applySet_life (s : Device) (p : PendSet) : (Device.applySet s p).sec.life = s.sec.life := by
  unfold Device.applySet; dsimp only; split <;> simp

@[simp] theorem Device.tamperIn_life (s : Device) (k : TamperIn) : (Device.tamperIn s k).sec.life = s.sec.life := by
  unfold Device.tamperIn; split <;> simp

@[simp] theorem Device.setSeal_life (s : Device) (v : SealState) : (Device.setSeal s v).sec.life = s.sec.life := by
  unfold Device.setSeal; repeat' (first | (simp; done) | split)

@[simp] theorem Device.probe_life (s : Device) (high between : Bool) : (Device.probe s high between).sec.life = s.sec.life := by
  unfold Device.probe; repeat' (first | (simp; done) | split | (dsimp only; split))

@[simp] theorem Device.setCaseMag_life (s : Device) (pin : CaseMag) (high : Bool) : (Device.setCaseMag s pin high).sec.life = s.sec.life := by
  unfold Device.setCaseMag; repeat' (first | (simp; done) | split)

@[simp] theorem Device.serveTamper_life (s : Device) (e : TamperEvt) : (Device.serveTamper s e).sec.life = s.sec.life := by
  unfold Device.serveTamper; split <;> simp

@[simp] theorem Device.mirrorPulses_life (s : Device) : (Device.mirrorPulses s).sec.life = s.sec.life := by
  unfold Device.mirrorPulses; simp

@[simp] theorem Device.discardSet_life (s : Device) : (Device.discardSet s).sec.life = s.sec.life := by
  unfold Device.discardSet; split <;> simp

@[simp] theorem Device.evalPins_life (s : Device) (p : PinLevels) : (Device.evalPins s p).sec.life = s.sec.life := by
  unfold Device.evalPins; repeat' (first | (simp; done) | split | (dsimp only; split))

@[simp] theorem Device.landRestart_life (s : Device) (pins : PinLevels) (cause : Nat) : (Device.landRestart s pins cause).sec.life = s.sec.life := by
  unfold Device.landRestart; simp

@[simp] theorem Device.coldFor_life (s : Device) (cause : Nat) : (Device.coldFor s cause).sec.life = s.sec.life := by
  unfold Device.coldFor; simp

@[simp] theorem Device.supplyBack_life (s : Device) (pins : PinLevels) : (Device.supplyBack s pins).sec.life = s.sec.life := by
  unfold Device.supplyBack; split <;> simp

/-! ## PulseOut -/

@[simp] theorem Device.restarted_life (s : Device) (dt : Nat) (f : Func) : (Device.restarted s dt f).sec.life = s.sec.life := by
  unfold Device.restarted; split <;> simp

/-! ## Temp -/

@[simp] theorem Device.unitStep_life (s : Device) (x : Nat) (v : Int) (fault : Nat) : (Device.unitStep s x v fault).1.sec.life = s.sec.life := by
  unfold Device.unitStep; repeat' (first | (simp; done) | split | (dsimp only; split))

@[simp] theorem unitSteps_life (l : List (Nat × Option (Int × Nat))) (s : Device) (acc : List (Option Int × Bool)) :
    (unitSteps l s acc).1.sec.life = s.sec.life := by
  induction l generalizing s acc with
  | nil => rfl
  | cons i l ih => obtain ⟨x, _ | p⟩ := i <;> simp [unitSteps, ih]

@[simp] theorem Device.swapStep_life (s : Device) (mode : ThermalMode) : (Device.swapStep s mode).sec.life = s.sec.life := by
  unfold Device.swapStep; repeat' (first | (simp; done) | split | (dsimp only; split))

@[simp] theorem checkSteps_life (vals : List (Option Int × Bool)) (l : List (Chan × Nat)) (s : Device) :
    (checkSteps vals l s).sec.life = s.sec.life := by
  induction l generalizing s with
  | nil => rfl
  | cons i l ih =>
    unfold checkSteps
    repeat' (first | (simp [ih]; done) | split | (dsimp only; split))

@[simp] theorem Device.checkFlag_life (s : Device) : (Device.checkFlag s).sec.life = s.sec.life := by
  unfold Device.checkFlag; simp

@[simp] theorem Device.bridgeStep_life (s : Device) (b : Option ((Int × Nat) × (Int × Nat))) (thetaM : Int) :
    (Device.bridgeStep s b thetaM).1.sec.life = s.sec.life := by
  unfold Device.bridgeStep; repeat' (first | (simp; done) | split | (dsimp only; split))

@[simp] theorem Device.useUnits_life (s : Device) : (Device.useUnits s).sec.life = s.sec.life := by
  unfold Device.useUnits; simp

@[simp] theorem Device.dropBridge_life (s : Device) : (Device.dropBridge s).sec.life = s.sec.life := by
  unfold Device.dropBridge; repeat' (first | (simp; done) | split | (dsimp only; split))

@[simp] theorem Device.refStep_life (s : Device) (own : OwnPart) : (Device.refStep s own).sec.life = s.sec.life := by
  unfold Device.refStep; repeat' (first | (simp; done) | split | (dsimp only; split))

@[simp] theorem Device.completeSample_life (s : Device) (own : OwnPart) : (Device.completeSample s own).sec.life = s.sec.life := by
  unfold Device.completeSample
  refine (Device.commit_life _).trans ((Device.recond_life _).trans ((Device.samplePriced_life _).trans ?_))
  exact (Device.checkFlag_life _).trans ((checkSteps_life _ _ _).trans ((Device.swapStep_life _ _).trans
    ((Device.bridgeStep_life _ _ _).trans ((unitSteps_life _ _ _).trans (Device.refStep_life _ _)))))

@[simp] theorem Device.trySample_life (s : Device) : s.trySample.sec.life = s.sec.life := by
  unfold Device.trySample; split
  · split
    · exact (Device.completeSample_life _ _).trans (Device.boundaryFirst_life _)
    · rfl
  · rfl

@[simp] theorem Device.secondarySample_life (s : Device) (p : OwnPart) : (Device.secondarySample s p).sec.life = s.sec.life := by
  unfold Device.secondarySample; simp

@[simp] theorem Device.sampleAnswer_life (s : Device) (m : SampleInput) : (Device.sampleAnswer s m).sec.life = s.sec.life := by
  unfold Device.sampleAnswer; simp

/-! ## Air -/

@[simp] theorem Device.pickKey_life (s : Device) (up : Bool) : (Device.pickKey s up).2.sec.life = s.sec.life := by
  unfold Device.pickKey; split <;> simp

@[simp] theorem Device.count_life (s : Device) (k : Nat) : (Device.count s k).sec.life = s.sec.life := by
  unfold Device.count; simp

@[simp] theorem Device.budgetHit_life (s : Device) : (Device.budgetHit s).sec.life = s.sec.life := by
  unfold Device.budgetHit; dsimp only; split <;> simp

@[simp] theorem Device.fcntCheck_life (s : Device) : (Device.fcntCheck s).sec.life = s.sec.life := by
  unfold Device.fcntCheck; split <;> simp

@[simp] theorem Device.onAir_life (s : Device) (ch : Nat) (b : Bytes) : (Device.onAir s ch b).sec.life = s.sec.life := by
  unfold Device.onAir; simp

@[simp] theorem Device.sendAir_life (s : Device) (up : Bool) (ch : Nat) (h : AirHeader) (payload : Bytes) : ((Device.sendAir s up ch h payload).2).sec.life = s.sec.life := by
  unfold Device.sendAir; repeat' (first | (simp; done) | split | (dsimp only; split))

@[simp] theorem Device.contactAt_life (s : Device) (t : Nat) : (Device.contactAt s t).sec.life = s.sec.life := by
  unfold Device.contactAt; simp

/-! ## Sched -/

@[simp] theorem Device.startContacts_life (s : Device) : (Device.startContacts s).sec.life = s.sec.life := by
  unfold Device.startContacts; repeat' (first | (simp; done) | split | (dsimp only; split))

@[simp] theorem Device.setChild_life (s : Device) (i : Nat) (f : Child → Child) : (Device.setChild s i f).sec.life = s.sec.life := by
  unfold Device.setChild; simp

@[simp] theorem Device.armWindows_life (s : Device) : (Device.armWindows s).sec.life = s.sec.life := by
  unfold Device.armWindows; repeat' (first | (simp; done) | split | (dsimp only; split))

@[simp] theorem Device.wmArm_life (s : Device) : (Device.wmArm s).sec.life = s.sec.life := by
  unfold Device.wmArm; simp

@[simp] theorem Device.wmStart_life (s : Device) : (Device.wmStart s).sec.life = s.sec.life := by
  unfold Device.wmStart; split <;> simp

@[simp] theorem Device.planRadio_life (s : Device) : (Device.planRadio s).sec.life = s.sec.life := by
  unfold Device.planRadio; repeat' (first | (simp; done) | split | (dsimp only; split))

/-! ## Display -/

@[simp] theorem Device.displayCompose_life (s : Device) (full : Bool) (accepted : Nat) : (Device.displayCompose s full accepted).sec.life = s.sec.life := by
  unfold Device.displayCompose; dsimp only; split <;> simp

@[simp] theorem Device.displayTables_life (s : Device) : (Device.displayTables s).sec.life = s.sec.life := by
  unfold Device.displayTables; repeat' (first | (simp; done) | split | (dsimp only; split))

@[simp] theorem Device.displayRetable_life (s : Device) : (Device.displayRetable s).sec.life = s.sec.life := by
  unfold Device.displayRetable; repeat' (first | (simp; done) | split | (dsimp only; split))

@[simp] theorem Device.frameBoundary_life (s : Device) : s.frameBoundary.sec.life = s.sec.life := by
  have h (s1 : Device) (c : Prop) [Decidable c] : (if c then s1 else s1.commit).sec.life = s1.sec.life :=
    life_ite rfl (Device.commit_life _)
  have k (s2 : Device) (c : Prop) [Decidable c] (a b : Nat) :
      (if c then s2 else s2.journal 0x701 a b).sec.life = s2.sec.life := life_ite rfl (Device.journal_life ..)
  have r (s0 : Device) (c : Prop) [Decidable c] :
      (if c then s0.displayRetable else s0).sec.life = s0.sec.life := life_ite (Device.displayRetable_life _) rfl
  unfold Device.frameBoundary
  dsimp only
  rw [k, h, r]

@[simp] theorem Device.budgetRefused_life (s : Device) : (Device.budgetRefused s).sec.life = s.sec.life := by
  unfold Device.budgetRefused; split <;> simp

@[simp] theorem Device.displayAdmit_life (s : Device) (f : Device → Device)
    (hh : ∀ x, (f x).sec.life = x.sec.life) : (s.displayAdmit f).sec.life = s.sec.life := by
  unfold Device.displayAdmit; split
  · simp
  · split <;> simp [hh]

@[simp] theorem Device.showPage_life (s : Device) (p seconds : Nat) : (Device.showPage s p seconds).sec.life = s.sec.life := by
  unfold Device.showPage; simp

@[simp] theorem Device.displayRequest_life (s : Device) (page : Nat) (full : Bool) (hold : Nat) : (Device.displayRequest s page full hold).sec.life = s.sec.life := by
  unfold Device.displayRequest; simp

@[simp] theorem Device.displayStart_life (s : Device) : (Device.displayStart s).sec.life = s.sec.life := by
  unfold Device.displayStart; dsimp only; split <;> simp

/-! ## Apply -/

@[simp] theorem Device.wantStep_life (s : Device) (f : Func) : (Device.wantStep s f).sec.life = s.sec.life := by
  unfold Device.wantStep; simp

@[simp] theorem Device.applyFunctions_life (s : Device) : s.applyFunctions.sec.life = s.sec.life :=
  foldl_life _ Device.wantStep_life _ _

@[simp] theorem Device.initShot_life (s : Device) : (Device.initShot s).sec.life = s.sec.life := by
  unfold Device.initShot; simp

@[simp] theorem Device.shotChanged_life (s : Device) (old : Conf) : (Device.shotChanged s old).sec.life = s.sec.life := by
  unfold Device.shotChanged; dsimp only; split <;> simp

@[simp] theorem Device.initPulse_life (s : Device) : (Device.initPulse s).sec.life = s.sec.life := by
  unfold Device.initPulse; simp

@[simp] theorem Device.initRadio_life (s : Device) : (Device.initRadio s).sec.life = s.sec.life := by
  unfold Device.initRadio; simp

@[simp] theorem Device.initRole_life (s : Device) : (Device.initRole s).sec.life = s.sec.life := by
  unfold Device.initRole; repeat' (first | (simp; done) | split | (dsimp only; split))

@[simp] theorem Device.renameSecs_life (s : Device) : (Device.renameSecs s).sec.life = s.sec.life := by
  unfold Device.renameSecs; repeat' (first | (simp; done) | split | (dsimp only; split))

@[simp] theorem Device.classDefault_life (s : Device) : (Device.classDefault s).sec.life = s.sec.life := by
  unfold Device.classDefault; repeat' (first | (simp; done) | split | (dsimp only; split))

@[simp] theorem Device.calibTest_life (s : Device) : (Device.calibTest s).sec.life = s.sec.life := by
  unfold Device.calibTest; repeat' (first | (simp; done) | split | (dsimp only; split))

@[simp] theorem Device.startMetering_life (s : Device) : (Device.startMetering s).sec.life = s.sec.life := by
  unfold Device.startMetering; simp

@[simp] theorem Device.bounceIf_life (s : Device) (b : Bool) (f : Func) : (Device.bounceIf s b f).sec.life = s.sec.life := by
  unfold Device.bounceIf; split <;> simp

@[simp] theorem Device.recommitA_life (s : Device) (old : Conf) : (Device.recommitA s old).sec.life = s.sec.life := by
  unfold Device.recommitA; repeat' (first | (simp; done) | split)

@[simp] theorem Device.recommitB_life (s : Device) (o n : Groups) : (Device.recommitB s o n).sec.life = s.sec.life := by
  unfold Device.recommitB; repeat' (first | (simp; done) | split)

@[simp] theorem Device.recommitT_life (s : Device) (o n : Groups) : (Device.recommitT s o n).sec.life = s.sec.life := by
  unfold Device.recommitT; split <;> simp

@[simp] theorem Device.tablesGone_life (s : Device) : (Device.tablesGone s).sec.life = s.sec.life := by
  unfold Device.tablesGone; repeat' (first | (simp; done) | split | (dsimp only; split))

@[simp] theorem Device.recommitC_life (s : Device) (old new : Conf) : (Device.recommitC s old new).sec.life = s.sec.life := by
  unfold Device.recommitC; repeat' (first | (simp; done) | split)

@[simp] theorem Device.recommitD_life (s : Device) (o n : Groups) : (s.recommitD o n).sec.life = s.sec.life := by
  rw [Device.recommitD, Device.applyFunctions_life]
  exact foldl_life (fun (x : Device) (r : Bool × Func) => x.bounceIf r.1 r.2) (fun x r => Device.bounceIf_life x r.1 r.2) _ s

@[simp] theorem Device.recommitE_life (s : Device) (was : Bool) (o n : Groups) : (Device.recommitE s was o n).sec.life = s.sec.life := by
  unfold Device.recommitE; repeat' (first | (simp; done) | split | (dsimp only; split))

@[simp] theorem Device.applyCommit_life (s : Device) (old : Conf) : (Device.applyCommit s old).sec.life = s.sec.life := by
  unfold Device.applyCommit; simp

@[simp] theorem Device.enterSafe_life (s : Device) : (Device.enterSafe s).sec.life = s.sec.life := by
  unfold Device.enterSafe; simp

@[simp] theorem Device.reconcile_life (s : Device) : (Device.reconcile s).sec.life = s.sec.life := by
  unfold Device.reconcile; split <;> simp

/-! ## PowerOps -/

@[simp] theorem Device.mirrorBank0_life (s : Device) : (Device.mirrorBank0 s).sec.life = s.sec.life := by
  unfold Device.mirrorBank0; simp

@[simp] theorem Device.sleepEffects_life (s : Device) (p : PState) : (s.sleepEffects p).sec.life = s.sec.life := by
  unfold Device.sleepEffects; dsimp only
  repeat' (first | (simp; done) | (simp; rfl) | rfl | split)

@[simp] theorem Device.enterState_life (s : Device) (p : PState) (n : Nat) : (Device.enterState s p n).sec.life = s.sec.life := by
  unfold Device.enterState; simp

@[simp] theorem Device.rest_life (s : Device) (n : Nat) : (Device.rest s n).sec.life = s.sec.life := by
  unfold Device.rest; dsimp only; split <;> simp

/-! ## Cascade -/

@[simp] theorem Device.recordExpected_life (s : Device) : (Device.recordExpected s).sec.life = s.sec.life := by
  unfold Device.recordExpected; repeat' (first | (simp; done) | split)

@[simp] theorem Device.cfgFaulted_life (s : Device) (cause : Nat) (dev : Option Nat) : (Device.cfgFaulted s cause dev).sec.life = s.sec.life := by
  unfold Device.cfgFaulted; split <;> simp

@[simp] theorem Device.loseMissing_life (s : Device) : s.loseMissing.sec.life = s.sec.life :=
  foldl_life _ Device.loseSecondary_life _ _

@[simp] theorem Device.broadcastTime_life (s : Device) : (Device.broadcastTime s).sec.life = s.sec.life := by
  unfold Device.broadcastTime; simp

@[simp] theorem Device.configureFresh_life (s : Device) : (Device.configureFresh s).sec.life = s.sec.life := by
  unfold Device.configureFresh; simp

@[simp] theorem Device.syncEnd_life (s : Device) : (Device.syncEnd s).sec.life = s.sec.life := by
  unfold Device.syncEnd; repeat' (first | (simp; done) | split | (dsimp only; split))

@[simp] theorem Device.syncStep_life (s : Device) : (Device.syncStep s).sec.life = s.sec.life := by
  unfold Device.syncStep; repeat' (first | (simp; done) | split | (dsimp only; split))

@[simp] theorem Device.startSync_life (s : Device) : (Device.startSync s).sec.life = s.sec.life := by
  unfold Device.startSync; repeat' (first | (simp; done) | split | (dsimp only; split))

/-! ## Wipe -/

@[simp] theorem Device.wipe1_life (s : Device) : (Device.wipe1 s).sec.life = s.sec.life := by
  unfold Device.wipe1; rfl

@[simp] theorem Device.wipe2_life (s : Device) : (Device.wipe2 s).sec.life = s.sec.life := by
  unfold Device.wipe2; dsimp only; split <;> simp

@[simp] theorem Device.wipe3_life (s : Device) : (Device.wipe3 s).sec.life = s.sec.life := by
  unfold Device.wipe3; rfl

@[simp] theorem Device.wipe4_life (s : Device) : (Device.wipe4 s).sec.life = s.sec.life := by
  unfold Device.wipe4; simp

@[simp] theorem Device.builtInCalendar_life (s : Device) : (Device.builtInCalendar s).sec.life = s.sec.life := by
  unfold Device.builtInCalendar; dsimp only; split <;> simp

@[simp] theorem Device.wipe5_life (s : Device) : s.wipe5.sec.life = s.sec.life := by
  unfold Device.wipe5; dsimp only; split <;> simp <;> rfl

@[simp] theorem Device.wipe6_life (s : Device) (scrap : Bool) : (Device.wipe6 s scrap).sec.life = s.sec.life := by
  unfold Device.wipe6; rfl

@[simp] theorem Device.wipe7_life (s : Device) : (Device.wipe7 s).sec.life = s.sec.life := by
  unfold Device.wipe7; split <;> simp

@[simp] theorem Device.wipeClass_life (s : Device) (scrap : Bool) (mask n : Nat) : (Device.wipeClass s scrap mask n).sec.life = s.sec.life := by
  unfold Device.wipeClass; repeat' (first | simp | split)

@[simp] theorem Device.reseed_life (s : Device) : (Device.reseed s).sec.life = s.sec.life := by
  unfold Device.reseed; repeat' (first | (simp; done) | split | (dsimp only; split))

@[simp] theorem Device.wipeSeed_life (s : Device) (mask : Nat) : (Device.wipeSeed s mask).sec.life = s.sec.life := by
  unfold Device.wipeSeed; split <;> simp

@[simp] theorem Device.wipe_life (s : Device) (mask : Nat) (scrap : Bool) : (Device.wipe s mask scrap).sec.life = s.sec.life := by
  unfold Device.wipe; simp

/-! ## HoldUp -/

@[simp] theorem Device.holdBegin_life (s : Device) (ship : Bool) : (Device.holdBegin s ship).sec.life = s.sec.life := by
  unfold Device.holdBegin; repeat' (first | (simp; done) | split | (dsimp only; split))

@[simp] theorem Device.holdStart_life (s : Device) : (Device.holdStart s).sec.life = s.sec.life := by
  unfold Device.holdStart; repeat' (first | (simp; done) | split | (dsimp only; split))

@[simp] theorem Device.disableAll_life (s : Device) : (Device.disableAll s).sec.life = s.sec.life := by
  unfold Device.disableAll; repeat' (first | (simp; done) | split | (dsimp only; split))

/-! ## Security -/

@[simp] theorem Device.verdict_life (s : Device) (p : RecPath) (r : Rec) (cause : Nat) :
    (s.verdict p r cause).sec.life = s.sec.life := by
  unfold Device.verdict; dsimp only
  repeat' (first | (simp; done) | (simp; rfl) | rfl | split)

@[simp] theorem Device.applyKeys_life (s : Device) (b : Bytes) : (s.applyKeys b).sec.life = s.sec.life := by
  unfold Device.applyKeys; dsimp only; split <;> simp <;> rfl

@[simp] theorem Device.applyIdentity_life (s : Device) (b : Bytes) : (s.applyIdentity b).sec.life = s.sec.life := by
  unfold Device.applyIdentity; exact Device.planRadio_life _

@[simp] theorem Device.applyRadioKeys_life (s : Device) (b : Bytes) : (s.applyRadioKeys b).sec.life = s.sec.life := by
  unfold Device.applyRadioKeys; dsimp only; split
  · exact (Device.planRadio_life _).trans (Device.tamper_life _ _)
  · exact Device.planRadio_life _

@[simp] theorem Device.legalCount_life (s : Device) (r : Rec) : (Device.legalCount s r).sec.life = s.sec.life := by
  unfold Device.legalCount; split <;> simp

@[simp] theorem Device.applyCalib_life (s : Device) (r : Rec) : (Device.applyCalib s r).sec.life = s.sec.life := by
  unfold Device.applyCalib; repeat' (first | (simp; done) | split | (dsimp only; split))

@[simp] theorem Device.applyExpert_life (s : Device) (r : Rec) : (Device.applyExpert s r).sec.life = s.sec.life := by
  unfold Device.applyExpert; repeat' (first | (simp; done) | split | (dsimp only; split))

@[simp] theorem Device.applyCalendar_life (s : Device) (r : Rec) : (Device.applyCalendar s r).sec.life = s.sec.life := by
  unfold Device.applyCalendar; dsimp only; split <;> simp

@[simp] theorem Device.waitSet_life (s : Device) (p : Option PendSet) : (Device.waitSet s p).sec.life = s.sec.life := by
  unfold Device.waitSet; split <;> simp

@[simp] theorem Device.applyTimeSet_life (s : Device) (b : Bytes) : (Device.applyTimeSet s b).sec.life = s.sec.life := by
  unfold Device.applyTimeSet; simp

@[simp] theorem Device.openJoin_life (s : Device) : (Device.openJoin s).sec.life = s.sec.life := by
  unfold Device.openJoin; dsimp only; split <;> simp

@[simp] theorem Device.applyRadioCfg_life (s : Device) (b : Bytes) : (Device.applyRadioCfg s b).sec.life = s.sec.life := by
  unfold Device.applyRadioCfg; simp

@[simp] theorem Device.recCommit_life (s : Device) (r : Rec) : (s.recCommit r).sec.life = s.sec.life := by
  unfold Device.recCommit Security.setSeq; rw [Device.commit_life]; dsimp only; split <;> rfl

@[simp] theorem Device.tapLoad_life (s : Device) (l : TapLevel) : (s.tapLoad l).sec.life = s.sec.life := by
  have h (x : Device) (v : TapLevel) : ({ x with sec := { x.sec with tap := v } } : Device).sec.life = x.sec.life := rfl
  unfold Device.tapLoad; dsimp only; rw [Device.reconcile_life]
  split
  · rw [Device.journal_life, h]; split <;> simp
  · rw [h]; split <;> simp

/-! ## Ferry -/

@[simp] theorem Device.setExch_life (s : Device) (e : Exchange) : (Device.setExch s e).sec.life = s.sec.life := by
  unfold Device.setExch; simp

@[simp] theorem Device.endExchange_life (s : Device) : (Device.endExchange s).sec.life = s.sec.life := by
  unfold Device.endExchange; simp

@[simp] theorem Device.sendIn_life (s : Device) (x : Sent) (payload : Bytes) (more : Bool) : (Device.sendIn s x payload more).sec.life = s.sec.life := by
  unfold Device.sendIn; repeat' (first | (simp; done) | split | (dsimp only; split))

@[simp] theorem Device.forwardData_life (s : Device) : (Device.forwardData s).2.sec.life = s.sec.life := by
  unfold Device.forwardData; simp

@[simp] theorem Device.digestSent_life (s : Device) (items : Bytes) : (Device.digestSent s items).sec.life = s.sec.life := by
  unfold Device.digestSent; split <;> simp

@[simp] theorem Device.ownData_life (s : Device) : (Device.ownData s).2.sec.life = s.sec.life := by
  unfold Device.ownData; simp

@[simp] theorem Device.dataAcked_life (s : Device) : (Device.dataAcked s).sec.life = s.sec.life := by
  unfold Device.dataAcked; rfl

@[simp] theorem Device.sendForward_life (s : Device) : (Device.sendForward s).sec.life = s.sec.life := by
  unfold Device.sendForward; simp

@[simp] theorem Device.afterAckUp_life (s : Device) : (Device.afterAckUp s).sec.life = s.sec.life := by
  unfold Device.afterAckUp; repeat' (first | (simp; done) | split)

@[simp] theorem Device.airClear_life (s : Device) : (Device.airClear s).sec.life = s.sec.life := by
  unfold Device.airClear; simp

@[simp] theorem Device.fallbackContact_life (s : Device) : (Device.fallbackContact s).sec.life = s.sec.life := by
  unfold Device.fallbackContact; simp

@[simp] theorem Device.contactMissed_life (s : Device) : (Device.contactMissed s).sec.life = s.sec.life := by
  unfold Device.contactMissed; dsimp only; split <;> simp

@[simp] theorem Device.contactFrame_life (s : Device) : (Device.contactFrame s).sec.life = s.sec.life := by
  unfold Device.contactFrame; repeat' (first | (simp; done) | split)

@[simp] theorem Device.beginContact_life (s : Device) : (Device.beginContact s).sec.life = s.sec.life := by
  unfold Device.beginContact; repeat' (first | (simp; done) | split | (dsimp only; split))

@[simp] theorem Device.ackTimeout_life (s : Device) : (Device.ackTimeout s).sec.life = s.sec.life := by
  unfold Device.ackTimeout; repeat' (first | (simp; done) | split)

@[simp] theorem Device.chooseNext_life (s : Device) (c : Child) (t : Nat) : (Device.chooseNext s c t).2.sec.life = s.sec.life := by
  unfold Device.chooseNext; dsimp only; split <;> simp

@[simp] theorem Device.planChild_life (s : Device) (i t : Nat) : (Device.planChild s i t).2.2.sec.life = s.sec.life := by
  unfold Device.planChild; split <;> simp

@[simp] theorem Device.childContact_life (s : Device) (i : Nat) (f : RxFrame) (h : AirHeader) : (Device.childContact s i f h).sec.life = s.sec.life := by
  unfold Device.childContact; repeat' (first | (simp; done) | split)

@[simp] theorem Device.timeSfd_life (s : Device) (t : Nat) : (Device.timeSfd s t).2.sec.life = s.sec.life := by
  unfold Device.timeSfd; simp

@[simp] theorem Device.sendTodo_life (s : Device) (t : Nat) : (Device.sendTodo s t).sec.life = s.sec.life := by
  unfold Device.sendTodo; repeat' (first | (simp; done) | split)

@[simp] theorem Device.afterAckDown_life (s : Device) (t : Nat) : (Device.afterAckDown s t).sec.life = s.sec.life := by
  unfold Device.afterAckDown; repeat' (first | simp | split)

@[simp] theorem Device.ackChild_life (s : Device) (i fcnt status tRel t : Nat) : (Device.ackChild s i fcnt status tRel t).sec.life = s.sec.life := by
  unfold Device.ackChild; simp

@[simp] theorem Device.replay_life (s : Device) (l : Link) (new : Bool) (fcnt : Nat) : (Device.replay s l new fcnt).2.sec.life = s.sec.life := by
  unfold Device.replay; repeat' (first | (simp; done) | split | (dsimp only; split))

@[simp] theorem Device.ackStranger_life (s : Device) (ch : Nat) (h : AirHeader) (fcnt short : Nat) : (Device.ackStranger s ch h fcnt short).sec.life = s.sec.life := by
  unfold Device.ackStranger; simp

@[simp] theorem Device.airFrameIn_life (s : Device) (mine : AirHeader → Bool) (f : RxFrame)
    (h : Heard → Device → Device) (hh : ∀ p x, (h p x).sec.life = x.sec.life) :
    (s.airFrameIn mine f h).sec.life = s.sec.life := by
  rw [Device.airFrameIn]
  split
  · exact Device.count_life ..
  split
  · exact Device.count_life ..
  split
  · exact Device.count_life ..
  split
  · rfl
  split
  · rfl
  · split
    · exact Device.ackStranger_life ..
    · rfl
  split
  · exact Device.count_life ..
  split
  · exact Device.count_life ..
  dsimp only
  split
  · exact Device.count_life ..
  · exact (hh _ _).trans ((Device.count_life ..).trans (Device.count_life ..))
  · exact (hh _ _).trans ((Device.count_life ..).trans (Device.replay_life ..))

@[simp] theorem Device.keepListening_life (s : Device) (f : RxFrame) : (Device.keepListening s f).sec.life = s.sec.life := by
  unfold Device.keepListening; simp

@[simp] theorem Device.airIn_life (s : Device) (mine : AirHeader → Bool) (f : RxFrame)
    (h : Heard → Device → Device) (hh : ∀ p x, (h p x).sec.life = x.sec.life) :
    (s.airIn mine f h).sec.life = s.sec.life := by
  unfold Device.airIn; split
  · have a : ((if f.modeSwitch = true then s.airClear else s.airClear.airFrameIn mine f h)).sec.life = s.sec.life := by
      split
      · exact Device.airClear_life s
      · exact (Device.airFrameIn_life _ _ _ _ hh).trans (Device.airClear_life s)
    exact (Device.armWindows_life _).trans ((Device.keepListening_life _ _).trans a)
  · rfl

@[simp] theorem Device.airBad_life (s : Device) : (Device.airBad s).sec.life = s.sec.life := by
  unfold Device.airBad; simp

@[simp] theorem Device.noted_life (s : Device) (x : Heard) : (Device.noted s x).sec.life = s.sec.life := by
  unfold Device.noted; split <;> simp

@[simp] theorem Device.gotIn_life (s : Device) (x : Heard) : (Device.gotIn s x).sec.life = s.sec.life := by
  unfold Device.gotIn; dsimp only; split <;> simp

@[simp] theorem Device.childBegin_life (s : Device) (i : Nat) (x : Heard) : (Device.childBegin s i x).sec.life = s.sec.life := by
  unfold Device.childBegin; simp

@[simp] theorem Device.contactOf_life (s : Device) (i : Nat) (x : Heard) : (Device.contactOf s i x).sec.life = s.sec.life := by
  unfold Device.contactOf; split <;> simp

@[simp] theorem Device.onPoll_life (x : Heard) (s : Device) : (Device.onPoll x s).sec.life = s.sec.life := by
  unfold Device.onPoll; repeat' (first | (simp; done) | split)

@[simp] theorem Device.cacheDigest_life (s : Device) (i : Nat) (l : List RxItem) : (Device.cacheDigest s i l).sec.life = s.sec.life := by
  unfold Device.cacheDigest; split <;> simp

@[simp] theorem Device.readAnswered_life (s : Device) (i k : Nat) (l : List RxItem) : (Device.readAnswered s i k l).sec.life = s.sec.life := by
  unfold Device.readAnswered; simp

@[simp] theorem Device.onData_life (x : Heard) (s : Device) : (Device.onData x s).sec.life = s.sec.life := by
  unfold Device.onData; repeat' (first | (simp; done) | split | (dsimp only; split))

@[simp] theorem Device.joinReply_life (s : Device) (x : Heard) (status nextIn nextCh tRel : Nat) (pending : Bool) : (Device.joinReply s x status nextIn nextCh tRel pending).2.sec.life = s.sec.life := by
  unfold Device.joinReply; simp

@[simp] theorem Device.joinFull_life (s : Device) (x : Heard) : (Device.joinFull s x).sec.life = s.sec.life := by
  unfold Device.joinFull; repeat' (first | (simp; done) | split | (dsimp only; split))

@[simp] theorem Device.joinAnswer_life (s : Device) (i : Nat) (x : Heard) : (Device.joinAnswer s i x).sec.life = s.sec.life := by
  unfold Device.joinAnswer; repeat' (first | (simp; done) | split | (dsimp only; split))

@[simp] theorem Device.joinOk_life (s : Device) (i : Nat) (x : Heard) : (Device.joinOk s i x).sec.life = s.sec.life := by
  unfold Device.joinOk; simp

@[simp] theorem Device.joinAgain_life (s : Device) (i : Nat) (x : Heard) : (Device.joinAgain s i x).sec.life = s.sec.life := by
  unfold Device.joinAgain; repeat' (first | (simp; done) | split | (dsimp only; split))

@[simp] theorem Device.onJoin_life (x : Heard) (s : Device) : (Device.onJoin x s).sec.life = s.sec.life := by
  unfold Device.onJoin; repeat' (first | (simp; done) | split | (dsimp only; split))

@[simp] theorem Device.joined_life (s : Device) (x : Heard) : (Device.joined s x).sec.life = s.sec.life := by
  unfold Device.joined; simp

@[simp] theorem Device.ackUp_life (s : Device) (x : Heard) (e : Exchange) : (Device.ackUp s x e).sec.life = s.sec.life := by
  unfold Device.ackUp; repeat' (first | (simp; done) | split | (dsimp only; split))

@[simp] theorem Device.noteDone_life (s : Device) (i k st : Nat) : (Device.noteDone s i k st).sec.life = s.sec.life := by
  unfold Device.noteDone; repeat' (first | (simp; done) | split)

@[simp] theorem Device.ackDown_life (s : Device) (i : Nat) (x : Heard) (e : Exchange) : (Device.ackDown s i x e).sec.life = s.sec.life := by
  unfold Device.ackDown; repeat' (first | (simp; done) | split | (dsimp only; split))

@[simp] theorem Device.onAck_life (x : Heard) (s : Device) : (Device.onAck x s).sec.life = s.sec.life := by
  unfold Device.onAck; repeat' (first | (simp; done) | split)

@[simp] theorem Device.ackUpper_life (s : Device) (fcnt status tRel : Nat) : (Device.ackUpper s fcnt status tRel).sec.life = s.sec.life := by
  unfold Device.ackUpper; simp

@[simp] theorem Device.keepAck_life (s : Device) (status tRel : Nat) (slot : Option Nat) : (Device.keepAck s status tRel slot).sec.life = s.sec.life := by
  unfold Device.keepAck; repeat' (first | (simp; done) | split | (dsimp only; split))

@[simp] theorem Device.ackAgain_life (s : Device) (x : Heard) : (Device.ackAgain s x).sec.life = s.sec.life := by
  unfold Device.ackAgain; repeat' (first | (simp; done) | split | (dsimp only; split))

@[simp] theorem Device.decideRead_life (s : Device) (x : Heard) (short : Nat) (l : List ObjRef) : (Device.decideRead s x short l).2.2.sec.life = s.sec.life := by
  unfold Device.decideRead; repeat' (first | (simp; done) | split | (dsimp only; split))

@[simp] theorem Device.onRead_life (x : Heard) (s : Device) : (Device.onRead x s).sec.life = s.sec.life := by
  unfold Device.onRead; repeat' (first | (simp; done) | split | (dsimp only; split))

@[simp] theorem Device.fragAck_life (s : Device) (x : Heard) (status : Nat) (slot : Option Nat) : (Device.fragAck s x status slot).sec.life = s.sec.life := by
  unfold Device.fragAck; simp

@[simp] theorem Device.ackRefused_life (s : Device) (x : Heard) (status tRel : Nat) : (Device.ackRefused s x status tRel).sec.life = s.sec.life := by
  unfold Device.ackRefused; repeat' (first | (simp; done) | split | (dsimp only; split))

@[simp] theorem Device.handOver_life (s : Device) : (Device.handOver s).sec.life = s.sec.life := by
  unfold Device.handOver; repeat' (first | (simp; done) | split | (dsimp only; split))

@[simp] theorem Device.onTime_life (x : Heard) (s : Device) : (Device.onTime x s).sec.life = s.sec.life := by
  unfold Device.onTime; repeat' (first | (simp; done) | split | (dsimp only; split))

/-! ## Hawser -/

@[simp] theorem Device.hwAnswer_life (s : Device) (p : HwParts) (typ : Nat) (payload : Bytes) : (Device.hwAnswer s p typ payload).sec.life = s.sec.life := by
  unfold Device.hwAnswer; split <;> simp

@[simp] theorem Device.onSyncReq_life (p : HwParts) (x : Device) : (Device.onSyncReq p x).sec.life = x.sec.life := by
  unfold Device.onSyncReq; simp

@[simp] theorem Device.repush_life (s : Device) (old : Hawser) (i : Nat) : (Device.repush s old i).sec.life = s.sec.life := by
  unfold Device.repush; repeat' (first | (simp; done) | split | (dsimp only; split))

@[simp] theorem Device.onCfg_life (p : HwParts) (x : Device) : (Device.onCfg p x).sec.life = x.sec.life := by
  unfold Device.onCfg; repeat' (first | (simp; done) | split | (dsimp only; split))

@[simp] theorem Device.hwHears_life (s : Device) (typ : Nat) (f : HwFrame) (h : HwParts → Device → Device)
    (hh : ∀ p x, (h p x).sec.life = x.sec.life) : (Device.hwHears s typ f h).sec.life = s.sec.life := by
  unfold Device.hwHears; split
  · rfl
  · split
    · simp
    · split <;> simp [hh]

@[simp] theorem Device.hwRefuse_life (s : Device) (cause retry : Nat) : (Device.hwRefuse s cause retry).sec.life = s.sec.life := by
  unfold Device.hwRefuse; simp

@[simp] theorem Device.hwTurnAway_life (s : Device) (cause most : Nat) : (Device.hwTurnAway s cause most).sec.life = s.sec.life := by
  unfold Device.hwTurnAway; split <;> simp

@[simp] theorem Device.jobCycle_life (s : Device) (ref : Option Nat) : (Device.jobCycle s ref).sec.life = s.sec.life := by
  unfold Device.jobCycle; split <;> simp

@[simp] theorem Device.takeJob_life (s : Device) (j : FireJob) : (Device.takeJob s j).sec.life = s.sec.life := by
  unfold Device.takeJob; repeat' (first | (simp; done) | split | (dsimp only; split))

@[simp] theorem Device.onFire_life (r1 : RawStamp) (ref : Option Nat) (p : HwParts) (x : Device) : (Device.onFire r1 ref p x).sec.life = x.sec.life := by
  unfold Device.onFire; repeat' (first | (simp; done) | split | (dsimp only; split))

@[simp] theorem Device.onMark_life (r2 : RawStamp) (_x : HwParts) (x : Device) : (Device.onMark r2 _x x).sec.life = x.sec.life := by
  unfold Device.onMark; simp

@[simp] theorem Device.onSampleReq_life (_x : HwParts) (x : Device) : (Device.onSampleReq _x x).sec.life = x.sec.life := by
  unfold Device.onSampleReq; repeat' (first | (simp; done) | split | (dsimp only; split))

@[simp] theorem Device.loopAnswer_life (s : Device) (p : HwParts) (t2 t3 : Nat) : (Device.loopAnswer s p t2 t3).sec.life = s.sec.life := by
  unfold Device.loopAnswer; simp

@[simp] theorem Device.loadTime_life (s : Device) (t : Nat) : (Device.loadTime s t).sec.life = s.sec.life := by
  unfold Device.loadTime; simp

@[simp] theorem Device.hwOnTime_life (p : HwParts) (x : Device) : (Device.hwOnTime p x).sec.life = x.sec.life := by
  unfold Device.hwOnTime; simp

@[simp] theorem Device.atPrimary_life (s : Device) (typ : Nat) (f : HwFrame) (h : HwParts → Device → Device)
    (hh : ∀ p x, (h p x).sec.life = x.sec.life) : (s.atPrimary typ f h).sec.life = s.sec.life := by
  unfold Device.atPrimary; dsimp only; split
  · exact Device.hwReceive_life _ _ _ _ fun p x => by split <;> simp [hh]
  · rfl

@[simp] theorem Device.synced_life (s : Device) (k : Nat) (b : Bytes) : (Device.synced s k b).sec.life = s.sec.life := by
  unfold Device.synced; split <;> simp

@[simp] theorem Device.badSyncRsp_life (s : Device) : (Device.badSyncRsp s).sec.life = s.sec.life := by
  unfold Device.badSyncRsp; repeat' (first | (simp; done) | split)

@[simp] theorem Device.onSyncRsp_life (p : HwParts) (x : Device) : (Device.onSyncRsp p x).sec.life = x.sec.life := by
  unfold Device.onSyncRsp; split <;> simp

@[simp] theorem Device.hwOnAck_life (p : HwParts) (x : Device) : (Device.hwOnAck p x).sec.life = x.sec.life := by
  unfold Device.hwOnAck; repeat' (first | simp | split)

@[simp] theorem Device.remoteDone_life (s : Device) (i : Nat) (r : PairDone) : (Device.remoteDone s i r).sec.life = s.sec.life := by
  unfold Device.remoteDone; split <;> simp

@[simp] theorem Device.probeAway_life (s : Device) (i : Nat) : (Device.probeAway s i).sec.life = s.sec.life := by
  unfold Device.probeAway; simp

@[simp] theorem Device.onResult_life (p : HwParts) (x : Device) : (Device.onResult p x).sec.life = x.sec.life := by
  unfold Device.onResult; repeat' (first | (simp; done) | split | (dsimp only; split))

@[simp] theorem Device.halfDone_life (s : Device) (k : Nat) (h : HalfMsg) (cap : PairCapture) (tf tm : Nat) : (Device.halfDone s k h cap tf tm).sec.life = s.sec.life := by
  unfold Device.halfDone; simp

@[simp] theorem Device.onHalf_life (own : PairCapture) (tf tm : RawStamp) (p : HwParts) (x : Device) : (Device.onHalf own tf tm p x).sec.life = x.sec.life := by
  unfold Device.onHalf; repeat' (first | (simp; done) | split | (dsimp only; split))

@[simp] theorem Device.pathMissing_life (s : Device) (fired : Bool) : (Device.pathMissing s fired).sec.life = s.sec.life := by
  unfold Device.pathMissing; repeat' (first | (simp; done) | split | (dsimp only; split))

@[simp] theorem Device.sampleIn_life (s : Device) (k : Nat) (part : Option (List (Int × Nat))) : (Device.sampleIn s k part).sec.life = s.sec.life := by
  unfold Device.sampleIn; simp

@[simp] theorem Device.onSampleRsp_life (p : HwParts) (x : Device) : (Device.onSampleRsp p x).sec.life = x.sec.life := by
  unfold Device.onSampleRsp; dsimp only; split <;> simp

@[simp] theorem Device.refused_life (s : Device) (k cause : Nat) : (Device.refused s k cause).sec.life = s.sec.life := by
  unfold Device.refused; repeat' (first | (simp; done) | split | (dsimp only; split))

@[simp] theorem Device.loopEnd_life (s : Device) (k : Nat) (rhos : List Int) : (Device.loopEnd s k rhos).sec.life = s.sec.life := by
  unfold Device.loopEnd; repeat' (first | (simp; done) | split | (dsimp only; split))

@[simp] theorem Device.loopTake_life (s : Device) (r : LoopRun) (turn : Int) (t1 t4 : Nat) : (Device.loopTake s r turn t1 t4).sec.life = s.sec.life := by
  unfold Device.loopTake; repeat' (first | (simp; done) | split | (dsimp only; split))

@[simp] theorem Device.onLoopRsp_life (t1 t4 : RawStamp) (p : HwParts) (x : Device) : (Device.onLoopRsp t1 t4 p x).sec.life = x.sec.life := by
  unfold Device.onLoopRsp; repeat' (first | (simp; done) | split)

@[simp] theorem Device.syncFailed_life (s : Device) (o : Outstanding) : (Device.syncFailed s o).sec.life = s.sec.life := by
  unfold Device.syncFailed; simp

@[simp] theorem Device.exchangeFailed_life (s : Device) (o : Outstanding) : (Device.exchangeFailed s o).sec.life = s.sec.life := by
  unfold Device.exchangeFailed; simp

@[simp] theorem Device.fireFailed_life (s : Device) (k : Nat) : (Device.fireFailed s k).sec.life = s.sec.life := by
  unfold Device.fireFailed; simp

@[simp] theorem Device.sampleFailed_life (s : Device) : s.sampleFailed.sec.life = s.sec.life := by
  unfold Device.sampleFailed; dsimp only; rw [Device.trySample_life]; exact foldl_life _ Device.hwMissed_life _ _

@[simp] theorem Device.hwTimeout_life (s : Device) : (Device.hwTimeout s).sec.life = s.sec.life := by
  unfold Device.hwTimeout; repeat' (first | (simp; done) | split)

/-! ## Optical -/

@[simp] theorem Device.optAnswer_life (s : Device) (f : OptFrame) : (Device.optAnswer s f).sec.life = s.sec.life := by
  unfold Device.optAnswer; simp

@[simp] theorem Device.optVerdict_life (s : Device) (tag cause retry : Nat) : (Device.optVerdict s tag cause retry).sec.life = s.sec.life := by
  unfold Device.optVerdict; simp

@[simp] theorem Device.optData_life (s : Device) (tag : Nat) (q : Bytes) : (Device.optData s tag q).sec.life = s.sec.life := by
  unfold Device.optData; simp

@[simp] theorem Device.optInfo_life (s : Device) (tag : Nat) : (Device.optInfo s tag).sec.life = s.sec.life := by
  unfold Device.optInfo; simp

@[simp] theorem Device.optSeen_life (s : Device) : (Device.optSeen s).sec.life = s.sec.life := by
  unfold Device.optSeen; simp

@[simp] theorem Device.optReceive_life (s : Device) (kind : Nat) (b : Bytes) (h : OptFrame → Device → Device)
    (hh : ∀ p x, (h p x).sec.life = x.sec.life) : (s.optReceive kind b h).sec.life = s.sec.life := by
  unfold Device.optReceive; split
  · rfl
  · repeat' split
    all_goals simp [hh]

@[simp] theorem Device.optStopping_life (s : Device) (b : Bytes) : (Device.optStopping s b).sec.life = s.sec.life := by
  unfold Device.optStopping; repeat' (first | (simp; done) | split | (dsimp only; split))

@[simp] theorem Device.optBaud_life (s : Device) (f : OptFrame) : (Device.optBaud s f).sec.life = s.sec.life := by
  unfold Device.optBaud; dsimp only; split <;> simp

@[simp] theorem Device.optGap_life (s : Device) : (Device.optGap s).sec.life = s.sec.life := by
  unfold Device.optGap; repeat' (first | (simp; done) | split | (dsimp only; split))

/-! ## SelfTest -/

@[simp] theorem Device.legalEnter_life (s : Device) (c arg : Nat) : (Device.legalEnter s c arg).sec.life = s.sec.life := by
  unfold Device.legalEnter; repeat' (first | (simp; done) | split | (dsimp only; split))

@[simp] theorem Device.legalClear_life (s : Device) : (Device.legalClear s).sec.life = s.sec.life := by
  unfold Device.legalClear; dsimp only; split <;> simp

@[simp] theorem Device.retireFunc_life (s : Device) (f : Func) : (Device.retireFunc s f).sec.life = s.sec.life := by
  unfold Device.retireFunc; simp

@[simp] theorem Device.blockFailed_life (s : Device) (b misr : Nat) : (Device.blockFailed s b misr).sec.life = s.sec.life := by
  unfold Device.blockFailed; repeat' (first | (simp; done) | split)

@[simp] theorem Device.blockResult_life (s : Device) (b : Nat) (first second : Bool) (misr : Nat) : (Device.blockResult s b first second misr).sec.life = s.sec.life := by
  unfold Device.blockResult; dsimp only; split <;> simp

@[simp] theorem Device.hfxCheck_life (s : Device) (count : Option Nat) : (Device.hfxCheck s count).sec.life = s.sec.life := by
  unfold Device.hfxCheck; repeat' (first | (simp; done) | split | (dsimp only; split))

@[simp] theorem Device.deferStep_life (s : Device) : (Device.deferStep s).sec.life = s.sec.life := by
  unfold Device.deferStep; dsimp only; split <;> simp

@[simp] theorem Device.condPass_life (s : Device) : (Device.condPass s).sec.life = s.sec.life := by
  unfold Device.condPass; split <;> simp

@[simp] theorem Device.afterTest_life (s : Device) (b : Nat) : (Device.afterTest s b).sec.life = s.sec.life := by
  unfold Device.afterTest; repeat' (first | simp | split)

@[simp] theorem Device.testEnds_life (s : Device) (b : Nat) (first second : Bool) (responses : List Nat) : (Device.testEnds s b first second responses).sec.life = s.sec.life := by
  unfold Device.testEnds; simp

@[simp] theorem Device.testStep_life (s : Device) (b vcoreMv : Nat) (last first second : Bool) (responses : List Nat) : (Device.testStep s b vcoreMv last first second responses).sec.life = s.sec.life := by
  unfold Device.testStep; repeat' (first | (simp; done) | split)

@[simp] theorem Device.beginRound_life (s : Device) (count : Option Nat) : (Device.beginRound s count).sec.life = s.sec.life := by
  unfold Device.beginRound; simp

/-! ## Store -/

@[simp] theorem Device.lostLegal_life (s : Device) (obj : Nat) : (Device.lostLegal s obj).sec.life = s.sec.life := by
  unfold Device.lostLegal; split <;> simp

@[simp] theorem Device.lostConfig_life (s : Device) (obj : Nat) : (Device.lostConfig s obj).sec.life = s.sec.life := by
  unfold Device.lostConfig; repeat' (first | (simp; done) | rfl | split | (dsimp only; split))

@[simp] theorem Device.lostLearned_life (s : Device) (obj : Nat) : (Device.lostLearned s obj).sec.life = s.sec.life := by
  unfold Device.lostLearned; split <;> simp

@[simp] theorem Device.lostTelemetry_life (s : Device) (obj : Nat) : (Device.lostTelemetry s obj).sec.life = s.sec.life := by
  unfold Device.lostTelemetry; repeat' (first | (simp; done) | rfl | split)

@[simp] theorem Device.framLost_life (s : Device) (word obj : Nat) : (Device.framLost s word obj).sec.life = s.sec.life := by
  unfold Device.framLost; simp

@[simp] theorem Device.corrects_life (s : Device) (w : WordAt) : (Device.corrects s w).sec.life = s.sec.life := by
  unfold Device.corrects; repeat' (first | (simp; done) | split | (dsimp only; split))

@[simp] theorem Device.readSingle_life (s : Device) (obj : Nat) (w : WordAt) : (Device.readSingle s obj w).sec.life = s.sec.life := by
  unfold Device.readSingle; repeat' (first | (simp; done) | split | (dsimp only; split))

@[simp] theorem Device.repairCopy_life (s : Device) (v copy : Nat) (w : WordAt) : (Device.repairCopy s v copy w).sec.life = s.sec.life := by
  unfold Device.repairCopy; repeat' (first | (simp; done) | split | (dsimp only; split))

@[simp] theorem Device.readTriple_life (s : Device) (obj : Nat) (a b c : WordAt) : (Device.readTriple s obj a b c).sec.life = s.sec.life := by
  unfold Device.readTriple; repeat' (first | (simp; done) | split | (dsimp only; split))

theorem singlesGo_life (l : List (Nat × WordAt)) (s : Device) (n : Nat) : (singlesGo l s n).1.sec.life = s.sec.life := by
  induction l generalizing n with
  | nil => rfl
  | cons e l ih => unfold singlesGo; split; exact ih _; exact Device.readSingle_life s _ _

theorem triplesGo_life (l : List (Nat × WordAt × WordAt × WordAt)) (s : Device) (n : Nat) :
    (triplesGo l s n).1.sec.life = s.sec.life := by
  induction l generalizing n with
  | nil => rfl
  | cons e l ih => unfold triplesGo; split; exact ih _; exact Device.readTriple_life s _ _ _ _

@[simp] theorem Device.scrubFound_life (s : Device) (x : ScrubFinding) : (Device.scrubFound s x).1.sec.life = s.sec.life := by
  unfold Device.scrubFound; split
  · exact singlesGo_life _ s 0
  · exact triplesGo_life _ s 0

@[simp] theorem Device.passEnds_life (s : Device) (passEnd : Bool) : (Device.passEnds s passEnd).sec.life = s.sec.life := by
  unfold Device.passEnds; repeat' (first | (simp; done) | split | (dsimp only; split))

@[simp] theorem Device.scrubStep_life (s : Device) (x : ScrubFinding) (passEnd : Bool) : (Device.scrubStep s x passEnd).sec.life = s.sec.life := by
  unfold Device.scrubStep; repeat' (first | (simp; done) | split | (dsimp only; split))

@[simp] theorem Device.spareCheck_life (s : Device) : (Device.spareCheck s).sec.life = s.sec.life := by
  unfold Device.spareCheck; split <;> simp

@[simp] theorem Device.copyStaged_life (s : Device) (e : Staged) (rest : List Staged) (compares : List Bool) : (Device.copyStaged s e rest compares).sec.life = s.sec.life := by
  unfold Device.copyStaged; simp

@[simp] theorem Device.retireSector_life (s : Device) (p cause : Nat) : (Device.retireSector s p cause).sec.life = s.sec.life := by
  unfold Device.retireSector; simp

@[simp] theorem Device.relocate_life (s : Device) (p : Nat) (rest : List Nat) : (Device.relocate s p rest).sec.life = s.sec.life := by
  unfold Device.relocate; repeat' (first | (simp; done) | split | (dsimp only; split))

@[simp] theorem Device.erasePool_life (s : Device) (p : Nat × Nat) (rest : List (Nat × Nat)) (verifies : List Bool) : (Device.erasePool s p rest verifies).sec.life = s.sec.life := by
  unfold Device.erasePool; dsimp only; split <;> simp

@[simp] theorem Device.eraseRing_life (s : Device) (l : Nat) (rest : List Nat) (verifies : List Bool) : (Device.eraseRing s l rest verifies).sec.life = s.sec.life := by
  unfold Device.eraseRing; repeat' (first | (simp; done) | split | (dsimp only; split))

/-! ## Windows -/

@[simp] theorem Device.passWindow_life (s : Device) (i : Nat) : (Device.passWindow s i).sec.life = s.sec.life := by
  unfold Device.passWindow; simp

@[simp] theorem Device.skipWindow_life (s : Device) (i : Nat) : (Device.skipWindow s i).sec.life = s.sec.life := by
  unfold Device.skipWindow; simp

@[simp] theorem Device.openWindow_life (s : Device) (c : Child) : (Device.openWindow s c).sec.life = s.sec.life := by
  unfold Device.openWindow; repeat' (first | (simp; done) | split | (dsimp only; split))

@[simp] theorem Device.unmade_life (s : Device) (c : Child) : (Device.unmade s c).sec.life = s.sec.life := by
  unfold Device.unmade; repeat' (first | (simp; done) | split | (dsimp only; split))

@[simp] theorem Device.beginSearch_life (s : Device) (i : Nat) : (Device.beginSearch s i).sec.life = s.sec.life := by
  unfold Device.beginSearch; simp

@[simp] theorem Device.missWindow_life (s : Device) (c : Child) : (Device.missWindow s c).sec.life = s.sec.life := by
  unfold Device.missWindow; dsimp only; split <;> simp

@[simp] theorem Device.openSearch_life (s : Device) (c : Child) : (Device.openSearch s c).sec.life = s.sec.life := by
  unfold Device.openSearch; repeat' (first | (simp; done) | split | (dsimp only; split))

@[simp] theorem Device.evict_life (s : Device) (c : Child) : (Device.evict s c).sec.life = s.sec.life := by
  unfold Device.evict; simp

@[simp] theorem Device.setEntry_life (s : Device) (k : Nat) (q : QEntry) : (Device.setEntry s k q).sec.life = s.sec.life := by
  unfold Device.setEntry; simp

/-! ## Wmbus -/

@[simp] theorem Device.wmNext_life (s : Device) : (Device.wmNext s).sec.life = s.sec.life := by
  unfold Device.wmNext; simp

@[simp] theorem Device.wmSend_life (s : Device) (key : Bytes) : (Device.wmSend s key).sec.life = s.sec.life := by
  unfold Device.wmSend; repeat' (first | (simp; done) | split | (dsimp only; split))

/-! ## Power -/

@[simp] theorem Device.strapRead_life (s : Device) (img : StrapImage) : (Device.strapRead s img).sec.life = s.sec.life := by
  unfold Device.strapRead; repeat' (first | (simp; done) | split | (dsimp only; split))

@[simp] theorem Device.boundaryLast_life (s : Device) : (Device.boundaryLast s).sec.life = s.sec.life := by
  unfold Device.boundaryLast; repeat' (first | (simp; done) | split | (dsimp only; split))

@[simp] theorem Device.holdTransaction_life (s : Device) (holdUs records : Nat) : (Device.holdTransaction s holdUs records).sec.life = s.sec.life := by
  unfold Device.holdTransaction; dsimp only
  rw [Device.commit_life]
  have h := life_ite (c := s.boundaryLast.tolled = true) (x := s)
    (a := (s.boundaryLast.bringUp s.land.tick).holdClose s.land.tick) (b := s.boundaryLast) (by simp) (by simp)
  revert h
  generalize (if s.boundaryLast.tolled = true then (s.boundaryLast.bringUp s.land.tick).holdClose s.land.tick
    else s.boundaryLast) = z
  intro h
  simpa using h

@[simp] theorem Device.unpower_life (s : Device) : s.unpower.sec.life = s.sec.life := by
  have h := foldl_life Device.resetFunc Device.resetFunc_life [Func.transit, .converter, .ferryman, .display, .optical] s
  unfold Device.unpower; exact h

@[simp] theorem Device.holdUp_life (s : Device) (holdUs records : Nat) : (Device.holdUp s holdUs records).sec.life = s.sec.life := by
  unfold Device.holdUp; split <;> simp

@[simp] theorem Device.pinHeld_life (s : Device) (us : Nat) : (Device.pinHeld s us).sec.life = s.sec.life := by
  unfold Device.pinHeld; repeat' (first | (simp; done) | split | (dsimp only; split))

@[simp] theorem Device.resetPin_life (s : Device) (us : Nat) : (Device.resetPin s us).sec.life = s.sec.life := by
  unfold Device.resetPin; simp

@[simp] theorem Device.shipEntry_life (s : Device) : (Device.shipEntry s).sec.life = s.sec.life := by
  unfold Device.shipEntry; simp

@[simp] theorem Device.vholdIs_life (s : Device) (mv : Nat) : (Device.vholdIs s mv).sec.life = s.sec.life := by
  unfold Device.vholdIs; repeat' (first | (simp; done) | split)

@[simp] theorem Device.coldClear_life (s : Device) (inp : ColdStartInput) : (s.coldClear inp).sec.life = s.sec.life := rfl

@[simp] theorem Device.coldTests_life (s : Device) (inp : ColdStartInput) : (s.coldTests inp).sec.life = s.sec.life := by
  unfold Device.coldTests; dsimp only; rw [Device.hfxCheck_life]
  split
  · rw [Device.legalClear_life, foldl_life _ fun s r => Device.blockResult_life s _ _ _ _]
  · rw [foldl_life _ fun s r => Device.blockResult_life s _ _ _ _]

@[simp] theorem Device.undone_life (s : Device) (u : HoldUndo) : (Device.undone s u).sec.life = s.sec.life := by
  unfold Device.undone; repeat' (first | (simp; done) | split | (dsimp only; split))

@[simp] theorem Device.rollBack_life (s : Device) (r : TxnRec) : (Device.rollBack s r).sec.life = s.sec.life := by
  unfold Device.rollBack; repeat' (first | (simp; done) | split | (dsimp only; split))

@[simp] theorem Device.coldJournal_life (s : Device) (j : JournalFound) : (Device.coldJournal s j).sec.life = s.sec.life := by
  unfold Device.coldJournal; repeat' (first | (simp; done) | split | (dsimp only; split))

@[simp] theorem Device.coldCount_life (s : Device) : (Device.coldCount s).sec.life = s.sec.life := by
  unfold Device.coldCount; dsimp only; split <;> simp

@[simp] theorem Device.coldStraps_life (s : Device) (img : StrapImage) : (Device.coldStraps s img).sec.life = s.sec.life := by
  unfold Device.coldStraps; dsimp only; split <;> simp

@[simp] theorem Device.coldPass_life (s : Device) (img : StrapImage) (g : Groups) : (Device.coldPass s img g).sec.life = s.sec.life := by
  unfold Device.coldPass; simp

@[simp] theorem Device.capRestart_life (s : Device) (q : Nat) : (Device.capRestart s q).sec.life = s.sec.life := by
  unfold Device.capRestart; split <;> simp

@[simp] theorem Device.pulseMoved_life (s : Device) (old : Option Nat) (img : StrapImage) : (Device.pulseMoved s old img).sec.life = s.sec.life := by
  unfold Device.pulseMoved; split <;> simp

@[simp] theorem Device.coldSafe_life (s : Device) (g : Groups) (moved : Bool) : (Device.coldSafe s g moved).sec.life = s.sec.life := by
  unfold Device.coldSafe; split <;> simp

@[simp] theorem Device.coldImage_life (s : Device) (old : Option Nat) (img : StrapImage) : (Device.coldImage s old img).sec.life = s.sec.life := by
  unfold Device.coldImage; repeat' (first | (simp; done) | split | (dsimp only; split))

@[simp] theorem Device.coldUnit_life (s : Device) : (Device.coldUnit s).sec.life = s.sec.life := by
  unfold Device.coldUnit; dsimp only; repeat' (first | (simp; done) | split)

@[simp] theorem Device.coldSystem_life (s : Device) : (Device.coldSystem s).sec.life = s.sec.life := by
  unfold Device.coldSystem; simp

@[simp] theorem Device.coldTemp_life (s : Device) : (Device.coldTemp s).sec.life = s.sec.life := by
  unfold Device.coldTemp; simp

@[simp] theorem Device.coldAnalog_life (s : Device) (inp : ColdStartInput) : (Device.coldAnalog s inp).sec.life = s.sec.life := by
  unfold Device.coldAnalog; simp

@[simp] theorem Device.coldFit_life (s : Device) : (Device.coldFit s).sec.life = s.sec.life := by
  unfold Device.coldFit; split <;> simp

@[simp] theorem Device.coldClocks_life (s : Device) (inp : ColdStartInput) : (s.coldClocks inp).sec.life = s.sec.life := by
  unfold Device.coldClocks
  rw [foldl_life _ Device.wantStep_life, Device.armMidnight_life, Device.ageRecompute_life, foldl_life _ Device.calStepRun_life]

@[simp] theorem Device.coldWait_life (s : Device) : (Device.coldWait s).sec.life = s.sec.life := by
  unfold Device.coldWait; dsimp only; split <;> simp

@[simp] theorem Device.coldBlocks_life (s : Device) (was : Conf) (inp : ColdStartInput) :
    (s.coldBlocks was inp).sec.life = s.sec.life := by
  unfold Device.coldBlocks; dsimp only
  rw [Device.coldWait_life, Device.arm_life, Device.coldClocks_life, Device.coldFit_life,
    Device.initRole_life, Device.initRadio_life, Device.initPulse_life, Device.initPaths_life, Device.coldAnalog_life]

@[simp] theorem Device.coldImageRead_life (s : Device) (inp : ColdStartInput) : (Device.coldImageRead s inp).sec.life = s.sec.life := by
  unfold Device.coldImageRead; dsimp only; split <;> simp

@[simp] theorem Device.tollStart_life (s : Device) : (Device.tollStart s).sec.life = s.sec.life := by
  unfold Device.tollStart; dsimp only; split <;> simp

@[simp] theorem Device.functionsStart_life (s : Device) : s.functionsStart.sec.life = s.sec.life := by
  unfold Device.functionsStart; repeat' (first | (simp; done) | split | (dsimp only; split))

@[simp] theorem Device.serviceStart_life (s : Device) (vholdMv : Nat) : (Device.serviceStart s vholdMv).sec.life = s.sec.life := by
  unfold Device.serviceStart; repeat' (first | (simp; done) | split | (dsimp only; split))

end Sys2Proof.Machine
end

