-- ==== Sys2Proof/Laws/LifeOk.lean ====
section
/-! SUPPORT. What a record and a cold start do to the life cycle: the relation of R454 between state and fuses is kept by
every decided record. -/

namespace Sys2Proof.Machine

theorem Device.wipe_lc (s : Device) (m : Nat) (b : Bool) : (s.wipe m b).sec.lc = s.sec.lc :=
  congrArg Prod.fst (Device.wipe_life s m b)

theorem Device.transit_life (s : Device) (a b : Nat) :
    (s.transit a b).sec.life = ((Lc.ofCode b).getD s.sec.lc, s.sec.life.2) := by
  have h (x : Device) (k : x.sec.life = s.sec.life) :
      ({ x with sec := { x.sec with lc := (Lc.ofCode b).getD x.sec.lc } } : Device).sec.life =
        ((Lc.ofCode b).getD s.sec.lc, s.sec.life.2) := by
    rw [← k]
    have : x.sec.lc = s.sec.lc := congrArg Prod.fst k
    rw [← this]; rfl
  have k : (((if transitionWipes a b = 0 then s else s.wipe (transitionWipes a b) (b == 5)).journal 0x803 a b).tamper 13).sec.life =
      s.sec.life := by
    rw [Device.tamper_life, Device.journal_life]; exact life_ite rfl (Device.wipe_life ..)
  unfold Device.transit
  dsimp only
  split
  · exact h _ k
  · split
    · exact h _ k
    · exact h _ k


/-- The relation of R454 between the life-cycle state and the fuses, on `Security.life`. -/
def LifeOk (v : Lc × Bool × Bool × Bool) : Prop :=
  (v.2.2.2 = true → v.1 = .scrapped) ∧ (v.2.2.1 = true → v.1 = .sealed ∨ v.1 = .service ∨ v.1 = .scrapped) ∧
    (v.2.1 = true → v.1 ≠ .blank)

theorem blow_ok (x : Security) (h : LifeOk x.life) : LifeOk x.blow.life := by
  unfold Security.blow
  cases hl : x.lc <;> simp_all [LifeOk, Security.life]

theorem Device.transitionEnd_ok (s : Device) (h : LifeOk s.sec.life) : LifeOk s.transitionEnd.sec.life :=
  blow_ok _ ((Device.holdStart_life s).symm ▸ h)

theorem Device.coldLifecycle_ok (s : Device) (b : Bool) (h : LifeOk s.sec.life) : LifeOk (s.coldLifecycle b).sec.life := by
  unfold Device.coldLifecycle
  dsimp only
  split
  · exact blow_ok _ h
  · rw [Device.journal_life]
    unfold Security.floor
    split
    · simp [LifeOk, Security.life]
    · split
      · simp_all [LifeOk, Security.life]
      · split <;> simp_all [LifeOk, Security.life]

theorem not_not_true {c : Bool} (h : ¬(!c) = true) : c = true := by cases c <;> simp_all

theorem chain_zero {c : Prop} [Decidable c] {n m : Nat} (hn : n ≠ 0) (h : (if c then n else m) = 0) : ¬c ∧ m = 0 := by
  split at h
  · exact absurd h hn
  · exact ⟨‹_›, h⟩

/-- What the checks of R441 leave for a record that they pass. -/
theorem Device.recCause_zero (s : Device) (p : RecPath) (r : Rec) (h : s.recCause p r = 0) :
    (s.allowed r p).contains r.signers = true ∧ s.conditionsOk r = true := by
  unfold Device.recCause at h
  obtain ⟨-, h⟩ := chain_zero (by decide) h
  obtain ⟨-, h⟩ := chain_zero (by decide) h
  obtain ⟨-, h⟩ := chain_zero (by decide) h
  obtain ⟨-, h⟩ := chain_zero (by decide) h
  obtain ⟨n5, h⟩ := chain_zero (by decide) h
  obtain ⟨-, h⟩ := chain_zero (by decide) h
  obtain ⟨-, h⟩ := chain_zero (by decide) h
  obtain ⟨-, h⟩ := chain_zero (by decide) h
  obtain ⟨-, h⟩ := chain_zero (by decide) h
  obtain ⟨-, h⟩ := chain_zero (by decide) h
  obtain ⟨-, h⟩ := chain_zero (by decide) h
  obtain ⟨-, h⟩ := chain_zero (by decide) h
  obtain ⟨n13, h⟩ := chain_zero (by decide) h
  exact ⟨not_not_true n5, not_not_true n13⟩

/-- The pairs of R456. -/
theorem transition_pairs (a b : Nat) (g : List Nat) (h : (transitionSigners a b).contains g = true) :
    (a, b) ∈ [(1, 2), (2, 1), (2, 3), (3, 4), (4, 3), (0, 5), (1, 5), (2, 5), (3, 5), (4, 5)] := by
  unfold transitionSigners at h
  split at h <;> simp_all

theorem lifecycle_ok (s : Device) (a b : Nat) (ha : a = s.sec.lc.code)
    (hp : (a, b) ∈ [(1, 2), (2, 1), (2, 3), (3, 4), (4, 3), (0, 5), (1, 5), (2, 5), (3, 5), (4, 5)])
    (h : LifeOk s.sec.life) : LifeOk (s.transit a b).sec.life := by
  rw [Device.transit_life]
  revert h
  cases hl : s.sec.lc <;> simp [hl, Lc.code] at ha <;> subst ha <;> simp at hp <;>
    (try rcases hp with hp | hp | hp) <;> (try rcases hp with hp | hp) <;>
    simp_all [LifeOk, Security.life, Lc.ofCode]


theorem Device.applyRec_ok (s x : Device) (p : RecPath) (r : Rec) (h : s.recCause p r = 0)
    (e : x.sec.life = s.sec.life) (ok : LifeOk s.sec.life) : LifeOk (x.applyRec r).sec.life := by
  obtain ⟨ha, hc⟩ := Device.recCause_zero s p r h
  have lc : x.sec.lc = s.sec.lc := congrArg Prod.fst e
  unfold Device.applyRec
  dsimp only
  split
  · rename_i ht
    have hb : s.sec.lc = .blank := by
      unfold Device.allowed at ha
      rw [ht] at ha
      by_cases hs : s.secondary = true
      · simp [hs] at ha
      · by_cases hl : s.sec.lc = .blank
        · exact hl
        · simp [hs, hl] at ha
    have ok2 : LifeOk x.sec.life := e ▸ ok
    unfold Device.applyProvision
    rw [Device.transit_life]
    have hb2 : x.sec.lc = .blank := lc.trans hb
    revert ok2
    simp only [LifeOk, Security.life, Lc.ofCode, hb2]
    intro h
    simp_all
  all_goals try (simp only [Device.applyIdentity_life, Device.applyKeys_life, Device.applyCalib_life, Device.applyExpert_life,
      Device.applyCalendar_life, Device.applyTimeSet_life, Device.applyRadioCfg_life, Device.applyRadioKeys_life,
      Device.displayRequest_life, Device.wipe_life, e]; exact ok)
  · rename_i ht
    refine lifecycle_ok x _ _ ?_ ?_ (e ▸ ok)
    · unfold Device.conditionsOk at hc
      rw [ht] at hc
      unfold Device.transitionOk at hc
      simp at hc
      rw [lc]; exact hc.1
    · refine transition_pairs _ _ r.signers ?_
      unfold Device.allowed at ha
      rw [ht] at ha
      by_cases hs : s.secondary = true
      · simp [hs] at ha
      · by_cases hl : s.sec.lc = .scrapped
        · simp [hs, hl] at ha
        · simpa [hs, hl] using ha

theorem Device.decideRec_ok (s : Device) (p : RecPath) (b : Bytes) (ok : LifeOk s.sec.life) :
    LifeOk (s.decideRec p b).2.sec.life := by
  unfold Device.decideRec
  extract_lets r cause
  split
  · rename_i hc
    have hc0 : s.recCause p r = 0 := by
      revert hc
      show (if _ then 14 else _) = 0 → _
      split
      · intro h; exact absurd h (by decide)
      · exact id
    have h1 : LifeOk ((((s.recCommit r).legalCount r).applyRec r).verdict p r 0).sec.life := by
      rw [Device.verdict_life]
      exact Device.applyRec_ok s _ p _ hc0 (by rw [Device.legalCount_life, Device.recCommit_life]) ok
    show LifeOk (if _ then _ else _ : Device).sec.life
    split
    · exact Device.transitionEnd_ok _ h1
    · exact h1
  · show LifeOk (s.verdict p r cause).sec.life
    rw [Device.verdict_life]; exact ok

end Sys2Proof.Machine
end

