-- ==== Sys2Proof/Laws/State.lean ====
section
/-! SUPPORT. What each shared update leaves in each field: one lemma a field, so that no later proof unfolds a record
update. -/

namespace Sys2Proof.Machine

/-! ## The commit journal, refusals, free values -/

@[simp] theorem Device.commit_fn (s : Device) : (s.commit).fn = s.fn := by unfold Device.commit; split <;> rfl
@[simp] theorem Device.commit_conf (s : Device) : (s.commit).conf = s.conf := by unfold Device.commit; split <;> rfl
@[simp] theorem Device.commit_straps (s : Device) : (s.commit).straps = s.straps := by unfold Device.commit; split <;> rfl
@[simp] theorem Device.commit_refusals (s : Device) : (s.commit).refusals = s.refusals := by unfold Device.commit; split <;> rfl
@[simp] theorem Device.commit_tr (s : Device) : (s.commit).tr = s.tr := by unfold Device.commit; split <;> rfl
@[simp] theorem Device.commit_flow (s : Device) : (s.commit).flow = s.flow := by unfold Device.commit; split <;> rfl
@[simp] theorem Device.commit_cap (s : Device) : (s.commit).cap = s.cap := by unfold Device.commit; split <;> rfl
@[simp] theorem Device.commit_pulse (s : Device) : (s.commit).pulse = s.pulse := by unfold Device.commit; split <;> rfl
@[simp] theorem Device.commit_temp (s : Device) : (s.commit).temp = s.temp := by unfold Device.commit; split <;> rfl
@[simp] theorem Device.commit_bill (s : Device) : (s.commit).bill = s.bill := by unfold Device.commit; split <;> rfl
@[simp] theorem Device.commit_jnl (s : Device) : (s.commit).jnl = s.jnl := by unfold Device.commit; split <;> rfl
@[simp] theorem Device.commit_land (s : Device) : (s.commit).land = s.land := by unfold Device.commit; split <;> rfl
@[simp] theorem Device.commit_radio (s : Device) : (s.commit).radio = s.radio := by unfold Device.commit; split <;> rfl
@[simp] theorem Device.commit_haw (s : Device) : (s.commit).haw = s.haw := by unfold Device.commit; split <;> rfl
@[simp] theorem Device.commit_disp (s : Device) : (s.commit).disp = s.disp := by unfold Device.commit; split <;> rfl
@[simp] theorem Device.commit_sec (s : Device) : (s.commit).sec = s.sec := by unfold Device.commit; split <;> rfl
@[simp] theorem Device.commit_opt (s : Device) : (s.commit).opt = s.opt := by unfold Device.commit; split <;> rfl
@[simp] theorem Device.commit_power (s : Device) : (s.commit).power = s.power := by unfold Device.commit; split <;> rfl
@[simp] theorem Device.commit_st (s : Device) : (s.commit).st = s.st := by unfold Device.commit; split <;> rfl
@[simp] theorem Device.commit_free (s : Device) : (s.commit).free = s.free := by unfold Device.commit; split <;> rfl
@[simp] theorem Device.commit_store (s : Device) : s.commit.store = s.store.commit s.land.tick := by unfold Device.commit; split <;> rfl
@[simp] theorem Device.commit_led (s : Device) : s.commit.toll.led = s.toll.led := by unfold Device.commit; split <;> rfl
@[simp] theorem Device.draw_fn (s : Device) : (s.draw.2).fn = s.fn := rfl
@[simp] theorem Device.draw_conf (s : Device) : (s.draw.2).conf = s.conf := rfl
@[simp] theorem Device.draw_straps (s : Device) : (s.draw.2).straps = s.straps := rfl
@[simp] theorem Device.draw_refusals (s : Device) : (s.draw.2).refusals = s.refusals := rfl
@[simp] theorem Device.draw_tr (s : Device) : (s.draw.2).tr = s.tr := rfl
@[simp] theorem Device.draw_flow (s : Device) : (s.draw.2).flow = s.flow := rfl
@[simp] theorem Device.draw_cap (s : Device) : (s.draw.2).cap = s.cap := rfl
@[simp] theorem Device.draw_pulse (s : Device) : (s.draw.2).pulse = s.pulse := rfl
@[simp] theorem Device.draw_temp (s : Device) : (s.draw.2).temp = s.temp := rfl
@[simp] theorem Device.draw_toll (s : Device) : (s.draw.2).toll = s.toll := rfl
@[simp] theorem Device.draw_bill (s : Device) : (s.draw.2).bill = s.bill := rfl
@[simp] theorem Device.draw_jnl (s : Device) : (s.draw.2).jnl = s.jnl := rfl
@[simp] theorem Device.draw_land (s : Device) : (s.draw.2).land = s.land := rfl
@[simp] theorem Device.draw_radio (s : Device) : (s.draw.2).radio = s.radio := rfl
@[simp] theorem Device.draw_haw (s : Device) : (s.draw.2).haw = s.haw := rfl
@[simp] theorem Device.draw_disp (s : Device) : (s.draw.2).disp = s.disp := rfl
@[simp] theorem Device.draw_sec (s : Device) : (s.draw.2).sec = s.sec := rfl
@[simp] theorem Device.draw_opt (s : Device) : (s.draw.2).opt = s.opt := rfl
@[simp] theorem Device.draw_power (s : Device) : (s.draw.2).power = s.power := rfl
@[simp] theorem Device.draw_store (s : Device) : (s.draw.2).store = s.store := rfl
@[simp] theorem Device.draw_st (s : Device) : (s.draw.2).st = s.st := rfl
@[simp] theorem Device.draw_free (s : Device) : s.draw.2.free = s.free + 1 := rfl
@[simp] theorem Device.refuse_fn (s : Device) (i : Nat) : (s.refuse i).fn = s.fn := rfl
@[simp] theorem Device.refuse_conf (s : Device) (i : Nat) : (s.refuse i).conf = s.conf := rfl
@[simp] theorem Device.refuse_straps (s : Device) (i : Nat) : (s.refuse i).straps = s.straps := rfl
@[simp] theorem Device.refuse_tr (s : Device) (i : Nat) : (s.refuse i).tr = s.tr := rfl
@[simp] theorem Device.refuse_flow (s : Device) (i : Nat) : (s.refuse i).flow = s.flow := rfl
@[simp] theorem Device.refuse_cap (s : Device) (i : Nat) : (s.refuse i).cap = s.cap := rfl
@[simp] theorem Device.refuse_pulse (s : Device) (i : Nat) : (s.refuse i).pulse = s.pulse := rfl
@[simp] theorem Device.refuse_temp (s : Device) (i : Nat) : (s.refuse i).temp = s.temp := rfl
@[simp] theorem Device.refuse_toll (s : Device) (i : Nat) : (s.refuse i).toll = s.toll := rfl
@[simp] theorem Device.refuse_bill (s : Device) (i : Nat) : (s.refuse i).bill = s.bill := rfl
@[simp] theorem Device.refuse_jnl (s : Device) (i : Nat) : (s.refuse i).jnl = s.jnl := rfl
@[simp] theorem Device.refuse_land (s : Device) (i : Nat) : (s.refuse i).land = s.land := rfl
@[simp] theorem Device.refuse_radio (s : Device) (i : Nat) : (s.refuse i).radio = s.radio := rfl
@[simp] theorem Device.refuse_haw (s : Device) (i : Nat) : (s.refuse i).haw = s.haw := rfl
@[simp] theorem Device.refuse_disp (s : Device) (i : Nat) : (s.refuse i).disp = s.disp := rfl
@[simp] theorem Device.refuse_sec (s : Device) (i : Nat) : (s.refuse i).sec = s.sec := rfl
@[simp] theorem Device.refuse_opt (s : Device) (i : Nat) : (s.refuse i).opt = s.opt := rfl
@[simp] theorem Device.refuse_power (s : Device) (i : Nat) : (s.refuse i).power = s.power := rfl
@[simp] theorem Device.refuse_store (s : Device) (i : Nat) : (s.refuse i).store = s.store := rfl
@[simp] theorem Device.refuse_st (s : Device) (i : Nat) : (s.refuse i).st = s.st := rfl
@[simp] theorem Device.refuse_free (s : Device) (i : Nat) : (s.refuse i).free = s.free := rfl
@[simp] theorem Device.refuse_refusals (s : Device) (i : Nat) : (s.refuse i).refusals = setAt s.refusals i satInc := rfl
@[simp] theorem Device.refuseN_fn (s : Device) (i n : Nat) : (s.refuseN i n).fn = s.fn := rfl
@[simp] theorem Device.refuseN_conf (s : Device) (i n : Nat) : (s.refuseN i n).conf = s.conf := rfl
@[simp] theorem Device.refuseN_straps (s : Device) (i n : Nat) : (s.refuseN i n).straps = s.straps := rfl
@[simp] theorem Device.refuseN_tr (s : Device) (i n : Nat) : (s.refuseN i n).tr = s.tr := rfl
@[simp] theorem Device.refuseN_flow (s : Device) (i n : Nat) : (s.refuseN i n).flow = s.flow := rfl
@[simp] theorem Device.refuseN_cap (s : Device) (i n : Nat) : (s.refuseN i n).cap = s.cap := rfl
@[simp] theorem Device.refuseN_pulse (s : Device) (i n : Nat) : (s.refuseN i n).pulse = s.pulse := rfl
@[simp] theorem Device.refuseN_temp (s : Device) (i n : Nat) : (s.refuseN i n).temp = s.temp := rfl
@[simp] theorem Device.refuseN_toll (s : Device) (i n : Nat) : (s.refuseN i n).toll = s.toll := rfl
@[simp] theorem Device.refuseN_bill (s : Device) (i n : Nat) : (s.refuseN i n).bill = s.bill := rfl
@[simp] theorem Device.refuseN_jnl (s : Device) (i n : Nat) : (s.refuseN i n).jnl = s.jnl := rfl
@[simp] theorem Device.refuseN_land (s : Device) (i n : Nat) : (s.refuseN i n).land = s.land := rfl
@[simp] theorem Device.refuseN_radio (s : Device) (i n : Nat) : (s.refuseN i n).radio = s.radio := rfl
@[simp] theorem Device.refuseN_haw (s : Device) (i n : Nat) : (s.refuseN i n).haw = s.haw := rfl
@[simp] theorem Device.refuseN_disp (s : Device) (i n : Nat) : (s.refuseN i n).disp = s.disp := rfl
@[simp] theorem Device.refuseN_sec (s : Device) (i n : Nat) : (s.refuseN i n).sec = s.sec := rfl
@[simp] theorem Device.refuseN_opt (s : Device) (i n : Nat) : (s.refuseN i n).opt = s.opt := rfl
@[simp] theorem Device.refuseN_power (s : Device) (i n : Nat) : (s.refuseN i n).power = s.power := rfl
@[simp] theorem Device.refuseN_store (s : Device) (i n : Nat) : (s.refuseN i n).store = s.store := rfl
@[simp] theorem Device.refuseN_st (s : Device) (i n : Nat) : (s.refuseN i n).st = s.st := rfl
@[simp] theorem Device.refuseN_free (s : Device) (i n : Nat) : (s.refuseN i n).free = s.free := rfl

/-! ## Events -/

@[simp] theorem Device.journalWith_fn (s : Device) (t : Nat) (u : Bool) (c a b : Nat) : (s.journalWith t u c a b).fn = s.fn := by unfold Device.journalWith; split <;> simp
@[simp] theorem Device.journalWith_conf (s : Device) (t : Nat) (u : Bool) (c a b : Nat) : (s.journalWith t u c a b).conf = s.conf := by unfold Device.journalWith; split <;> simp
@[simp] theorem Device.journalWith_straps (s : Device) (t : Nat) (u : Bool) (c a b : Nat) : (s.journalWith t u c a b).straps = s.straps := by unfold Device.journalWith; split <;> simp
@[simp] theorem Device.journalWith_refusals (s : Device) (t : Nat) (u : Bool) (c a b : Nat) : (s.journalWith t u c a b).refusals = s.refusals := by unfold Device.journalWith; split <;> simp
@[simp] theorem Device.journalWith_tr (s : Device) (t : Nat) (u : Bool) (c a b : Nat) : (s.journalWith t u c a b).tr = s.tr := by unfold Device.journalWith; split <;> simp
@[simp] theorem Device.journalWith_flow (s : Device) (t : Nat) (u : Bool) (c a b : Nat) : (s.journalWith t u c a b).flow = s.flow := by unfold Device.journalWith; split <;> simp
@[simp] theorem Device.journalWith_cap (s : Device) (t : Nat) (u : Bool) (c a b : Nat) : (s.journalWith t u c a b).cap = s.cap := by unfold Device.journalWith; split <;> simp
@[simp] theorem Device.journalWith_pulse (s : Device) (t : Nat) (u : Bool) (c a b : Nat) : (s.journalWith t u c a b).pulse = s.pulse := by unfold Device.journalWith; split <;> simp
@[simp] theorem Device.journalWith_temp (s : Device) (t : Nat) (u : Bool) (c a b : Nat) : (s.journalWith t u c a b).temp = s.temp := by unfold Device.journalWith; split <;> simp
@[simp] theorem Device.journalWith_bill (s : Device) (t : Nat) (u : Bool) (c a b : Nat) : (s.journalWith t u c a b).bill = s.bill := by unfold Device.journalWith; split <;> simp
@[simp] theorem Device.journalWith_land (s : Device) (t : Nat) (u : Bool) (c a b : Nat) : (s.journalWith t u c a b).land = s.land := by unfold Device.journalWith; split <;> simp
@[simp] theorem Device.journalWith_radio (s : Device) (t : Nat) (u : Bool) (c a b : Nat) : (s.journalWith t u c a b).radio = s.radio := by unfold Device.journalWith; split <;> simp
@[simp] theorem Device.journalWith_haw (s : Device) (t : Nat) (u : Bool) (c a b : Nat) : (s.journalWith t u c a b).haw = s.haw := by unfold Device.journalWith; split <;> simp
@[simp] theorem Device.journalWith_disp (s : Device) (t : Nat) (u : Bool) (c a b : Nat) : (s.journalWith t u c a b).disp = s.disp := by unfold Device.journalWith; split <;> simp
@[simp] theorem Device.journalWith_sec (s : Device) (t : Nat) (u : Bool) (c a b : Nat) : (s.journalWith t u c a b).sec = s.sec := by unfold Device.journalWith; split <;> simp
@[simp] theorem Device.journalWith_opt (s : Device) (t : Nat) (u : Bool) (c a b : Nat) : (s.journalWith t u c a b).opt = s.opt := by unfold Device.journalWith; split <;> simp
@[simp] theorem Device.journalWith_power (s : Device) (t : Nat) (u : Bool) (c a b : Nat) : (s.journalWith t u c a b).power = s.power := by unfold Device.journalWith; split <;> simp
@[simp] theorem Device.journalWith_st (s : Device) (t : Nat) (u : Bool) (c a b : Nat) : (s.journalWith t u c a b).st = s.st := by unfold Device.journalWith; split <;> simp
@[simp] theorem Device.journalWith_free (s : Device) (t : Nat) (u : Bool) (c a b : Nat) : (s.journalWith t u c a b).free = s.free := by unfold Device.journalWith; split <;> simp
@[simp] theorem Device.journalAt_fn (s : Device) (t c a b : Nat) : (s.journalAt t c a b).fn = s.fn := by simp [Device.journalAt]
@[simp] theorem Device.journalAt_conf (s : Device) (t c a b : Nat) : (s.journalAt t c a b).conf = s.conf := by simp [Device.journalAt]
@[simp] theorem Device.journalAt_straps (s : Device) (t c a b : Nat) : (s.journalAt t c a b).straps = s.straps := by simp [Device.journalAt]
@[simp] theorem Device.journalAt_refusals (s : Device) (t c a b : Nat) : (s.journalAt t c a b).refusals = s.refusals := by simp [Device.journalAt]
@[simp] theorem Device.journalAt_tr (s : Device) (t c a b : Nat) : (s.journalAt t c a b).tr = s.tr := by simp [Device.journalAt]
@[simp] theorem Device.journalAt_flow (s : Device) (t c a b : Nat) : (s.journalAt t c a b).flow = s.flow := by simp [Device.journalAt]
@[simp] theorem Device.journalAt_cap (s : Device) (t c a b : Nat) : (s.journalAt t c a b).cap = s.cap := by simp [Device.journalAt]
@[simp] theorem Device.journalAt_pulse (s : Device) (t c a b : Nat) : (s.journalAt t c a b).pulse = s.pulse := by simp [Device.journalAt]
@[simp] theorem Device.journalAt_temp (s : Device) (t c a b : Nat) : (s.journalAt t c a b).temp = s.temp := by simp [Device.journalAt]
@[simp] theorem Device.journalAt_bill (s : Device) (t c a b : Nat) : (s.journalAt t c a b).bill = s.bill := by simp [Device.journalAt]
@[simp] theorem Device.journalAt_land (s : Device) (t c a b : Nat) : (s.journalAt t c a b).land = s.land := by simp [Device.journalAt]
@[simp] theorem Device.journalAt_radio (s : Device) (t c a b : Nat) : (s.journalAt t c a b).radio = s.radio := by simp [Device.journalAt]
@[simp] theorem Device.journalAt_haw (s : Device) (t c a b : Nat) : (s.journalAt t c a b).haw = s.haw := by simp [Device.journalAt]
@[simp] theorem Device.journalAt_disp (s : Device) (t c a b : Nat) : (s.journalAt t c a b).disp = s.disp := by simp [Device.journalAt]
@[simp] theorem Device.journalAt_sec (s : Device) (t c a b : Nat) : (s.journalAt t c a b).sec = s.sec := by simp [Device.journalAt]
@[simp] theorem Device.journalAt_opt (s : Device) (t c a b : Nat) : (s.journalAt t c a b).opt = s.opt := by simp [Device.journalAt]
@[simp] theorem Device.journalAt_power (s : Device) (t c a b : Nat) : (s.journalAt t c a b).power = s.power := by simp [Device.journalAt]
@[simp] theorem Device.journalAt_st (s : Device) (t c a b : Nat) : (s.journalAt t c a b).st = s.st := by simp [Device.journalAt]
@[simp] theorem Device.journalAt_free (s : Device) (t c a b : Nat) : (s.journalAt t c a b).free = s.free := by simp [Device.journalAt]
@[simp] theorem Device.journal_fn (s : Device) (c a b : Nat) : (s.journal c a b).fn = s.fn := by simp [Device.journal]
@[simp] theorem Device.journal_conf (s : Device) (c a b : Nat) : (s.journal c a b).conf = s.conf := by simp [Device.journal]
@[simp] theorem Device.journal_straps (s : Device) (c a b : Nat) : (s.journal c a b).straps = s.straps := by simp [Device.journal]
@[simp] theorem Device.journal_refusals (s : Device) (c a b : Nat) : (s.journal c a b).refusals = s.refusals := by simp [Device.journal]
@[simp] theorem Device.journal_tr (s : Device) (c a b : Nat) : (s.journal c a b).tr = s.tr := by simp [Device.journal]
@[simp] theorem Device.journal_flow (s : Device) (c a b : Nat) : (s.journal c a b).flow = s.flow := by simp [Device.journal]
@[simp] theorem Device.journal_cap (s : Device) (c a b : Nat) : (s.journal c a b).cap = s.cap := by simp [Device.journal]
@[simp] theorem Device.journal_pulse (s : Device) (c a b : Nat) : (s.journal c a b).pulse = s.pulse := by simp [Device.journal]
@[simp] theorem Device.journal_temp (s : Device) (c a b : Nat) : (s.journal c a b).temp = s.temp := by simp [Device.journal]
@[simp] theorem Device.journal_bill (s : Device) (c a b : Nat) : (s.journal c a b).bill = s.bill := by simp [Device.journal]
@[simp] theorem Device.journal_land (s : Device) (c a b : Nat) : (s.journal c a b).land = s.land := by simp [Device.journal]
@[simp] theorem Device.journal_radio (s : Device) (c a b : Nat) : (s.journal c a b).radio = s.radio := by simp [Device.journal]
@[simp] theorem Device.journal_haw (s : Device) (c a b : Nat) : (s.journal c a b).haw = s.haw := by simp [Device.journal]
@[simp] theorem Device.journal_disp (s : Device) (c a b : Nat) : (s.journal c a b).disp = s.disp := by simp [Device.journal]
@[simp] theorem Device.journal_sec (s : Device) (c a b : Nat) : (s.journal c a b).sec = s.sec := by simp [Device.journal]
@[simp] theorem Device.journal_opt (s : Device) (c a b : Nat) : (s.journal c a b).opt = s.opt := by simp [Device.journal]
@[simp] theorem Device.journal_power (s : Device) (c a b : Nat) : (s.journal c a b).power = s.power := by simp [Device.journal]
@[simp] theorem Device.journal_st (s : Device) (c a b : Nat) : (s.journal c a b).st = s.st := by simp [Device.journal]
@[simp] theorem Device.journal_free (s : Device) (c a b : Nat) : (s.journal c a b).free = s.free := by simp [Device.journal]
@[simp] theorem Device.journalWith_led (s : Device) (t : Nat) (u : Bool) (c a b : Nat) :
    (s.journalWith t u c a b).toll.led = s.toll.led := by
  unfold Device.journalWith; split <;> simp
@[simp] theorem Device.journalAt_led (s : Device) (t c a b : Nat) : (s.journalAt t c a b).toll.led = s.toll.led := by
  simp [Device.journalAt]
@[simp] theorem Device.journal_led (s : Device) (c a b : Nat) : (s.journal c a b).toll.led = s.toll.led := by simp [Device.journal]
theorem Device.journalAt_entries (s : Device) (t c a b : Nat) (h : s.secondary = false) :
    (s.journalAt t c a b).jnl = s.jnl.add ⟨t, c, !s.trusted, wrapU 32 a, wrapU 32 b⟩ := by
  simp [Device.journalAt, Device.journalWith, h]

/-! ## Readers of time, background steps -/

@[simp] theorem Device.loadShadow_fn (s : Device) (i : Nat) : (s.loadShadow i).fn = s.fn := rfl
@[simp] theorem Device.loadShadow_conf (s : Device) (i : Nat) : (s.loadShadow i).conf = s.conf := rfl
@[simp] theorem Device.loadShadow_straps (s : Device) (i : Nat) : (s.loadShadow i).straps = s.straps := rfl
@[simp] theorem Device.loadShadow_refusals (s : Device) (i : Nat) : (s.loadShadow i).refusals = s.refusals := rfl
@[simp] theorem Device.loadShadow_tr (s : Device) (i : Nat) : (s.loadShadow i).tr = s.tr := rfl
@[simp] theorem Device.loadShadow_flow (s : Device) (i : Nat) : (s.loadShadow i).flow = s.flow := rfl
@[simp] theorem Device.loadShadow_cap (s : Device) (i : Nat) : (s.loadShadow i).cap = s.cap := rfl
@[simp] theorem Device.loadShadow_pulse (s : Device) (i : Nat) : (s.loadShadow i).pulse = s.pulse := rfl
@[simp] theorem Device.loadShadow_temp (s : Device) (i : Nat) : (s.loadShadow i).temp = s.temp := rfl
@[simp] theorem Device.loadShadow_toll (s : Device) (i : Nat) : (s.loadShadow i).toll = s.toll := rfl
@[simp] theorem Device.loadShadow_bill (s : Device) (i : Nat) : (s.loadShadow i).bill = s.bill := rfl
@[simp] theorem Device.loadShadow_jnl (s : Device) (i : Nat) : (s.loadShadow i).jnl = s.jnl := rfl
@[simp] theorem Device.loadShadow_radio (s : Device) (i : Nat) : (s.loadShadow i).radio = s.radio := rfl
@[simp] theorem Device.loadShadow_haw (s : Device) (i : Nat) : (s.loadShadow i).haw = s.haw := rfl
@[simp] theorem Device.loadShadow_disp (s : Device) (i : Nat) : (s.loadShadow i).disp = s.disp := rfl
@[simp] theorem Device.loadShadow_sec (s : Device) (i : Nat) : (s.loadShadow i).sec = s.sec := rfl
@[simp] theorem Device.loadShadow_opt (s : Device) (i : Nat) : (s.loadShadow i).opt = s.opt := rfl
@[simp] theorem Device.loadShadow_power (s : Device) (i : Nat) : (s.loadShadow i).power = s.power := rfl
@[simp] theorem Device.loadShadow_store (s : Device) (i : Nat) : (s.loadShadow i).store = s.store := rfl
@[simp] theorem Device.loadShadow_st (s : Device) (i : Nat) : (s.loadShadow i).st = s.st := rfl
@[simp] theorem Device.loadShadow_free (s : Device) (i : Nat) : (s.loadShadow i).free = s.free := rfl
@[simp] theorem Device.loadShadow_land_tick (s : Device) (i : Nat) : (s.loadShadow i).land.tick = s.land.tick := rfl
@[simp] theorem Device.loadShadow_land_prev (s : Device) (i : Nat) : (s.loadShadow i).land.prev = s.land.prev := rfl
@[simp] theorem Device.loadShadow_land_oscStopped (s : Device) (i : Nat) : (s.loadShadow i).land.oscStopped = s.land.oscStopped := rfl
@[simp] theorem Device.loadShadow_land_neverSet (s : Device) (i : Nat) : (s.loadShadow i).land.neverSet = s.land.neverSet := rfl
@[simp] theorem Device.loadShadow_land_lfxRunning (s : Device) (i : Nat) : (s.loadShadow i).land.lfxRunning = s.land.lfxRunning := rfl
@[simp] theorem Device.loadShadow_land_osc (s : Device) (i : Nat) : (s.loadShadow i).land.osc = s.land.osc := rfl
@[simp] theorem Device.loadShadow_land_trimAcc (s : Device) (i : Nat) : (s.loadShadow i).land.trimAcc = s.land.trimAcc := rfl
@[simp] theorem Device.loadShadow_land_corrOwed (s : Device) (i : Nat) : (s.loadShadow i).land.corrOwed = s.land.corrOwed := rfl
@[simp] theorem Device.loadShadow_land_compAcc (s : Device) (i : Nat) : (s.loadShadow i).land.compAcc = s.land.compAcc := rfl
@[simp] theorem Device.loadShadow_land_dieTemp (s : Device) (i : Nat) : (s.loadShadow i).land.dieTemp = s.land.dieTemp := rfl
@[simp] theorem Device.loadShadow_land_lf (s : Device) (i : Nat) : (s.loadShadow i).land.lf = s.land.lf := rfl
@[simp] theorem Device.loadShadow_land_cal (s : Device) (i : Nat) : (s.loadShadow i).land.cal = s.land.cal := rfl
@[simp] theorem Device.loadShadow_land_adjDay (s : Device) (i : Nat) : (s.loadShadow i).land.adjDay = s.land.adjDay := rfl
@[simp] theorem Device.loadShadow_land_cnt (s : Device) (i : Nat) : (s.loadShadow i).land.cnt = s.land.cnt := rfl
@[simp] theorem Device.loadShadow_land_cntMirror (s : Device) (i : Nat) : (s.loadShadow i).land.cntMirror = s.land.cntMirror := rfl
@[simp] theorem Device.loadShadow_land_supply (s : Device) (i : Nat) : (s.loadShadow i).land.supply = s.land.supply := rfl
@[simp] theorem Device.loadShadow_land_debounce (s : Device) (i : Nat) : (s.loadShadow i).land.debounce = s.land.debounce := rfl
@[simp] theorem Device.loadShadow_land_bkpSince (s : Device) (i : Nat) : (s.loadShadow i).land.bkpSince = s.land.bkpSince := rfl
@[simp] theorem Device.loadShadow_land_sealSt (s : Device) (i : Nat) : (s.loadShadow i).land.sealSt = s.land.sealSt := rfl
@[simp] theorem Device.loadShadow_land_sealFail (s : Device) (i : Nat) : (s.loadShadow i).land.sealFail = s.land.sealFail := rfl
@[simp] theorem Device.loadShadow_land_sealGood (s : Device) (i : Nat) : (s.loadShadow i).land.sealGood = s.land.sealGood := rfl
@[simp] theorem Device.loadShadow_land_caseOpen (s : Device) (i : Nat) : (s.loadShadow i).land.caseOpen = s.land.caseOpen := rfl
@[simp] theorem Device.loadShadow_land_mag (s : Device) (i : Nat) : (s.loadShadow i).land.mag = s.land.mag := rfl
@[simp] theorem Device.loadShadow_land_fifo (s : Device) (i : Nat) : (s.loadShadow i).land.fifo = s.land.fifo := rfl
@[simp] theorem Device.loadShadow_land_alarms (s : Device) (i : Nat) : (s.loadShadow i).land.alarms = s.land.alarms := rfl
@[simp] theorem Device.loadShadow_land_pendSet (s : Device) (i : Nat) : (s.loadShadow i).land.pendSet = s.land.pendSet := rfl
@[simp] theorem Device.loadShadow_land_pwrEn (s : Device) (i : Nat) : (s.loadShadow i).land.pwrEn = s.land.pwrEn := rfl
@[simp] theorem Device.loadShadow_land_plsCount (s : Device) (i : Nat) : (s.loadShadow i).land.plsCount = s.land.plsCount := rfl
@[simp] theorem Device.loadShadow_land_plsMirror (s : Device) (i : Nat) : (s.loadShadow i).land.plsMirror = s.land.plsMirror := rfl
@[simp] theorem Device.loadShadow_land_plsLost (s : Device) (i : Nat) : (s.loadShadow i).land.plsLost = s.land.plsLost := rfl
@[simp] theorem Device.loadShadow_land_mirrorTick (s : Device) (i : Nat) : (s.loadShadow i).land.mirrorTick = s.land.mirrorTick := rfl
@[simp] theorem Device.loadShadow_land_plsEn (s : Device) (i : Nat) : (s.loadShadow i).land.plsEn = s.land.plsEn := rfl
@[simp] theorem Device.loadShadow_land_plsDb (s : Device) (i : Nat) : (s.loadShadow i).land.plsDb = s.land.plsDb := rfl
@[simp] theorem Device.loadShadow_land_queued (s : Device) (i : Nat) : (s.loadShadow i).land.queued = s.land.queued := rfl
@[simp] theorem Device.loadShadow_land_adjLimit (s : Device) (i : Nat) : (s.loadShadow i).land.adjLimit = s.land.adjLimit := rfl
@[simp] theorem Device.loadShadow_land_sealEn (s : Device) (i : Nat) : (s.loadShadow i).land.sealEn = s.land.sealEn := rfl
@[simp] theorem Device.loadShadow_land_sealPeriod (s : Device) (i : Nat) : (s.loadShadow i).land.sealPeriod = s.land.sealPeriod := rfl
@[simp] theorem Device.loadShadow_land_pwrEnMode (s : Device) (i : Nat) : (s.loadShadow i).land.pwrEnMode = s.land.pwrEnMode := rfl
@[simp] theorem Device.loadShadow_land_pwrEnLead (s : Device) (i : Nat) : (s.loadShadow i).land.pwrEnLead = s.land.pwrEnLead := rfl
@[simp] theorem Device.loadShadow_land_probeIn (s : Device) (i : Nat) : (s.loadShadow i).land.probeIn = s.land.probeIn := rfl
@[simp] theorem Device.loadShadow_land_corrAt (s : Device) (i : Nat) : (s.loadShadow i).land.corrAt = s.land.corrAt := rfl
@[simp] theorem Device.loadShadow_land_compAt (s : Device) (i : Nat) : (s.loadShadow i).land.compAt = s.land.compAt := rfl
@[simp] theorem Device.loadShadow_land_divAt (s : Device) (i : Nat) : (s.loadShadow i).land.divAt = s.land.divAt := rfl
@[simp] theorem Device.loadShadow_land_plsAt (s : Device) (i : Nat) : (s.loadShadow i).land.plsAt = s.land.plsAt := rfl
@[simp] theorem Device.loadShadow_land_caseAt (s : Device) (i : Nat) : (s.loadShadow i).land.caseAt = s.land.caseAt := rfl
@[simp] theorem Device.loadShadow_land_magAt (s : Device) (i : Nat) : (s.loadShadow i).land.magAt = s.land.magAt := rfl
@[simp] theorem Device.stepRan_fn (s : Device) (u : Nat) : (s.stepRan u).fn = s.fn := rfl
@[simp] theorem Device.stepRan_conf (s : Device) (u : Nat) : (s.stepRan u).conf = s.conf := rfl
@[simp] theorem Device.stepRan_straps (s : Device) (u : Nat) : (s.stepRan u).straps = s.straps := rfl
@[simp] theorem Device.stepRan_refusals (s : Device) (u : Nat) : (s.stepRan u).refusals = s.refusals := rfl
@[simp] theorem Device.stepRan_tr (s : Device) (u : Nat) : (s.stepRan u).tr = s.tr := rfl
@[simp] theorem Device.stepRan_flow (s : Device) (u : Nat) : (s.stepRan u).flow = s.flow := rfl
@[simp] theorem Device.stepRan_cap (s : Device) (u : Nat) : (s.stepRan u).cap = s.cap := rfl
@[simp] theorem Device.stepRan_pulse (s : Device) (u : Nat) : (s.stepRan u).pulse = s.pulse := rfl
@[simp] theorem Device.stepRan_temp (s : Device) (u : Nat) : (s.stepRan u).temp = s.temp := rfl
@[simp] theorem Device.stepRan_toll (s : Device) (u : Nat) : (s.stepRan u).toll = s.toll := rfl
@[simp] theorem Device.stepRan_bill (s : Device) (u : Nat) : (s.stepRan u).bill = s.bill := rfl
@[simp] theorem Device.stepRan_jnl (s : Device) (u : Nat) : (s.stepRan u).jnl = s.jnl := rfl
@[simp] theorem Device.stepRan_land (s : Device) (u : Nat) : (s.stepRan u).land = s.land := rfl
@[simp] theorem Device.stepRan_radio (s : Device) (u : Nat) : (s.stepRan u).radio = s.radio := rfl
@[simp] theorem Device.stepRan_haw (s : Device) (u : Nat) : (s.stepRan u).haw = s.haw := rfl
@[simp] theorem Device.stepRan_disp (s : Device) (u : Nat) : (s.stepRan u).disp = s.disp := rfl
@[simp] theorem Device.stepRan_sec (s : Device) (u : Nat) : (s.stepRan u).sec = s.sec := rfl
@[simp] theorem Device.stepRan_opt (s : Device) (u : Nat) : (s.stepRan u).opt = s.opt := rfl
@[simp] theorem Device.stepRan_power (s : Device) (u : Nat) : (s.stepRan u).power = s.power := rfl
@[simp] theorem Device.stepRan_st (s : Device) (u : Nat) : (s.stepRan u).st = s.st := rfl
@[simp] theorem Device.stepRan_free (s : Device) (u : Nat) : (s.stepRan u).free = s.free := rfl

/-! ## Alarms -/

@[simp] theorem Device.arm_fn (s : Device) (i t : Nat) (e : Bool) : (s.arm i t e).fn = s.fn := by unfold Device.arm; split <;> rfl
@[simp] theorem Device.arm_conf (s : Device) (i t : Nat) (e : Bool) : (s.arm i t e).conf = s.conf := by unfold Device.arm; split <;> rfl
@[simp] theorem Device.arm_straps (s : Device) (i t : Nat) (e : Bool) : (s.arm i t e).straps = s.straps := by unfold Device.arm; split <;> rfl
@[simp] theorem Device.arm_refusals (s : Device) (i t : Nat) (e : Bool) : (s.arm i t e).refusals = s.refusals := by unfold Device.arm; split <;> rfl
@[simp] theorem Device.arm_tr (s : Device) (i t : Nat) (e : Bool) : (s.arm i t e).tr = s.tr := by unfold Device.arm; split <;> rfl
@[simp] theorem Device.arm_flow (s : Device) (i t : Nat) (e : Bool) : (s.arm i t e).flow = s.flow := by unfold Device.arm; split <;> rfl
@[simp] theorem Device.arm_cap (s : Device) (i t : Nat) (e : Bool) : (s.arm i t e).cap = s.cap := by unfold Device.arm; split <;> rfl
@[simp] theorem Device.arm_pulse (s : Device) (i t : Nat) (e : Bool) : (s.arm i t e).pulse = s.pulse := by unfold Device.arm; split <;> rfl
@[simp] theorem Device.arm_temp (s : Device) (i t : Nat) (e : Bool) : (s.arm i t e).temp = s.temp := by unfold Device.arm; split <;> rfl
@[simp] theorem Device.arm_toll (s : Device) (i t : Nat) (e : Bool) : (s.arm i t e).toll = s.toll := by unfold Device.arm; split <;> rfl
@[simp] theorem Device.arm_bill (s : Device) (i t : Nat) (e : Bool) : (s.arm i t e).bill = s.bill := by unfold Device.arm; split <;> rfl
@[simp] theorem Device.arm_jnl (s : Device) (i t : Nat) (e : Bool) : (s.arm i t e).jnl = s.jnl := by unfold Device.arm; split <;> rfl
@[simp] theorem Device.arm_radio (s : Device) (i t : Nat) (e : Bool) : (s.arm i t e).radio = s.radio := by unfold Device.arm; split <;> rfl
@[simp] theorem Device.arm_haw (s : Device) (i t : Nat) (e : Bool) : (s.arm i t e).haw = s.haw := by unfold Device.arm; split <;> rfl
@[simp] theorem Device.arm_disp (s : Device) (i t : Nat) (e : Bool) : (s.arm i t e).disp = s.disp := by unfold Device.arm; split <;> rfl
@[simp] theorem Device.arm_sec (s : Device) (i t : Nat) (e : Bool) : (s.arm i t e).sec = s.sec := by unfold Device.arm; split <;> rfl
@[simp] theorem Device.arm_opt (s : Device) (i t : Nat) (e : Bool) : (s.arm i t e).opt = s.opt := by unfold Device.arm; split <;> rfl
@[simp] theorem Device.arm_power (s : Device) (i t : Nat) (e : Bool) : (s.arm i t e).power = s.power := by unfold Device.arm; split <;> rfl
@[simp] theorem Device.arm_store (s : Device) (i t : Nat) (e : Bool) : (s.arm i t e).store = s.store := by unfold Device.arm; split <;> rfl
@[simp] theorem Device.arm_st (s : Device) (i t : Nat) (e : Bool) : (s.arm i t e).st = s.st := by unfold Device.arm; split <;> rfl
@[simp] theorem Device.arm_free (s : Device) (i t : Nat) (e : Bool) : (s.arm i t e).free = s.free := by unfold Device.arm; split <;> rfl
theorem Device.arm_land (s : Device) (i t : Nat) (e : Bool) (h : s.writable = true) : (s.arm i t e).land = s.land.arm i t e := by
  simp [Device.arm, h]
@[simp] theorem Device.arm_land_tick (s : Device) (i t : Nat) (e : Bool) : (s.arm i t e).land.tick = s.land.tick := by unfold Device.arm; split <;> rfl
@[simp] theorem Device.arm_land_prev (s : Device) (i t : Nat) (e : Bool) : (s.arm i t e).land.prev = s.land.prev := by unfold Device.arm; split <;> rfl
@[simp] theorem Device.arm_land_oscStopped (s : Device) (i t : Nat) (e : Bool) : (s.arm i t e).land.oscStopped = s.land.oscStopped := by unfold Device.arm; split <;> rfl
@[simp] theorem Device.arm_land_neverSet (s : Device) (i t : Nat) (e : Bool) : (s.arm i t e).land.neverSet = s.land.neverSet := by unfold Device.arm; split <;> rfl
@[simp] theorem Device.arm_land_lfxRunning (s : Device) (i t : Nat) (e : Bool) : (s.arm i t e).land.lfxRunning = s.land.lfxRunning := by unfold Device.arm; split <;> rfl
@[simp] theorem Device.arm_land_osc (s : Device) (i t : Nat) (e : Bool) : (s.arm i t e).land.osc = s.land.osc := by unfold Device.arm; split <;> rfl
@[simp] theorem Device.arm_land_trimAcc (s : Device) (i t : Nat) (e : Bool) : (s.arm i t e).land.trimAcc = s.land.trimAcc := by unfold Device.arm; split <;> rfl
@[simp] theorem Device.arm_land_corrOwed (s : Device) (i t : Nat) (e : Bool) : (s.arm i t e).land.corrOwed = s.land.corrOwed := by unfold Device.arm; split <;> rfl
@[simp] theorem Device.arm_land_compAcc (s : Device) (i t : Nat) (e : Bool) : (s.arm i t e).land.compAcc = s.land.compAcc := by unfold Device.arm; split <;> rfl
@[simp] theorem Device.arm_land_dieTemp (s : Device) (i t : Nat) (e : Bool) : (s.arm i t e).land.dieTemp = s.land.dieTemp := by unfold Device.arm; split <;> rfl
@[simp] theorem Device.arm_land_lf (s : Device) (i t : Nat) (e : Bool) : (s.arm i t e).land.lf = s.land.lf := by unfold Device.arm; split <;> rfl
@[simp] theorem Device.arm_land_cal (s : Device) (i t : Nat) (e : Bool) : (s.arm i t e).land.cal = s.land.cal := by unfold Device.arm; split <;> rfl
@[simp] theorem Device.arm_land_shadows (s : Device) (i t : Nat) (e : Bool) : (s.arm i t e).land.shadows = s.land.shadows := by unfold Device.arm; split <;> rfl
@[simp] theorem Device.arm_land_reader (s : Device) (i t : Nat) (e : Bool) : (s.arm i t e).land.reader = s.land.reader := by unfold Device.arm; split <;> rfl
@[simp] theorem Device.arm_land_adjDay (s : Device) (i t : Nat) (e : Bool) : (s.arm i t e).land.adjDay = s.land.adjDay := by unfold Device.arm; split <;> rfl
@[simp] theorem Device.arm_land_cnt (s : Device) (i t : Nat) (e : Bool) : (s.arm i t e).land.cnt = s.land.cnt := by unfold Device.arm; split <;> rfl
@[simp] theorem Device.arm_land_cntMirror (s : Device) (i t : Nat) (e : Bool) : (s.arm i t e).land.cntMirror = s.land.cntMirror := by unfold Device.arm; split <;> rfl
@[simp] theorem Device.arm_land_supply (s : Device) (i t : Nat) (e : Bool) : (s.arm i t e).land.supply = s.land.supply := by unfold Device.arm; split <;> rfl
@[simp] theorem Device.arm_land_debounce (s : Device) (i t : Nat) (e : Bool) : (s.arm i t e).land.debounce = s.land.debounce := by unfold Device.arm; split <;> rfl
@[simp] theorem Device.arm_land_bkpSince (s : Device) (i t : Nat) (e : Bool) : (s.arm i t e).land.bkpSince = s.land.bkpSince := by unfold Device.arm; split <;> rfl
@[simp] theorem Device.arm_land_sealSt (s : Device) (i t : Nat) (e : Bool) : (s.arm i t e).land.sealSt = s.land.sealSt := by unfold Device.arm; split <;> rfl
@[simp] theorem Device.arm_land_sealFail (s : Device) (i t : Nat) (e : Bool) : (s.arm i t e).land.sealFail = s.land.sealFail := by unfold Device.arm; split <;> rfl
@[simp] theorem Device.arm_land_sealGood (s : Device) (i t : Nat) (e : Bool) : (s.arm i t e).land.sealGood = s.land.sealGood := by unfold Device.arm; split <;> rfl
@[simp] theorem Device.arm_land_caseOpen (s : Device) (i t : Nat) (e : Bool) : (s.arm i t e).land.caseOpen = s.land.caseOpen := by unfold Device.arm; split <;> rfl
@[simp] theorem Device.arm_land_mag (s : Device) (i t : Nat) (e : Bool) : (s.arm i t e).land.mag = s.land.mag := by unfold Device.arm; split <;> rfl
@[simp] theorem Device.arm_land_fifo (s : Device) (i t : Nat) (e : Bool) : (s.arm i t e).land.fifo = s.land.fifo := by unfold Device.arm; split <;> rfl
@[simp] theorem Device.arm_land_pendSet (s : Device) (i t : Nat) (e : Bool) : (s.arm i t e).land.pendSet = s.land.pendSet := by unfold Device.arm; split <;> rfl
@[simp] theorem Device.arm_land_pwrEn (s : Device) (i t : Nat) (e : Bool) : (s.arm i t e).land.pwrEn = s.land.pwrEn := by unfold Device.arm; split <;> rfl
@[simp] theorem Device.arm_land_plsCount (s : Device) (i t : Nat) (e : Bool) : (s.arm i t e).land.plsCount = s.land.plsCount := by unfold Device.arm; split <;> rfl
@[simp] theorem Device.arm_land_plsMirror (s : Device) (i t : Nat) (e : Bool) : (s.arm i t e).land.plsMirror = s.land.plsMirror := by unfold Device.arm; split <;> rfl
@[simp] theorem Device.arm_land_plsLost (s : Device) (i t : Nat) (e : Bool) : (s.arm i t e).land.plsLost = s.land.plsLost := by unfold Device.arm; split <;> rfl
@[simp] theorem Device.arm_land_mirrorTick (s : Device) (i t : Nat) (e : Bool) : (s.arm i t e).land.mirrorTick = s.land.mirrorTick := by unfold Device.arm; split <;> rfl
@[simp] theorem Device.arm_land_plsEn (s : Device) (i t : Nat) (e : Bool) : (s.arm i t e).land.plsEn = s.land.plsEn := by unfold Device.arm; split <;> rfl
@[simp] theorem Device.arm_land_plsDb (s : Device) (i t : Nat) (e : Bool) : (s.arm i t e).land.plsDb = s.land.plsDb := by unfold Device.arm; split <;> rfl
@[simp] theorem Device.arm_land_queued (s : Device) (i t : Nat) (e : Bool) : (s.arm i t e).land.queued = s.land.queued := by unfold Device.arm; split <;> rfl
@[simp] theorem Device.arm_land_adjLimit (s : Device) (i t : Nat) (e : Bool) : (s.arm i t e).land.adjLimit = s.land.adjLimit := by unfold Device.arm; split <;> rfl
@[simp] theorem Device.arm_land_sealEn (s : Device) (i t : Nat) (e : Bool) : (s.arm i t e).land.sealEn = s.land.sealEn := by unfold Device.arm; split <;> rfl
@[simp] theorem Device.arm_land_sealPeriod (s : Device) (i t : Nat) (e : Bool) : (s.arm i t e).land.sealPeriod = s.land.sealPeriod := by unfold Device.arm; split <;> rfl
@[simp] theorem Device.arm_land_pwrEnMode (s : Device) (i t : Nat) (e : Bool) : (s.arm i t e).land.pwrEnMode = s.land.pwrEnMode := by unfold Device.arm; split <;> rfl
@[simp] theorem Device.arm_land_pwrEnLead (s : Device) (i t : Nat) (e : Bool) : (s.arm i t e).land.pwrEnLead = s.land.pwrEnLead := by unfold Device.arm; split <;> rfl
@[simp] theorem Device.arm_land_probeIn (s : Device) (i t : Nat) (e : Bool) : (s.arm i t e).land.probeIn = s.land.probeIn := by unfold Device.arm; split <;> rfl
@[simp] theorem Device.arm_land_corrAt (s : Device) (i t : Nat) (e : Bool) : (s.arm i t e).land.corrAt = s.land.corrAt := by unfold Device.arm; split <;> rfl
@[simp] theorem Device.arm_land_compAt (s : Device) (i t : Nat) (e : Bool) : (s.arm i t e).land.compAt = s.land.compAt := by unfold Device.arm; split <;> rfl
@[simp] theorem Device.arm_land_divAt (s : Device) (i t : Nat) (e : Bool) : (s.arm i t e).land.divAt = s.land.divAt := by unfold Device.arm; split <;> rfl
@[simp] theorem Device.arm_land_plsAt (s : Device) (i t : Nat) (e : Bool) : (s.arm i t e).land.plsAt = s.land.plsAt := by unfold Device.arm; split <;> rfl
@[simp] theorem Device.arm_land_caseAt (s : Device) (i t : Nat) (e : Bool) : (s.arm i t e).land.caseAt = s.land.caseAt := by unfold Device.arm; split <;> rfl
@[simp] theorem Device.arm_land_magAt (s : Device) (i t : Nat) (e : Bool) : (s.arm i t e).land.magAt = s.land.magAt := by unfold Device.arm; split <;> rfl
@[simp] theorem Device.disarm_fn (s : Device) (i : Nat) : (s.disarm i).fn = s.fn := by unfold Device.disarm; split <;> rfl
@[simp] theorem Device.disarm_conf (s : Device) (i : Nat) : (s.disarm i).conf = s.conf := by unfold Device.disarm; split <;> rfl
@[simp] theorem Device.disarm_straps (s : Device) (i : Nat) : (s.disarm i).straps = s.straps := by unfold Device.disarm; split <;> rfl
@[simp] theorem Device.disarm_refusals (s : Device) (i : Nat) : (s.disarm i).refusals = s.refusals := by unfold Device.disarm; split <;> rfl
@[simp] theorem Device.disarm_tr (s : Device) (i : Nat) : (s.disarm i).tr = s.tr := by unfold Device.disarm; split <;> rfl
@[simp] theorem Device.disarm_flow (s : Device) (i : Nat) : (s.disarm i).flow = s.flow := by unfold Device.disarm; split <;> rfl
@[simp] theorem Device.disarm_cap (s : Device) (i : Nat) : (s.disarm i).cap = s.cap := by unfold Device.disarm; split <;> rfl
@[simp] theorem Device.disarm_pulse (s : Device) (i : Nat) : (s.disarm i).pulse = s.pulse := by unfold Device.disarm; split <;> rfl
@[simp] theorem Device.disarm_temp (s : Device) (i : Nat) : (s.disarm i).temp = s.temp := by unfold Device.disarm; split <;> rfl
@[simp] theorem Device.disarm_toll (s : Device) (i : Nat) : (s.disarm i).toll = s.toll := by unfold Device.disarm; split <;> rfl
@[simp] theorem Device.disarm_bill (s : Device) (i : Nat) : (s.disarm i).bill = s.bill := by unfold Device.disarm; split <;> rfl
@[simp] theorem Device.disarm_jnl (s : Device) (i : Nat) : (s.disarm i).jnl = s.jnl := by unfold Device.disarm; split <;> rfl
@[simp] theorem Device.disarm_radio (s : Device) (i : Nat) : (s.disarm i).radio = s.radio := by unfold Device.disarm; split <;> rfl
@[simp] theorem Device.disarm_haw (s : Device) (i : Nat) : (s.disarm i).haw = s.haw := by unfold Device.disarm; split <;> rfl
@[simp] theorem Device.disarm_disp (s : Device) (i : Nat) : (s.disarm i).disp = s.disp := by unfold Device.disarm; split <;> rfl
@[simp] theorem Device.disarm_sec (s : Device) (i : Nat) : (s.disarm i).sec = s.sec := by unfold Device.disarm; split <;> rfl
@[simp] theorem Device.disarm_opt (s : Device) (i : Nat) : (s.disarm i).opt = s.opt := by unfold Device.disarm; split <;> rfl
@[simp] theorem Device.disarm_power (s : Device) (i : Nat) : (s.disarm i).power = s.power := by unfold Device.disarm; split <;> rfl
@[simp] theorem Device.disarm_store (s : Device) (i : Nat) : (s.disarm i).store = s.store := by unfold Device.disarm; split <;> rfl
@[simp] theorem Device.disarm_st (s : Device) (i : Nat) : (s.disarm i).st = s.st := by unfold Device.disarm; split <;> rfl
@[simp] theorem Device.disarm_free (s : Device) (i : Nat) : (s.disarm i).free = s.free := by unfold Device.disarm; split <;> rfl
theorem Device.disarm_land (s : Device) (i : Nat) (h : s.writable = true) : (s.disarm i).land = s.land.disarm i := by
  simp [Device.disarm, h]
@[simp] theorem Device.disarm_land_tick (s : Device) (i : Nat) : (s.disarm i).land.tick = s.land.tick := by unfold Device.disarm; split <;> rfl
@[simp] theorem Device.disarm_land_prev (s : Device) (i : Nat) : (s.disarm i).land.prev = s.land.prev := by unfold Device.disarm; split <;> rfl
@[simp] theorem Device.disarm_land_oscStopped (s : Device) (i : Nat) : (s.disarm i).land.oscStopped = s.land.oscStopped := by unfold Device.disarm; split <;> rfl
@[simp] theorem Device.disarm_land_neverSet (s : Device) (i : Nat) : (s.disarm i).land.neverSet = s.land.neverSet := by unfold Device.disarm; split <;> rfl
@[simp] theorem Device.disarm_land_lfxRunning (s : Device) (i : Nat) : (s.disarm i).land.lfxRunning = s.land.lfxRunning := by unfold Device.disarm; split <;> rfl
@[simp] theorem Device.disarm_land_osc (s : Device) (i : Nat) : (s.disarm i).land.osc = s.land.osc := by unfold Device.disarm; split <;> rfl
@[simp] theorem Device.disarm_land_trimAcc (s : Device) (i : Nat) : (s.disarm i).land.trimAcc = s.land.trimAcc := by unfold Device.disarm; split <;> rfl
@[simp] theorem Device.disarm_land_corrOwed (s : Device) (i : Nat) : (s.disarm i).land.corrOwed = s.land.corrOwed := by unfold Device.disarm; split <;> rfl
@[simp] theorem Device.disarm_land_compAcc (s : Device) (i : Nat) : (s.disarm i).land.compAcc = s.land.compAcc := by unfold Device.disarm; split <;> rfl
@[simp] theorem Device.disarm_land_dieTemp (s : Device) (i : Nat) : (s.disarm i).land.dieTemp = s.land.dieTemp := by unfold Device.disarm; split <;> rfl
@[simp] theorem Device.disarm_land_lf (s : Device) (i : Nat) : (s.disarm i).land.lf = s.land.lf := by unfold Device.disarm; split <;> rfl
@[simp] theorem Device.disarm_land_cal (s : Device) (i : Nat) : (s.disarm i).land.cal = s.land.cal := by unfold Device.disarm; split <;> rfl
@[simp] theorem Device.disarm_land_shadows (s : Device) (i : Nat) : (s.disarm i).land.shadows = s.land.shadows := by unfold Device.disarm; split <;> rfl
@[simp] theorem Device.disarm_land_reader (s : Device) (i : Nat) : (s.disarm i).land.reader = s.land.reader := by unfold Device.disarm; split <;> rfl
@[simp] theorem Device.disarm_land_adjDay (s : Device) (i : Nat) : (s.disarm i).land.adjDay = s.land.adjDay := by unfold Device.disarm; split <;> rfl
@[simp] theorem Device.disarm_land_cnt (s : Device) (i : Nat) : (s.disarm i).land.cnt = s.land.cnt := by unfold Device.disarm; split <;> rfl
@[simp] theorem Device.disarm_land_cntMirror (s : Device) (i : Nat) : (s.disarm i).land.cntMirror = s.land.cntMirror := by unfold Device.disarm; split <;> rfl
@[simp] theorem Device.disarm_land_supply (s : Device) (i : Nat) : (s.disarm i).land.supply = s.land.supply := by unfold Device.disarm; split <;> rfl
@[simp] theorem Device.disarm_land_debounce (s : Device) (i : Nat) : (s.disarm i).land.debounce = s.land.debounce := by unfold Device.disarm; split <;> rfl
@[simp] theorem Device.disarm_land_bkpSince (s : Device) (i : Nat) : (s.disarm i).land.bkpSince = s.land.bkpSince := by unfold Device.disarm; split <;> rfl
@[simp] theorem Device.disarm_land_sealSt (s : Device) (i : Nat) : (s.disarm i).land.sealSt = s.land.sealSt := by unfold Device.disarm; split <;> rfl
@[simp] theorem Device.disarm_land_sealFail (s : Device) (i : Nat) : (s.disarm i).land.sealFail = s.land.sealFail := by unfold Device.disarm; split <;> rfl
@[simp] theorem Device.disarm_land_sealGood (s : Device) (i : Nat) : (s.disarm i).land.sealGood = s.land.sealGood := by unfold Device.disarm; split <;> rfl
@[simp] theorem Device.disarm_land_caseOpen (s : Device) (i : Nat) : (s.disarm i).land.caseOpen = s.land.caseOpen := by unfold Device.disarm; split <;> rfl
@[simp] theorem Device.disarm_land_mag (s : Device) (i : Nat) : (s.disarm i).land.mag = s.land.mag := by unfold Device.disarm; split <;> rfl
@[simp] theorem Device.disarm_land_fifo (s : Device) (i : Nat) : (s.disarm i).land.fifo = s.land.fifo := by unfold Device.disarm; split <;> rfl
@[simp] theorem Device.disarm_land_pendSet (s : Device) (i : Nat) : (s.disarm i).land.pendSet = s.land.pendSet := by unfold Device.disarm; split <;> rfl
@[simp] theorem Device.disarm_land_pwrEn (s : Device) (i : Nat) : (s.disarm i).land.pwrEn = s.land.pwrEn := by unfold Device.disarm; split <;> rfl
@[simp] theorem Device.disarm_land_plsCount (s : Device) (i : Nat) : (s.disarm i).land.plsCount = s.land.plsCount := by unfold Device.disarm; split <;> rfl
@[simp] theorem Device.disarm_land_plsMirror (s : Device) (i : Nat) : (s.disarm i).land.plsMirror = s.land.plsMirror := by unfold Device.disarm; split <;> rfl
@[simp] theorem Device.disarm_land_plsLost (s : Device) (i : Nat) : (s.disarm i).land.plsLost = s.land.plsLost := by unfold Device.disarm; split <;> rfl
@[simp] theorem Device.disarm_land_mirrorTick (s : Device) (i : Nat) : (s.disarm i).land.mirrorTick = s.land.mirrorTick := by unfold Device.disarm; split <;> rfl
@[simp] theorem Device.disarm_land_plsEn (s : Device) (i : Nat) : (s.disarm i).land.plsEn = s.land.plsEn := by unfold Device.disarm; split <;> rfl
@[simp] theorem Device.disarm_land_plsDb (s : Device) (i : Nat) : (s.disarm i).land.plsDb = s.land.plsDb := by unfold Device.disarm; split <;> rfl
@[simp] theorem Device.disarm_land_queued (s : Device) (i : Nat) : (s.disarm i).land.queued = s.land.queued := by unfold Device.disarm; split <;> rfl
@[simp] theorem Device.disarm_land_adjLimit (s : Device) (i : Nat) : (s.disarm i).land.adjLimit = s.land.adjLimit := by unfold Device.disarm; split <;> rfl
@[simp] theorem Device.disarm_land_sealEn (s : Device) (i : Nat) : (s.disarm i).land.sealEn = s.land.sealEn := by unfold Device.disarm; split <;> rfl
@[simp] theorem Device.disarm_land_sealPeriod (s : Device) (i : Nat) : (s.disarm i).land.sealPeriod = s.land.sealPeriod := by unfold Device.disarm; split <;> rfl
@[simp] theorem Device.disarm_land_pwrEnMode (s : Device) (i : Nat) : (s.disarm i).land.pwrEnMode = s.land.pwrEnMode := by unfold Device.disarm; split <;> rfl
@[simp] theorem Device.disarm_land_pwrEnLead (s : Device) (i : Nat) : (s.disarm i).land.pwrEnLead = s.land.pwrEnLead := by unfold Device.disarm; split <;> rfl
@[simp] theorem Device.disarm_land_probeIn (s : Device) (i : Nat) : (s.disarm i).land.probeIn = s.land.probeIn := by unfold Device.disarm; split <;> rfl
@[simp] theorem Device.disarm_land_corrAt (s : Device) (i : Nat) : (s.disarm i).land.corrAt = s.land.corrAt := by unfold Device.disarm; split <;> rfl
@[simp] theorem Device.disarm_land_compAt (s : Device) (i : Nat) : (s.disarm i).land.compAt = s.land.compAt := by unfold Device.disarm; split <;> rfl
@[simp] theorem Device.disarm_land_divAt (s : Device) (i : Nat) : (s.disarm i).land.divAt = s.land.divAt := by unfold Device.disarm; split <;> rfl
@[simp] theorem Device.disarm_land_plsAt (s : Device) (i : Nat) : (s.disarm i).land.plsAt = s.land.plsAt := by unfold Device.disarm; split <;> rfl
@[simp] theorem Device.disarm_land_caseAt (s : Device) (i : Nat) : (s.disarm i).land.caseAt = s.land.caseAt := by unfold Device.disarm; split <;> rfl
@[simp] theorem Device.disarm_land_magAt (s : Device) (i : Nat) : (s.disarm i).land.magAt = s.land.magAt := by unfold Device.disarm; split <;> rfl
@[simp] theorem Landing.arm_tick (l : Landing) (i t : Nat) (e : Bool) : (l.arm i t e).tick = l.tick := rfl
@[simp] theorem Landing.arm_prev (l : Landing) (i t : Nat) (e : Bool) : (l.arm i t e).prev = l.prev := rfl
@[simp] theorem Landing.arm_oscStopped (l : Landing) (i t : Nat) (e : Bool) : (l.arm i t e).oscStopped = l.oscStopped := rfl
@[simp] theorem Landing.arm_neverSet (l : Landing) (i t : Nat) (e : Bool) : (l.arm i t e).neverSet = l.neverSet := rfl
@[simp] theorem Landing.arm_lfxRunning (l : Landing) (i t : Nat) (e : Bool) : (l.arm i t e).lfxRunning = l.lfxRunning := rfl
@[simp] theorem Landing.arm_osc (l : Landing) (i t : Nat) (e : Bool) : (l.arm i t e).osc = l.osc := rfl
@[simp] theorem Landing.arm_trimAcc (l : Landing) (i t : Nat) (e : Bool) : (l.arm i t e).trimAcc = l.trimAcc := rfl
@[simp] theorem Landing.arm_corrOwed (l : Landing) (i t : Nat) (e : Bool) : (l.arm i t e).corrOwed = l.corrOwed := rfl
@[simp] theorem Landing.arm_compAcc (l : Landing) (i t : Nat) (e : Bool) : (l.arm i t e).compAcc = l.compAcc := rfl
@[simp] theorem Landing.arm_dieTemp (l : Landing) (i t : Nat) (e : Bool) : (l.arm i t e).dieTemp = l.dieTemp := rfl
@[simp] theorem Landing.arm_lf (l : Landing) (i t : Nat) (e : Bool) : (l.arm i t e).lf = l.lf := rfl
@[simp] theorem Landing.arm_cal (l : Landing) (i t : Nat) (e : Bool) : (l.arm i t e).cal = l.cal := rfl
@[simp] theorem Landing.arm_shadows (l : Landing) (i t : Nat) (e : Bool) : (l.arm i t e).shadows = l.shadows := rfl
@[simp] theorem Landing.arm_reader (l : Landing) (i t : Nat) (e : Bool) : (l.arm i t e).reader = l.reader := rfl
@[simp] theorem Landing.arm_adjDay (l : Landing) (i t : Nat) (e : Bool) : (l.arm i t e).adjDay = l.adjDay := rfl
@[simp] theorem Landing.arm_cnt (l : Landing) (i t : Nat) (e : Bool) : (l.arm i t e).cnt = l.cnt := rfl
@[simp] theorem Landing.arm_cntMirror (l : Landing) (i t : Nat) (e : Bool) : (l.arm i t e).cntMirror = l.cntMirror := rfl
@[simp] theorem Landing.arm_supply (l : Landing) (i t : Nat) (e : Bool) : (l.arm i t e).supply = l.supply := rfl
@[simp] theorem Landing.arm_debounce (l : Landing) (i t : Nat) (e : Bool) : (l.arm i t e).debounce = l.debounce := rfl
@[simp] theorem Landing.arm_bkpSince (l : Landing) (i t : Nat) (e : Bool) : (l.arm i t e).bkpSince = l.bkpSince := rfl
@[simp] theorem Landing.arm_sealSt (l : Landing) (i t : Nat) (e : Bool) : (l.arm i t e).sealSt = l.sealSt := rfl
@[simp] theorem Landing.arm_sealFail (l : Landing) (i t : Nat) (e : Bool) : (l.arm i t e).sealFail = l.sealFail := rfl
@[simp] theorem Landing.arm_sealGood (l : Landing) (i t : Nat) (e : Bool) : (l.arm i t e).sealGood = l.sealGood := rfl
@[simp] theorem Landing.arm_caseOpen (l : Landing) (i t : Nat) (e : Bool) : (l.arm i t e).caseOpen = l.caseOpen := rfl
@[simp] theorem Landing.arm_mag (l : Landing) (i t : Nat) (e : Bool) : (l.arm i t e).mag = l.mag := rfl
@[simp] theorem Landing.arm_fifo (l : Landing) (i t : Nat) (e : Bool) : (l.arm i t e).fifo = l.fifo := rfl
@[simp] theorem Landing.arm_pendSet (l : Landing) (i t : Nat) (e : Bool) : (l.arm i t e).pendSet = l.pendSet := rfl
@[simp] theorem Landing.arm_pwrEn (l : Landing) (i t : Nat) (e : Bool) : (l.arm i t e).pwrEn = l.pwrEn := rfl
@[simp] theorem Landing.arm_plsCount (l : Landing) (i t : Nat) (e : Bool) : (l.arm i t e).plsCount = l.plsCount := rfl
@[simp] theorem Landing.arm_plsMirror (l : Landing) (i t : Nat) (e : Bool) : (l.arm i t e).plsMirror = l.plsMirror := rfl
@[simp] theorem Landing.arm_plsLost (l : Landing) (i t : Nat) (e : Bool) : (l.arm i t e).plsLost = l.plsLost := rfl
@[simp] theorem Landing.arm_mirrorTick (l : Landing) (i t : Nat) (e : Bool) : (l.arm i t e).mirrorTick = l.mirrorTick := rfl
@[simp] theorem Landing.arm_plsEn (l : Landing) (i t : Nat) (e : Bool) : (l.arm i t e).plsEn = l.plsEn := rfl
@[simp] theorem Landing.arm_plsDb (l : Landing) (i t : Nat) (e : Bool) : (l.arm i t e).plsDb = l.plsDb := rfl
@[simp] theorem Landing.arm_queued (l : Landing) (i t : Nat) (e : Bool) : (l.arm i t e).queued = l.queued := rfl
@[simp] theorem Landing.arm_adjLimit (l : Landing) (i t : Nat) (e : Bool) : (l.arm i t e).adjLimit = l.adjLimit := rfl
@[simp] theorem Landing.arm_sealEn (l : Landing) (i t : Nat) (e : Bool) : (l.arm i t e).sealEn = l.sealEn := rfl
@[simp] theorem Landing.arm_sealPeriod (l : Landing) (i t : Nat) (e : Bool) : (l.arm i t e).sealPeriod = l.sealPeriod := rfl
@[simp] theorem Landing.arm_pwrEnMode (l : Landing) (i t : Nat) (e : Bool) : (l.arm i t e).pwrEnMode = l.pwrEnMode := rfl
@[simp] theorem Landing.arm_pwrEnLead (l : Landing) (i t : Nat) (e : Bool) : (l.arm i t e).pwrEnLead = l.pwrEnLead := rfl
@[simp] theorem Landing.arm_probeIn (l : Landing) (i t : Nat) (e : Bool) : (l.arm i t e).probeIn = l.probeIn := rfl
@[simp] theorem Landing.arm_corrAt (l : Landing) (i t : Nat) (e : Bool) : (l.arm i t e).corrAt = l.corrAt := rfl
@[simp] theorem Landing.arm_compAt (l : Landing) (i t : Nat) (e : Bool) : (l.arm i t e).compAt = l.compAt := rfl
@[simp] theorem Landing.arm_divAt (l : Landing) (i t : Nat) (e : Bool) : (l.arm i t e).divAt = l.divAt := rfl
@[simp] theorem Landing.arm_plsAt (l : Landing) (i t : Nat) (e : Bool) : (l.arm i t e).plsAt = l.plsAt := rfl
@[simp] theorem Landing.arm_caseAt (l : Landing) (i t : Nat) (e : Bool) : (l.arm i t e).caseAt = l.caseAt := rfl
@[simp] theorem Landing.arm_magAt (l : Landing) (i t : Nat) (e : Bool) : (l.arm i t e).magAt = l.magAt := rfl
@[simp] theorem Landing.disarm_tick (l : Landing) (i : Nat) : (l.disarm i).tick = l.tick := rfl
@[simp] theorem Landing.disarm_prev (l : Landing) (i : Nat) : (l.disarm i).prev = l.prev := rfl
@[simp] theorem Landing.disarm_oscStopped (l : Landing) (i : Nat) : (l.disarm i).oscStopped = l.oscStopped := rfl
@[simp] theorem Landing.disarm_neverSet (l : Landing) (i : Nat) : (l.disarm i).neverSet = l.neverSet := rfl
@[simp] theorem Landing.disarm_lfxRunning (l : Landing) (i : Nat) : (l.disarm i).lfxRunning = l.lfxRunning := rfl
@[simp] theorem Landing.disarm_osc (l : Landing) (i : Nat) : (l.disarm i).osc = l.osc := rfl
@[simp] theorem Landing.disarm_trimAcc (l : Landing) (i : Nat) : (l.disarm i).trimAcc = l.trimAcc := rfl
@[simp] theorem Landing.disarm_corrOwed (l : Landing) (i : Nat) : (l.disarm i).corrOwed = l.corrOwed := rfl
@[simp] theorem Landing.disarm_compAcc (l : Landing) (i : Nat) : (l.disarm i).compAcc = l.compAcc := rfl
@[simp] theorem Landing.disarm_dieTemp (l : Landing) (i : Nat) : (l.disarm i).dieTemp = l.dieTemp := rfl
@[simp] theorem Landing.disarm_lf (l : Landing) (i : Nat) : (l.disarm i).lf = l.lf := rfl
@[simp] theorem Landing.disarm_cal (l : Landing) (i : Nat) : (l.disarm i).cal = l.cal := rfl
@[simp] theorem Landing.disarm_shadows (l : Landing) (i : Nat) : (l.disarm i).shadows = l.shadows := rfl
@[simp] theorem Landing.disarm_reader (l : Landing) (i : Nat) : (l.disarm i).reader = l.reader := rfl
@[simp] theorem Landing.disarm_adjDay (l : Landing) (i : Nat) : (l.disarm i).adjDay = l.adjDay := rfl
@[simp] theorem Landing.disarm_cnt (l : Landing) (i : Nat) : (l.disarm i).cnt = l.cnt := rfl
@[simp] theorem Landing.disarm_cntMirror (l : Landing) (i : Nat) : (l.disarm i).cntMirror = l.cntMirror := rfl
@[simp] theorem Landing.disarm_supply (l : Landing) (i : Nat) : (l.disarm i).supply = l.supply := rfl
@[simp] theorem Landing.disarm_debounce (l : Landing) (i : Nat) : (l.disarm i).debounce = l.debounce := rfl
@[simp] theorem Landing.disarm_bkpSince (l : Landing) (i : Nat) : (l.disarm i).bkpSince = l.bkpSince := rfl
@[simp] theorem Landing.disarm_sealSt (l : Landing) (i : Nat) : (l.disarm i).sealSt = l.sealSt := rfl
@[simp] theorem Landing.disarm_sealFail (l : Landing) (i : Nat) : (l.disarm i).sealFail = l.sealFail := rfl
@[simp] theorem Landing.disarm_sealGood (l : Landing) (i : Nat) : (l.disarm i).sealGood = l.sealGood := rfl
@[simp] theorem Landing.disarm_caseOpen (l : Landing) (i : Nat) : (l.disarm i).caseOpen = l.caseOpen := rfl
@[simp] theorem Landing.disarm_mag (l : Landing) (i : Nat) : (l.disarm i).mag = l.mag := rfl
@[simp] theorem Landing.disarm_fifo (l : Landing) (i : Nat) : (l.disarm i).fifo = l.fifo := rfl
@[simp] theorem Landing.disarm_pendSet (l : Landing) (i : Nat) : (l.disarm i).pendSet = l.pendSet := rfl
@[simp] theorem Landing.disarm_pwrEn (l : Landing) (i : Nat) : (l.disarm i).pwrEn = l.pwrEn := rfl
@[simp] theorem Landing.disarm_plsCount (l : Landing) (i : Nat) : (l.disarm i).plsCount = l.plsCount := rfl
@[simp] theorem Landing.disarm_plsMirror (l : Landing) (i : Nat) : (l.disarm i).plsMirror = l.plsMirror := rfl
@[simp] theorem Landing.disarm_plsLost (l : Landing) (i : Nat) : (l.disarm i).plsLost = l.plsLost := rfl
@[simp] theorem Landing.disarm_mirrorTick (l : Landing) (i : Nat) : (l.disarm i).mirrorTick = l.mirrorTick := rfl
@[simp] theorem Landing.disarm_plsEn (l : Landing) (i : Nat) : (l.disarm i).plsEn = l.plsEn := rfl
@[simp] theorem Landing.disarm_plsDb (l : Landing) (i : Nat) : (l.disarm i).plsDb = l.plsDb := rfl
@[simp] theorem Landing.disarm_queued (l : Landing) (i : Nat) : (l.disarm i).queued = l.queued := rfl
@[simp] theorem Landing.disarm_adjLimit (l : Landing) (i : Nat) : (l.disarm i).adjLimit = l.adjLimit := rfl
@[simp] theorem Landing.disarm_sealEn (l : Landing) (i : Nat) : (l.disarm i).sealEn = l.sealEn := rfl
@[simp] theorem Landing.disarm_sealPeriod (l : Landing) (i : Nat) : (l.disarm i).sealPeriod = l.sealPeriod := rfl
@[simp] theorem Landing.disarm_pwrEnMode (l : Landing) (i : Nat) : (l.disarm i).pwrEnMode = l.pwrEnMode := rfl
@[simp] theorem Landing.disarm_pwrEnLead (l : Landing) (i : Nat) : (l.disarm i).pwrEnLead = l.pwrEnLead := rfl
@[simp] theorem Landing.disarm_probeIn (l : Landing) (i : Nat) : (l.disarm i).probeIn = l.probeIn := rfl
@[simp] theorem Landing.disarm_corrAt (l : Landing) (i : Nat) : (l.disarm i).corrAt = l.corrAt := rfl
@[simp] theorem Landing.disarm_compAt (l : Landing) (i : Nat) : (l.disarm i).compAt = l.compAt := rfl
@[simp] theorem Landing.disarm_divAt (l : Landing) (i : Nat) : (l.disarm i).divAt = l.divAt := rfl
@[simp] theorem Landing.disarm_plsAt (l : Landing) (i : Nat) : (l.disarm i).plsAt = l.plsAt := rfl
@[simp] theorem Landing.disarm_caseAt (l : Landing) (i : Nat) : (l.disarm i).caseAt = l.caseAt := rfl
@[simp] theorem Landing.disarm_magAt (l : Landing) (i : Nat) : (l.disarm i).magAt = l.magAt := rfl
@[simp] theorem Landing.fireAlarms_tick (l : Landing) : (l.fireAlarms).tick = l.tick := rfl
@[simp] theorem Landing.fireAlarms_prev (l : Landing) : (l.fireAlarms).prev = l.prev := rfl
@[simp] theorem Landing.fireAlarms_oscStopped (l : Landing) : (l.fireAlarms).oscStopped = l.oscStopped := rfl
@[simp] theorem Landing.fireAlarms_neverSet (l : Landing) : (l.fireAlarms).neverSet = l.neverSet := rfl
@[simp] theorem Landing.fireAlarms_lfxRunning (l : Landing) : (l.fireAlarms).lfxRunning = l.lfxRunning := rfl
@[simp] theorem Landing.fireAlarms_osc (l : Landing) : (l.fireAlarms).osc = l.osc := rfl
@[simp] theorem Landing.fireAlarms_trimAcc (l : Landing) : (l.fireAlarms).trimAcc = l.trimAcc := rfl
@[simp] theorem Landing.fireAlarms_corrOwed (l : Landing) : (l.fireAlarms).corrOwed = l.corrOwed := rfl
@[simp] theorem Landing.fireAlarms_compAcc (l : Landing) : (l.fireAlarms).compAcc = l.compAcc := rfl
@[simp] theorem Landing.fireAlarms_dieTemp (l : Landing) : (l.fireAlarms).dieTemp = l.dieTemp := rfl
@[simp] theorem Landing.fireAlarms_lf (l : Landing) : (l.fireAlarms).lf = l.lf := rfl
@[simp] theorem Landing.fireAlarms_cal (l : Landing) : (l.fireAlarms).cal = l.cal := rfl
@[simp] theorem Landing.fireAlarms_shadows (l : Landing) : (l.fireAlarms).shadows = l.shadows := rfl
@[simp] theorem Landing.fireAlarms_reader (l : Landing) : (l.fireAlarms).reader = l.reader := rfl
@[simp] theorem Landing.fireAlarms_adjDay (l : Landing) : (l.fireAlarms).adjDay = l.adjDay := rfl
@[simp] theorem Landing.fireAlarms_cnt (l : Landing) : (l.fireAlarms).cnt = l.cnt := rfl
@[simp] theorem Landing.fireAlarms_cntMirror (l : Landing) : (l.fireAlarms).cntMirror = l.cntMirror := rfl
@[simp] theorem Landing.fireAlarms_supply (l : Landing) : (l.fireAlarms).supply = l.supply := rfl
@[simp] theorem Landing.fireAlarms_debounce (l : Landing) : (l.fireAlarms).debounce = l.debounce := rfl
@[simp] theorem Landing.fireAlarms_bkpSince (l : Landing) : (l.fireAlarms).bkpSince = l.bkpSince := rfl
@[simp] theorem Landing.fireAlarms_sealSt (l : Landing) : (l.fireAlarms).sealSt = l.sealSt := rfl
@[simp] theorem Landing.fireAlarms_sealFail (l : Landing) : (l.fireAlarms).sealFail = l.sealFail := rfl
@[simp] theorem Landing.fireAlarms_sealGood (l : Landing) : (l.fireAlarms).sealGood = l.sealGood := rfl
@[simp] theorem Landing.fireAlarms_caseOpen (l : Landing) : (l.fireAlarms).caseOpen = l.caseOpen := rfl
@[simp] theorem Landing.fireAlarms_mag (l : Landing) : (l.fireAlarms).mag = l.mag := rfl
@[simp] theorem Landing.fireAlarms_fifo (l : Landing) : (l.fireAlarms).fifo = l.fifo := rfl
@[simp] theorem Landing.fireAlarms_pendSet (l : Landing) : (l.fireAlarms).pendSet = l.pendSet := rfl
@[simp] theorem Landing.fireAlarms_pwrEn (l : Landing) : (l.fireAlarms).pwrEn = l.pwrEn := rfl
@[simp] theorem Landing.fireAlarms_plsCount (l : Landing) : (l.fireAlarms).plsCount = l.plsCount := rfl
@[simp] theorem Landing.fireAlarms_plsMirror (l : Landing) : (l.fireAlarms).plsMirror = l.plsMirror := rfl
@[simp] theorem Landing.fireAlarms_plsLost (l : Landing) : (l.fireAlarms).plsLost = l.plsLost := rfl
@[simp] theorem Landing.fireAlarms_mirrorTick (l : Landing) : (l.fireAlarms).mirrorTick = l.mirrorTick := rfl
@[simp] theorem Landing.fireAlarms_plsEn (l : Landing) : (l.fireAlarms).plsEn = l.plsEn := rfl
@[simp] theorem Landing.fireAlarms_plsDb (l : Landing) : (l.fireAlarms).plsDb = l.plsDb := rfl
@[simp] theorem Landing.fireAlarms_queued (l : Landing) : (l.fireAlarms).queued = l.queued := rfl
@[simp] theorem Landing.fireAlarms_adjLimit (l : Landing) : (l.fireAlarms).adjLimit = l.adjLimit := rfl
@[simp] theorem Landing.fireAlarms_sealEn (l : Landing) : (l.fireAlarms).sealEn = l.sealEn := rfl
@[simp] theorem Landing.fireAlarms_sealPeriod (l : Landing) : (l.fireAlarms).sealPeriod = l.sealPeriod := rfl
@[simp] theorem Landing.fireAlarms_pwrEnMode (l : Landing) : (l.fireAlarms).pwrEnMode = l.pwrEnMode := rfl
@[simp] theorem Landing.fireAlarms_pwrEnLead (l : Landing) : (l.fireAlarms).pwrEnLead = l.pwrEnLead := rfl
@[simp] theorem Landing.fireAlarms_probeIn (l : Landing) : (l.fireAlarms).probeIn = l.probeIn := rfl
@[simp] theorem Landing.fireAlarms_corrAt (l : Landing) : (l.fireAlarms).corrAt = l.corrAt := rfl
@[simp] theorem Landing.fireAlarms_compAt (l : Landing) : (l.fireAlarms).compAt = l.compAt := rfl
@[simp] theorem Landing.fireAlarms_divAt (l : Landing) : (l.fireAlarms).divAt = l.divAt := rfl
@[simp] theorem Landing.fireAlarms_plsAt (l : Landing) : (l.fireAlarms).plsAt = l.plsAt := rfl
@[simp] theorem Landing.fireAlarms_caseAt (l : Landing) : (l.fireAlarms).caseAt = l.caseAt := rfl
@[simp] theorem Landing.fireAlarms_magAt (l : Landing) : (l.fireAlarms).magAt = l.magAt := rfl

/-! ## Time -/

@[simp] theorem Landing.elapse_oscStopped (l : Landing) (n : Nat) : (l.elapse n).oscStopped = l.oscStopped := by unfold Landing.elapse; split <;> rfl
@[simp] theorem Landing.elapse_neverSet (l : Landing) (n : Nat) : (l.elapse n).neverSet = l.neverSet := by unfold Landing.elapse; split <;> rfl
@[simp] theorem Landing.elapse_lfxRunning (l : Landing) (n : Nat) : (l.elapse n).lfxRunning = l.lfxRunning := by unfold Landing.elapse; split <;> rfl
@[simp] theorem Landing.elapse_corrOwed (l : Landing) (n : Nat) : (l.elapse n).corrOwed = l.corrOwed := by unfold Landing.elapse; split <;> rfl
@[simp] theorem Landing.elapse_compAcc (l : Landing) (n : Nat) : (l.elapse n).compAcc = l.compAcc := by unfold Landing.elapse; split <;> rfl
@[simp] theorem Landing.elapse_dieTemp (l : Landing) (n : Nat) : (l.elapse n).dieTemp = l.dieTemp := by unfold Landing.elapse; split <;> rfl
@[simp] theorem Landing.elapse_lf (l : Landing) (n : Nat) : (l.elapse n).lf = l.lf := by unfold Landing.elapse; split <;> rfl
@[simp] theorem Landing.elapse_cal (l : Landing) (n : Nat) : (l.elapse n).cal = l.cal := by unfold Landing.elapse; split <;> rfl
@[simp] theorem Landing.elapse_shadows (l : Landing) (n : Nat) : (l.elapse n).shadows = l.shadows := by unfold Landing.elapse; split <;> rfl
@[simp] theorem Landing.elapse_reader (l : Landing) (n : Nat) : (l.elapse n).reader = l.reader := by unfold Landing.elapse; split <;> rfl
@[simp] theorem Landing.elapse_adjDay (l : Landing) (n : Nat) : (l.elapse n).adjDay = l.adjDay := by unfold Landing.elapse; split <;> rfl
@[simp] theorem Landing.elapse_cnt (l : Landing) (n : Nat) : (l.elapse n).cnt = l.cnt := by unfold Landing.elapse; split <;> rfl
@[simp] theorem Landing.elapse_cntMirror (l : Landing) (n : Nat) : (l.elapse n).cntMirror = l.cntMirror := by unfold Landing.elapse; split <;> rfl
@[simp] theorem Landing.elapse_supply (l : Landing) (n : Nat) : (l.elapse n).supply = l.supply := by unfold Landing.elapse; split <;> rfl
@[simp] theorem Landing.elapse_bkpSince (l : Landing) (n : Nat) : (l.elapse n).bkpSince = l.bkpSince := by unfold Landing.elapse; split <;> rfl
@[simp] theorem Landing.elapse_sealSt (l : Landing) (n : Nat) : (l.elapse n).sealSt = l.sealSt := by unfold Landing.elapse; split <;> rfl
@[simp] theorem Landing.elapse_sealFail (l : Landing) (n : Nat) : (l.elapse n).sealFail = l.sealFail := by unfold Landing.elapse; split <;> rfl
@[simp] theorem Landing.elapse_sealGood (l : Landing) (n : Nat) : (l.elapse n).sealGood = l.sealGood := by unfold Landing.elapse; split <;> rfl
@[simp] theorem Landing.elapse_caseOpen (l : Landing) (n : Nat) : (l.elapse n).caseOpen = l.caseOpen := by unfold Landing.elapse; split <;> rfl
@[simp] theorem Landing.elapse_mag (l : Landing) (n : Nat) : (l.elapse n).mag = l.mag := by unfold Landing.elapse; split <;> rfl
@[simp] theorem Landing.elapse_fifo (l : Landing) (n : Nat) : (l.elapse n).fifo = l.fifo := by unfold Landing.elapse; split <;> rfl
@[simp] theorem Landing.elapse_pendSet (l : Landing) (n : Nat) : (l.elapse n).pendSet = l.pendSet := by unfold Landing.elapse; split <;> rfl
@[simp] theorem Landing.elapse_pwrEn (l : Landing) (n : Nat) : (l.elapse n).pwrEn = l.pwrEn := by unfold Landing.elapse; split <;> rfl
@[simp] theorem Landing.elapse_plsCount (l : Landing) (n : Nat) : (l.elapse n).plsCount = l.plsCount := by unfold Landing.elapse; split <;> rfl
@[simp] theorem Landing.elapse_plsMirror (l : Landing) (n : Nat) : (l.elapse n).plsMirror = l.plsMirror := by unfold Landing.elapse; split <;> rfl
@[simp] theorem Landing.elapse_plsLost (l : Landing) (n : Nat) : (l.elapse n).plsLost = l.plsLost := by unfold Landing.elapse; split <;> rfl
@[simp] theorem Landing.elapse_mirrorTick (l : Landing) (n : Nat) : (l.elapse n).mirrorTick = l.mirrorTick := by unfold Landing.elapse; split <;> rfl
@[simp] theorem Landing.elapse_plsEn (l : Landing) (n : Nat) : (l.elapse n).plsEn = l.plsEn := by unfold Landing.elapse; split <;> rfl
@[simp] theorem Landing.elapse_plsDb (l : Landing) (n : Nat) : (l.elapse n).plsDb = l.plsDb := by unfold Landing.elapse; split <;> rfl
@[simp] theorem Landing.elapse_queued (l : Landing) (n : Nat) : (l.elapse n).queued = l.queued := by unfold Landing.elapse; split <;> rfl
@[simp] theorem Landing.elapse_adjLimit (l : Landing) (n : Nat) : (l.elapse n).adjLimit = l.adjLimit := by unfold Landing.elapse; split <;> rfl
@[simp] theorem Landing.elapse_sealEn (l : Landing) (n : Nat) : (l.elapse n).sealEn = l.sealEn := by unfold Landing.elapse; split <;> rfl
@[simp] theorem Landing.elapse_sealPeriod (l : Landing) (n : Nat) : (l.elapse n).sealPeriod = l.sealPeriod := by unfold Landing.elapse; split <;> rfl
@[simp] theorem Landing.elapse_pwrEnMode (l : Landing) (n : Nat) : (l.elapse n).pwrEnMode = l.pwrEnMode := by unfold Landing.elapse; split <;> rfl
@[simp] theorem Landing.elapse_pwrEnLead (l : Landing) (n : Nat) : (l.elapse n).pwrEnLead = l.pwrEnLead := by unfold Landing.elapse; split <;> rfl
@[simp] theorem Landing.elapse_corrAt (l : Landing) (n : Nat) : (l.elapse n).corrAt = l.corrAt := by unfold Landing.elapse; split <;> rfl
@[simp] theorem Landing.elapse_compAt (l : Landing) (n : Nat) : (l.elapse n).compAt = l.compAt := by unfold Landing.elapse; split <;> rfl
@[simp] theorem Landing.elapse_divAt (l : Landing) (n : Nat) : (l.elapse n).divAt = l.divAt := by unfold Landing.elapse; split <;> rfl
@[simp] theorem Landing.elapse_plsAt (l : Landing) (n : Nat) : (l.elapse n).plsAt = l.plsAt := by unfold Landing.elapse; split <;> rfl
@[simp] theorem Landing.elapse_caseAt (l : Landing) (n : Nat) : (l.elapse n).caseAt = l.caseAt := by unfold Landing.elapse; split <;> rfl
@[simp] theorem Landing.elapse_magAt (l : Landing) (n : Nat) : (l.elapse n).magAt = l.magAt := by unfold Landing.elapse; split <;> rfl
@[simp] theorem Landing.elapse_zero (l : Landing) : l.elapse 0 = l := rfl
theorem Landing.elapse_tick (l : Landing) (n : Nat) (h : l.tick ≤ tickMax) : (l.elapse n).tick = min (l.tick + n) tickMax := by
  unfold Landing.elapse; split
  · next e => subst e; simp [Nat.min_eq_left h]
  · rfl
@[simp] theorem Landing.elapse_osc (l : Landing) (n : Nat) : (l.elapse n).osc = l.osc + n := by
  unfold Landing.elapse; split
  · next e => subst e; rfl
  · rfl
@[simp] theorem Device.elapse_conf (s : Device) (n : Nat) : (s.elapse n).conf = s.conf := by unfold Device.elapse; split <;> rfl
@[simp] theorem Device.elapse_straps (s : Device) (n : Nat) : (s.elapse n).straps = s.straps := by unfold Device.elapse; split <;> rfl
@[simp] theorem Device.elapse_refusals (s : Device) (n : Nat) : (s.elapse n).refusals = s.refusals := by unfold Device.elapse; split <;> rfl
@[simp] theorem Device.elapse_flow (s : Device) (n : Nat) : (s.elapse n).flow = s.flow := by unfold Device.elapse; split <;> rfl
@[simp] theorem Device.elapse_cap (s : Device) (n : Nat) : (s.elapse n).cap = s.cap := by unfold Device.elapse; split <;> rfl
@[simp] theorem Device.elapse_temp (s : Device) (n : Nat) : (s.elapse n).temp = s.temp := by unfold Device.elapse; split <;> rfl
@[simp] theorem Device.elapse_toll (s : Device) (n : Nat) : (s.elapse n).toll = s.toll := by unfold Device.elapse; split <;> rfl
@[simp] theorem Device.elapse_bill (s : Device) (n : Nat) : (s.elapse n).bill = s.bill := by unfold Device.elapse; split <;> rfl
@[simp] theorem Device.elapse_jnl (s : Device) (n : Nat) : (s.elapse n).jnl = s.jnl := by unfold Device.elapse; split <;> rfl
@[simp] theorem Device.elapse_radio (s : Device) (n : Nat) : (s.elapse n).radio = s.radio := by unfold Device.elapse; split <;> rfl
@[simp] theorem Device.elapse_haw (s : Device) (n : Nat) : (s.elapse n).haw = s.haw := by unfold Device.elapse; split <;> rfl
@[simp] theorem Device.elapse_disp (s : Device) (n : Nat) : (s.elapse n).disp = s.disp := by unfold Device.elapse; split <;> rfl
@[simp] theorem Device.elapse_sec (s : Device) (n : Nat) : (s.elapse n).sec = s.sec := by unfold Device.elapse; split <;> rfl
@[simp] theorem Device.elapse_opt (s : Device) (n : Nat) : (s.elapse n).opt = s.opt := by unfold Device.elapse; split <;> rfl
@[simp] theorem Device.elapse_power (s : Device) (n : Nat) : (s.elapse n).power = s.power := by unfold Device.elapse; split <;> rfl
@[simp] theorem Device.elapse_st (s : Device) (n : Nat) : (s.elapse n).st = s.st := by unfold Device.elapse; split <;> rfl
@[simp] theorem Device.elapse_free (s : Device) (n : Nat) : (s.elapse n).free = s.free := by unfold Device.elapse; split <;> rfl

/-! ## Power and functions -/

@[simp] theorem Device.toRun_fn (s : Device) : (s.toRun).fn = s.fn := rfl
@[simp] theorem Device.toRun_conf (s : Device) : (s.toRun).conf = s.conf := rfl
@[simp] theorem Device.toRun_straps (s : Device) : (s.toRun).straps = s.straps := rfl
@[simp] theorem Device.toRun_refusals (s : Device) : (s.toRun).refusals = s.refusals := rfl
@[simp] theorem Device.toRun_tr (s : Device) : (s.toRun).tr = s.tr := rfl
@[simp] theorem Device.toRun_flow (s : Device) : (s.toRun).flow = s.flow := rfl
@[simp] theorem Device.toRun_cap (s : Device) : (s.toRun).cap = s.cap := rfl
@[simp] theorem Device.toRun_pulse (s : Device) : (s.toRun).pulse = s.pulse := rfl
@[simp] theorem Device.toRun_temp (s : Device) : (s.toRun).temp = s.temp := rfl
@[simp] theorem Device.toRun_toll (s : Device) : (s.toRun).toll = s.toll := rfl
@[simp] theorem Device.toRun_bill (s : Device) : (s.toRun).bill = s.bill := rfl
@[simp] theorem Device.toRun_jnl (s : Device) : (s.toRun).jnl = s.jnl := rfl
@[simp] theorem Device.toRun_radio (s : Device) : (s.toRun).radio = s.radio := rfl
@[simp] theorem Device.toRun_haw (s : Device) : (s.toRun).haw = s.haw := rfl
@[simp] theorem Device.toRun_disp (s : Device) : (s.toRun).disp = s.disp := rfl
@[simp] theorem Device.toRun_sec (s : Device) : (s.toRun).sec = s.sec := rfl
@[simp] theorem Device.toRun_opt (s : Device) : (s.toRun).opt = s.opt := rfl
@[simp] theorem Device.toRun_store (s : Device) : (s.toRun).store = s.store := rfl
@[simp] theorem Device.toRun_st (s : Device) : (s.toRun).st = s.st := rfl
@[simp] theorem Device.toRun_free (s : Device) : (s.toRun).free = s.free := rfl
@[simp] theorem Device.toRun_land_tick (s : Device) : s.toRun.land.tick = s.land.tick := rfl
@[simp] theorem Device.toRun_land_prev (s : Device) : s.toRun.land.prev = s.land.prev := rfl
@[simp] theorem Device.toRun_land_oscStopped (s : Device) : s.toRun.land.oscStopped = s.land.oscStopped := rfl
@[simp] theorem Device.toRun_land_neverSet (s : Device) : s.toRun.land.neverSet = s.land.neverSet := rfl
@[simp] theorem Device.toRun_land_lfxRunning (s : Device) : s.toRun.land.lfxRunning = s.land.lfxRunning := rfl
@[simp] theorem Device.toRun_land_osc (s : Device) : s.toRun.land.osc = s.land.osc := rfl
@[simp] theorem Device.toRun_land_trimAcc (s : Device) : s.toRun.land.trimAcc = s.land.trimAcc := rfl
@[simp] theorem Device.toRun_land_corrOwed (s : Device) : s.toRun.land.corrOwed = s.land.corrOwed := rfl
@[simp] theorem Device.toRun_land_compAcc (s : Device) : s.toRun.land.compAcc = s.land.compAcc := rfl
@[simp] theorem Device.toRun_land_dieTemp (s : Device) : s.toRun.land.dieTemp = s.land.dieTemp := rfl
@[simp] theorem Device.toRun_land_lf (s : Device) : s.toRun.land.lf = s.land.lf := rfl
@[simp] theorem Device.toRun_land_cal (s : Device) : s.toRun.land.cal = s.land.cal := rfl
@[simp] theorem Device.toRun_land_shadows (s : Device) : s.toRun.land.shadows = s.land.shadows := rfl
@[simp] theorem Device.toRun_land_reader (s : Device) : s.toRun.land.reader = s.land.reader := rfl
@[simp] theorem Device.toRun_land_adjDay (s : Device) : s.toRun.land.adjDay = s.land.adjDay := rfl
@[simp] theorem Device.toRun_land_cnt (s : Device) : s.toRun.land.cnt = s.land.cnt := rfl
@[simp] theorem Device.toRun_land_cntMirror (s : Device) : s.toRun.land.cntMirror = s.land.cntMirror := rfl
@[simp] theorem Device.toRun_land_supply (s : Device) : s.toRun.land.supply = s.land.supply := rfl
@[simp] theorem Device.toRun_land_debounce (s : Device) : s.toRun.land.debounce = s.land.debounce := rfl
@[simp] theorem Device.toRun_land_bkpSince (s : Device) : s.toRun.land.bkpSince = s.land.bkpSince := rfl
@[simp] theorem Device.toRun_land_sealSt (s : Device) : s.toRun.land.sealSt = s.land.sealSt := rfl
@[simp] theorem Device.toRun_land_sealFail (s : Device) : s.toRun.land.sealFail = s.land.sealFail := rfl
@[simp] theorem Device.toRun_land_sealGood (s : Device) : s.toRun.land.sealGood = s.land.sealGood := rfl
@[simp] theorem Device.toRun_land_caseOpen (s : Device) : s.toRun.land.caseOpen = s.land.caseOpen := rfl
@[simp] theorem Device.toRun_land_mag (s : Device) : s.toRun.land.mag = s.land.mag := rfl
@[simp] theorem Device.toRun_land_fifo (s : Device) : s.toRun.land.fifo = s.land.fifo := rfl
@[simp] theorem Device.toRun_land_alarms (s : Device) : s.toRun.land.alarms = s.land.alarms := rfl
@[simp] theorem Device.toRun_land_pendSet (s : Device) : s.toRun.land.pendSet = s.land.pendSet := rfl
@[simp] theorem Device.toRun_land_plsCount (s : Device) : s.toRun.land.plsCount = s.land.plsCount := rfl
@[simp] theorem Device.toRun_land_plsMirror (s : Device) : s.toRun.land.plsMirror = s.land.plsMirror := rfl
@[simp] theorem Device.toRun_land_plsLost (s : Device) : s.toRun.land.plsLost = s.land.plsLost := rfl
@[simp] theorem Device.toRun_land_mirrorTick (s : Device) : s.toRun.land.mirrorTick = s.land.mirrorTick := rfl
@[simp] theorem Device.toRun_land_plsEn (s : Device) : s.toRun.land.plsEn = s.land.plsEn := rfl
@[simp] theorem Device.toRun_land_plsDb (s : Device) : s.toRun.land.plsDb = s.land.plsDb := rfl
@[simp] theorem Device.toRun_land_queued (s : Device) : s.toRun.land.queued = s.land.queued := rfl
@[simp] theorem Device.toRun_land_adjLimit (s : Device) : s.toRun.land.adjLimit = s.land.adjLimit := rfl
@[simp] theorem Device.toRun_land_sealEn (s : Device) : s.toRun.land.sealEn = s.land.sealEn := rfl
@[simp] theorem Device.toRun_land_sealPeriod (s : Device) : s.toRun.land.sealPeriod = s.land.sealPeriod := rfl
@[simp] theorem Device.toRun_land_pwrEnMode (s : Device) : s.toRun.land.pwrEnMode = s.land.pwrEnMode := rfl
@[simp] theorem Device.toRun_land_pwrEnLead (s : Device) : s.toRun.land.pwrEnLead = s.land.pwrEnLead := rfl
@[simp] theorem Device.toRun_land_probeIn (s : Device) : s.toRun.land.probeIn = s.land.probeIn := rfl
@[simp] theorem Device.toRun_land_corrAt (s : Device) : s.toRun.land.corrAt = s.land.corrAt := rfl
@[simp] theorem Device.toRun_land_compAt (s : Device) : s.toRun.land.compAt = s.land.compAt := rfl
@[simp] theorem Device.toRun_land_divAt (s : Device) : s.toRun.land.divAt = s.land.divAt := rfl
@[simp] theorem Device.toRun_land_plsAt (s : Device) : s.toRun.land.plsAt = s.land.plsAt := rfl
@[simp] theorem Device.toRun_land_caseAt (s : Device) : s.toRun.land.caseAt = s.land.caseAt := rfl
@[simp] theorem Device.toRun_land_magAt (s : Device) : s.toRun.land.magAt = s.land.magAt := rfl
@[simp] theorem Device.degrade_fn (s : Device) (f : Degraded → Degraded) : (s.degrade f).fn = s.fn := rfl
@[simp] theorem Device.degrade_conf (s : Device) (f : Degraded → Degraded) : (s.degrade f).conf = s.conf := rfl
@[simp] theorem Device.degrade_straps (s : Device) (f : Degraded → Degraded) : (s.degrade f).straps = s.straps := rfl
@[simp] theorem Device.degrade_refusals (s : Device) (f : Degraded → Degraded) : (s.degrade f).refusals = s.refusals := rfl
@[simp] theorem Device.degrade_tr (s : Device) (f : Degraded → Degraded) : (s.degrade f).tr = s.tr := rfl
@[simp] theorem Device.degrade_flow (s : Device) (f : Degraded → Degraded) : (s.degrade f).flow = s.flow := rfl
@[simp] theorem Device.degrade_cap (s : Device) (f : Degraded → Degraded) : (s.degrade f).cap = s.cap := rfl
@[simp] theorem Device.degrade_pulse (s : Device) (f : Degraded → Degraded) : (s.degrade f).pulse = s.pulse := rfl
@[simp] theorem Device.degrade_temp (s : Device) (f : Degraded → Degraded) : (s.degrade f).temp = s.temp := rfl
@[simp] theorem Device.degrade_toll (s : Device) (f : Degraded → Degraded) : (s.degrade f).toll = s.toll := rfl
@[simp] theorem Device.degrade_jnl (s : Device) (f : Degraded → Degraded) : (s.degrade f).jnl = s.jnl := rfl
@[simp] theorem Device.degrade_land (s : Device) (f : Degraded → Degraded) : (s.degrade f).land = s.land := rfl
@[simp] theorem Device.degrade_radio (s : Device) (f : Degraded → Degraded) : (s.degrade f).radio = s.radio := rfl
@[simp] theorem Device.degrade_haw (s : Device) (f : Degraded → Degraded) : (s.degrade f).haw = s.haw := rfl
@[simp] theorem Device.degrade_disp (s : Device) (f : Degraded → Degraded) : (s.degrade f).disp = s.disp := rfl
@[simp] theorem Device.degrade_sec (s : Device) (f : Degraded → Degraded) : (s.degrade f).sec = s.sec := rfl
@[simp] theorem Device.degrade_opt (s : Device) (f : Degraded → Degraded) : (s.degrade f).opt = s.opt := rfl
@[simp] theorem Device.degrade_store (s : Device) (f : Degraded → Degraded) : (s.degrade f).store = s.store := rfl
@[simp] theorem Device.degrade_st (s : Device) (f : Degraded → Degraded) : (s.degrade f).st = s.st := rfl
@[simp] theorem Device.degrade_free (s : Device) (f : Degraded → Degraded) : (s.degrade f).free = s.free := rfl
@[simp] theorem Device.setFunc_conf (s : Device) (k : Func) (v : FuncState) : (s.setFunc k v).conf = s.conf := by
  unfold Device.setFunc; cases k <;> (dsimp only; split <;> first | rfl | (split <;> rfl))
@[simp] theorem Device.setFunc_straps (s : Device) (k : Func) (v : FuncState) : (s.setFunc k v).straps = s.straps := by
  unfold Device.setFunc; cases k <;> (dsimp only; split <;> first | rfl | (split <;> rfl))
@[simp] theorem Device.setFunc_refusals (s : Device) (k : Func) (v : FuncState) : (s.setFunc k v).refusals = s.refusals := by
  unfold Device.setFunc; cases k <;> (dsimp only; split <;> first | rfl | (split <;> rfl))
@[simp] theorem Device.setFunc_flow (s : Device) (k : Func) (v : FuncState) : (s.setFunc k v).flow = s.flow := by
  unfold Device.setFunc; cases k <;> (dsimp only; split <;> first | rfl | (split <;> rfl))
@[simp] theorem Device.setFunc_cap (s : Device) (k : Func) (v : FuncState) : (s.setFunc k v).cap = s.cap := by
  unfold Device.setFunc; cases k <;> (dsimp only; split <;> first | rfl | (split <;> rfl))
@[simp] theorem Device.setFunc_toll (s : Device) (k : Func) (v : FuncState) : (s.setFunc k v).toll = s.toll := by
  unfold Device.setFunc; cases k <;> (dsimp only; split <;> first | rfl | (split <;> rfl))
@[simp] theorem Device.setFunc_bill (s : Device) (k : Func) (v : FuncState) : (s.setFunc k v).bill = s.bill := by
  unfold Device.setFunc; cases k <;> (dsimp only; split <;> first | rfl | (split <;> rfl))
@[simp] theorem Device.setFunc_jnl (s : Device) (k : Func) (v : FuncState) : (s.setFunc k v).jnl = s.jnl := by
  unfold Device.setFunc; cases k <;> (dsimp only; split <;> first | rfl | (split <;> rfl))
@[simp] theorem Device.setFunc_land (s : Device) (k : Func) (v : FuncState) : (s.setFunc k v).land = s.land := by
  unfold Device.setFunc; cases k <;> (dsimp only; split <;> first | rfl | (split <;> rfl))
@[simp] theorem Device.setFunc_sec (s : Device) (k : Func) (v : FuncState) : (s.setFunc k v).sec = s.sec := by
  unfold Device.setFunc; cases k <;> (dsimp only; split <;> first | rfl | (split <;> rfl))
@[simp] theorem Device.setFunc_power (s : Device) (k : Func) (v : FuncState) : (s.setFunc k v).power = s.power := by
  unfold Device.setFunc; cases k <;> (dsimp only; split <;> first | rfl | (split <;> rfl))
@[simp] theorem Device.setFunc_store (s : Device) (k : Func) (v : FuncState) : (s.setFunc k v).store = s.store := by
  unfold Device.setFunc; cases k <;> (dsimp only; split <;> first | rfl | (split <;> rfl))
@[simp] theorem Device.setFunc_st (s : Device) (k : Func) (v : FuncState) : (s.setFunc k v).st = s.st := by
  unfold Device.setFunc; cases k <;> (dsimp only; split <;> first | rfl | (split <;> rfl))
@[simp] theorem Device.setFunc_free (s : Device) (k : Func) (v : FuncState) : (s.setFunc k v).free = s.free := by
  unfold Device.setFunc; cases k <;> (dsimp only; split <;> first | rfl | (split <;> rfl))
@[simp] theorem Device.setFunc_fn (s : Device) (k : Func) (v : FuncState) : (s.setFunc k v).fn = s.fn.set k v := by
  unfold Device.setFunc; cases k <;> (dsimp only; split <;> first | rfl | (split <;> rfl))
@[simp] theorem Funcs.get_set (f : Funcs) (k : Func) (v : FuncState) : (f.set k v).get k = v := by cases k <;> rfl
theorem Funcs.get_set_ne (f : Funcs) (j k : Func) (v : FuncState) (h : j ≠ k) : (f.set k v).get j = f.get j := by
  cases j <;> cases k <;> first | rfl | exact absurd rfl h

/-! ## Radio -/

@[simp] theorem Device.count_fn (s : Device) (k : Nat) : (s.count k).fn = s.fn := rfl
@[simp] theorem Device.count_conf (s : Device) (k : Nat) : (s.count k).conf = s.conf := rfl
@[simp] theorem Device.count_straps (s : Device) (k : Nat) : (s.count k).straps = s.straps := rfl
@[simp] theorem Device.count_refusals (s : Device) (k : Nat) : (s.count k).refusals = s.refusals := rfl
@[simp] theorem Device.count_tr (s : Device) (k : Nat) : (s.count k).tr = s.tr := rfl
@[simp] theorem Device.count_flow (s : Device) (k : Nat) : (s.count k).flow = s.flow := rfl
@[simp] theorem Device.count_cap (s : Device) (k : Nat) : (s.count k).cap = s.cap := rfl
@[simp] theorem Device.count_pulse (s : Device) (k : Nat) : (s.count k).pulse = s.pulse := rfl
@[simp] theorem Device.count_temp (s : Device) (k : Nat) : (s.count k).temp = s.temp := rfl
@[simp] theorem Device.count_toll (s : Device) (k : Nat) : (s.count k).toll = s.toll := rfl
@[simp] theorem Device.count_bill (s : Device) (k : Nat) : (s.count k).bill = s.bill := rfl
@[simp] theorem Device.count_jnl (s : Device) (k : Nat) : (s.count k).jnl = s.jnl := rfl
@[simp] theorem Device.count_land (s : Device) (k : Nat) : (s.count k).land = s.land := rfl
@[simp] theorem Device.count_haw (s : Device) (k : Nat) : (s.count k).haw = s.haw := rfl
@[simp] theorem Device.count_disp (s : Device) (k : Nat) : (s.count k).disp = s.disp := rfl
@[simp] theorem Device.count_sec (s : Device) (k : Nat) : (s.count k).sec = s.sec := rfl
@[simp] theorem Device.count_opt (s : Device) (k : Nat) : (s.count k).opt = s.opt := rfl
@[simp] theorem Device.count_power (s : Device) (k : Nat) : (s.count k).power = s.power := rfl
@[simp] theorem Device.count_store (s : Device) (k : Nat) : (s.count k).store = s.store := rfl
@[simp] theorem Device.count_st (s : Device) (k : Nat) : (s.count k).st = s.st := rfl
@[simp] theorem Device.count_free (s : Device) (k : Nat) : (s.count k).free = s.free := rfl
@[simp] theorem Device.count_radio_role (s : Device) (k : Nat) : (s.count k).radio.role = s.radio.role := rfl
@[simp] theorem Device.count_radio_phy (s : Device) (k : Nat) : (s.count k).radio.phy = s.radio.phy := rfl
@[simp] theorem Device.count_radio_band (s : Device) (k : Nat) : (s.count k).radio.band = s.radio.band := rfl
@[simp] theorem Device.count_radio_pa20 (s : Device) (k : Nat) : (s.count k).radio.pa20 = s.radio.pa20 := rfl
@[simp] theorem Device.count_radio_wmbus (s : Device) (k : Nat) : (s.count k).radio.wmbus = s.radio.wmbus := rfl
@[simp] theorem Device.count_radio_link (s : Device) (k : Nat) : (s.count k).radio.link = s.radio.link := rfl
@[simp] theorem Device.count_radio_joinOpen (s : Device) (k : Nat) : (s.count k).radio.joinOpen = s.radio.joinOpen := rfl
@[simp] theorem Device.count_radio_joinUntil (s : Device) (k : Nat) : (s.count k).radio.joinUntil = s.radio.joinUntil := rfl
@[simp] theorem Device.count_radio_budgetExhausted (s : Device) (k : Nat) : (s.count k).radio.budgetExhausted = s.radio.budgetExhausted := rfl
@[simp] theorem Device.count_radio_ownShort (s : Device) (k : Nat) : (s.count k).radio.ownShort = s.radio.ownShort := rfl
@[simp] theorem Device.count_radio_parentEui (s : Device) (k : Nat) : (s.count k).radio.parentEui = s.radio.parentEui := rfl
@[simp] theorem Device.count_radio_fcntTx (s : Device) (k : Nat) : (s.count k).radio.fcntTx = s.radio.fcntTx := rfl
@[simp] theorem Device.count_radio_fcntBlock (s : Device) (k : Nat) : (s.count k).radio.fcntBlock = s.radio.fcntBlock := rfl
@[simp] theorem Device.count_radio_fcntStopped (s : Device) (k : Nat) : (s.count k).radio.fcntStopped = s.radio.fcntStopped := rfl
@[simp] theorem Device.count_radio_upH (s : Device) (k : Nat) : (s.count k).radio.upH = s.radio.upH := rfl
@[simp] theorem Device.count_radio_upBitmap (s : Device) (k : Nat) : (s.count k).radio.upBitmap = s.radio.upBitmap := rfl
@[simp] theorem Device.count_radio_upSeen (s : Device) (k : Nat) : (s.count k).radio.upSeen = s.radio.upSeen := rfl
@[simp] theorem Device.count_radio_tContact (s : Device) (k : Nat) : (s.count k).radio.tContact = s.radio.tContact := rfl
@[simp] theorem Device.count_radio_nextCh (s : Device) (k : Nat) : (s.count k).radio.nextCh = s.radio.nextCh := rfl
@[simp] theorem Device.count_radio_orphanRun (s : Device) (k : Nat) : (s.count k).radio.orphanRun = s.radio.orphanRun := rfl
@[simp] theorem Device.count_radio_rssiUp (s : Device) (k : Nat) : (s.count k).radio.rssiUp = s.radio.rssiUp := rfl
@[simp] theorem Device.count_radio_txUs (s : Device) (k : Nat) : (s.count k).radio.txUs = s.radio.txUs := rfl
@[simp] theorem Device.count_radio_txWindow (s : Device) (k : Nat) : (s.count k).radio.txWindow = s.radio.txWindow := rfl
@[simp] theorem Device.count_radio_wmbusUs (s : Device) (k : Nat) : (s.count k).radio.wmbusUs = s.radio.wmbusUs := rfl
@[simp] theorem Device.count_radio_searchMs (s : Device) (k : Nat) : (s.count k).radio.searchMs = s.radio.searchMs := rfl
@[simp] theorem Device.count_radio_searchPeriod (s : Device) (k : Nat) : (s.count k).radio.searchPeriod = s.radio.searchPeriod := rfl
@[simp] theorem Device.count_radio_capJournalled (s : Device) (k : Nat) : (s.count k).radio.capJournalled = s.radio.capJournalled := rfl
@[simp] theorem Device.count_radio_budgetJournalled (s : Device) (k : Nat) : (s.count k).radio.budgetJournalled = s.radio.budgetJournalled := rfl
@[simp] theorem Device.count_radio_children (s : Device) (k : Nat) : (s.count k).radio.children = s.radio.children := rfl
@[simp] theorem Device.count_radio_queue (s : Device) (k : Nat) : (s.count k).radio.queue = s.radio.queue := rfl
@[simp] theorem Device.count_radio_digests (s : Device) (k : Nat) : (s.count k).radio.digests = s.radio.digests := rfl
@[simp] theorem Device.count_radio_reasm (s : Device) (k : Nat) : (s.count k).radio.reasm = s.radio.reasm := rfl
@[simp] theorem Device.count_radio_exch (s : Device) (k : Nat) : (s.count k).radio.exch = s.radio.exch := rfl
@[simp] theorem Device.count_radio_cfg (s : Device) (k : Nat) : (s.count k).radio.cfg = s.radio.cfg := rfl
@[simp] theorem Device.count_radio_netId (s : Device) (k : Nat) : (s.count k).radio.netId = s.radio.netId := rfl
@[simp] theorem Device.count_radio_upNetId (s : Device) (k : Nat) : (s.count k).radio.upNetId = s.radio.upNetId := rfl
@[simp] theorem Device.count_radio_lastTime (s : Device) (k : Nat) : (s.count k).radio.lastTime = s.radio.lastTime := rfl
@[simp] theorem Device.count_radio_contacts (s : Device) (k : Nat) : (s.count k).radio.contacts = s.radio.contacts := rfl
@[simp] theorem Device.count_radio_accessNo (s : Device) (k : Nat) : (s.count k).radio.accessNo = s.radio.accessNo := rfl
@[simp] theorem Device.count_radio_wmbusCount (s : Device) (k : Nat) : (s.count k).radio.wmbusCount = s.radio.wmbusCount := rfl
@[simp] theorem Device.count_radio_wmbusNext (s : Device) (k : Nat) : (s.count k).radio.wmbusNext = s.radio.wmbusNext := rfl
@[simp] theorem Device.count_radio_lastTelegram (s : Device) (k : Nat) : (s.count k).radio.lastTelegram = s.radio.lastTelegram := rfl
@[simp] theorem Device.count_radio_out (s : Device) (k : Nat) : (s.count k).radio.out = s.radio.out := rfl
@[simp] theorem Device.count_radio_outCh (s : Device) (k : Nat) : (s.count k).radio.outCh = s.radio.outCh := rfl
@[simp] theorem Device.count_radio_ackedEst (s : Device) (k : Nat) : (s.count k).radio.ackedEst = s.radio.ackedEst := rfl
@[simp] theorem Device.count_radio_sentEst (s : Device) (k : Nat) : (s.count k).radio.sentEst = s.radio.sentEst := rfl
@[simp] theorem Device.count_radio_sentTamper (s : Device) (k : Nat) : (s.count k).radio.sentTamper = s.radio.sentTamper := rfl
@[simp] theorem Device.count_radio_counters (s : Device) (k : Nat) : (s.count k).radio.counters = setAt s.radio.counters k satInc := rfl
@[simp] theorem Device.setChild_fn (s : Device) (i : Nat) (f : Child → Child) : (s.setChild i f).fn = s.fn := rfl
@[simp] theorem Device.setChild_conf (s : Device) (i : Nat) (f : Child → Child) : (s.setChild i f).conf = s.conf := rfl
@[simp] theorem Device.setChild_straps (s : Device) (i : Nat) (f : Child → Child) : (s.setChild i f).straps = s.straps := rfl
@[simp] theorem Device.setChild_refusals (s : Device) (i : Nat) (f : Child → Child) : (s.setChild i f).refusals = s.refusals := rfl
@[simp] theorem Device.setChild_tr (s : Device) (i : Nat) (f : Child → Child) : (s.setChild i f).tr = s.tr := rfl
@[simp] theorem Device.setChild_flow (s : Device) (i : Nat) (f : Child → Child) : (s.setChild i f).flow = s.flow := rfl
@[simp] theorem Device.setChild_cap (s : Device) (i : Nat) (f : Child → Child) : (s.setChild i f).cap = s.cap := rfl
@[simp] theorem Device.setChild_pulse (s : Device) (i : Nat) (f : Child → Child) : (s.setChild i f).pulse = s.pulse := rfl
@[simp] theorem Device.setChild_temp (s : Device) (i : Nat) (f : Child → Child) : (s.setChild i f).temp = s.temp := rfl
@[simp] theorem Device.setChild_toll (s : Device) (i : Nat) (f : Child → Child) : (s.setChild i f).toll = s.toll := rfl
@[simp] theorem Device.setChild_bill (s : Device) (i : Nat) (f : Child → Child) : (s.setChild i f).bill = s.bill := rfl
@[simp] theorem Device.setChild_jnl (s : Device) (i : Nat) (f : Child → Child) : (s.setChild i f).jnl = s.jnl := rfl
@[simp] theorem Device.setChild_land (s : Device) (i : Nat) (f : Child → Child) : (s.setChild i f).land = s.land := rfl
@[simp] theorem Device.setChild_haw (s : Device) (i : Nat) (f : Child → Child) : (s.setChild i f).haw = s.haw := rfl
@[simp] theorem Device.setChild_disp (s : Device) (i : Nat) (f : Child → Child) : (s.setChild i f).disp = s.disp := rfl
@[simp] theorem Device.setChild_sec (s : Device) (i : Nat) (f : Child → Child) : (s.setChild i f).sec = s.sec := rfl
@[simp] theorem Device.setChild_opt (s : Device) (i : Nat) (f : Child → Child) : (s.setChild i f).opt = s.opt := rfl
@[simp] theorem Device.setChild_power (s : Device) (i : Nat) (f : Child → Child) : (s.setChild i f).power = s.power := rfl
@[simp] theorem Device.setChild_store (s : Device) (i : Nat) (f : Child → Child) : (s.setChild i f).store = s.store := rfl
@[simp] theorem Device.setChild_st (s : Device) (i : Nat) (f : Child → Child) : (s.setChild i f).st = s.st := rfl
@[simp] theorem Device.setChild_free (s : Device) (i : Nat) (f : Child → Child) : (s.setChild i f).free = s.free := rfl

/-! ## Hawser -/

@[simp] theorem Device.hwBurst_fn (s : Device) (n : Nat) : (s.hwBurst n).fn = s.fn := rfl
@[simp] theorem Device.hwBurst_conf (s : Device) (n : Nat) : (s.hwBurst n).conf = s.conf := rfl
@[simp] theorem Device.hwBurst_straps (s : Device) (n : Nat) : (s.hwBurst n).straps = s.straps := rfl
@[simp] theorem Device.hwBurst_refusals (s : Device) (n : Nat) : (s.hwBurst n).refusals = s.refusals := rfl
@[simp] theorem Device.hwBurst_tr (s : Device) (n : Nat) : (s.hwBurst n).tr = s.tr := rfl
@[simp] theorem Device.hwBurst_flow (s : Device) (n : Nat) : (s.hwBurst n).flow = s.flow := rfl
@[simp] theorem Device.hwBurst_cap (s : Device) (n : Nat) : (s.hwBurst n).cap = s.cap := rfl
@[simp] theorem Device.hwBurst_pulse (s : Device) (n : Nat) : (s.hwBurst n).pulse = s.pulse := rfl
@[simp] theorem Device.hwBurst_temp (s : Device) (n : Nat) : (s.hwBurst n).temp = s.temp := rfl
@[simp] theorem Device.hwBurst_toll (s : Device) (n : Nat) : (s.hwBurst n).toll = s.toll := rfl
@[simp] theorem Device.hwBurst_bill (s : Device) (n : Nat) : (s.hwBurst n).bill = s.bill := rfl
@[simp] theorem Device.hwBurst_jnl (s : Device) (n : Nat) : (s.hwBurst n).jnl = s.jnl := rfl
@[simp] theorem Device.hwBurst_land (s : Device) (n : Nat) : (s.hwBurst n).land = s.land := rfl
@[simp] theorem Device.hwBurst_radio (s : Device) (n : Nat) : (s.hwBurst n).radio = s.radio := rfl
@[simp] theorem Device.hwBurst_disp (s : Device) (n : Nat) : (s.hwBurst n).disp = s.disp := rfl
@[simp] theorem Device.hwBurst_sec (s : Device) (n : Nat) : (s.hwBurst n).sec = s.sec := rfl
@[simp] theorem Device.hwBurst_opt (s : Device) (n : Nat) : (s.hwBurst n).opt = s.opt := rfl
@[simp] theorem Device.hwBurst_power (s : Device) (n : Nat) : (s.hwBurst n).power = s.power := rfl
@[simp] theorem Device.hwBurst_store (s : Device) (n : Nat) : (s.hwBurst n).store = s.store := rfl
@[simp] theorem Device.hwBurst_st (s : Device) (n : Nat) : (s.hwBurst n).st = s.st := rfl
@[simp] theorem Device.hwBurst_free (s : Device) (n : Nat) : (s.hwBurst n).free = s.free := rfl
@[simp] theorem Device.hwBurst_haw_deviceNo (s : Device) (n : Nat) : (s.hwBurst n).haw.deviceNo = s.haw.deviceNo := rfl
@[simp] theorem Device.hwBurst_haw_role (s : Device) (n : Nat) : (s.hwBurst n).haw.role = s.haw.role := rfl
@[simp] theorem Device.hwBurst_haw_expected (s : Device) (n : Nat) : (s.hwBurst n).haw.expected = s.haw.expected := rfl
@[simp] theorem Device.hwBurst_haw_expectedKnown (s : Device) (n : Nat) : (s.hwBurst n).haw.expectedKnown = s.haw.expectedKnown := rfl
@[simp] theorem Device.hwBurst_haw_retired (s : Device) (n : Nat) : (s.hwBurst n).haw.retired = s.haw.retired := rfl
@[simp] theorem Device.hwBurst_haw_cfgFault (s : Device) (n : Nat) : (s.hwBurst n).haw.cfgFault = s.haw.cfgFault := rfl
@[simp] theorem Device.hwBurst_haw_crcFail (s : Device) (n : Nat) : (s.hwBurst n).haw.crcFail = s.haw.crcFail := rfl
@[simp] theorem Device.hwBurst_haw_secs (s : Device) (n : Nat) : (s.hwBurst n).haw.secs = s.haw.secs := rfl
@[simp] theorem Device.hwBurst_haw_seq (s : Device) (n : Nat) : (s.hwBurst n).haw.seq = s.haw.seq := rfl
@[simp] theorem Device.hwBurst_haw_out (s : Device) (n : Nat) : (s.hwBurst n).haw.out = s.haw.out := rfl
@[simp] theorem Device.hwBurst_haw_loop (s : Device) (n : Nat) : (s.hwBurst n).haw.loop = s.haw.loop := rfl
@[simp] theorem Device.hwBurst_haw_loopDue (s : Device) (n : Nat) : (s.hwBurst n).haw.loopDue = s.haw.loopDue := rfl
@[simp] theorem Device.hwBurst_haw_loopTick (s : Device) (n : Nat) : (s.hwBurst n).haw.loopTick = s.haw.loopTick := rfl
@[simp] theorem Device.hwBurst_haw_loopTemp (s : Device) (n : Nat) : (s.hwBurst n).haw.loopTemp = s.haw.loopTemp := rfl
@[simp] theorem Device.hwBurst_haw_syncing (s : Device) (n : Nat) : (s.hwBurst n).haw.syncing = s.haw.syncing := rfl
@[simp] theorem Device.hwBurst_haw_syncActive (s : Device) (n : Nat) : (s.hwBurst n).haw.syncActive = s.haw.syncActive := rfl
@[simp] theorem Device.hwBurst_haw_cfgParts (s : Device) (n : Nat) : (s.hwBurst n).haw.cfgParts = s.haw.cfgParts := rfl
@[simp] theorem Device.hwBurst_haw_lastTx (s : Device) (n : Nat) : (s.hwBurst n).haw.lastTx = s.haw.lastTx := rfl
@[simp] theorem Device.hwBurst_haw_lastBroadcast (s : Device) (n : Nat) : (s.hwBurst n).haw.lastBroadcast = s.haw.lastBroadcast := rfl
@[simp] theorem Device.hwBurst_haw_wakeReq (s : Device) (n : Nat) : (s.hwBurst n).haw.wakeReq = s.haw.wakeReq := rfl
@[simp] theorem Device.hwBurst_haw_synced (s : Device) (n : Nat) : (s.hwBurst n).haw.synced = s.haw.synced := rfl
@[simp] theorem Device.hwBurst_haw_ownEpoch (s : Device) (n : Nat) : (s.hwBurst n).haw.ownEpoch = s.haw.ownEpoch := rfl
@[simp] theorem Device.hwBurst_haw_hfxCorr (s : Device) (n : Nat) : (s.hwBurst n).haw.hfxCorr = s.haw.hfxCorr := rfl
@[simp] theorem Device.hwBurst_haw_pushed (s : Device) (n : Nat) : (s.hwBurst n).haw.pushed = s.haw.pushed := rfl
@[simp] theorem Device.hwBurst_haw_pushedThr (s : Device) (n : Nat) : (s.hwBurst n).haw.pushedThr = s.haw.pushedThr := rfl
@[simp] theorem Device.hwBurst_haw_pushedCls (s : Device) (n : Nat) : (s.hwBurst n).haw.pushedCls = s.haw.pushedCls := rfl
@[simp] theorem Device.hwBurst_haw_pushedTemp (s : Device) (n : Nat) : (s.hwBurst n).haw.pushedTemp = s.haw.pushedTemp := rfl
@[simp] theorem Device.hwBurst_haw_job (s : Device) (n : Nat) : (s.hwBurst n).haw.job = s.haw.job := rfl
@[simp] theorem Device.hwBurst_haw_cycle (s : Device) (n : Nat) : (s.hwBurst n).haw.cycle = s.haw.cycle := rfl
@[simp] theorem Device.hwBurst_haw_sampling (s : Device) (n : Nat) : (s.hwBurst n).haw.sampling = s.haw.sampling := rfl
@[simp] theorem Device.hwBurst_haw_turn (s : Device) (n : Nat) : (s.hwBurst n).haw.turn = s.haw.turn := rfl
@[simp] theorem Device.hwBurst_haw_turnSent (s : Device) (n : Nat) : (s.hwBurst n).haw.turnSent = s.haw.turnSent := rfl
@[simp] theorem Device.hwBurst_haw_loopIdx (s : Device) (n : Nat) : (s.hwBurst n).haw.loopIdx = s.haw.loopIdx := rfl
@[simp] theorem Device.hwBurst_haw_loopSeq (s : Device) (n : Nat) : (s.hwBurst n).haw.loopSeq = s.haw.loopSeq := rfl
@[simp] theorem Device.hwBurst_haw_lastFrame (s : Device) (n : Nat) : (s.hwBurst n).haw.lastFrame = s.haw.lastFrame := rfl
@[simp] theorem Device.hwSend_fn (s : Device) (dst typ : Nat) (p : Bytes) : (s.hwSend dst typ p).fn = s.fn := rfl
@[simp] theorem Device.hwSend_conf (s : Device) (dst typ : Nat) (p : Bytes) : (s.hwSend dst typ p).conf = s.conf := rfl
@[simp] theorem Device.hwSend_straps (s : Device) (dst typ : Nat) (p : Bytes) : (s.hwSend dst typ p).straps = s.straps := rfl
@[simp] theorem Device.hwSend_refusals (s : Device) (dst typ : Nat) (p : Bytes) : (s.hwSend dst typ p).refusals = s.refusals := rfl
@[simp] theorem Device.hwSend_tr (s : Device) (dst typ : Nat) (p : Bytes) : (s.hwSend dst typ p).tr = s.tr := rfl
@[simp] theorem Device.hwSend_flow (s : Device) (dst typ : Nat) (p : Bytes) : (s.hwSend dst typ p).flow = s.flow := rfl
@[simp] theorem Device.hwSend_cap (s : Device) (dst typ : Nat) (p : Bytes) : (s.hwSend dst typ p).cap = s.cap := rfl
@[simp] theorem Device.hwSend_pulse (s : Device) (dst typ : Nat) (p : Bytes) : (s.hwSend dst typ p).pulse = s.pulse := rfl
@[simp] theorem Device.hwSend_temp (s : Device) (dst typ : Nat) (p : Bytes) : (s.hwSend dst typ p).temp = s.temp := rfl
@[simp] theorem Device.hwSend_toll (s : Device) (dst typ : Nat) (p : Bytes) : (s.hwSend dst typ p).toll = s.toll := rfl
@[simp] theorem Device.hwSend_bill (s : Device) (dst typ : Nat) (p : Bytes) : (s.hwSend dst typ p).bill = s.bill := rfl
@[simp] theorem Device.hwSend_jnl (s : Device) (dst typ : Nat) (p : Bytes) : (s.hwSend dst typ p).jnl = s.jnl := rfl
@[simp] theorem Device.hwSend_radio (s : Device) (dst typ : Nat) (p : Bytes) : (s.hwSend dst typ p).radio = s.radio := rfl
@[simp] theorem Device.hwSend_disp (s : Device) (dst typ : Nat) (p : Bytes) : (s.hwSend dst typ p).disp = s.disp := rfl
@[simp] theorem Device.hwSend_sec (s : Device) (dst typ : Nat) (p : Bytes) : (s.hwSend dst typ p).sec = s.sec := rfl
@[simp] theorem Device.hwSend_opt (s : Device) (dst typ : Nat) (p : Bytes) : (s.hwSend dst typ p).opt = s.opt := rfl
@[simp] theorem Device.hwSend_store (s : Device) (dst typ : Nat) (p : Bytes) : (s.hwSend dst typ p).store = s.store := rfl
@[simp] theorem Device.hwSend_st (s : Device) (dst typ : Nat) (p : Bytes) : (s.hwSend dst typ p).st = s.st := rfl
@[simp] theorem Device.hwSend_free (s : Device) (dst typ : Nat) (p : Bytes) : (s.hwSend dst typ p).free = s.free := rfl
@[simp] theorem Device.hwSend_land_tick (s : Device) (dst typ : Nat) (p : Bytes) : (s.hwSend dst typ p).land.tick = s.land.tick := rfl
@[simp] theorem Device.hwSend_land_prev (s : Device) (dst typ : Nat) (p : Bytes) : (s.hwSend dst typ p).land.prev = s.land.prev := rfl
@[simp] theorem Device.hwSend_land_oscStopped (s : Device) (dst typ : Nat) (p : Bytes) : (s.hwSend dst typ p).land.oscStopped = s.land.oscStopped := rfl
@[simp] theorem Device.hwSend_land_neverSet (s : Device) (dst typ : Nat) (p : Bytes) : (s.hwSend dst typ p).land.neverSet = s.land.neverSet := rfl
@[simp] theorem Device.hwSend_land_lfxRunning (s : Device) (dst typ : Nat) (p : Bytes) : (s.hwSend dst typ p).land.lfxRunning = s.land.lfxRunning := rfl
@[simp] theorem Device.hwSend_land_osc (s : Device) (dst typ : Nat) (p : Bytes) : (s.hwSend dst typ p).land.osc = s.land.osc := rfl
@[simp] theorem Device.hwSend_land_trimAcc (s : Device) (dst typ : Nat) (p : Bytes) : (s.hwSend dst typ p).land.trimAcc = s.land.trimAcc := rfl
@[simp] theorem Device.hwSend_land_corrOwed (s : Device) (dst typ : Nat) (p : Bytes) : (s.hwSend dst typ p).land.corrOwed = s.land.corrOwed := rfl
@[simp] theorem Device.hwSend_land_compAcc (s : Device) (dst typ : Nat) (p : Bytes) : (s.hwSend dst typ p).land.compAcc = s.land.compAcc := rfl
@[simp] theorem Device.hwSend_land_dieTemp (s : Device) (dst typ : Nat) (p : Bytes) : (s.hwSend dst typ p).land.dieTemp = s.land.dieTemp := rfl
@[simp] theorem Device.hwSend_land_lf (s : Device) (dst typ : Nat) (p : Bytes) : (s.hwSend dst typ p).land.lf = s.land.lf := rfl
@[simp] theorem Device.hwSend_land_cal (s : Device) (dst typ : Nat) (p : Bytes) : (s.hwSend dst typ p).land.cal = s.land.cal := rfl
@[simp] theorem Device.hwSend_land_shadows (s : Device) (dst typ : Nat) (p : Bytes) : (s.hwSend dst typ p).land.shadows = s.land.shadows := rfl
@[simp] theorem Device.hwSend_land_reader (s : Device) (dst typ : Nat) (p : Bytes) : (s.hwSend dst typ p).land.reader = s.land.reader := rfl
@[simp] theorem Device.hwSend_land_adjDay (s : Device) (dst typ : Nat) (p : Bytes) : (s.hwSend dst typ p).land.adjDay = s.land.adjDay := rfl
@[simp] theorem Device.hwSend_land_cnt (s : Device) (dst typ : Nat) (p : Bytes) : (s.hwSend dst typ p).land.cnt = s.land.cnt := rfl
@[simp] theorem Device.hwSend_land_cntMirror (s : Device) (dst typ : Nat) (p : Bytes) : (s.hwSend dst typ p).land.cntMirror = s.land.cntMirror := rfl
@[simp] theorem Device.hwSend_land_supply (s : Device) (dst typ : Nat) (p : Bytes) : (s.hwSend dst typ p).land.supply = s.land.supply := rfl
@[simp] theorem Device.hwSend_land_debounce (s : Device) (dst typ : Nat) (p : Bytes) : (s.hwSend dst typ p).land.debounce = s.land.debounce := rfl
@[simp] theorem Device.hwSend_land_bkpSince (s : Device) (dst typ : Nat) (p : Bytes) : (s.hwSend dst typ p).land.bkpSince = s.land.bkpSince := rfl
@[simp] theorem Device.hwSend_land_sealSt (s : Device) (dst typ : Nat) (p : Bytes) : (s.hwSend dst typ p).land.sealSt = s.land.sealSt := rfl
@[simp] theorem Device.hwSend_land_sealFail (s : Device) (dst typ : Nat) (p : Bytes) : (s.hwSend dst typ p).land.sealFail = s.land.sealFail := rfl
@[simp] theorem Device.hwSend_land_sealGood (s : Device) (dst typ : Nat) (p : Bytes) : (s.hwSend dst typ p).land.sealGood = s.land.sealGood := rfl
@[simp] theorem Device.hwSend_land_caseOpen (s : Device) (dst typ : Nat) (p : Bytes) : (s.hwSend dst typ p).land.caseOpen = s.land.caseOpen := rfl
@[simp] theorem Device.hwSend_land_mag (s : Device) (dst typ : Nat) (p : Bytes) : (s.hwSend dst typ p).land.mag = s.land.mag := rfl
@[simp] theorem Device.hwSend_land_fifo (s : Device) (dst typ : Nat) (p : Bytes) : (s.hwSend dst typ p).land.fifo = s.land.fifo := rfl
@[simp] theorem Device.hwSend_land_alarms (s : Device) (dst typ : Nat) (p : Bytes) : (s.hwSend dst typ p).land.alarms = s.land.alarms := rfl
@[simp] theorem Device.hwSend_land_pendSet (s : Device) (dst typ : Nat) (p : Bytes) : (s.hwSend dst typ p).land.pendSet = s.land.pendSet := rfl
@[simp] theorem Device.hwSend_land_plsCount (s : Device) (dst typ : Nat) (p : Bytes) : (s.hwSend dst typ p).land.plsCount = s.land.plsCount := rfl
@[simp] theorem Device.hwSend_land_plsMirror (s : Device) (dst typ : Nat) (p : Bytes) : (s.hwSend dst typ p).land.plsMirror = s.land.plsMirror := rfl
@[simp] theorem Device.hwSend_land_plsLost (s : Device) (dst typ : Nat) (p : Bytes) : (s.hwSend dst typ p).land.plsLost = s.land.plsLost := rfl
@[simp] theorem Device.hwSend_land_mirrorTick (s : Device) (dst typ : Nat) (p : Bytes) : (s.hwSend dst typ p).land.mirrorTick = s.land.mirrorTick := rfl
@[simp] theorem Device.hwSend_land_plsEn (s : Device) (dst typ : Nat) (p : Bytes) : (s.hwSend dst typ p).land.plsEn = s.land.plsEn := rfl
@[simp] theorem Device.hwSend_land_plsDb (s : Device) (dst typ : Nat) (p : Bytes) : (s.hwSend dst typ p).land.plsDb = s.land.plsDb := rfl
@[simp] theorem Device.hwSend_land_queued (s : Device) (dst typ : Nat) (p : Bytes) : (s.hwSend dst typ p).land.queued = s.land.queued := rfl
@[simp] theorem Device.hwSend_land_adjLimit (s : Device) (dst typ : Nat) (p : Bytes) : (s.hwSend dst typ p).land.adjLimit = s.land.adjLimit := rfl
@[simp] theorem Device.hwSend_land_sealEn (s : Device) (dst typ : Nat) (p : Bytes) : (s.hwSend dst typ p).land.sealEn = s.land.sealEn := rfl
@[simp] theorem Device.hwSend_land_sealPeriod (s : Device) (dst typ : Nat) (p : Bytes) : (s.hwSend dst typ p).land.sealPeriod = s.land.sealPeriod := rfl
@[simp] theorem Device.hwSend_land_pwrEnMode (s : Device) (dst typ : Nat) (p : Bytes) : (s.hwSend dst typ p).land.pwrEnMode = s.land.pwrEnMode := rfl
@[simp] theorem Device.hwSend_land_pwrEnLead (s : Device) (dst typ : Nat) (p : Bytes) : (s.hwSend dst typ p).land.pwrEnLead = s.land.pwrEnLead := rfl
@[simp] theorem Device.hwSend_land_probeIn (s : Device) (dst typ : Nat) (p : Bytes) : (s.hwSend dst typ p).land.probeIn = s.land.probeIn := rfl
@[simp] theorem Device.hwSend_land_corrAt (s : Device) (dst typ : Nat) (p : Bytes) : (s.hwSend dst typ p).land.corrAt = s.land.corrAt := rfl
@[simp] theorem Device.hwSend_land_compAt (s : Device) (dst typ : Nat) (p : Bytes) : (s.hwSend dst typ p).land.compAt = s.land.compAt := rfl
@[simp] theorem Device.hwSend_land_divAt (s : Device) (dst typ : Nat) (p : Bytes) : (s.hwSend dst typ p).land.divAt = s.land.divAt := rfl
@[simp] theorem Device.hwSend_land_plsAt (s : Device) (dst typ : Nat) (p : Bytes) : (s.hwSend dst typ p).land.plsAt = s.land.plsAt := rfl
@[simp] theorem Device.hwSend_land_caseAt (s : Device) (dst typ : Nat) (p : Bytes) : (s.hwSend dst typ p).land.caseAt = s.land.caseAt := rfl
@[simp] theorem Device.hwSend_land_magAt (s : Device) (dst typ : Nat) (p : Bytes) : (s.hwSend dst typ p).land.magAt = s.land.magAt := rfl
@[simp] theorem Device.hwAsk_fn (s : Device) (dst typ : Nat) (p : Bytes) : (s.hwAsk dst typ p).fn = s.fn := rfl
@[simp] theorem Device.hwAsk_conf (s : Device) (dst typ : Nat) (p : Bytes) : (s.hwAsk dst typ p).conf = s.conf := rfl
@[simp] theorem Device.hwAsk_straps (s : Device) (dst typ : Nat) (p : Bytes) : (s.hwAsk dst typ p).straps = s.straps := rfl
@[simp] theorem Device.hwAsk_refusals (s : Device) (dst typ : Nat) (p : Bytes) : (s.hwAsk dst typ p).refusals = s.refusals := rfl
@[simp] theorem Device.hwAsk_tr (s : Device) (dst typ : Nat) (p : Bytes) : (s.hwAsk dst typ p).tr = s.tr := rfl
@[simp] theorem Device.hwAsk_flow (s : Device) (dst typ : Nat) (p : Bytes) : (s.hwAsk dst typ p).flow = s.flow := rfl
@[simp] theorem Device.hwAsk_cap (s : Device) (dst typ : Nat) (p : Bytes) : (s.hwAsk dst typ p).cap = s.cap := rfl
@[simp] theorem Device.hwAsk_pulse (s : Device) (dst typ : Nat) (p : Bytes) : (s.hwAsk dst typ p).pulse = s.pulse := rfl
@[simp] theorem Device.hwAsk_temp (s : Device) (dst typ : Nat) (p : Bytes) : (s.hwAsk dst typ p).temp = s.temp := rfl
@[simp] theorem Device.hwAsk_toll (s : Device) (dst typ : Nat) (p : Bytes) : (s.hwAsk dst typ p).toll = s.toll := rfl
@[simp] theorem Device.hwAsk_bill (s : Device) (dst typ : Nat) (p : Bytes) : (s.hwAsk dst typ p).bill = s.bill := rfl
@[simp] theorem Device.hwAsk_jnl (s : Device) (dst typ : Nat) (p : Bytes) : (s.hwAsk dst typ p).jnl = s.jnl := rfl
@[simp] theorem Device.hwAsk_radio (s : Device) (dst typ : Nat) (p : Bytes) : (s.hwAsk dst typ p).radio = s.radio := rfl
@[simp] theorem Device.hwAsk_disp (s : Device) (dst typ : Nat) (p : Bytes) : (s.hwAsk dst typ p).disp = s.disp := rfl
@[simp] theorem Device.hwAsk_sec (s : Device) (dst typ : Nat) (p : Bytes) : (s.hwAsk dst typ p).sec = s.sec := rfl
@[simp] theorem Device.hwAsk_opt (s : Device) (dst typ : Nat) (p : Bytes) : (s.hwAsk dst typ p).opt = s.opt := rfl
@[simp] theorem Device.hwAsk_store (s : Device) (dst typ : Nat) (p : Bytes) : (s.hwAsk dst typ p).store = s.store := rfl
@[simp] theorem Device.hwAsk_st (s : Device) (dst typ : Nat) (p : Bytes) : (s.hwAsk dst typ p).st = s.st := rfl
@[simp] theorem Device.hwAsk_free (s : Device) (dst typ : Nat) (p : Bytes) : (s.hwAsk dst typ p).free = s.free := rfl
@[simp] theorem Device.hwAsk_land_tick (s : Device) (dst typ : Nat) (p : Bytes) : (s.hwAsk dst typ p).land.tick = s.land.tick := rfl
@[simp] theorem Device.hwAsk_land_prev (s : Device) (dst typ : Nat) (p : Bytes) : (s.hwAsk dst typ p).land.prev = s.land.prev := rfl
@[simp] theorem Device.hwAsk_land_oscStopped (s : Device) (dst typ : Nat) (p : Bytes) : (s.hwAsk dst typ p).land.oscStopped = s.land.oscStopped := rfl
@[simp] theorem Device.hwAsk_land_neverSet (s : Device) (dst typ : Nat) (p : Bytes) : (s.hwAsk dst typ p).land.neverSet = s.land.neverSet := rfl
@[simp] theorem Device.hwAsk_land_lfxRunning (s : Device) (dst typ : Nat) (p : Bytes) : (s.hwAsk dst typ p).land.lfxRunning = s.land.lfxRunning := rfl
@[simp] theorem Device.hwAsk_land_osc (s : Device) (dst typ : Nat) (p : Bytes) : (s.hwAsk dst typ p).land.osc = s.land.osc := rfl
@[simp] theorem Device.hwAsk_land_trimAcc (s : Device) (dst typ : Nat) (p : Bytes) : (s.hwAsk dst typ p).land.trimAcc = s.land.trimAcc := rfl
@[simp] theorem Device.hwAsk_land_corrOwed (s : Device) (dst typ : Nat) (p : Bytes) : (s.hwAsk dst typ p).land.corrOwed = s.land.corrOwed := rfl
@[simp] theorem Device.hwAsk_land_compAcc (s : Device) (dst typ : Nat) (p : Bytes) : (s.hwAsk dst typ p).land.compAcc = s.land.compAcc := rfl
@[simp] theorem Device.hwAsk_land_dieTemp (s : Device) (dst typ : Nat) (p : Bytes) : (s.hwAsk dst typ p).land.dieTemp = s.land.dieTemp := rfl
@[simp] theorem Device.hwAsk_land_lf (s : Device) (dst typ : Nat) (p : Bytes) : (s.hwAsk dst typ p).land.lf = s.land.lf := rfl
@[simp] theorem Device.hwAsk_land_cal (s : Device) (dst typ : Nat) (p : Bytes) : (s.hwAsk dst typ p).land.cal = s.land.cal := rfl
@[simp] theorem Device.hwAsk_land_shadows (s : Device) (dst typ : Nat) (p : Bytes) : (s.hwAsk dst typ p).land.shadows = s.land.shadows := rfl
@[simp] theorem Device.hwAsk_land_reader (s : Device) (dst typ : Nat) (p : Bytes) : (s.hwAsk dst typ p).land.reader = s.land.reader := rfl
@[simp] theorem Device.hwAsk_land_adjDay (s : Device) (dst typ : Nat) (p : Bytes) : (s.hwAsk dst typ p).land.adjDay = s.land.adjDay := rfl
@[simp] theorem Device.hwAsk_land_cnt (s : Device) (dst typ : Nat) (p : Bytes) : (s.hwAsk dst typ p).land.cnt = s.land.cnt := rfl
@[simp] theorem Device.hwAsk_land_cntMirror (s : Device) (dst typ : Nat) (p : Bytes) : (s.hwAsk dst typ p).land.cntMirror = s.land.cntMirror := rfl
@[simp] theorem Device.hwAsk_land_supply (s : Device) (dst typ : Nat) (p : Bytes) : (s.hwAsk dst typ p).land.supply = s.land.supply := rfl
@[simp] theorem Device.hwAsk_land_debounce (s : Device) (dst typ : Nat) (p : Bytes) : (s.hwAsk dst typ p).land.debounce = s.land.debounce := rfl
@[simp] theorem Device.hwAsk_land_bkpSince (s : Device) (dst typ : Nat) (p : Bytes) : (s.hwAsk dst typ p).land.bkpSince = s.land.bkpSince := rfl
@[simp] theorem Device.hwAsk_land_sealSt (s : Device) (dst typ : Nat) (p : Bytes) : (s.hwAsk dst typ p).land.sealSt = s.land.sealSt := rfl
@[simp] theorem Device.hwAsk_land_sealFail (s : Device) (dst typ : Nat) (p : Bytes) : (s.hwAsk dst typ p).land.sealFail = s.land.sealFail := rfl
@[simp] theorem Device.hwAsk_land_sealGood (s : Device) (dst typ : Nat) (p : Bytes) : (s.hwAsk dst typ p).land.sealGood = s.land.sealGood := rfl
@[simp] theorem Device.hwAsk_land_caseOpen (s : Device) (dst typ : Nat) (p : Bytes) : (s.hwAsk dst typ p).land.caseOpen = s.land.caseOpen := rfl
@[simp] theorem Device.hwAsk_land_mag (s : Device) (dst typ : Nat) (p : Bytes) : (s.hwAsk dst typ p).land.mag = s.land.mag := rfl
@[simp] theorem Device.hwAsk_land_fifo (s : Device) (dst typ : Nat) (p : Bytes) : (s.hwAsk dst typ p).land.fifo = s.land.fifo := rfl
@[simp] theorem Device.hwAsk_land_alarms (s : Device) (dst typ : Nat) (p : Bytes) : (s.hwAsk dst typ p).land.alarms = s.land.alarms := rfl
@[simp] theorem Device.hwAsk_land_pendSet (s : Device) (dst typ : Nat) (p : Bytes) : (s.hwAsk dst typ p).land.pendSet = s.land.pendSet := rfl
@[simp] theorem Device.hwAsk_land_plsCount (s : Device) (dst typ : Nat) (p : Bytes) : (s.hwAsk dst typ p).land.plsCount = s.land.plsCount := rfl
@[simp] theorem Device.hwAsk_land_plsMirror (s : Device) (dst typ : Nat) (p : Bytes) : (s.hwAsk dst typ p).land.plsMirror = s.land.plsMirror := rfl
@[simp] theorem Device.hwAsk_land_plsLost (s : Device) (dst typ : Nat) (p : Bytes) : (s.hwAsk dst typ p).land.plsLost = s.land.plsLost := rfl
@[simp] theorem Device.hwAsk_land_mirrorTick (s : Device) (dst typ : Nat) (p : Bytes) : (s.hwAsk dst typ p).land.mirrorTick = s.land.mirrorTick := rfl
@[simp] theorem Device.hwAsk_land_plsEn (s : Device) (dst typ : Nat) (p : Bytes) : (s.hwAsk dst typ p).land.plsEn = s.land.plsEn := rfl
@[simp] theorem Device.hwAsk_land_plsDb (s : Device) (dst typ : Nat) (p : Bytes) : (s.hwAsk dst typ p).land.plsDb = s.land.plsDb := rfl
@[simp] theorem Device.hwAsk_land_queued (s : Device) (dst typ : Nat) (p : Bytes) : (s.hwAsk dst typ p).land.queued = s.land.queued := rfl
@[simp] theorem Device.hwAsk_land_adjLimit (s : Device) (dst typ : Nat) (p : Bytes) : (s.hwAsk dst typ p).land.adjLimit = s.land.adjLimit := rfl
@[simp] theorem Device.hwAsk_land_sealEn (s : Device) (dst typ : Nat) (p : Bytes) : (s.hwAsk dst typ p).land.sealEn = s.land.sealEn := rfl
@[simp] theorem Device.hwAsk_land_sealPeriod (s : Device) (dst typ : Nat) (p : Bytes) : (s.hwAsk dst typ p).land.sealPeriod = s.land.sealPeriod := rfl
@[simp] theorem Device.hwAsk_land_pwrEnMode (s : Device) (dst typ : Nat) (p : Bytes) : (s.hwAsk dst typ p).land.pwrEnMode = s.land.pwrEnMode := rfl
@[simp] theorem Device.hwAsk_land_pwrEnLead (s : Device) (dst typ : Nat) (p : Bytes) : (s.hwAsk dst typ p).land.pwrEnLead = s.land.pwrEnLead := rfl
@[simp] theorem Device.hwAsk_land_probeIn (s : Device) (dst typ : Nat) (p : Bytes) : (s.hwAsk dst typ p).land.probeIn = s.land.probeIn := rfl
@[simp] theorem Device.hwAsk_land_corrAt (s : Device) (dst typ : Nat) (p : Bytes) : (s.hwAsk dst typ p).land.corrAt = s.land.corrAt := rfl
@[simp] theorem Device.hwAsk_land_compAt (s : Device) (dst typ : Nat) (p : Bytes) : (s.hwAsk dst typ p).land.compAt = s.land.compAt := rfl
@[simp] theorem Device.hwAsk_land_divAt (s : Device) (dst typ : Nat) (p : Bytes) : (s.hwAsk dst typ p).land.divAt = s.land.divAt := rfl
@[simp] theorem Device.hwAsk_land_plsAt (s : Device) (dst typ : Nat) (p : Bytes) : (s.hwAsk dst typ p).land.plsAt = s.land.plsAt := rfl
@[simp] theorem Device.hwAsk_land_caseAt (s : Device) (dst typ : Nat) (p : Bytes) : (s.hwAsk dst typ p).land.caseAt = s.land.caseAt := rfl
@[simp] theorem Device.hwAsk_land_magAt (s : Device) (dst typ : Nat) (p : Bytes) : (s.hwAsk dst typ p).land.magAt = s.land.magAt := rfl
@[simp] theorem Device.hwSend_haw_deviceNo (s : Device) (dst typ : Nat) (p : Bytes) : (s.hwSend dst typ p).haw.deviceNo = s.haw.deviceNo := rfl
@[simp] theorem Device.hwSend_haw_role (s : Device) (dst typ : Nat) (p : Bytes) : (s.hwSend dst typ p).haw.role = s.haw.role := rfl
@[simp] theorem Device.hwSend_haw_expected (s : Device) (dst typ : Nat) (p : Bytes) : (s.hwSend dst typ p).haw.expected = s.haw.expected := rfl
@[simp] theorem Device.hwSend_haw_expectedKnown (s : Device) (dst typ : Nat) (p : Bytes) : (s.hwSend dst typ p).haw.expectedKnown = s.haw.expectedKnown := rfl
@[simp] theorem Device.hwSend_haw_retired (s : Device) (dst typ : Nat) (p : Bytes) : (s.hwSend dst typ p).haw.retired = s.haw.retired := rfl
@[simp] theorem Device.hwSend_haw_cfgFault (s : Device) (dst typ : Nat) (p : Bytes) : (s.hwSend dst typ p).haw.cfgFault = s.haw.cfgFault := rfl
@[simp] theorem Device.hwSend_haw_crcFail (s : Device) (dst typ : Nat) (p : Bytes) : (s.hwSend dst typ p).haw.crcFail = s.haw.crcFail := rfl
@[simp] theorem Device.hwSend_haw_secs (s : Device) (dst typ : Nat) (p : Bytes) : (s.hwSend dst typ p).haw.secs = s.haw.secs := rfl
@[simp] theorem Device.hwSend_haw_out (s : Device) (dst typ : Nat) (p : Bytes) : (s.hwSend dst typ p).haw.out = s.haw.out := rfl
@[simp] theorem Device.hwSend_haw_loop (s : Device) (dst typ : Nat) (p : Bytes) : (s.hwSend dst typ p).haw.loop = s.haw.loop := rfl
@[simp] theorem Device.hwSend_haw_loopDue (s : Device) (dst typ : Nat) (p : Bytes) : (s.hwSend dst typ p).haw.loopDue = s.haw.loopDue := rfl
@[simp] theorem Device.hwSend_haw_loopTick (s : Device) (dst typ : Nat) (p : Bytes) : (s.hwSend dst typ p).haw.loopTick = s.haw.loopTick := rfl
@[simp] theorem Device.hwSend_haw_loopTemp (s : Device) (dst typ : Nat) (p : Bytes) : (s.hwSend dst typ p).haw.loopTemp = s.haw.loopTemp := rfl
@[simp] theorem Device.hwSend_haw_syncing (s : Device) (dst typ : Nat) (p : Bytes) : (s.hwSend dst typ p).haw.syncing = s.haw.syncing := rfl
@[simp] theorem Device.hwSend_haw_syncActive (s : Device) (dst typ : Nat) (p : Bytes) : (s.hwSend dst typ p).haw.syncActive = s.haw.syncActive := rfl
@[simp] theorem Device.hwSend_haw_cfgParts (s : Device) (dst typ : Nat) (p : Bytes) : (s.hwSend dst typ p).haw.cfgParts = s.haw.cfgParts := rfl
@[simp] theorem Device.hwSend_haw_burst (s : Device) (dst typ : Nat) (p : Bytes) : (s.hwSend dst typ p).haw.burst = s.haw.burst := rfl
@[simp] theorem Device.hwSend_haw_lastBroadcast (s : Device) (dst typ : Nat) (p : Bytes) : (s.hwSend dst typ p).haw.lastBroadcast = s.haw.lastBroadcast := rfl
@[simp] theorem Device.hwSend_haw_wakeReq (s : Device) (dst typ : Nat) (p : Bytes) : (s.hwSend dst typ p).haw.wakeReq = s.haw.wakeReq := rfl
@[simp] theorem Device.hwSend_haw_synced (s : Device) (dst typ : Nat) (p : Bytes) : (s.hwSend dst typ p).haw.synced = s.haw.synced := rfl
@[simp] theorem Device.hwSend_haw_ownEpoch (s : Device) (dst typ : Nat) (p : Bytes) : (s.hwSend dst typ p).haw.ownEpoch = s.haw.ownEpoch := rfl
@[simp] theorem Device.hwSend_haw_hfxCorr (s : Device) (dst typ : Nat) (p : Bytes) : (s.hwSend dst typ p).haw.hfxCorr = s.haw.hfxCorr := rfl
@[simp] theorem Device.hwSend_haw_pushed (s : Device) (dst typ : Nat) (p : Bytes) : (s.hwSend dst typ p).haw.pushed = s.haw.pushed := rfl
@[simp] theorem Device.hwSend_haw_pushedThr (s : Device) (dst typ : Nat) (p : Bytes) : (s.hwSend dst typ p).haw.pushedThr = s.haw.pushedThr := rfl
@[simp] theorem Device.hwSend_haw_pushedCls (s : Device) (dst typ : Nat) (p : Bytes) : (s.hwSend dst typ p).haw.pushedCls = s.haw.pushedCls := rfl
@[simp] theorem Device.hwSend_haw_pushedTemp (s : Device) (dst typ : Nat) (p : Bytes) : (s.hwSend dst typ p).haw.pushedTemp = s.haw.pushedTemp := rfl
@[simp] theorem Device.hwSend_haw_job (s : Device) (dst typ : Nat) (p : Bytes) : (s.hwSend dst typ p).haw.job = s.haw.job := rfl
@[simp] theorem Device.hwSend_haw_cycle (s : Device) (dst typ : Nat) (p : Bytes) : (s.hwSend dst typ p).haw.cycle = s.haw.cycle := rfl
@[simp] theorem Device.hwSend_haw_sampling (s : Device) (dst typ : Nat) (p : Bytes) : (s.hwSend dst typ p).haw.sampling = s.haw.sampling := rfl
@[simp] theorem Device.hwSend_haw_turn (s : Device) (dst typ : Nat) (p : Bytes) : (s.hwSend dst typ p).haw.turn = s.haw.turn := rfl
@[simp] theorem Device.hwSend_haw_turnSent (s : Device) (dst typ : Nat) (p : Bytes) : (s.hwSend dst typ p).haw.turnSent = s.haw.turnSent := rfl
@[simp] theorem Device.hwSend_haw_loopIdx (s : Device) (dst typ : Nat) (p : Bytes) : (s.hwSend dst typ p).haw.loopIdx = s.haw.loopIdx := rfl
@[simp] theorem Device.hwSend_haw_loopSeq (s : Device) (dst typ : Nat) (p : Bytes) : (s.hwSend dst typ p).haw.loopSeq = s.haw.loopSeq := rfl
@[simp] theorem Device.hwSend_haw_lastFrame (s : Device) (dst typ : Nat) (p : Bytes) : (s.hwSend dst typ p).haw.lastFrame = s.haw.lastFrame := rfl
@[simp] theorem Device.hwDone_fn (s : Device) : (s.hwDone).fn = s.fn := rfl
@[simp] theorem Device.hwDone_conf (s : Device) : (s.hwDone).conf = s.conf := rfl
@[simp] theorem Device.hwDone_straps (s : Device) : (s.hwDone).straps = s.straps := rfl
@[simp] theorem Device.hwDone_refusals (s : Device) : (s.hwDone).refusals = s.refusals := rfl
@[simp] theorem Device.hwDone_tr (s : Device) : (s.hwDone).tr = s.tr := rfl
@[simp] theorem Device.hwDone_flow (s : Device) : (s.hwDone).flow = s.flow := rfl
@[simp] theorem Device.hwDone_cap (s : Device) : (s.hwDone).cap = s.cap := rfl
@[simp] theorem Device.hwDone_pulse (s : Device) : (s.hwDone).pulse = s.pulse := rfl
@[simp] theorem Device.hwDone_temp (s : Device) : (s.hwDone).temp = s.temp := rfl
@[simp] theorem Device.hwDone_toll (s : Device) : (s.hwDone).toll = s.toll := rfl
@[simp] theorem Device.hwDone_bill (s : Device) : (s.hwDone).bill = s.bill := rfl
@[simp] theorem Device.hwDone_jnl (s : Device) : (s.hwDone).jnl = s.jnl := rfl
@[simp] theorem Device.hwDone_land (s : Device) : (s.hwDone).land = s.land := rfl
@[simp] theorem Device.hwDone_radio (s : Device) : (s.hwDone).radio = s.radio := rfl
@[simp] theorem Device.hwDone_disp (s : Device) : (s.hwDone).disp = s.disp := rfl
@[simp] theorem Device.hwDone_sec (s : Device) : (s.hwDone).sec = s.sec := rfl
@[simp] theorem Device.hwDone_opt (s : Device) : (s.hwDone).opt = s.opt := rfl
@[simp] theorem Device.hwDone_power (s : Device) : (s.hwDone).power = s.power := rfl
@[simp] theorem Device.hwDone_store (s : Device) : (s.hwDone).store = s.store := rfl
@[simp] theorem Device.hwDone_st (s : Device) : (s.hwDone).st = s.st := rfl
@[simp] theorem Device.hwDone_free (s : Device) : (s.hwDone).free = s.free := rfl
@[simp] theorem Device.setSec_fn (s : Device) (k : Nat) (f : Secondary → Secondary) : (s.setSec k f).fn = s.fn := by unfold Device.setSec; split <;> rfl
@[simp] theorem Device.setSec_conf (s : Device) (k : Nat) (f : Secondary → Secondary) : (s.setSec k f).conf = s.conf := by unfold Device.setSec; split <;> rfl
@[simp] theorem Device.setSec_straps (s : Device) (k : Nat) (f : Secondary → Secondary) : (s.setSec k f).straps = s.straps := by unfold Device.setSec; split <;> rfl
@[simp] theorem Device.setSec_refusals (s : Device) (k : Nat) (f : Secondary → Secondary) : (s.setSec k f).refusals = s.refusals := by unfold Device.setSec; split <;> rfl
@[simp] theorem Device.setSec_tr (s : Device) (k : Nat) (f : Secondary → Secondary) : (s.setSec k f).tr = s.tr := by unfold Device.setSec; split <;> rfl
@[simp] theorem Device.setSec_flow (s : Device) (k : Nat) (f : Secondary → Secondary) : (s.setSec k f).flow = s.flow := by unfold Device.setSec; split <;> rfl
@[simp] theorem Device.setSec_cap (s : Device) (k : Nat) (f : Secondary → Secondary) : (s.setSec k f).cap = s.cap := by unfold Device.setSec; split <;> rfl
@[simp] theorem Device.setSec_pulse (s : Device) (k : Nat) (f : Secondary → Secondary) : (s.setSec k f).pulse = s.pulse := by unfold Device.setSec; split <;> rfl
@[simp] theorem Device.setSec_temp (s : Device) (k : Nat) (f : Secondary → Secondary) : (s.setSec k f).temp = s.temp := by unfold Device.setSec; split <;> rfl
@[simp] theorem Device.setSec_toll (s : Device) (k : Nat) (f : Secondary → Secondary) : (s.setSec k f).toll = s.toll := by unfold Device.setSec; split <;> rfl
@[simp] theorem Device.setSec_bill (s : Device) (k : Nat) (f : Secondary → Secondary) : (s.setSec k f).bill = s.bill := by unfold Device.setSec; split <;> rfl
@[simp] theorem Device.setSec_jnl (s : Device) (k : Nat) (f : Secondary → Secondary) : (s.setSec k f).jnl = s.jnl := by unfold Device.setSec; split <;> rfl
@[simp] theorem Device.setSec_land (s : Device) (k : Nat) (f : Secondary → Secondary) : (s.setSec k f).land = s.land := by unfold Device.setSec; split <;> rfl
@[simp] theorem Device.setSec_radio (s : Device) (k : Nat) (f : Secondary → Secondary) : (s.setSec k f).radio = s.radio := by unfold Device.setSec; split <;> rfl
@[simp] theorem Device.setSec_disp (s : Device) (k : Nat) (f : Secondary → Secondary) : (s.setSec k f).disp = s.disp := by unfold Device.setSec; split <;> rfl
@[simp] theorem Device.setSec_sec (s : Device) (k : Nat) (f : Secondary → Secondary) : (s.setSec k f).sec = s.sec := by unfold Device.setSec; split <;> rfl
@[simp] theorem Device.setSec_opt (s : Device) (k : Nat) (f : Secondary → Secondary) : (s.setSec k f).opt = s.opt := by unfold Device.setSec; split <;> rfl
@[simp] theorem Device.setSec_power (s : Device) (k : Nat) (f : Secondary → Secondary) : (s.setSec k f).power = s.power := by unfold Device.setSec; split <;> rfl
@[simp] theorem Device.setSec_store (s : Device) (k : Nat) (f : Secondary → Secondary) : (s.setSec k f).store = s.store := by unfold Device.setSec; split <;> rfl
@[simp] theorem Device.setSec_st (s : Device) (k : Nat) (f : Secondary → Secondary) : (s.setSec k f).st = s.st := by unfold Device.setSec; split <;> rfl
@[simp] theorem Device.setSec_free (s : Device) (k : Nat) (f : Secondary → Secondary) : (s.setSec k f).free = s.free := by unfold Device.setSec; split <;> rfl

end Sys2Proof.Machine
end

