-- ==== Sys2Proof/Machine/Pins.lean ====
section
/-! DEFINITION. The pins in each power state, the crossbar of the transducer ports, the drive of a display segment, as the
state gives them (R34, R79, R410, R412, R430). -/

namespace Sys2Proof.Machine

/-! ## Names (R34) -/

/-- The pins of R34, in the order of its rows; those that a row covers and that differ among themselves carry a number. -/
inductive Pin where
  | seg (n : Nat) | tp | pump | td (port : Nat) | therm | bridge | cfg | rf | hfx | lfx | refIn | button | resetN | alert
  | busy | shot | plsOut (n : Nat) | plsIn (n : Nat) | sealA | sealB | caseIn | magIn | pwrEn | optTx | optRx | hw | tck
  | tms | tdi | tdo | trstN
deriving DecidableEq, Repr

/-- The pin states of R34. -/
inductive PinState where
  | e | z | pd | off | dis | discharged | a | out | drivenLow | od | inp | inw | inOut
deriving DecidableEq, Repr

/-- The columns of R34. -/
inductive PinColumn where
  | ship | hibernate | nap | doze | run
deriving DecidableEq, Repr

/-- The column of the present power state. An unpowered switched domain is taken like HIBERNATE, and with a Landing that
is lost too like SHIP (DEDUCED, log 30). -/
def Device.pinColumn (s : Device) : PinColumn :=
  match s.power.st with
  | .ship => .ship
  | .hibernate => .hibernate
  | .nap => .nap
  | .doze => .doze
  | .run => .run
  | .unpowered => if s.land.supply = .lost then .ship else .hibernate

/-! ## The crossbar (R79) -/

/-- A port of this device in a path-pair: its driver in the burst, then the receive chain that it switches to. -/
structure PortLink where
  driver1 : Bool
  chainB : Bool
deriving DecidableEq, Repr

/-- What the crossbar connects for a path with a parity: `port_up` to D0 and to chain A with parity 0, `port_down` to D1
and to chain B; `dev` is the device whose port it is. -/
def PathP.link (p : PathP) (parity : Bool) (dev port : Nat) : Option PortLink :=
  if p.devUp = dev ∧ p.portUp = port then some ⟨false, parity⟩
  else if p.devDown = dev ∧ p.portDown = port then some ⟨true, !parity⟩
  else none

/-- The link of a port of this device in the path-pair in flight; none for a port that is held in DIS. -/
def Device.portLink (s : Device) (port : Nat) : Option PortLink :=
  match s.haw.job, s.tr.cyc.inFlight with
  | some j, _ => (((s.haw.pushed.find? (·.path == j.path)).map PushedPath.p).getD {}).link j.parity s.haw.deviceNo port
  | none, some i => ((s.flightKey i).1.getD {}).link (s.pathAt i).tune.parity 0 port
  | none, none => none

/-! ## Segments (R410, R412, R413, R430) -/

/-- Levels of a segment pin in a waveform. -/
inductive SegDrive where
  | v0 | plus7 | minus7 | plus15 | minus15 | e
deriving DecidableEq, Repr

/-- The level of a phase code (R413). -/
def segLevel (code : Nat) : SegDrive :=
  match code with
  | 0 => .v0
  | 1 => .plus7
  | 2 => .minus7
  | 3 => .plus15
  | 4 => .minus15
  | _ => .e

/-- The code of the phase that holds frame `f`; none after the last. -/
def phaseAt : List Nat → Nat → Option Nat
  | [], _ => none
  | p :: ps, f => if f ≤ field p 3 9 then some (p % 8) else phaseAt ps (f - field p 3 9 - 1)

/-- The level of segment `x` in the frame that its region shows; E where no waveform of its own runs (R414, R418). -/
def Display.segDrive (d : Display) (x : Nat) : SegDrive :=
  if d.tables.used x then
    match (d.regions.getD (d.tables.region x) {}).run with
    | some w =>
      let y := d.image.getD x (12, 12)
      let idx := waveIndex w.band (if w.full then 12 else y.1) (y.2 / 4) (y.2 % 4)
      match phaseAt (wavePhases (d.tables.library.getD (d.tables.waveIdx.getD idx 0) [])) w.frame with
      | some c => segLevel c
      | none => .e
    | none => .e
  else .e

/-- The level of `TP0` and `TP1`: display common, 0 V, during a waveform (R412). -/
def Display.tpDrive (d : Display) : SegDrive := if d.regions.any (·.run.isSome) then .v0 else .e

/-- The rails that the pump generates: those of ±15 V in their own drive set alone (R412). -/
def Display.rails (d : Display) : List SegDrive :=
  if !d.timerRun then [] else if d.drive = 0 then [.plus15, .minus15, .plus7, .minus7] else [.plus7, .minus7]

/-! ## The table of R34 -/

/-- A conversion of this device runs: of its own sample, or of one for its primary. -/
def Device.converting (s : Device) : Bool := s.temp.running || s.haw.sampling

/-- The radio path is in use: an exchange, or an open window. -/
def Device.radioPath (s : Device) : Bool :=
  s.radio.exch.isSome || s.radio.joinOpen || s.radio.children.any (·.windowOpen)

/-- States of a pin in the five columns, SHIP to RUN. -/
def byColumn (c : PinColumn) (ship hib nap doze run : PinState) : PinState :=
  match c with
  | .ship => ship
  | .hibernate => hib
  | .nap => nap
  | .doze => doze
  | .run => run

/-- The state of a pin (R34). Strap pins are connected within one strap read alone, and `TDO` drives within one shift
alone, so that no state between commands shows either. A conversion or a radio exchange may run in DOZE (R471); the column
for DOZE stands as the table has it all the same (DEDUCED, log 30). -/
def Device.pin (s : Device) (p : Pin) : PinState :=
  let by5 := byColumn s.pinColumn
  let act := fun (b : Bool) => if b then PinState.a else .off
  match p with
  | .seg x => by5 .e .e .e .e (if s.disp.segDrive x = .e then .e else .out)
  | .tp => by5 .e .e .e .e (if s.disp.tpDrive = .e then .e else .out)
  | .pump => by5 .discharged .discharged .discharged .discharged (if s.disp.rails = [] then .discharged else .a)
  | .td k => by5 .off .dis .dis .dis (if (s.portLink k).isSome then .a else .dis)
  | .therm => by5 .off .off .off .off (act s.converting)
  | .bridge => by5 .off .off .off .off (act (s.converting && s.bridgeOn))
  | .cfg => .off
  | .rf => by5 .off .off .off .off (act s.radioPath)
  | .hfx => by5 .off .off .off .a .a
  | .lfx => by5 .off .a .a .a .a
  | .refIn => by5 .z .z .z .z (if s.tr.tb.refinSel then .inp else .z)
  | .button => by5 .inw .inw .inw .inw .inp
  | .resetN => .inp
  | .alert => by5 .z .od .od .od .od
  | .busy => by5 .pd .drivenLow .drivenLow .drivenLow .out
  | .shot => by5 .z .z .inw .inw .inp
  | .plsOut _ => by5 .z .od .od .od .od
  | .plsIn _ => by5 .z .inp .inp .inp .inp
  | .sealA => by5 .z .out .out .out .out
  | .sealB | .caseIn | .magIn => by5 .z .inw .inw .inw .inp
  | .pwrEn => by5 .pd .out .out .out .out
  | .optTx => by5 .z .z .z .od .od
  | .optRx => by5 .z .z .inw .inw .inp
  | .hw => by5 .z .z .inw .inw .inOut
  | .tck | .tms | .tdi => by5 .z .z .z .inp .inp
  | .tdo => .z
  | .trstN => by5 .pd .inp .inp .inp .inp

/-! ## Levels of the pins that the device drives -/

/-- The level that the device gives an output: an open drain is low or released, `none` where the pin is not driven. -/
def Device.pinLevel (s : Device) (p : Pin) : Option Bool :=
  match p with
  | .alert => if s.pin p = .od && s.alert then some false else none
  | .busy => if s.pin p = .out then some s.busyPin else if s.pin p = .drivenLow then some false else none
  | .plsOut i => if s.pin p = .od && s.pulseLow i then some false else none
  | .sealA => if s.pin p = .out then some s.land.sealA else none
  | .pwrEn => if s.pin p = .out then some s.land.pwrEn else none
  | .seg _ | .tp | .pump | .td _ | .therm | .bridge | .cfg | .rf | .hfx | .lfx | .refIn | .button | .resetN | .shot
  | .plsIn _ | .sealB | .caseIn | .magIn | .optTx | .optRx | .hw | .tck | .tms | .tdi | .tdo | .trstN => none

end Sys2Proof.Machine
end

