-- ==== Sys2Proof/Tests/Slice0.lean ====
section
/-! SUPPORT. Tests: ill-formed commands are refused by the checks, worked examples of the manual, and for each statement
with hypotheses a state and operands that meet them. -/

namespace Sys2Proof.Tests

open Sys2Proof Sys2Proof.Machine

set_option Elab.async false

/-! ## An ill-formed term for each check -/

def stamp0 : RawStamp := ⟨0, 0⟩
def chain0 : ChainCapture := ⟨[], []⟩
def cap0 : PairCapture := ⟨stamp0, stamp0, chain0, chain0, 0, 0, false⟩
def conv0 : Conv := ⟨0, true, true⟩
def sample0 : SampleInput := ⟨0, 0, List.replicate 4 (conv0, conv0), (⟨0, 0⟩, ⟨0, 0⟩)⟩
def straps0 : StrapReads := List.replicate 12 [(136894, 136894)]
def cold0 : ColdStartInput := ⟨900, List.replicate 9 (true, true, []), none, .clean, true, straps0, [], 5120⟩

theorem wf_accepts : [Instr.pathPairDone 0 cap0, .sampleComplete 0 sample0, .strapReread 0 straps0, .coldStart 0 cold0,
    .wake 0 8, .parentWindowOpen 0 500, .dlExpired 0 23, .pulseInCount 0 3, .pulseOutStart 0 1,
    .selftestStep 0 9 900 true true true [2 ^ 32 - 1], .tdcCalStep 0 (.loopback 7 0 0), .tempCompensation 0 (-32768)].all
      Instr.wf = true := by decide

theorem wf_refuses_stamps : Instr.wf (.pathPairDone 0 { cap0 with startUp := ⟨2 ^ 24, 0⟩ }) = false ∧
    Instr.wf (.pathPairDone 0 { cap0 with chainB := ⟨[], [⟨0, 12288⟩]⟩ }) = false := by decide

theorem wf_refuses_adc_samples : Instr.wf (.pathPairDone 0 { cap0 with chainA := ⟨[2048], []⟩ }) = false := by decide

theorem wf_refuses_conversions : Instr.wf (.sampleComplete 0 { sample0 with ref1 := 2 ^ 32 }) = false ∧
    Instr.wf (.sampleComplete 0 { sample0 with chans := [(conv0, conv0)] }) = false ∧
    Instr.wf (.sampleComplete 0 { sample0 with chans := List.replicate 4 (⟨2 ^ 32, true, true⟩, conv0) }) = false ∧
    Instr.wf (.sampleComplete 0 { sample0 with bridge := (⟨2 ^ 31, 0⟩, ⟨0, 0⟩) }) = false := by decide

theorem wf_refuses_straps : Instr.wf (.strapReread 0 []) = false ∧
    Instr.wf (.strapReread 0 (List.replicate 12 (List.replicate 4 (0, 0)))) = false := by decide

theorem wf_refuses_calibration_steps : Instr.wf (.tdcCalStep 0 (.density 17 (List.replicate 96 0))) = false ∧
    Instr.wf (.tdcCalStep 0 (.density 1 [])) = false ∧ Instr.wf (.tdcCalStep 0 (.loopback 8 0 0)) = false ∧
    Instr.wf (.tdcCalTrigger 0 32768) = false ∧ Instr.wf (.tempCompensation 0 (-32769)) = false ∧
    Instr.wf (.loopcalRun 0 32768) = false := by decide

theorem wf_refuses_cold_starts : Instr.wf (.coldStart 0 { cold0 with tests := [] }) = false ∧
    Instr.wf (.coldStart 0 { cold0 with straps := [] }) = false ∧
    Instr.wf (.coldStart 0 { cold0 with tdcSteps := [.loopback 8 0 0] }) = false ∧
    Instr.wf (.coldStart 0 { cold0 with dieTemp := 32768 }) = false := by decide

theorem wf_refuses_findings : Instr.wf (.scrubStep 0 (.singles [(65536, ⟨0, .double⟩)]) false) = false ∧
    Instr.wf (.scrubStep 0 (.singles [(0, ⟨65536, .double⟩)]) false) = false ∧
    Instr.wf (.scrubStep 0 (.triples [(0, ⟨0, .good 0⟩, ⟨1, .good (2 ^ 32)⟩, ⟨2, .good 0⟩)]) false) = false ∧
    Instr.wf (.scrubStep 0 (.singles (List.replicate 17 (0, ⟨0, .double⟩))) false) = false := by decide

theorem wf_refuses_self_tests : Instr.wf (.selftestStep 0 10 900 true true true []) = false ∧
    Instr.wf (.selftestStep 0 9 900 true true true [2 ^ 32]) = false := by decide

theorem wf_refuses_numbers : Instr.wf (.wake 0 0) = false ∧ Instr.wf (.wake 0 9) = false ∧
    Instr.wf (.pulseInCount 0 4) = false ∧ Instr.wf (.pulseOutStart 0 2) = false ∧ Instr.wf (.pulseOutRelease 0 2) = false ∧
    Instr.wf (.parentWindowOpen 0 0) = false ∧ Instr.wf (.windowMiss 0 501) = false ∧ Instr.wf (.searchWindow 0 0) = false ∧
    Instr.wf (.childEvicted 0 501) = false ∧ Instr.wf (.dlExpired 0 24) = false ∧ Instr.wf (.proxyExpired 0 24) = false := by
  decide

def frame0 : RxFrame := ⟨[], 2, 0, 0, 0, 0, false⟩

theorem wf_refuses_frames : RxFrame.wf { frame0 with psdu := List.replicate 256 0 } = false ∧
    RxFrame.wf { frame0 with fcsLen := 3 } = false ∧ RxFrame.wf { frame0 with rssi := 128 } = false ∧
    RxFrame.wf { frame0 with chan := 129 } = false ∧ RxFrame.wf frame0 = true ∧ HwFrame.wf ⟨[0, 0, 0, 0, 0], stamp0⟩ = false ∧
    HwFrame.wf ⟨List.replicate 262 0, stamp0⟩ = false ∧
    HwFrame.wf ⟨List.replicate 6 0, ⟨2 ^ 24, 0⟩⟩ = false := by decide +kernel

theorem wf_refuses_long_records : recWf (List.replicate 16384 0) = false := by decide +kernel

theorem wf_refuses_long_optical_frames : optWf (List.replicate 16408 0) = false := by decide +kernel

theorem wf_uses_the_frame_checks (b : Bytes) (f : RxFrame) (h : HwFrame) : Instr.wf (.calib 0 .optical b) = recWf b ∧
    Instr.wf (.optRecord 0 b none) = optWf b ∧ Instr.wf (.rxPoll 0 f) = f.wf ∧ Instr.wf (.fire 0 ⟨h, none⟩) = h.wf :=
  ⟨rfl, rfl, rfl, rfl⟩

/-! ## Worked examples of the manual -/

/-- R5. -/
theorem test_signed_fields : signedOf 64 0x0000000180000000 = 6442450944 ∧ signedOf 64 0xFFFFFFFFC0000000 = -1073741824 := by
  decide

/-- R116. -/
theorem test_transit_time : transitT 846574277 131092 1024000 12000000 = 10438604880 ∧
    transitT 846575321 131167 1000960 12000000 = 10438625424 ∧ rne 10438604880 256 = 40775800 ∧
    rne 10438625424 256 = 40775881 := by decide

/-- R102, R117. -/
theorem test_pair_times :
    timesOf 5986545 1342177 10438604880 10438625424 = ⟨40775578, 40775659, 20544, 101118460⟩ := by decide

/-- R162. -/
theorem test_path_velocity : pathVelocity ⟨12000000, 1342177, 1162361, 0⟩
    { tUd := 40775578, tDu := 40775659, dt := 20544 } = 29414 := by decide

/-- R302. -/
theorem test_compensation : (Landing.compensate {} 17920).corrOwed = 144 ∧ (Landing.compensate {} 17920).compAcc = 24537 := by
  decide

def europe : Calendar :=
  { tzStd := 60, dstEn := true, dstDelta := 60, dstStart := ⟨3, 5, 6, 120⟩, dstEnd := ⟨10, 5, 6, 120⟩ }

/-- R308. -/
theorem test_calendar : timeNow europe 32306488950784 =
    { dst := true, utcWday := 6, utcDay := 11411, utcSec := 5400, year := 2031, month := 3, day := 30, minute := 210
      second := 0, wday := 6, offset := 120 } := by decide

/-- R311. -/
theorem test_normalised_dates : normaliseDate 2031 14 0 24 10 0 = normaliseDate 2032 2 1 0 10 0 ∧
    normaliseDate 2031 2 29 12 0 0 = normaliseDate 2031 3 1 12 0 0 ∧
    normaliseDate 2032 4 31 8 0 0 = normaliseDate 2032 5 1 8 0 0 ∧
    normaliseDate 2032 13 31 6 0 0 = normaliseDate 2033 1 31 6 0 0 ∧
    normaliseDate 2030 1 0 0 0 0 = normaliseDate 2029 12 31 0 0 0 ∧ normaliseDate 2000 1 0 0 0 0 = none ∧
    (normaliseDate 2032 2 1 0 10 0).isSome = true := by decide

/-- R364, R365. -/
theorem test_drift : expectAt 0 235929600 1649267 = 64 * 235929600 + 22649 ∧ guardTicks 3 235929600 = 772 ∧
    (Child.learn { idx := 0, driftValid := true, tSync := 0, d := 1649267, tExp := 64 * 235929600 - 96 }
      (64 * 235929600)).d = 1651015 := by decide

/-! ## Hypotheses that are met

`Meets d p` says that the device, once no cycle has passed from `d`, has the property `p`. -/

def at0 (d : Device) : State := ⟨d, []⟩

abbrev Meets (d : Device) (p : Device → Prop) : Prop := p ((at0 d).dev.elapse 0)

/-- The same once source `n` has woken the domain. -/
abbrev Rouses (n : Nat) (d : Device) (p : Device → Prop) : Prop := p (((at0 d).dev.elapse 0).woken n)

/-- A device that is up and in RUN; its oscillator stands, so that no time passes. -/
def base : Device := { power := { phase := .running, st := .run } }

/-- The same with its oscillator running. -/
def ticker : Device := { base with land := { lfxRunning := true } }

def onF : FuncState := { st := .on, wanted := true }

/-- What a device in RUN meets, it meets woken too. -/
theorem rouses_of_meets (n : Nat) (d : Device) (p : Device → Prop) (h : (d.elapse 0).power.st = .run) (m : Meets d p) :
    Rouses n d p := by
  have e : (d.elapse 0).woken n = d.elapse 0 := by
    have a : (PState.run == PState.hibernate) = false := rfl
    have b : (PState.run == PState.nap) = false := rfl
    simp only [Device.woken, h, a, b, Bool.or_self, Bool.and_false, Bool.false_and, Bool.false_eq_true, ↓reduceIte]
  unfold Rouses; simp only [at0, e]; exact m

/-- A device that its alarm, a `SHOT` edge or `BUTTON` finds in NAP is up and awake when the command acts. -/
theorem witness_woken : ∀ n ∈ [1, 3, 5], Rouses n { base with
      power := { phase := .running, st := .nap }, land := { alarms := List.replicate 12 { fired := true } } } (fun d =>
    d.up = true ∧ d.awake = true ∧ d.power.st = .doze ∧ d.fired 4 = true ∧ d.power.wakeSrc = n) := by decide

theorem witness_IdleStepAndTimePassing :
    (ticker.land.lfxRunning = true ∧ ticker.land.supply ≠ .lost ∧ ticker.power.st ≠ .ship ∧ ticker.land.tick ≤ 2 ^ 48 - 1) ∧
    base.land.lfxRunning = false ∧ ({ ticker with land := { supply := .lost } } : Device).land.supply = .lost ∧
    ({ ticker with power := { st := .ship } } : Device).power.st = .ship ∧ (at0 base).pending = [] ∧
    (ticker.elapse (2 ^ 48)).land.tick = 2 ^ 48 - 1 := by decide

theorem witness_LifeSafeKept : LifeSafe State.reset ∧
    step State.reset = .next { State.reset with dev := State.reset.dev.elapse 1 } := ⟨by unfold LifeSafe; decide, rfl⟩

theorem witness_FusesAreNeverUnblown :
    let s := at0 { base with sec := { fuseP := true, fuseS := true, fuseX := true } }
    step s = .next { s with dev := s.dev.elapse 1 } ∧ s.dev.sec.fuseP = true ∧ s.dev.sec.fuseS = true ∧
    s.dev.sec.fuseX = true := ⟨rfl, by decide⟩

/-- A cold start that finds no readable life-cycle copy and no fuse blown. -/
theorem witness_LifeCycleMovesOnlyAsTabled :
    (match exec (.coldStart 0 { cold0 with lcReadable := false }) (at0 { sec := { lc := .calibrate }, power := { landRestarted := false } }) with
      | .next t => decide (t.dev.sec.lc ≠ .calibrate)
      | .fault _ | .refused _ => false) = true := by decide +kernel

theorem witness_OnlyRecordsAndColdStartsTouchTheLifeCycle :
    ∃ t : Device, exec (.vextTakeover 0) (at0 base) = .next (at0 t) ∧ t.power.vext = true := ⟨_, rfl, rfl⟩

theorem witness_FunctionStatesFollowTheTable :
    (∀ f ∈ [({} : FuncState), onF, { st := .stopping }, { st := .stopping, latch := true }],
      f.retired = false ∧ f.cycling = false) ∧ (base.fn.get .transit).st = .off ∧ (base.fn.get .transit).enable.st = .on ∧
    (({ base with fn := { transit := { st := .stopping } } } : Device).fn.get .transit).st = .stopping ∧
    ticker.ticking = true := by decide

theorem witness_StrapBandsDecode : strapCode ((2291 * 2 ^ 20 + 19999) / 20000) = some 0 ∧
    strapCode (2291 * 2 ^ 20 / 20000) = none ∧ strapCode (244080 * 2 ^ 20 / 20000) = some 15 ∧
    strapCode ((244080 * 2 ^ 20 + 19999) / 20000) = none ∧ strapCode 1967912 = some 9 ∧ strapCode 2282488 = none := by decide

theorem witness_LittleEndianFields : (255 : Nat) < 256 ^ 1 ∧ leNat (leBytes 1 255) = 255 ∧
    signedOf 16 (leNat (leBytesS 2 (-32768))) = -32768 ∧ (leBytes 2 0x1234).getD 1 0 = 0x12#8 := by decide

theorem witness_SupplyFallsInOrder :
    Meets base (fun d => d.power.st ≠ .ship ∧ d.land.supply = .bat ∧ d.land.pendSet = none ∧ d.started = true) ∧
    Meets {} (fun d => d.power.st ≠ .ship ∧ d.land.supply = .bat ∧ d.started = false) ∧
    Meets { base with land := { pendSet := some (.abs 0) } } (fun d => d.land.supply = .bat ∧ d.land.pendSet ≠ none) ∧
    Meets { base with land := { supply := .batLock } } (fun d => d.land.supply = .batLock) ∧
    Meets { base with land := { supply := .bkp } } (fun d => d.land.supply = .bkp) := by decide

theorem witness_SupplyReturns :
    Meets { base with land := { supply := .batLock } } (fun d => d.power.st ≠ .ship ∧ d.land.supply = .batLock) ∧
    Meets { base with land := { supply := .bkp } } (fun d => d.land.supply = .bkp) ∧
    Meets { base with land := { supply := .lost } } (fun d => d.land.supply = .lost) := by decide

theorem witness_LfxStopHoldsTheCount :
    Meets { ticker with power := { st := .nap } } (fun d => d.land.supply ≠ .lost ∧ d.power.st ≠ .ship ∧
      d.land.lfxRunning = true ∧ (d.up && d.awake) = false) ∧
    Meets ticker (fun d => d.land.lfxRunning = true ∧ d.up = true ∧ d.awake = true ∧ d.secondary = false) := by decide

theorem witness_CorrectionSlotMovesTheCountByOne :
    Meets { ticker with land := { lfxRunning := true, osc := 300, divAt := 44, corrOwed := 1, tick := 2 ^ 48 - 1 } } (fun d =>
      d.ticking = true ∧ (d.land.osc - d.land.divAt) % 256 = 0 ∧ d.land.osc ≠ d.land.corrAt ∧ 0 < d.land.corrOwed) ∧
    Meets { ticker with land := { lfxRunning := true, osc := 256, corrOwed := -1 } } (fun d => d.land.corrOwed < 0) ∧
    Meets { ticker with land := { lfxRunning := true, osc := 256 } } (fun d => d.land.corrOwed = 0) ∧
    Meets { ticker with land := { lfxRunning := true, osc := 255 } } (fun d => (d.land.osc - d.land.divAt) % 256 ≠ 0) ∧
    (at0 ticker).dev.ticking = true ∧ (at0 ticker).dev.land.tick ≤ 2 ^ 48 - 1 := by decide

theorem witness_TrimAndCompensationOweCorrections :
    Meets { ticker with land := { lfxRunning := true, trimAcc := 2 ^ 25 } } (fun d =>
      d.ticking = true ∧ 2 ^ (d.land.lf.trimK + 15) ≤ d.land.trimAcc) ∧
    Meets { ticker with land := { lfxRunning := true, osc := 2097152 + 5, divAt := 5 } } (fun d =>
      d.ticking = true ∧ (d.land.osc - d.land.divAt) % 2097152 = 0 ∧ d.land.osc ≠ d.land.compAt) := by decide

theorem witness_TrimFallsExactlyNTimesInAWindow :
    let l : Landing := { lf := { trimN := -3 }, trimAcc := 2 ^ 25 - 1 }
    l.trimAcc < 2 ^ (l.lf.trimK + 15) ∧ 2 < l.lf.trimN.natAbs := by decide

theorem witness_CalendarFieldsAndAdjDay :
    Meets { ticker with land := { lfxRunning := true, tick := 2831155200 + 32767 } } (fun d =>
      d.ticking = true ∧ d.land.tick % 2831155200 < 32768) ∧
    Meets { ticker with land := { lfxRunning := true, tick := 2831155200 + 32768 } } (fun d =>
      d.ticking = true ∧ 32768 ≤ d.land.tick % 2831155200) ∧ Meets base (fun d => d.ticking = false) := by decide

theorem witness_TimeSetIsApplied :
    Meets { ticker with land := { lfxRunning := true, pendSet := some (.abs 65535) } } (fun d => d.ticking = true ∧
      d.land.supply = .bat ∧ d.secondary = false ∧ d.land.pendSet = some (.abs 65535) ∧ d.trusted = false) ∧
    Meets { ticker with land := { lfxRunning := true, oscStopped := false, neverSet := false, tick := 983040
                                  pendSet := some (.rel (-983040)) } } (fun d => d.ticking = true ∧ d.trusted = true ∧
      0 ≤ (d.land.tick : Int) + -983040 ∧ (d.land.tick : Int) + -983040 ≤ 2 ^ 48 - 1 ∧
      d.land.adjDay + (-983040 : Int).natAbs ≤ d.land.adjLimit * 32768) ∧
    Meets { ticker with land := { lfxRunning := true, oscStopped := false, neverSet := false, pendSet := some (.rel 983041) } }
      (fun d => d.ticking = true ∧ d.trusted = true ∧ (d.land.tick : Int) + 983041 ≤ 2 ^ 48 - 1 ∧
      d.land.adjLimit * 32768 < d.land.adjDay + (983041 : Int).natAbs) ∧
    Meets { ticker with land := { supply := .bkp } } (fun d => d.land.supply ≠ .bat) := by decide

def seven : List TamperEvt := List.replicate 7 ⟨.magOn, 0, true⟩

theorem witness_SealCaseAndMagnetAreWatched :
    Meets { base with land := { fifo := seven, probeIn := 32768, osc := 33 } } (fun d => d.land.supply ≠ .lost ∧
      d.power.st ≠ .ship ∧ d.secondary = false ∧ d.land.fifo.length < 8 ∧ d.land.sealEn = true ∧
      d.land.sealPeriod ≤ d.land.probeIn ∧ d.land.sealFail = 0 ∧ d.land.sealSt ≠ .short ∧ 33 ≤ d.land.probeIn ∧
      d.land.caseOpen ≠ true ∧ d.land.mag ≠ true ∧ d.land.caseAt + 33 ≤ d.land.osc ∧ d.land.magAt + 33 ≤ d.land.osc) ∧
    Meets { base with land := { probeIn := 32768, sealFail := 1 } } (fun d => 1 ≤ d.land.sealFail ∧ d.land.sealSt ≠ .opened) ∧
    Meets { base with land := { probeIn := 32768, sealGood := 1, sealSt := .opened } } (fun d =>
      1 ≤ d.land.sealGood ∧ d.land.sealSt ≠ .ok) ∧
    Meets { base with land := { osc := 32, probeIn := 32 } } (fun d => d.land.osc < d.land.caseAt + 33 ∧
      d.land.osc < d.land.magAt + 33 ∧ d.land.probeIn < 33) ∧
    Meets { base with power := { st := .nap }, land := { osc := 33, fifo := ⟨.caseOpen, 0, true⟩ :: seven } } (fun d =>
      d.land.caseOpen ≠ true ∧ d.land.caseAt + 33 ≤ d.land.osc ∧ 8 ≤ d.land.fifo.length ∧ (d.up && d.awake) = false) := by
  decide

theorem witness_TamperFifoIsCounted :
    Rouses 7 { base with sec := { lc := .sealed }, land := { fifo := ⟨.sealShort, 5, false⟩ :: seven } } (fun d => d.up = true ∧
      d.sec.lc.counted = true ∧ d.sec.tamper.length = 24 ∧ (d.sec.tamper.getD 3 {}).count + d.land.fifo.length < 2 ^ 32 ∧
      (d.land.fifo.filter (·.kind == .sealShort)).getLast? = some ⟨.sealShort, 5, false⟩) ∧
    Rouses 7 base (fun d => d.sec.lc.counted = false) := by decide

theorem witness_PulseInputsCount :
    Meets { base with land := { osc := 9, plsEn := 8, plsDb := [0, 0, 0, 4], plsAt := [4, 0, 0, 1]
                                plsCount := [0, 0, 0, 2 ^ 48 - 1] } } (fun d => d.land.supply ≠ .lost ∧
      d.power.st ≠ .ship ∧ d.secondary = false ∧ bitAt d.land.plsEn 3 = true ∧ d.land.plsDb[3]? = some 4 ∧
      d.land.plsAt[3]? = some 1 ∧ 1 + 2 * max 3 4 ≤ d.land.osc ∧ d.land.plsCount[3]? = some (2 ^ 48 - 1) ∧
      bitAt d.land.plsEn 0 = false ∧ d.land.plsAt[0]? = some 4 ∧ d.land.plsDb[0]? = some 0 ∧ d.land.osc < 4 + 2 * max 3 0) := by
  decide

theorem witness_PulseOutputsEmitWhatIsOwed :
    Meets { ticker with fn := { pulseOut := onF }, pulse := { ch0 := { owed := 1 }, ch1 := { owed := 65535, phase := .gap } } }
      (fun d => d.land.supply ≠ .lost ∧ d.power.st ≠ .ship ∧ d.land.lfxRunning = true ∧ d.on .pulseOut = true ∧
        0 < d.pulse.ch0.owed ∧ d.pulse.ch0.phase = .idle ∧ 0 < d.pulse.ch1.owed ∧ d.pulse.ch1.phase = .gap ∧
        d.pulse.ch1.remain = 0) ∧
    Meets { ticker with pulse := { ch0 := { phase := .low }, ch1 := { phase := .low } } } (fun d =>
      d.pulse.ch0.phase = .low ∧ d.pulse.ch0.remain = 0 ∧ d.pulse.ch1.phase = .low ∧ d.pulse.ch1.remain = 0) ∧
    Meets { ticker with pulse := { ch0 := { remain := 1 }, ch1 := { remain := 1 } } } (fun d =>
      0 < d.pulse.ch0.remain ∧ 0 < d.pulse.ch1.remain) := by decide

theorem witness_FunctionsDrainAndRestart :
    Meets { base with fn := { transit := { st := .stopping, latch := true } } } (fun d =>
      (d.fn.get .transit).st = .stopping ∧ d.drainedOf .transit = true ∧ (d.fn.get .transit).latch = true) ∧
    Meets { base with fn := { pulseOut := { st := .stopping } }, pulse := { ch0 := { owed := 7 } } } (fun d =>
      (d.fn.get .pulseOut).st = .stopping ∧ d.drainedOf .pulseOut = true ∧ (d.fn.get .pulseOut).latch = false) ∧
    Meets base (fun d => (d.fn.get .transit).st ≠ .stopping) ∧
    (let s := at0 { ticker with fn := { display := { cycling := true } } }
     s.dev.ticking = true ∧ (s.dev.fn.get .display).st = .off ∧ (s.dev.fn.get .display).cycling = true ∧
       (s.dev.fn.get .display).retired = false) ∧
    (at0 base).dev.ticking = false ∧ ((at0 ticker).dev.fn.get .display).cycling = false := by decide

theorem witness_ExternalSupplyAndHoldUpVoltage :
    Meets { base with land := { osc := 2097152 } } (fun d => d.up = true ∧ d.power.vholdAt + 64 * 32768 ≤ d.land.osc ∧
      d.power.vholdLow = false ∧ d.secondary = false) ∧ (3999 : Nat) < 4000 ∧
    Meets { base with power := { phase := .running, vholdLow := true, vholdAt := 1 }, land := { osc := 2097153 } } (fun d =>
      d.up = true ∧ d.power.vholdLow = true ∧ d.power.vholdAt + 64 * 32768 ≤ d.land.osc) ∧
    Meets { base with land := { osc := 2097151 } } (fun d => d.land.osc < d.power.vholdAt + 64 * 32768) ∧
    (4300 : Nat) ≤ 65535 := by decide

theorem witness_ResetPinAndShip :
    Meets base (fun d => d.power.st ≠ .ship ∧ d.land.supply = .bat ∧ d.up = true ∧ d.started = true ∧ d.power.holdDue = false ∧
      d.power.shipEn = true ∧ d.secondary = false ∧ d.sec.lc = .blank) ∧
    Meets { base with sec := { lc := .service } } (fun d => d.sec.lc = .service) ∧
    Meets {} (fun d => d.power.st ≠ .ship ∧ d.land.supply = .bat ∧ d.started = false) ∧
    Meets { base with land := { supply := .batLock } } (fun d => d.power.st ≠ .ship ∧ d.land.supply ≠ .bat) ∧
    Meets { base with power := { st := .ship } } (fun d => d.power.st = .ship) ∧
    (∃ us, ShipExitCause.resetN 10 = .resetN us ∧ 10 ≤ us) ∧
    (∃ low high, ShipExitCause.button 1300 130 = .button low high ∧ 1300 ≤ low ∧ 130 ≤ high) :=
  ⟨by decide, by decide, by decide, by decide, by decide, ⟨10, rfl, by decide⟩, ⟨1300, 130, rfl, by decide, by decide⟩⟩

theorem witness_HoldUpCommitRecordsAndUnpowers :
    Meets { base with power := { phase := .running, holdDue := true } } (fun d => d.power.holdDue = true ∧
      d.power.shipping = false ∧ d.started = true) ∧
    Meets { base with power := { phase := .running, holdDue := true, shipping := true } } (fun d => d.power.shipping = true ∧
      d.pulse.ch0.phase ≠ .low ∧ d.pulse.ch1.phase ≠ .low ∧ d.disp.regions.all fun r => r.run.isNone) ∧
    Meets { base with power := { phase := .running, holdDue := true, shipping := true }, pulse := { ch0 := { phase := .low } } }
      (fun d => d.power.shipping = true ∧ d.pulse.ch0.phase = .low) ∧
    Meets base (fun d => d.power.holdDue = false) := by decide

theorem witness_ColdStartGoesThroughItsWaits :
    Meets {} (fun d => d.power.holdDue = false ∧ d.power.coldDue = true ∧ d.power.phase = .down ∧ d.land.supply = .bat ∧
      d.power.st ≠ .ship ∧ d.inReset = false ∧ d.power.landRestarted = true) ∧
    Meets { power := { landRestarted := false } } (fun d => d.power.landRestarted = false) ∧
    Meets { land := { lfxRunning := true, osc := 4 }, power := { resetUntil := 5 } } (fun d => d.ticking = true ∧
      d.land.osc < d.power.resetUntil) ∧
    Meets { power := { phase := .condWait, held := some cold0 }, st := { condWait := true } } (fun d =>
      d.power.held = some cold0 ∧ d.power.phase = .condWait ∧ d.st.condWait = true) ∧
    Meets { power := { phase := .lfxWait, held := some cold0 } } (fun d => d.power.held = some cold0 ∧
      d.power.phase = .lfxWait) := by decide

theorem witness_MeteringStartsAtFullHoldUpVoltage :
    Meets { power := { phase := .vholdWait } } (fun d => d.power.phase = .vholdWait ∧ d.power.holdDue = false ∧
      d.syncIdle = true) ∧ Meets base (fun d => d.power.phase ≠ .vholdWait) := by decide

theorem witness_RestIsAsDeepAsTheHoldersAllow :
    Meets base (fun d => d.up = true ∧ d.awake = true ∧ d.holdsRun = false ∧ d.holdsDoze = false ∧ d.mayHibernate = true ∧
      d.power.st.depth < PState.hibernate.depth) ∧
    Meets { base with disp := { timerRun := true } } (fun d => d.holdsRun = true ∧ PState.run.depth ≤ d.power.st.depth) ∧
    Meets { base with power := { phase := .running, st := .nap }, tr := { cyc := { shotIn := some 655 } }
                      land := { pwrEnLead := 655, alarms := [{ armed := true, target := 655 }] } } (fun d =>
      d.land.supply = .bat ∧ d.power.st = .nap ∧ d.land.pwrEnMode = 2 ∧
      (∃ a ∈ d.land.alarms, a.armed = true ∧ a.fired = false ∧ a.target ≤ d.land.tick + d.land.pwrEnLead) ∧
      d.tr.cyc.shotIn = some 655) ∧
    Meets { base with land := { supply := .bkp, pwrEnMode := 0 } } (fun d => d.land.supply ≠ .bat ∧ d.land.pwrEnMode ≠ 2) := by
  decide

theorem witness_WakesBringDoze :
    Meets { base with power := { phase := .running, st := .nap }, haw := { wakeReq := true }
                      land := { alarms := [{ fired := true }], fifo := seven }
                      tr := { cyc := { shotIn := some 0 } }, sec := { trstHigh := true } } (fun d => d.up = true ∧
      d.power.st = .nap ∧ d.land.alarms.any (·.fired) = true ∧ d.land.fifo ≠ [] ∧ d.sec.trstHigh = true ∧
      d.sec.lc ≠ .sealed ∧ d.tr.cyc.shotIn = some 0 ∧ d.haw.wakeReq = true) ∧
    Meets { base with power := { phase := .running, st := .hibernate } } (fun d => d.up = true ∧ d.power.st = .hibernate) ∧
    Meets base (fun d => d.power.st = .run) := by decide

theorem witness_StrapRereadChangesNoConfiguration :
    Rouses 1 { base with land := { alarms := List.replicate 12 { fired := true } } } (fun d => d.up = true ∧ d.fired 4 = true ∧
      d.secondary = false ∧ d.temp.running = false ∧ d.haw.sampling = false ∧ d.land.supply = .bat ∧
      d.land.alarms[4]? = some { fired := true }) ∧
    Rouses 1 { base with temp := { running := true }, land := { alarms := List.replicate 12 { fired := true } } } (fun d =>
      d.fired 4 = true ∧ d.temp.running = true) ∧
    (decodeStraps straps0).codes = 0 ∧ (decodeStraps straps0).bad = 0 := by decide

/-! ## Records that are taken

Each record is signed with r = s = its hash, under the one key for which that verifies. -/

/-- The bytes after the type of a record with one signature. -/
def signed (len seq : Nat) (body : Bytes) (signer z : Nat) : Bytes :=
  [1#8] ++ leBytes 2 len ++ leBytes 8 0 ++ leBytes 4 seq ++ body ++ leBytes 2 signer ++ leBytes 32 z ++ leBytes 32 z

/-- In MANUFACTURE, with the maker's key. -/
def keyed (x y : Nat) : Device := { base with sec := { lc := .manufacture, keys := { maker := some (x, y) } } }

def restProvision : Bytes := signed 146 3 (leBytes 32 p256g.1 ++ leBytes 32 p256g.2) 0
  0xfa522e8efb287458a4325ac56e3a2876a9a0244c337c84bc12a4e532bf2546e1

def devProvision : Device :=
  { base with sec := { keys := { glaelm := (0xbb997e6c784a3aa9c8000645e9cfcc94a141ca43a5eb1c4729951ddba919b73b, 0x76b2dfe0744f7aef7a6f896a9056caa82821788cb90081365be3e43478e9000c) } } }

theorem witness_KeyAndLifeCycleRecords_provision : ∃ d r, d = (at0 devProvision).dev.elapse 0 ∧
    Takes d 1 .optical restProvision r :=
  ⟨_, _, rfl, rfl, by decide, by decide, by decide +kernel⟩

def restIdentity : Bytes := signed 106 3 (leBytes 8 5 ++ leBytes 16 0) 1
  0xa5eaf01e8913a2a2813d21f69fc0275bbf22580fc4d594273e5a456e167f4748

def devIdentity : Device :=
  keyed 0x46dcc6631826942706f9764284865a29ccc620e97f5db0c0d8d1f08e72cb3c90 0xc9e79c87b484f359f628818ea9aef54984db003bf345ec4f331fa5a95bc611e4

theorem witness_KeyAndLifeCycleRecords_identity : ∃ d r, d = (at0 devIdentity).dev.elapse 0 ∧
    Takes d 2 .optical restIdentity r :=
  ⟨_, _, rfl, rfl, by decide, by decide, by decide +kernel⟩

def restKeys : Bytes := signed 150 1 (leBytes 4 1 ++ (leBytes 32 p256g.1 ++ leBytes 32 p256g.2)) 1
  0x5eda0b2b16d736992a77ce58c3cdee8235acd4c2462ffcfd63ffd87296ec49f7

def devKeys : Device :=
  keyed 0xd291661dbc52efe91afa13bb1b3388c6c6b51b5aad62f85fd1c12214f8047a86 0x92310e26d3884e5b5f848365f2371cd9a34b44759497f90c893fab00179f8779

theorem witness_KeyAndLifeCycleRecords_keys : ∃ d r, d = (at0 devKeys).dev.elapse 0 ∧
    Takes d 3 .optical restKeys r :=
  ⟨_, _, rfl, rfl, by decide, by decide, by decide +kernel⟩

def restLifecycle : Bytes := signed 98 2 (leBytes 16 0x201) 1
  0xf25b586c953d32fb10dfadc17f132bd67e6a5757f8fef800356df568a6c0194d

def devLifecycle : Device :=
  { base with sec := { (keyed 0xda90fffe7d41131b8505875d4d75b3986db857dd9fbdb6765b39ed9579b47949 0x49da33e3f50127fbdfc64778e6383dda2448b3fa3f53d3e937ad3bbf386218d0).sec with devEui := some 0, keys := { maker := some (0xda90fffe7d41131b8505875d4d75b3986db857dd9fbdb6765b39ed9579b47949, 0x49da33e3f50127fbdfc64778e6383dda2448b3fa3f53d3e937ad3bbf386218d0), kek := some [] } } }

theorem witness_KeyAndLifeCycleRecords_lifecycle : ∃ d r, d = (at0 devLifecycle).dev.elapse 0 ∧
    Takes d 4 .optical restLifecycle r :=
  ⟨_, _, rfl, rfl, by decide, by decide, by decide +kernel⟩

def restCalib : Bytes := signed 118 1 (leBytes 36 0xa1900f74c00000000000000000000000000000000000100000000000000200005) 1
  0xeaa413cd4b3d386755dc6445278dfce989f36f86062c1abc5d334ea29cc7adeb

def devCalib : Device :=
  keyed 0xb36ecefdcd4936ca8d98d87fcaf1afe644c688ddb474e24d30a7fe642280f650 0xb7f607495685aa0a2423bd9a7189556c20f1d9bb6f02c0fc18827f9f303ef838

theorem witness_ConfigurationRecords_calib : ∃ d r, d = (at0 devCalib).dev.elapse 0 ∧
    Takes d 5 .optical restCalib r :=
  ⟨_, _, rfl, rfl, by decide, by decide, by decide +kernel⟩

def restParamExpert : Bytes := signed 122 1 (leBytes 40 0x30d4000000e1000030d400000c350000f4240017d78400008000000240000) 1
  0xb85add55758b9f9227484af7954299ab13590e92cc48ad62332e94f2844a7dfb

def devParamExpert : Device :=
  { keyed 0x6bdc7c02982c5873a31617cee14b69c46bc3a006094ae1e56b05e1dbbaf1b55d 0x341ab9d3dd8495d0b1894da22cbd20e8f56965d127adcd3359167c26ec0efc44 with straps := { codes := 15 } }

theorem witness_ConfigurationRecords_paramExpert : ∃ d r, d = (at0 devParamExpert).dev.elapse 0 ∧
    Takes d 6 .optical restParamExpert r ∧ d.conf.safePreset = false ∧ codeOf d.straps.codes 0 = 15 ∧ bitAt d.straps.badMask 0 = false ∧ (groupsOf ((blocksOf groupSize r.body).getD [])).medium.isSome = true :=
  ⟨_, _, rfl, ⟨rfl, by decide, by decide, by decide +kernel⟩, by decide +kernel⟩

def restTariffCal : Bytes := signed 834 2 (leBytes 752 0x1000001000000000000000000000000000000000000000000000000000000000000000000000101000000000000000000000000000000000001000001010001010100000000000000000000) 1
  0x8de0bdab1f715ec60cb76c215bd255dbc99a4cc8497e98107a68782e0b7af6df

def devTariffCal : Device :=
  keyed 0x9b2ec8506fc312e77c4b69ac26313ef53143ff4b6fd19a80f6c7455bc9016ffb 0x3535a0355126a7616950fc6ed43ac40841449b7b15f9c67d1996afdf6058894c

theorem witness_ConfigurationRecords_tariffCal : ∃ d r, d = (at0 devTariffCal).dev.elapse 0 ∧
    Takes d 7 .optical restTariffCal r :=
  ⟨_, _, rfl, rfl, by decide, by decide, by decide +kernel⟩

def restTimeSet : Bytes := signed 98 1 (leBytes 10 1 ++ leBytesS 6 (-32768)) 1
  0x66ae3876c8710b7a4e976391748b4e062fbb914f59b92f8f4b1db6f8b5b7d62d

def devTimeSet : Device :=
  { keyed 0x9037fd8d942633cbb949e5e4ae0b26985193caedc8baf47e5c78eb6f808d4563 0x70d279bd51c0141a16ea0bdcfb19b5b79cd70efa7abcd31155ff86201f016586 with land := { oscStopped := false, neverSet := false, tick := 32768 } }

theorem witness_ConfigurationRecords_timeSet : ∃ d r, d = (at0 devTimeSet).dev.elapse 0 ∧
    Takes d 8 .optical restTimeSet r :=
  ⟨_, _, rfl, rfl, by decide, by decide, by decide +kernel⟩

/-- The same under lockout: the record is taken, and its set reaches no Landing. -/
theorem witness_ConfigurationRecords_lockout : ∃ d r, d = (at0 { devTimeSet with land :=
      { devTimeSet.land with supply := .batLock } }).dev.elapse 0 ∧ Takes d 8 .optical restTimeSet r ∧ d.land.supply ≠ .bat :=
  ⟨_, _, rfl, ⟨rfl, by decide, by decide, by decide +kernel⟩, by decide⟩

def restRadioCfg : Bytes := signed 98 1 (leBytes 2 1 ++ leBytes 14 0xFFFE) 1
  0x8dc989d4917082fe1228673d8609cbbbed6fc332595ed10faa3a375a53e5e610

def devRadioCfg : Device :=
  keyed 0x105b589a69d87ea6ffdb389098475efd3ed72dfa52d83005b546cb2074cd6cd1 0x12858d5c1cc2e42d438251ffcc2bd5347337184e2d9e3431a3c471c02c48c8ef

theorem witness_ConfigurationRecords_radioCfg : ∃ d r, d = (at0 devRadioCfg).dev.elapse 0 ∧
    Takes d 9 .optical restRadioCfg r :=
  ⟨_, _, rfl, rfl, by decide, by decide, by decide +kernel⟩

def restRadioKeys : Bytes := signed 210 2 (leBytes 128 0) 1
  0x40269e763b631dd5b106b2a4f357ab51da22132a98edfc0aa748484458556fc

def devRadioKeys : Device :=
  { keyed 0x7b996ed26424ef723260fe6c78c67a99aa6f8a493577a1640c421d6f91a86916 0xa20090376ce47f84443848ee674a2692cbf1945b9a3d20cc183d773fd7b1660e with sec := { (keyed 0x7b996ed26424ef723260fe6c78c67a99aa6f8a493577a1640c421d6f91a86916 0xa20090376ce47f84443848ee674a2692cbf1945b9a3d20cc183d773fd7b1660e).sec with keys := { maker := some (0x7b996ed26424ef723260fe6c78c67a99aa6f8a493577a1640c421d6f91a86916, 0xa20090376ce47f84443848ee674a2692cbf1945b9a3d20cc183d773fd7b1660e), kek := some [] } } }

theorem witness_KeyAndLifeCycleRecords_radioKeys : ∃ d r, d = (at0 devRadioKeys).dev.elapse 0 ∧
    Takes d 10 .optical restRadioKeys r ∧ d.sec.keys.kek = some [] :=
  ⟨_, _, rfl, ⟨rfl, by decide, by decide, by decide +kernel⟩, by decide +kernel⟩

def restDisplayReq : Bytes := signed 86 1 (leBytes 4 0xA0000) 1
  0x9b438f4d0cb3fa1368b17291605efb9616866a88dbdb83531dba5ffc78b16758

def devDisplayReq : Device :=
  { keyed 0xed4768bda9f8da147b9555795c7abeb3ba9c69e5d64b9d3f39ff63f6e7ffebbb 0x89e5df3f839046895949f9f9d8e461126328aef800cfbd6feeddc92c09223e74 with fn := { display := onF } }

theorem witness_ConfigurationRecords_displayReq : ∃ d r, d = (at0 devDisplayReq).dev.elapse 0 ∧
    Takes d 11 .optical restDisplayReq r ∧ d.on .display = true ∧ d.disp.budgetUsed < (d.conf.g.display.getD {}).updCap :=
  ⟨_, _, rfl, ⟨rfl, by decide, by decide, by decide +kernel⟩, by decide +kernel⟩

theorem witness_ConfigurationRecords_noDisplay : ∃ d r, d = (at0 { devDisplayReq with fn := {} }).dev.elapse 0 ∧
    Takes d 11 .optical restDisplayReq r ∧ d.on .display = false :=
  ⟨_, _, rfl, ⟨rfl, by decide, by decide, by decide +kernel⟩, by decide⟩

def restWipe : Bytes := signed 86 1 (leBytes 4 2) 1
  0x3ba619ad7186a5059412cadf084d5078a3a2fefbe166467ad81142b7a34735e5

def devWipe : Device :=
  keyed 0x103d1fd4238bd910ca2da7d8533724ee66c10e90b9e78436c533ad7e01839ebf 0x7f0f1f2a3fbaaa8a871c244109451d8a56e5f4fe3a72344feabbe7d8cb7522

theorem witness_WipeRecordClearsItsClasses : ∃ d r, d = (at0 devWipe).dev.elapse 0 ∧
    Takes d 12 .optical restWipe r :=
  ⟨_, _, rfl, rfl, by decide, by decide, by decide +kernel⟩

theorem witness_ConfigurationRecords_off : devDisplayReq.on .display = true ∧ (keyed 0 0).on .display = false ∧
    Meets { base with straps := { codes := 11 } } (fun d => codeOf d.straps.codes 0 ≠ 15) ∧
    Meets { base with conf := { safePreset := true } } (fun d => d.conf.safePreset = true) ∧
    devTimeSet.land.supply = .bat ∧ Meets { base with land := { supply := .batLock } } (fun d => d.land.supply ≠ .bat) := by decide

theorem witness_AcceptedRecordsAreAuthorised :
    devProvision.recCause .optical (recOf (1#8 :: restProvision)) = 0 ∧ devProvision.sec.lc = .blank ∧
    (recOf (1#8 :: restProvision)).typ = 1 := by decide +kernel

/-- An empty record is malformed, and the verdict of an isolated controller is cause 14. -/
theorem witness_RefusedRecordChangesNothing :
    Meets base (fun d => d.up = true ∧ d.st.secIsolated = false ∧ d.recCause .air (recOf [8#8]) = 1) ∧
    Meets { base with st := { secIsolated := true } } (fun d => d.up = true ∧ d.st.secIsolated = true) ∧
    Meets {} (fun d => d.up = false) := by decide

theorem witness_TestAccessIsGraded :
    Meets { base with sec := { lc := .sealed, trstHigh := true } } (fun d => d.up = true ∧ d.awake = true ∧
      d.sec.trstHigh = true ∧ d.sec.tamper[10]? = some ({} : Tamper)) ∧
    Meets { base with sec := { lc := .sealed } } (fun d => d.up = true ∧ d.awake = true ∧ d.sec.lc = .sealed ∧
      d.sec.trstHigh = false ∧ d.sec.trstCounted = false ∧ d.sec.tamper[10]? = some ({} : Tamper)) ∧
    Meets base (fun d => d.sec.lc ≠ .sealed ∧ (d.sec.tap = .closed ∨ d.sec.tap = .observe)) := by decide

/-! ## Measurement, ledgers, store, display, optical port -/

/-- A device whose measurement runs: two chords, internal mode, a shot due. -/
def meter : Device :=
  { base with
    fn := { transit := onF, converter := onF, display := onF, optical := onF }
    conf := { g := { pathList := some { paths := [{}, { portUp := 2, portDown := 3 }] } } }
    tr := { paths := List.replicate 20 { health := { state := 1 } }, cyc := { shotIn := some 0 } } }

def external : Device :=
  { meter with conf := { g := { meter.conf.g with shot := some { external := true } } } }

theorem witness_CyclesAndShotsAreAdmitted :
    Meets meter (fun d => d.tolling = true ∧ d.conf.shot.external = false ∧ d.tr.cyc.shotIn = some 0 ∧ d.on .transit = true ∧
      d.tr.cyc.running = false ∧ d.tr.tb.refinSel = false ∧ d.haw.role ≠ 1 ∧ d.activePaths.filter d.fireable = [0, 1] ∧
      d.power.st = .run) ∧
    Meets { meter with tr := { meter.tr with paths := [] } } (fun d => d.activePaths.filter d.fireable = []) ∧
    Meets { meter with conf := { g := { meter.conf.g with system := some { refinFallbackEn := false } } }
                       tr := { meter.tr with tb := { refinSel := true } } } (fun d => d.tolling = true ∧
      d.conf.shot.external = false ∧ d.tr.cyc.shotIn = some 0 ∧ d.on .transit = true ∧ d.tr.cyc.running = false ∧
      d.tr.tb.refinSel = true ∧ d.tr.tb.relock = false ∧ d.tr.tb.fallback = false ∧ d.conf.system.refinFallbackEn = false ∧
      d.haw.role ≠ 1) ∧
    Meets { external with conf := { g := { external.conf.g with system := some { refinFallbackEn := false } } }
                          tr := { external.tr with ext := { tokens := 65536 }, tb := { refinSel := true } } } (fun d =>
      d.on .transit = true ∧ d.conf.shot.external = true ∧ d.tr.cyc.inFlight = none ∧ d.store.due.getD 0 false = false ∧
      65536 ≤ d.tr.ext.tokens ∧ d.tr.cyc.running = false ∧ d.tr.tb.refinSel = true ∧ d.tr.tb.relock = false ∧
      d.tr.tb.fallback = false ∧ d.conf.system.refinFallbackEn = false ∧ d.activePaths.filter d.fireable ≠ []) ∧
    Meets { meter with fn := {} } (fun d => d.tolling = true ∧ d.tr.cyc.shotIn = some 0 ∧ d.on .transit = false) ∧
    Meets { external with tr := { external.tr with cyc := { inFlight := some 0 } } } (fun d => d.conf.shot.external = true ∧
      d.tr.cyc.inFlight.isSome = true) ∧
    Meets { external with store := { due := [true] } } (fun d => d.tr.cyc.inFlight = none ∧ d.store.due.getD 0 false = true) ∧
    Meets { external with tr := { external.tr with ext := { tokens := 65535 } } } (fun d => d.on .transit = true ∧
      d.conf.shot.external = true ∧ d.store.due.getD 0 false = false ∧ d.tr.ext.tokens < 65536) ∧
    Meets { external with tr := { external.tr with ext := { tokens := 65536, nextPath := 2 } } } (fun d =>
      65536 ≤ d.tr.ext.tokens ∧ d.tr.tb.refinSel = false ∧
      (d.activePaths.filter d.fireable).find? (fun j => decide (d.tr.ext.nextPath ≤ j)) = none ∧
      (d.activePaths.filter d.fireable).head? = some 0) ∧
    Meets { external with tr := { external.tr with ext := { tokens := 65536, nextPath := 1 } } } (fun d =>
      (d.activePaths.filter d.fireable).find? (fun j => decide (d.tr.ext.nextPath ≤ j)) = some 1) ∧
    Meets { external with tr := { external.tr with ext := { tokens := 65536 }, cyc := { running := true, barred := [0] } } } (fun d =>
      d.tr.cyc.running = true ∧ d.tr.cyc.inFlight = none ∧ ((d.activePaths.filter d.fireable).filter fun j =>
        d.tr.cyc.running == false || !d.tr.cyc.barred.contains j).find? (fun j => decide (d.tr.ext.nextPath ≤ j)) = some 1) ∧
    Meets { base with power := { phase := .running, st := .hibernate } } (fun d => d.power.st = .hibernate) := by
  decide

def firing (probe : Bool) : Device :=
  { meter with tr := { meter.tr with cyc := { running := true, inFlight := some 0, toFire := [1], probe := probe }
                                     tb := { refinActive := true } } }

theorem witness_PathPairsAreGradedAndBooked :
    (∀ probe ∈ [true, false], Meets (firing probe) fun d => d.secondary = false ∧ d.tr.cyc.inFlight = some 0 ∧
      d.tr.paths[0]? = some { health := { state := 1 } } ∧ ((d.flightKey 0).1.getD {}).devUp = 0 ∧
      ((d.flightKey 0).1.getD {}).devDown = 0 ∧ (d.tr.paths.getD 0 {}).work.stale = false ∧ d.conf.shot.external = false ∧ d.on .transit = true ∧
      d.tr.cyc.toFire = [1] ∧ d.tr.cyc.probe = probe ∧ d.tr.tb.refinActive = true) ∧
    Meets { firing false with tr := { (firing false).tr with cyc := { running := true, inFlight := some 1 } } } (fun d =>
      d.tr.cyc.inFlight = some 1 ∧ d.tr.cyc.toFire = []) ∧
    Meets meter (fun d => d.tr.cyc.inFlight = none ∧ d.haw.job = none ∧ d.tr.tb.refinActive = false) := by decide

/-- A VOID pair books its grade; the other path keeps its entry. -/
theorem test_pair_without_a_signal :
    (match exec (.pathPairDone 0 { cap0 with overflow := true }) (at0 (firing false)) with
      | .next t => (t.dev.tr.paths[0]?).map fun y => (y.res.grade, y.health.pairs, y.health.voidPairs, y.tune.parity)
      | .fault _ | .refused _ => none) = some (.void, 1, 1, true) := by decide +kernel

theorem witness_CalibrationOfTimeRunsInSteps :
    Meets { base with land := { oscStopped := false, neverSet := false, tick := 2831155200
                                alarms := [{}, { armed := true, fired := true }] } }
      (fun d => d.up = true ∧ d.trusted = true ∧ d.secondary = false ∧ d.fired 1 = true) ∧
    Meets { base with land := { alarms := [{}, { armed := true, fired := true }] } } (fun d => d.trusted = false ∧
      d.secondary = false ∧ d.fired 1 = true) ∧
    Meets base (fun d => d.fired 1 = false) ∧
    Meets { meter with tr := { meter.tr with tdc := { pairsFull := 2 ^ 20 } } } (fun d => d.on .transit = true ∧
      2 ^ 20 ≤ d.tr.tdc.pairsFull) ∧
    Meets { meter with tr := { meter.tr with tdc := { pairsFull := 2 ^ 20 - 1, pairsSpan := 4096 } } } (fun d =>
      d.tr.tdc.pairsFull < 2 ^ 20 ∧ (2047 - d.tr.tdc.fullTemp).natAbs < 2048 ∧ 4096 ≤ d.tr.tdc.pairsSpan) ∧
    Meets { meter with tr := { meter.tr with tdc := { pairsSpan := 4095 } } } (fun d => d.tr.tdc.pairsFull < 2 ^ 20 ∧
      (511 - d.tr.tdc.fullTemp).natAbs < 2048 ∧ d.tr.tdc.pairsSpan < 4096 ∧ (511 - d.tr.tdc.spanTemp).natAbs < 512) ∧
    Meets { meter with tr := { meter.tr with tdc := { due := 1 } }, store := { due := [true] } } (fun d =>
      d.on .transit = true ∧ d.tr.cyc.inFlight = none ∧ d.haw.job = none ∧ d.store.due.getD 0 false = true ∧
      d.tr.tdc.stepsDone = 0 ∧ d.tr.tdc.act.rawSpanRef = 0 ∧ d.tr.tdc.due = 1) ∧
    Meets { meter with tr := { meter.tr with tdc := { due := 2, failRun := 2, act := { rawSpanRef := 10000 } } } } (fun d =>
      d.tr.tdc.stepsDone = 0 ∧ d.tr.tdc.due = 2 ∧ 50 * ((10200 : Int) - d.tr.tdc.act.rawSpanRef).natAbs ≤ d.tr.tdc.act.rawSpanRef ∧
      d.tr.tdc.act.rawSpanRef < 50 * ((10201 : Int) - d.tr.tdc.act.rawSpanRef).natAbs ∧ 3 ≤ satAdd 7 d.tr.tdc.failRun 1) ∧
    Meets { meter with tr := { meter.tr with cyc := {}, tdc := { due := 2, stepsDone := 24 } } } (fun d => d.tr.tdc.due = 2 ∧
      d.tr.tdc.stepsDone = 24 ∧ d.gapOf 14 = true) := by decide

/-- An empty pipe yields the flow 0, whatever the paths say. -/
def pouring (qf : Option Int) : Device :=
  { meter with
    conf := { g := { meter.conf.g with medium := some {}, qTurn := some {}, shot := some {}, wiring := some {}
                                       clamp := some {}, install := some {} } }
    flow := { metering := true, qf := qf }
    land := { tick := 131072, alarms := List.replicate 12 { armed := true, fired := true } }
    tr := { meter.tr with cs := { emptyPipe := true }, cyc := { running := true, complete := true } } }

/-- The device when its cycle is closed, its retirements are made and its medium is classified. -/
def closedCycle (b : Device) : Device :=
  Device.classify (Device.retire { b with tr := { b.tr with cyc := { b.tr.cyc with complete := false, running := false } } })

theorem witness_IncrementsTelescope :
    (∀ qf ∈ [some 3600000000, (none : Option Int)], Meets (pouring qf) fun d => d.tolling = true ∧ d.tr.cyc.complete = true ∧
      d.boundaryFirst.st.legalHold = false ∧ d.boundaryFirst.flow.qf = qf ∧ (closedCycle d.boundaryFirst).live = true ∧
      (closedCycle d.boundaryFirst).reconstruct.2 = some 0) ∧ (224 : Nat) < 225 := by decide +kernel

theorem witness_AdmittedIncrementsReachTheLedgers :
    base.st.legalHold = false ∧ base.cap.qTurnN = 0 ∧ ({ base with cap := { qTurnN := 2000 } } : Device).cap.qTurnN ≠ 0 ∧
    (0 : Int) ≤ base.cap.hwm ∧ ({ base with st := { holdVote := true } } : Device).st.legalHold = true := by decide

theorem witness_TariffRegistersSumToTheTotal :
    let s : Device := { base with bill := { now := { tariff := 8 } } }
    let l := s.toll.led.side .heat
    1 ≤ s.bill.now.tariff ∧ s.bill.now.tariff ≤ 8 ∧ l.tar.length = 8 ∧ l.reg = l.tar.map (· / 15461882265600) ∧
      (l.tar.sum : Int) = l.hwm := by decide

theorem witness_GapsCloseAtGapHold :
    Rouses 1 { pouring (some 7) with tr := meter.tr } (fun d => d.fired 2 = true ∧ d.live = true ∧ d.flow.qf = some 7 ∧
      d.flow.gapWait = false ∧ d.boundaryFirst.cycleSpansGap = false ∧ d.boundaryFirst.st.legalHold = false) ∧
    Rouses 1 (pouring (some 7)) (fun d => d.fired 2 = true ∧ d.live = true ∧ d.flow.gapWait = false ∧
      d.boundaryFirst.cycleSpansGap = true) ∧
    Rouses 1 (pouring none) (fun d => d.flow.qf = none) := by decide +kernel

/-- Flow sensor 0, return sensor 1; a sample is due. -/
def warming : Device :=
  { meter with
    conf := { g := { wiring := some { roles := [2, 3, 0, 0] }, medium := some { cls := 1 } } }
    temp := { due := true, units := List.replicate 5 { state := 1 } }
    land := { alarms := List.replicate 12 {} } }

theorem witness_TemperatureSamplesComplete :
    Meets warming (fun d => d.tolling = true ∧ d.temp.due = true ∧ d.on .converter = true ∧ d.temp.running = false ∧
      d.land.supply = .bat ∧ 0 < d.conf.clamp.tMax ∧
      d.land.alarms[3]? = some ({} : Alarm)) ∧
    Meets { warming with fn := {} } (fun d => d.tolling = true ∧ d.temp.due = true ∧ d.on .converter = false) ∧
    Meets base (fun d => d.fired 3 = false ∧ d.temp.due = false ∧ d.secondary = false ∧ d.temp.running = false) ∧
    Meets { warming with temp := { warming.temp with running := true } } (fun d => d.haw.role = 0 ∧ d.up = true ∧
      d.temp.running = true ∧ d.on .converter = true ∧ d.temp.awaiting = [] ∧ d.roleIdx 2 = some 0 ∧ d.roleIdx 3 = some 1 ∧
      d.conf.cls = 1) ∧
    Meets { warming with haw := { role := 1 }, temp := { warming.temp with running := true, awaiting := [1] } } (fun d =>
      d.haw.role = 1 ∧ d.up = true ∧ d.temp.running = true ∧ d.on .converter = true ∧ d.temp.awaiting ≠ []) := by decide

/-- Both channels convert, the flow sensor the warmer one. -/
theorem test_sample_completes :
    (match exec (.sampleComplete 0 { sample0 with ref1 := 2 ^ 31, ref2 := 2 ^ 31 }) (at0 { warming with
        conf := { warming.conf with calib := { temp := some { chans := List.replicate 4 (some ⟨524288000, 0, 0, 0, 0⟩) } } }
        temp := { warming.temp with running := true } }) with
      | .next t => (t.dev.temp.running, t.dev.temp.sample.seq, t.dev.temp.any)
      | .fault _ | .refused _ => (true, 0, false)) = (false, 1, true) := by decide +kernel

def bounded (schedLast : Nat) : Device :=
  { base with
    bill := { trusted := true, st := { schedLast := schedLast } }
    land := { oscStopped := false, neverSet := false, tick := 32 * 2831155200
              alarms := List.replicate 12 { armed := true, fired := true } } }

theorem witness_BoundariesCloseOnOneTick :
    Rouses 1 (bounded 1) (fun d => d.tolling = true ∧ d.fired 0 = true ∧ d.bill.dem.nextEnd ≤ d.land.tick ∧
      d.bill.hour.nextEnd ≤ d.land.tick ∧ d.trusted = true ∧ d.bill.st.schedLast ≠ 0 ∧
      0 < (billEndsIn d.bill.calActive d.bill.st.schedLast d.land.tick).1) ∧
    Rouses 1 (bounded (31 * 2831155200)) (fun d => (billEndsIn d.bill.calActive d.bill.st.schedLast d.land.tick).1 = 0) ∧
    Rouses 1 base (fun d => d.fired 0 = false ∧ d.bill.trusted = d.trusted) := by decide +kernel

def daySnap0 : DaySnap := ⟨0, false, {}, 0, 0, {}⟩

def hourE : HourEntry := ⟨0, false, false, false, false, false, 1, 0, 0, 0, 0, 0⟩

theorem witness_StoreWorksInBackground :
    (∀ u ∈ [BgUnit.transit, .converter, .hawser, .fram, .flash, .logic],
      Meets { base with store := { readySince := List.replicate 6 (some 0) }, land := { osc := 10 ^ 9, tick := 2831155200 } } fun d =>
        d.up = true ∧ d.bgReady 3 = true ∧ d.store.due.getD (bgUnitNo u) false = false ∧
        (d.bgReady (bgUnitNo u) = true → d.store.readySince.getD (bgUnitNo u) none = some 0 ∧
          4 * (d.bgPeriod (bgUnitNo u)).1 ≤ (d.land.osc - 0) * (d.bgPeriod (bgUnitNo u)).2) ∧
        d.store.scrubRead + 16 ≤ 65536 ∧ (d.store.scrubRead + 16) * 2831155200 ≤ 65536 * (d.land.tick - d.store.scrubTick)) ∧
    Meets { base with store := { scrubRead := 65535 }, land := { tick := 2831155200 } } (fun d => d.store.scrubRead + 1 = 65536 ∧
      (d.store.scrubRead + 1) * 2831155200 ≤ 65536 * (d.land.tick - d.store.scrubTick)) ∧
    Meets base (fun d => d.store.readySince.getD 4 none = none ∧ (d.land.osc - d.land.osc) * (d.bgPeriod 3).2 < 4 * (d.bgPeriod 3).1 ∧
      65536 * (d.land.tick - d.store.scrubTick) < (d.store.scrubRead + 1) * 2831155200 ∧ d.secondary = false ∧ d.bill.staged = [] ∧ d.store.badSectors = [] ∧
      d.store.poolDirty = [] ∧ d.store.ringErase = []) ∧
    Meets { base with bill := { staged := [.hour hourE, .day 1 daySnap0] } } (fun d => d.bill.staged =
      .hour hourE :: [.day 1 daySnap0]) ∧
    Meets { base with bill := { staged := [.day 1 daySnap0] } } (fun d => d.bill.staged = .day 1 daySnap0 :: [] ∧
      d.store.dayPos < 1) ∧
    Meets { base with store := { poolDirty := [(3, 0)] } } (fun d => d.store.poolDirty = (3, 0) :: []) ∧
    Meets { base with store := { poolDirty := [], ringErase := [5] } } (fun d => d.store.poolDirty = [] ∧
      d.store.ringErase = 5 :: []) := by decide

theorem witness_SelfTestsRunInRounds :
    Meets { base with land := { alarms := List.replicate 12 { fired := true } } } (fun d => d.up = true ∧ d.fired 10 = true) ∧
    Meets base (fun d => d.fired 10 = false ∧ d.st.roundLeft.contains 1 = false) ∧
    (∀ b ∈ [1, 2, 3, 4, 5, 6, 7, 8, 9], Meets { base with st := { roundLeft := [1, 2, 3, 4, 5, 6, 7, 8, 9] } } fun d =>
      d.st.roundLeft.contains b = true ∧ d.blockIdle b = true) ∧
    75 < 2 * ((187538 : Int) - 187500).natAbs ∧ ¬ 75 < 2 * ((187537 : Int) - 187500).natAbs := by decide

def showing : Device :=
  { meter with land := { alarms := List.replicate 12 { fired := true } }
               disp := { timerRun := true, regions := { run := some { frame := 0, len := 2, band := 0 } } :: { run := some { frame := 1, len := 2, band := 0 } } :: List.replicate 6 {} } }

theorem witness_DisplayShowsItsPages :
    Meets showing (fun d => d.tolling = true ∧ d.fired 5 = true ∧ d.on .display = true ∧ d.disp.timerRun = true ∧
      d.disp.frameAt ≤ d.land.osc ∧ d.disp.regions.length = 8 ∧ d.disp.regions[0]? = some { run := some { frame := 0, len := 2, band := 0 } } ∧
      d.disp.regions[1]? = some { run := some { frame := 1, len := 2, band := 0 } } ∧ (∀ k ∈ d.disp.regions, k.next = none ∧ k.resume = none) ∧
      d.disp.budgetUsed < (d.conf.g.display.getD {}).updCap ∧ d.conf.safePreset = false ∧ d.disp.pageUntil = none ∧
      (d.land.tick - d.disp.budgetStart) / 117964800 = 0) ∧
    Meets { showing with disp := { showing.disp with frameAt := 524 } } (fun d => d.land.osc < d.disp.frameAt) ∧
    Meets { base with disp := { budgetUsed := 120, pageUntil := some 1 } } (fun d => d.tolling = true ∧ d.fired 5 = false ∧
      d.on .display = false ∧ d.disp.timerRun = false ∧ (d.conf.g.display.getD {}).updCap ≤ d.disp.budgetUsed ∧
      d.disp.pageUntil = some 1 ∧ d.land.tick < 1) ∧
    Meets { meter with disp := { budgetUsed := 120, pageUntil := some 117964800 }, land := { tick := 117964800 } } (fun d =>
      d.on .display = true ∧ d.disp.pageUntil = some 117964800 ∧ 117964800 ≤ d.land.tick ∧
      0 < (d.land.tick - d.disp.budgetStart) / 117964800) ∧
    Meets { base with disp := { pageUntil := some 1 }, land := { tick := 1 } } (fun d => d.disp.pageUntil = some 1 ∧
      1 ≤ d.land.tick ∧ d.on .display = false) := by decide

theorem witness_OpticalPortAnswers :
    Meets meter (fun d => d.up = true ∧ d.awake = true ∧ d.on .optical = true ∧ d.opt.active = false ∧
      d.opt.answerEnd ≤ d.land.osc) ∧
    Meets { meter with opt := { answerEnd := 1 }, land := { lfxRunning := true } } (fun d => d.on .optical = true ∧ d.up = true ∧
      d.awake = true ∧ d.land.lfxRunning = true ∧ d.land.osc < d.opt.answerEnd) ∧
    optParse (optBytes ⟨1, 9, [0x0D]⟩) = some ⟨1, 9, [0x0D]⟩ ∧
    optParse (optBytes ⟨2, 0, leBytes 2 0x0E51 ++ leBytes 3 0 ++ leBytes 2 1024⟩) =
      some ⟨2, 0, leBytes 2 0x0E51 ++ leBytes 3 0 ++ leBytes 2 1024⟩ ∧
    optParse (optBytes ⟨3, 0, [2]⟩) = some ⟨3, 0, [2]⟩ ∧ optParse (optBytes ⟨4, 255, []⟩) = some ⟨4, 255, []⟩ ∧
    optParse [] = none ∧
    Meets { base with fn := {} } (fun d => d.up = true ∧ d.awake = true) ∧
    Meets { base with fn := { optical := {} } } (fun d => d.on .optical = false ∧ d.fn.optical.st ≠ .stopping) ∧
    Meets { base with fn := { optical := { st := .stopping } } } (fun d => d.up = true ∧ d.awake = true ∧ d.on .optical = false ∧
      d.fn.optical.st = .stopping) ∧
    Meets { base with opt := { active := true }, land := { osc := 163840 } } (fun d => d.opt.active = true ∧
      d.opt.lastChar + 163840 ≤ d.land.osc) := by decide +kernel

/-- A READ of nothing the device has is refused, one of a status object is answered. -/
theorem test_optical_reads : (∃ r, meter.readPiece false 0xFFFF 0 1 = .refused r) ∧ (∃ x, meter.readPiece false 0x0E62 0 4 = .piece x) :=
  ⟨⟨_, rfl⟩, ⟨_, rfl⟩⟩

/-- R34: rows of the table in their five columns, SHIP to RUN; R79: the crossbar in both parities. -/
theorem test_pins :
    ([(Pin.alert, [PinState.z, .od, .od, .od, .od]), (.busy, [.pd, .drivenLow, .drivenLow, .drivenLow, .out]),
      (.shot, [.z, .z, .inw, .inw, .inp]), (.sealA, [.z, .out, .out, .out, .out]), (.lfx, [.off, .a, .a, .a, .a]),
      (.td 0, [.off, .dis, .dis, .dis, .a]), (.optTx, [.z, .z, .z, .od, .od])].all fun x =>
        [PState.ship, .hibernate, .nap, .doze, .run].map (fun st =>
          ({ firing false with power := { phase := .running, st := st } } : Device).pin x.1) == x.2) = true ∧
    [(PathP.link { portUp := 4, portDown := 6 } false 0 4), (PathP.link { portUp := 4, portDown := 6 } false 0 6),
      (PathP.link { portUp := 4, portDown := 6 } true 0 4), (PathP.link { portUp := 4, portDown := 6 } true 0 5)] =
      [some ⟨false, false⟩, some ⟨true, true⟩, some ⟨false, true⟩, none] := by decide

/-! ## Published examples of the algorithms that the manual names -/

theorem test_crcs : crc32 (leBytes 9 0x393837363534333231) = 0xCBF43926 ∧ fcs16 (leBytes 9 0x393837363534333231) = 0x2189 ∧
    hwCrc (leBytes 9 0x393837363534333231) = 0x29B1 ∧
    crcMsb 16 0x3D65 0 (leBytes 9 0x393837363534333231) ^^^ 0xFFFF = 0xC2B7 := by decide +kernel

theorem test_sha256 : beNat (sha256 [0x61, 0x62, 0x63]) =
    0xBA7816BF8F01CFEA414140DE5DAE2223B00361A396177A9CB410FF61F20015AD := by decide +kernel

theorem test_aes : beNat (aesEnc (beBytes 16 0x000102030405060708090A0B0C0D0E0F) (beBytes 16 0x00112233445566778899AABBCCDDEEFF)) =
    0x69C4E0D86A7B0430D8CDB78070B4C55A := by decide +kernel

theorem test_key_unwrap : keyUnwrap (beBytes 16 0x000102030405060708090A0B0C0D0E0F)
    (beBytes 24 0x1FA68B0A8112B447AEF34BD8FB5A7B829D3E862371D2CFE5) =
    some (beBytes 16 0x00112233445566778899AABBCCDDEEFF) := by decide +kernel

/-! ## Itwen Air -/

def key0 : Bytes := leBytes 16 1

def air (n v : Nat) : RxFrame := { frame0 with psdu := leBytes n v, sfd := 64, rssi := -60, txSfd := 8, chan := 25 }

def partsOf (f : RxFrame) : AirParts := (airParse f.psdu f.fcsLen).getD ⟨⟨0, false, false, false, 0, false, 0, 0, 0⟩, 0, 0, [], [], []⟩

def openRadio : Groups := { radio := some { txDuty := 0 } }

/-- A parent with child 0 in its window, the join channel open. -/
def parent : Device :=
  { base with fn := { ferryman := onF }, conf := { g := openRadio }, sec := { lc := .sealed, keys := { net0 := some key0 } }
              radio := { role := 2, netId := 1, joinOpen := true
                         children := [{ idx := 0, eui := 7, contactEvery := 900, windowOpen := true }] } }

def closed : Device := { parent with radio := { parent.radio with joinOpen := false } }

/-- A node in an exchange with its parent. -/
def node : Device :=
  { base with fn := { ferryman := onF }, conf := { g := openRadio }, sec := { lc := .sealed, keys := { net0 := some key0 } }
              radio := { role := 1, netId := 1, ownShort := 1, parentEui := 9, exch := some { peer := .up } } }

/-- A parent in an exchange with its own parent. -/
def middle : Device :=
  { parent with
    sec := { lc := .sealed, keys := { up0 := some key0 } }
    radio := { role := 2, netId := 1, upNetId := 2, ownShort := 5, parentEui := 9, exch := some { peer := .up }
               children := [{ idx := 0, eui := 7, contactEvery := 900 }] } }

def joining : Device := { node with radio := { node.radio with ownShort := 0xFFFF, exch := some { peer := .up, sent := .join } } }

def timed (tick : Nat) : Device :=
  { node with land := { oscStopped := false, neverSet := false, tick := tick } }

theorem hears_of {d : Device} {f : RxFrame} {typ : Nat} {p : AirParts} {l : Link} {m key : Bytes}
    (hl : ∀ k, l ≠ .stranger k)
    (h : d.up = true ∧ d.awake = true ∧ d.on .ferryman = true ∧ d.listening = true ∧ d.hearing.contains f.chan = true ∧
      f.modeSwitch = false ∧ fcsGood f.psdu f.fcsLen = true ∧
      airParse f.psdu f.fcsLen = some p ∧ p.version = 0 ∧ p.hdr.typ = typ ∧ 1 ≤ typ ∧ typ ≤ 6 ∧ d.linkOf p.hdr = some l ∧
      d.netKey (decide (l = .up)) p.hdr.keyId = some key ∧
      ccmOpen key (airNonce (d.peerEui p.hdr l) p.fcnt) p.head p.cipher p.mic = some m) : Hears d f typ p l m := by
  obtain ⟨a, w, b, c, q, ms, d, e, f, g, i, j, k, n, o⟩ := h
  exact ⟨⟨a, w, b, c, q⟩, ms, d, e, f, g, i, j, k, hl, key, n, o⟩

def fPoll : RxFrame := air 23 0xdec58b11892a568917c67000000010001000000010001

def mPoll : Bytes := leBytes 5 0x384

theorem witness_ParentHearsItsChildren_poll : ∃ d, d = (at0 parent).dev.elapse 0 ∧
    Hears d fPoll 1 (partsOf fPoll) (.child 0) mPoll ∧ IsFresh d (partsOf fPoll) (.child 0) ∧
    d.radio.child 0 = some { idx := 0, eui := 7, contactEvery := 900, windowOpen := true } ∧ pollOk mPoll = true :=
  ⟨_, rfl, hears_of (key := key0) (by intro k h; cases h) (by decide +kernel), ⟨_, _, rfl⟩, by decide +kernel⟩

def fData : RxFrame := air 90 0x3cc43498a5abbc3d7c3e6af02ecb0f775acf44fc6117338eebd91c559dbea536072da8b56f181b59876b6639a4c29787de5c3ab7e441580eb833f6ce2691ac7f5aa91553886b412113a566357fe3000000010001000000010003

def mData : Bytes := leBytes 72 0x400000000ea40000

set_option maxRecDepth 200000 in
theorem witness_ParentHearsItsChildren_data : ∃ d, d = (at0 parent).dev.elapse 0 ∧
    Hears d fData 3 (partsOf fData) (.child 0) mData ∧ IsFresh d (partsOf fData) (.child 0) ∧
    d.radio.exch = none ∧ (parseItems 40 mData).isSome = true ∧ ((parseItems 40 mData).getD []).any (fun y => y.src == 0 && y.obj == 0x0EA4 && y.off == 0 && (y.bytes.map (·.length)) == some 64) = true :=
  ⟨_, rfl, hears_of (key := key0) (by intro k h; cases h) (by decide +kernel), ⟨_, _, rfl⟩, by decide +kernel⟩

def fJoin : RxFrame := air 29 0x2b0af9d8b780026f49919200000001000000000000002a000000010041

def mJoin : Bytes := leBytes 5 0x384

theorem witness_ParentHearsItsChildren_join : ∃ d, d = (at0 parent).dev.elapse 0 ∧
    Hears d fJoin 1 (partsOf fJoin) (.joiner 42) mJoin ∧ IsFresh d (partsOf fJoin) (.joiner 42) ∧
    d.joinHeard fJoin.chan = true ∧ pollOk mJoin = true ∧ d.radio.children.find? (·.eui == 42) = none ∧ d.joinFits (getU mJoin 0 4) = true ∧ d.radio.freeIdx = some 1 :=
  ⟨_, rfl, hears_of (key := key0) (by intro k h; cases h) (by decide +kernel), ⟨_, _, rfl⟩, by decide +kernel⟩

theorem witness_ParentHearsItsChildren_closed : ∃ d, d = (at0 closed).dev.elapse 0 ∧
    Hears d fJoin 1 (partsOf fJoin) (.joiner 42) mJoin ∧ IsFresh d (partsOf fJoin) (.joiner 42) ∧
    d.joinHeard fJoin.chan = false :=
  ⟨_, rfl, hears_of (key := key0) (by intro k h; cases h) (by decide +kernel), ⟨_, _, rfl⟩, by decide +kernel⟩

/-- Frames that are dropped: a bad FCS, no header, a MIC under another key; and a device that does not listen. -/
theorem witness_ParentHearsItsChildren_dropped :
    (fcsGood [1] 2 = false ∧ fcsGood [] 2 = true ∧ airParse [] 2 = none) ∧
    (let p := partsOf (air 23 0xdec58b11892a568917c67000000010001000000010001)
     parent.linkOf p.hdr = some (.child 0) ∧
       ccmOpen (leBytes 16 2) (airNonce (parent.peerEui p.hdr (.child 0)) p.fcnt) p.head p.cipher p.mic = none) ∧
    base.listening = false ∧ base.on .ferryman = false := by decide +kernel

def fAck : RxFrame := air 33 0x88d8a83c4c64ecb5954684ddb5e718b7016dce2e86000000010000000100010082

def mAck : Bytes := leBytes 15 0x100000064000000000000

theorem witness_LowerSideTakesTheUpperSidesFrames_ack : ∃ d, d = (at0 node).dev.elapse 0 ∧
    Hears d fAck 2 (partsOf fAck) .up mAck ∧ IsFresh d (partsOf fAck) .up ∧
    d.radio.exch = some { peer := .up } ∧ mAck.length = 15 ∧ getU mAck 0 4 = 0 ∧ getU mAck 6 4 = 100 :=
  ⟨_, rfl, hears_of (key := key0) (by intro k h; cases h) (by decide +kernel), ⟨_, _, rfl⟩, by decide +kernel⟩

def fJoined : RxFrame := air 39 0xa5c4c4cd9997ecb5954585ddb5e77cb7096dce2e86000000010000000000000009ffff000100c2

def mJoined : Bytes := leBytes 15 0x30000000000000800000000

theorem witness_LowerSideTakesTheUpperSidesFrames_join : ∃ d, d = (at0 joining).dev.elapse 0 ∧
    Hears d fJoined 2 (partsOf fJoined) .up mJoined ∧ IsFresh d (partsOf fJoined) .up ∧
    mJoined.length = 15 ∧ getU mJoined 0 4 = 0 ∧ getU mJoined 4 1 = 8 ∧ getU mJoined 6 4 = 0 :=
  ⟨_, rfl, hears_of (key := key0) (by intro k h; cases h) (by decide +kernel), ⟨_, _, rfl⟩, by decide +kernel⟩

def fRead : RxFrame := air 29 0x90b6ef2a539781ddb5e772d5006dce2e86000000010000000100010084

def mRead : Bytes := leBytes 11 0x40000000e620100000000

theorem witness_LowerSideTakesTheUpperSidesFrames_read : ∃ d, d = (at0 node).dev.elapse 0 ∧
    Hears d fRead 4 (partsOf fRead) .up mRead ∧ IsFresh d (partsOf fRead) .up ∧
    getU mRead 4 1 = 1 ∧ mRead.length = 5 + 6 ∧ getU mRead 0 2 = 0 ∧ d.radioP.budgetUs = none ∧ d.radio.fcntTx < 0xFFFFFF00 ∧
    d.radio.exch.map (·.frames) = some 0 ∧ 3 ≤ d.phyP.exchMax :=
  ⟨_, rfl, hears_of (key := key0) (by intro k h; cases h) (by decide +kernel), ⟨_, _, rfl⟩, by decide +kernel⟩

def fReadChild : RxFrame := air 29 0xa797c5c2a11e81ddb5e772d5006dce2e87000000010000000500020084

def mReadChild : Bytes := leBytes 11 0x40000000e620100000001

theorem witness_LowerSideTakesTheUpperSidesFrames_readChild : ∃ d, d = (at0 middle).dev.elapse 0 ∧
    Hears d fReadChild 4 (partsOf fReadChild) .up mReadChild ∧ IsFresh d (partsOf fReadChild) .up ∧
    getU mReadChild 4 1 = 1 ∧ mReadChild.length = 5 + 6 ∧ getU mReadChild 0 2 = 1 ∧ d.radio.child 0 = some { idx := 0, eui := 7, contactEvery := 900 } ∧ d.radio.reasm = none ∧ d.radio.digests.any (·.child == 1) = false ∧ d.radio.queue.length = 24 ∧ sumNat ((objRefs 1 (mReadChild.drop 5)).map fun o => 8 + max 1 o.len) ≤ 237 ∧ (d.radio.queue.getD 23 {}).state = 0 ∧ d.radio.queue.all (·.state == 0) = true :=
  ⟨_, rfl, hears_of (key := key0) (by intro k h; cases h) (by decide +kernel), ⟨_, _, rfl⟩, by decide +kernel⟩

def fNoteMany : RxFrame := air 252 0x1bcfe0c982a234e2b676d0ff80fea3d8f8051dcc196286bc283153f98bad9b0aed9c7fb93cb632ec449ea485e4e4c6cceba5ff700cce630e53ee1bc2bf21f0d09e77b03328a5f2214416626a0fbbd175084b4512bb14a7d55d65066e7286c5e592add0572fb97190cb4ada99dc5938131e8c4236c65e98d1a2faef8eacbb78f8497f6a38b2363bd21182dac067f58909f87108d04980974d50fefa31772a83557064046a451b79176fefa8e9875a20ac886bb032abbc9edbea139ad854c26300215935eff5562141ab4fbc069b2c4631c3d2794f16d73123aa17eafb92dbf9a7a2ecb5954685ddb5e77cb7006ce23e87000000010000000100010185

def mNoteMany : Bytes := leBytes 234 0x1012c1001

set_option maxRecDepth 200000 in
theorem witness_LowerSideTakesTheUpperSidesFrames_noteMany : ∃ d, d = (at0 node).dev.elapse 0 ∧
    Hears d fNoteMany 5 (partsOf fNoteMany) .up mNoteMany ∧ IsFresh d (partsOf fNoteMany) .up ∧
    11 ≤ mNoteMany.length ∧ (fragOf mNoteMany).sizeOk = true ∧ (fragOf mNoteMany).lenOk = true ∧ (fragOf mNoteMany).frag = 0 ∧ d.radio.reasm = none ∧ d.noteUndecided = false ∧ (fragOf mNoteMany).target = d.radio.ownShort ∧ 1 < (fragOf mNoteMany).count ∧ (partsOf fNoteMany).hdr.pending = true ∧
    d.radioP.budgetUs = none ∧ d.radio.fcntTx < 0xFFFFFF00 ∧
    d.radio.exch.map (·.frames) = some 0 ∧ 3 ≤ d.phyP.exchMax :=
  ⟨_, rfl, hears_of (key := key0) (by intro k h; cases h) (by decide +kernel), ⟨_, _, rfl⟩, by decide +kernel⟩

def fNoteOne : RxFrame := air 29 0x52d1ffa6ba7c8dddb5e77cb7006dcf2e87000000010000000100010085

def mNoteOne : Bytes := leBytes 11 0x800000000000100010001

theorem witness_LowerSideTakesTheUpperSidesFrames_noteOne : ∃ d, d = (at0 node).dev.elapse 0 ∧
    Hears d fNoteOne 5 (partsOf fNoteOne) .up mNoteOne ∧ IsFresh d (partsOf fNoteOne) .up ∧
    (fragOf mNoteOne).sizeOk = true ∧ (fragOf mNoteOne).lenOk = true ∧ (fragOf mNoteOne).frag = 0 ∧ d.radio.reasm = none ∧ d.noteUndecided = false ∧ (fragOf mNoteOne).target = d.radio.ownShort ∧ (fragOf mNoteOne).count = 1 ∧ (fragOf mNoteOne).data.length = (fragOf mNoteOne).totalLen ∧
    d.radioP.budgetUs = none ∧ d.radio.fcntTx < 0xFFFFFF00 ∧
    d.radio.exch.map (·.frames) = some 0 ∧ 3 ≤ d.phyP.exchMax :=
  ⟨_, rfl, hears_of (key := key0) (by intro k h; cases h) (by decide +kernel), ⟨_, _, rfl⟩, by decide +kernel⟩

def fNoteChild : RxFrame := air 29 0xf14992d07cd8dddb5e77cb7006dcf2e87000000010000000500020085

def mNoteChild : Bytes := leBytes 11 0x800000000000100010001

theorem witness_LowerSideTakesTheUpperSidesFrames_noteChild : ∃ d, d = (at0 middle).dev.elapse 0 ∧
    Hears d fNoteChild 5 (partsOf fNoteChild) .up mNoteChild ∧ IsFresh d (partsOf fNoteChild) .up ∧
    (fragOf mNoteChild).sizeOk = true ∧ (fragOf mNoteChild).lenOk = true ∧ (fragOf mNoteChild).target = 1 ∧ d.radio.role = 2 ∧ d.radio.reasm = none ∧ (fragOf mNoteChild).count = 1 ∧ (fragOf mNoteChild).data.length = (fragOf mNoteChild).totalLen ∧ d.admitChild (fragOf mNoteChild) (d.radio.child 0) 1 8 = none ∧ (d.radio.queue.getD 7 {}).state = 0 ∧ d.radio.exch.map (·.attempt) = some none ∧
    d.radioP.budgetUs = none ∧ d.radio.fcntTx < 0xFFFFFF00 ∧
    d.radio.exch.map (·.frames) = some 0 ∧ 3 ≤ d.phyP.exchMax :=
  ⟨_, rfl, hears_of (key := key0) (by intro k h; cases h) (by decide +kernel), ⟨_, _, rfl⟩, by decide +kernel⟩

def fTime : RxFrame := air 24 0x43dcd9c69aeab7016dc12e86000000010000000100010086

def mTime : Bytes := leBytes 6 0xf0000

theorem witness_LowerSideTakesTheUpperSidesFrames_time : ∃ d, d = (at0 node).dev.elapse 0 ∧
    Hears d fTime 6 (partsOf fTime) .up mTime ∧ IsFresh d (partsOf fTime) .up ∧
    mTime.length = 6 ∧ d.secondary = false ∧ d.sec.lc = .sealed ∧ d.trusted = false ∧ (timed 1).trusted = true ∧ (rne (64 * (getU mTime 0 6 : Int) - (64 : Nat)) 64) = 983039 ∧ (983039 : Int).natAbs ≤ (timed 1).land.adjLimit * 32768 ∧ (timed 1).relFits (.rel 983039) = true ∧ base.sec.lc = .blank ∧ d.writable = true ∧ (timed 1).writable = true :=
  ⟨_, rfl, hears_of (key := key0) (by intro k h; cases h) (by decide +kernel), ⟨_, _, rfl⟩, by decide +kernel⟩

/-- The contact alarm of slot 6; the basic uplink goes with DATA. -/
def contacting : Device :=
  { node with sec := { lc := .sealed, devEui := some 7, keys := { net0 := some key0 } }
              land := { alarms := List.replicate 12 { fired := true } }, radio := { node.radio with link := 1, exch := none } }

def asked (x : Exchange) : Device := { node with radio := { node.radio with exch := some x } }

theorem witness_ContactsKeepTheirSchedule :
    Meets contacting (fun d => d.up = true ∧ d.contacts = true ∧ d.fired 6 = true ∧ d.radioP.budgetUs = none ∧
      d.radio.fcntTx < 0xFFFFFF00 ∧ 1 < d.phyP.exchMax ∧ d.radio.exch = none) ∧
    Meets { base with land := { alarms := List.replicate 12 { fired := true } } } (fun d => d.up = true ∧ d.contacts = false ∧
      d.fired 6 = true) ∧
    Meets base (fun d => d.fired 6 = false ∧ d.radio.exch = none) ∧
    Meets (asked { peer := .up, frames := 1, repeats := 1 }) (fun d => d.up = true ∧ d.on .ferryman = true ∧
      d.radio.exch = some { peer := .up, frames := 1, repeats := 1 } ∧ d.radioP.budgetUs = none ∧ d.radio.fcntTx < 0xFFFFFF00) ∧
    Meets { base with power := { phase := .down } } (fun d => d.up = false) ∧
    Meets (asked { peer := .up, frames := 1, repeats := 2 }) (fun d => d.on .ferryman = true ∧
      d.radio.exch = some { peer := .up, frames := 1, repeats := 2 }) ∧
    Meets (asked { peer := .child 0, frames := 1 }) (fun d => d.on .ferryman = true ∧
      d.radio.exch = some { peer := .child 0, frames := 1 }) ∧
    Meets (asked { peer := .up, answered := true }) (fun d => d.radio.exch = some { peer := .up, answered := true }) := by decide

/-- A child whose window opens at the present tick, and a search. -/
def due (c : Child) (tick : Nat) : Device :=
  { parent with radio := { parent.radio with children := [c] }, land := { tick := tick } }

def childA : Child := { idx := 499, eui := 7, tExp := 64 * 1000, contactEvery := 900 }

theorem witness_ParentWindowsOpenMissAndSearch :
    Meets (due childA 1000) (fun d => d.radio.child 499 = some childA ∧ d.parenting = true ∧
      (d.windowOf childA).1 ≤ (d.land.tick : Int) ∧ d.radio.exch = none ∧ (d.land.tick : Int) ≤ (d.windowOf childA).2 ∧
      (∀ x ∈ d.radio.children, x.windowOpen = true → d.radioP.chanAt x.nextCh = d.radioP.chanAt childA.nextCh) ∧
      d.radioP.budgetUs = none) ∧
    Meets { due childA 1000 with radio := { (due childA 1000).radio with
        children := [childA, { idx := 0, eui := 9, windowOpen := true, nextCh := 1 }] } } (fun d =>
      d.radio.child 499 = some childA ∧ d.parenting = true ∧
      ∃ x ∈ d.radio.children, x.windowOpen = true ∧ d.radioP.chanAt x.nextCh ≠ d.radioP.chanAt childA.nextCh) ∧
    Meets (due childA 0) (fun d => (d.land.tick : Int) < (d.windowOf childA).1) ∧
    (∀ c ∈ [childA, { childA with search := true }], Meets { due c 1000 with fn := {} } fun d => d.up = true ∧
      d.on .ferryman = false ∧ d.radio.role = 2 ∧ d.radio.child 499 = some c ∧ c.windowOpen = false ∧
      (d.windowOf c).1 ≤ (d.land.tick : Int)) ∧
    Meets { due childA 1000 with radio := { (due childA 1000).radio with exch := some { peer := .up } } } (fun d =>
      d.radio.exch.isSome = true ∧ d.parenting = true) ∧
    Meets (due { childA with windowOpen := true, missRun := 2 } 2000) (fun d => d.parenting = true ∧
      (d.windowOf { childA with windowOpen := true, missRun := 2 }).2 ≤ (d.land.tick : Int)) ∧
    Meets (due { childA with windowOpen := true, listenTo := some 2001 } 2000) (fun d => d.parenting = true ∧
      d.land.tick < (some 2001).getD 0) ∧
    Meets (due { childA with windowOpen := true, search := true } 1000) (fun d => d.parenting = true ∧
      (d.land.tick : Int) < (d.windowOf { childA with windowOpen := true, search := true }).2) ∧
    Meets (due { childA with search := true, searchLevel := 15 } 1000) (fun d => d.parenting = true ∧ d.radio.exch = none ∧
      (d.windowOf { childA with search := true, searchLevel := 15 }).1 ≤ (d.land.tick : Int) ∧
      (d.land.tick : Int) ≤ (d.windowOf { childA with search := true, searchLevel := 15 }).2 ∧
      d.radio.searchMs + d.searchLen { childA with search := true, searchLevel := 15 } ≤ d.phyP.searchCap * 1000) ∧
    Meets { due { childA with search := true } 1000 with
        radio := { (due { childA with search := true } 1000).radio with searchMs := 60000 } } (fun d =>
      d.phyP.searchCap * 1000 < d.radio.searchMs + d.searchLen { childA with search := true }) ∧
    Meets (due { childA with search := true } (30 * 2831155200)) (fun d => d.parenting = true ∧
      childA.lastFrame + d.phyP.evictDays * 2831155200 ≤ d.land.tick) := by decide

def queued (i : Nat) (q : QEntry) (tick : Nat) : Device :=
  { parent with radio := { parent.radio with queue := (List.replicate 24 {}).set i q }, land := { tick := tick } }

theorem witness_QueueBudgetsAndTelegrams :
    Meets (queued 7 { state := 1, tExpiry := 5 } 5) (fun d => d.up = true ∧ d.radio.queue[7]? = some { state := 1, tExpiry := 5 } ∧
      5 ≤ d.land.tick ∧ d.radio.queue[23]? = some ({} : QEntry)) ∧
    Meets (queued 8 { state := 1, tExpiry := 5 } 5) (fun d => d.radio.queue[8]? = some { state := 1, tExpiry := 5 }) ∧
    Meets (queued 23 { state := 2 } 2831155200) (fun d => d.radio.queue[23]? = some { state := 2 } ∧
      0 + d.phyP.proxyHold * 32768 ≤ d.land.tick) ∧
    Meets { parent with radio := { parent.radio with cfg := leBytes 16 (2 ^ 32) } } (fun d => d.up = true ∧ d.radio.role = 2 ∧
      0 < getU d.radio.cfg 4 2 ∧ d.on .ferryman = true ∧ d.radio.joinOpen = true ∧ d.radio.joinUntil ≤ d.land.tick) ∧
    Meets base (fun d => d.radio.role ≠ 2 ∧ d.radio.joinOpen = false ∧ (d.land.tick - d.radio.txWindow) / 117964800 = 0 ∧
      (d.land.tick - d.radio.searchPeriod) / 2831155200 = 0 ∧ d.on .wmbus = false) ∧
    Meets (queued 0 {} 2831155200) (fun d => 0 < (d.land.tick - d.radio.txWindow) / 117964800 ∧
      0 < (d.land.tick - d.radio.searchPeriod) / 2831155200) := by decide

def sender (key : Option Bytes) : Device :=
  { base with fn := { wmbus := onF }, sec := { lc := .sealed, keys := { wmbus := key } }
              land := { alarms := List.replicate 12 { fired := true } }, radio := { wmbus := 1, cfg := leBytes 16 1 } }

theorem witness_QueueBudgetsAndTelegrams_wmbus :
    Meets (sender (some key0)) (fun d => d.up = true ∧ d.on .wmbus = true ∧ d.fired 9 = true ∧ d.sec.keys.wmbus = some key0 ∧
      d.radio.cfg ≠ [] ∧ d.wmFree (wmAirUs 1 ((d.loadShadow 1).wmTelegram key0 0).length) = true ∧
      d.radio.wmbusUs + wmAirUs 1 ((d.loadShadow 1).wmTelegram key0 0).length ≤ 3600000) ∧
    Meets (sender none) (fun d => d.sec.keys.wmbus = none ∧ d.fired 9 = true) ∧
    Meets { sender none with fn := {} } (fun d => d.up = true ∧ d.on .wmbus = false ∧ d.fired 9 = true) := by decide +kernel

/-! ## Hawser -/

def hw (dst src typ : Nat) (p : Bytes) : HwFrame := ⟨hwFrame dst src typ 5 p, ⟨100, 7⟩⟩

/-- Secondary 1, synchronised. -/
def second : Device :=
  { base with fn := { transit := onF, converter := onF, hawser := onF }, haw := { role := 2, deviceNo := 1, synced := true }
              conf := { g := { wiring := some { roles := [2, 0, 0, 0] } } } }

theorem witness_SecondaryServesItsPrimary :
    Meets second (fun d => d.secondary = true ∧ d.on .hawser = true ∧ hwParse [] = none) ∧
    Meets { second with fn := {} } (fun d => d.secondary = true ∧ d.on .hawser = false ∧ d.on .transit = false) ∧
    (hwParse (hw 2 0 1 []).bytes ≠ none ∧ second.hwAccept 1 (hw 2 0 1 []) = none) ∧
    (∀ dst ∈ [1, 7], second.hwAccept 1 (hw dst 0 1 []) = some ⟨dst, 0, 1, 5, []⟩) ∧
    second.hwAccept 3 (hw 1 0 3 [0, 1, 0, 0, 0]) = some ⟨1, 0, 3, 5, [0, 1, 0, 0, 0]⟩ ∧
    second.hwAccept 5 (hw 1 0 5 []) = some ⟨1, 0, 5, 5, []⟩ ∧
    (second.hwAccept 10 (hw 1 0 10 []) = some ⟨1, 0, 10, 5, []⟩ ∧ second.haw.loopSeq ≠ some 5) ∧
    (∀ dst ∈ [1, 7], second.hwAccept 12 (hw dst 0 12 (leBytes 6 9)) = some ⟨dst, 0, 12, 5, leBytes 6 9⟩) ∧
    second.hwAccept 4 (hw 1 0 4 (leBytes 13 0)) = some ⟨1, 0, 4, 5, leBytes 13 0⟩ ∧
    second.hwAccept 4 (hw 7 0 4 (leBytes 13 0)) = some ⟨7, 0, 4, 5, leBytes 13 0⟩ ∧
    second.hwAccept 8 (hw 1 0 8 []) = some ⟨1, 0, 8, 5, []⟩ ∧
    Meets { second with power := { phase := .running, st := .nap } } (fun d => d.secondary = true ∧ d.hwLive = false) ∧
    Meets { second with store := { due := [false, false, true] } } (fun d => d.store.due.getD 0 false = false ∧
      d.store.due.getD 2 false = true ∧ d.haw.job.isSome = false ∧ d.haw.synced = true) ∧
    Meets second (fun d => d.fn.hawser.st ≠ .off ∧ d.on .hawser = true ∧ d.hwLive = true ∧ d.store.due.getD 2 false = false ∧ d.on .transit = true ∧ d.on .converter = true ∧
      d.haw.synced = true ∧ d.haw.job.isSome = false ∧ d.haw.sampling = false ∧ d.store.due.getD 0 false = false ∧
      d.conf.wiring.roles.any (· != 0) = true ∧ d.power.st ≠ .nap ∧ d.land.osc < d.haw.lastFrame + 328) ∧
    Meets { second with fn := { second.fn with hawser := { st := .stopping } }, haw := { second.haw with synced := false }
                        store := { due := [true, true] } } (fun d => d.fn.hawser.st ≠ .off ∧ d.haw.synced = false ∧
      d.store.due.getD 0 false = true ∧ d.store.due.getD 1 false = true) ∧
    Meets { second with haw := { second.haw with sampling := true }, power := { phase := .running, st := .nap }
                        land := { osc := 328 } } (fun d => d.haw.sampling = true ∧ d.on .converter = true ∧
      d.power.st = .nap ∧ d.up = true ∧ d.haw.lastFrame + 328 ≤ d.land.osc) := by decide +kernel

def jobA : FireJob := ⟨0, false, false, true, 0, 0, 0, 0, 0, 0, 0, false, 0, none⟩

/-- A FIRE in each of the three cycle states; a CFG part for path 0 that differs from the one held. -/
theorem witness_SecondaryServesItsPrimary_parts :
    (∀ c ∈ [0, 1, 2], Meets { second with haw := { second.haw with cycle := c } } fun d => d.haw.cycle = c ∧
      d.hwAccept 4 (hw 1 0 4 (leBytes 13 0)) = some ⟨1, 0, 4, 5, leBytes 13 0⟩ ∧ d.on .hawser = true ∧ d.on .transit = true ∧
      d.haw.synced = true ∧ d.haw.job = none ∧ d.store.due.getD 0 false = false ∧ d.tr.tb.refinSel = false) ∧
    (∀ n ∈ [1, 16, 63], Meets second fun d => d.on .hawser = true ∧
      d.hwAccept 3 (hw 1 0 3 (n :: leBytes 28 7)) = some ⟨1, 0, 3, 5, n :: leBytes 28 7⟩) ∧
    Meets { second with haw := { second.haw with pushed := [⟨0, {}, 1, 2⟩] } } (fun d => d.haw.pushedAt 0 = some ⟨0, {}, 1, 2⟩ ∧
      (⟨0, {}, 1, 2⟩ : PushedPath) ≠ ⟨0, pathOf (leBytes 28 7), getU (leBytes 28 7) 20 4, getU (leBytes 28 7) 24 4⟩) ∧
    (second.hwAccept 10 (hw 1 0 10 []) = some ⟨1, 0, 10, 5, []⟩ ∧
      ({ second with haw := { second.haw with loopSeq := some 5 } } : Device).haw.loopSeq = some 5) ∧
    (∀ r ∈ [some 1534, some 1538], refPass r = true) := by decide +kernel

theorem witness_SecondaryServesItsPrimary_busy :
    Meets { second with haw := { second.haw with job := some jobA } } (fun d => d.haw.job.isSome = true ∧
      d.on .hawser = true ∧ d.on .transit = true ∧ d.haw.synced = true) := by decide

/-- The primary of one synchronised secondary, whose path 0 is in flight, with a request of type `req` outstanding. -/
def primary (req : Nat) : Device :=
  { base with
    fn := { transit := onF, converter := onF, hawser := onF }
    conf := { g := { pathList := some { paths := [{ devUp := 1, devDown := 1 }, { devUp := 1, devDown := 1 }] } } }
    tr := { cyc := { running := true, inFlight := some 0, toFire := [1] } }
    haw := { role := 1, secs := { state := 1 } :: List.replicate 4 {}, out := some ⟨1, req, 1, hwFrame 1 0 req 5 [], 0⟩ } }

/-- The same between cycles. -/
def resting (req : Nat) : Device := { primary req with tr := {} }

theorem answers_of {d : Device} {f : HwFrame} {typ req : Nat} {p : HwParts}
    (h : d.haw.role = 1 ∧ d.on .hawser = true ∧ d.hwLive = true ∧ d.hwAccept typ f = some p ∧ 1 ≤ p.src ∧ p.src ≤ 5 ∧ d.haw.secs.length = 5 ∧
      d.haw.out.isSome = true ∧ d.haw.out.map (fun o => (o.dst, o.typ)) = some (p.src, req)) : HwAnswers d f typ req p := by
  obtain ⟨a, b, w, c, e, g, i, _, k⟩ := h
  cases ho : d.haw.out with
  | none => simp [ho] at k
  | some o => exact ⟨a, ⟨b, w, c⟩, e, g, i, o, ho, by simpa [ho] using k⟩

theorem witness_PrimaryRunsItsCascade_answers :
    (let d := { resting 1 with haw := { (resting 1).haw with syncing := [2, 3] } }
     HwAnswers d (hw 0 1 2 (leBytes 12 0)) 2 1 ⟨0, 1, 2, 5, leBytes 12 0⟩ ∧ d.haw.expectedKnown = false ∧
       d.haw.syncing = 2 :: [3] ∧ d.tr.cyc.inFlight = none) ∧
    (let d := { resting 3 with haw := { (resting 3).haw with cfgParts := [(1, 1)] } }
     HwAnswers d (hw 0 1 14 [5]) 14 3 ⟨0, 1, 14, 5, [5]⟩ ∧ getU ([5] : Bytes) 0 1 = getU (hwFrame 1 0 3 5 []) 2 1 ∧
       d.haw.syncing = [] ∧ d.haw.cfgParts.filter (fun q => (d.sec1 q.1).state == 1) = (1, 1) :: []) ∧
    HwAnswers (primary 4) (hw 0 1 7 (leBytes 51 0)) 7 4 ⟨0, 1, 7, 5, leBytes 51 0⟩ ∧
    (HwAnswers (primary 4) (hw 0 1 6 (leBytes 14 0 ++ leBytes 6 1 ++ leBytes 6 2)) 6 4
        ⟨0, 1, 6, 5, leBytes 14 0 ++ leBytes 6 1 ++ leBytes 6 2⟩ ∧
      getU (leBytes 14 0 ++ leBytes 6 1 ++ leBytes 6 2) 14 6 < getU (leBytes 14 0 ++ leBytes 6 1 ++ leBytes 6 2) 20 6) ∧
    HwAnswers (primary 4) (hw 0 1 13 [4, 0, 0]) 13 4 ⟨0, 1, 13, 5, [4, 0, 0]⟩ ∧
    HwAnswers (primary 10) (hw 0 1 11 (leBytes 4 0)) 11 10 ⟨0, 1, 11, 5, leBytes 4 0⟩ :=
  ⟨⟨answers_of (by decide +kernel), by decide⟩, ⟨answers_of (by decide +kernel), by decide +kernel⟩,
   answers_of (by decide +kernel), ⟨answers_of (by decide +kernel), by decide⟩, answers_of (by decide +kernel),
   answers_of (by decide +kernel)⟩

theorem witness_PrimaryRunsItsCascade :
    Meets (primary 4) (fun d => d.tr.cyc.inFlight = some 0 ∧ d.tr.paths[0]? = some ({} : PathState) ∧ getU (leBytes 51 0) 0 1 = 0 ∧
      d.conf.shot.external = false ∧ d.on .transit = true ∧ d.tr.cyc.toFire = 1 :: [] ∧ d.haw.secs[1 - 1]? = some { state := 1 } ∧
      bitAt d.haw.expected 0 = false ∧ d.tr.cyc.probe = false ∧ ({} : PathState).work.stale = false ∧
      ({ state := 1 } : Secondary).state ≠ 3 ∧ ({ state := 1 } : Secondary).missSeq ≠ some d.tr.cyc.seq) ∧
    Meets { resting 10 with haw := { (resting 10).haw with loop := some { dst := 1, exchanges := 63, lastRound := some 1 } } } (fun d =>
      d.tr.cyc.inFlight = none ∧ d.haw.syncing = [] ∧ d.haw.cfgParts = [] ∧ d.gapOf 14 = true ∧ (d.sec1 1).state = 1) ∧
    Meets { resting 3 with haw := { (resting 3).haw with out := none }
                           land := { tick := 3600 * 24 * 32768 * 40, shadows := List.replicate 6 {} } } (fun d =>
      d.hwFree = true ∧ 4 < d.land.shadows.length) ∧
    (primary 3).hwFree = false ∧
    Meets { primary 10 with haw := { (primary 10).haw with loop := some { dst := 1, exchanges := 63, lastRound := some 1 } } } (fun d =>
      (d.haw.loop.map fun r => (r.dst, r.exchanges)) = some (1, 63) ∧ 63 + 1 < 65 ∧ d.tr.cyc.inFlight.isSome = true) ∧
    Meets { primary 8 with temp := { running := true, awaiting := [1], units := List.replicate 5 { state := 1 } } } (fun d =>
      d.haw.role = 1 ∧ d.hwAccept 9 (hw 0 1 9 (leBytes (5 * (d.usedChans 1).length + 4) 0)) =
        some ⟨0, 1, 9, 5, leBytes (5 * (d.usedChans 1).length + 4) 0⟩ ∧ d.temp.running = true ∧
      d.temp.awaiting.contains 1 = true ∧ d.temp.ownPart = none) ∧
    Meets { primary 3 with land := { tick := 3600 * 24 * 32768 * 40 } } (fun d => d.up = true ∧ d.on .hawser = true ∧
      d.loopDueNow d.haw.loopTemp = true ∧ d.haw.out.isSome = true ∧ d.haw.lastBroadcast + 2831155200 ≤ d.land.tick) ∧
    Meets { base with haw := { role := 1 }, land := { tick := 3600 * 24 * 32768 * 40 } } (fun d => d.up = true ∧ d.haw.role = 1 ∧
      d.on .hawser = false ∧ d.loopDueNow d.haw.loopTemp = true ∧ d.haw.lastBroadcast + 2831155200 ≤ d.land.tick) ∧
    Meets base (fun d => d.haw.role ≠ 1 ∧ d.fired 11 = false) ∧
    Meets { base with haw := { role := 1 } } (fun d => d.haw.out = none ∧ d.tr.cyc.inFlight = none ∧ d.temp.running = false) ∧
    (∀ o, (primary 3).haw.out = some o → o.typ ≠ 4 ∧ o.tries < 2) ∧ (∀ o, (primary 4).haw.out = some o → o.typ = 4 ∧ o.dst = 1) ∧
    Meets { base with land := { alarms := List.replicate 12 { fired := true } } } (fun d => d.tolling = true ∧ d.fired 11 = true ∧
      d.writable = true ∧ d.land.alarms[11]? = some { fired := true } ∧ d.haw.syncing = [] ∧
      ∀ k ∈ [1, 2, 3, 4, 5], (d.sec1 k).resync = false) := by
  refine ⟨by decide, by decide, by decide, by decide, by decide, by decide +kernel, by decide, by decide, by decide, by decide, ?_, ?_, by decide⟩
  all_goals (intro o h; simp only [primary, Option.some.injEq] at h; subst h; decide)

end Sys2Proof.Tests
end

/-! SUPPORT. Little-endian fields read back (R3, R5). -/

namespace Sys2Proof

@[simp] theorem length_leBytes (n v : Nat) : (leBytes n v).length = n := by
  induction n generalizing v with
  | zero => rfl
  | succ n ih => simp [leBytes, ih]

/-- `n` bytes hold a value modulo 256^n. -/
theorem leNat_leBytes (n v : Nat) : leNat (leBytes n v) = v % 256 ^ n := by
  induction n generalizing v with
  | zero => simp [leBytes, leNat, Nat.mod_one]
  | succ n ih =>
    have split256 : v % 256 ^ (n + 1) = v % 256 + 256 * (v / 256 % 256 ^ n) := by
      rw [Nat.pow_succ', Nat.mod_mul]
    simp [leBytes, leNat, ih, split256]

/-- Byte `i` is bits 8i + 7 to 8i. -/
theorem getD_leBytes (n v i : Nat) (h : i < n) : (leBytes n v).getD i 0 = BitVec.ofNat 8 (v / 256 ^ i) := by
  induction n generalizing v i with
  | zero => exact absurd h (Nat.not_lt_zero i)
  | succ n ih =>
    cases i with
    | zero => simp [leBytes]
    | succ i =>
      calc (leBytes (n + 1) v).getD (i + 1) 0 = (leBytes n (v / 256)).getD i 0 := by simp [leBytes]
        _ = BitVec.ofNat 8 (v / 256 / 256 ^ i) := ih _ _ (Nat.lt_of_succ_lt_succ h)
        _ = BitVec.ofNat 8 (v / 256 ^ (i + 1)) := by rw [Nat.div_div_eq_div_mul, ← Nat.pow_succ']

/-- Two's complement is the balanced remainder. -/
theorem signedOf_eq_bmod (w n : Nat) (h : 1 ≤ w) : signedOf w n = (n : Int).bmod (2 ^ w) := by
  obtain ⟨k, rfl⟩ : ∃ k, w = k + 1 := ⟨w - 1, by omega⟩
  have half : (2 ^ (k + 1) + 1) / 2 = 2 ^ k := by rw [Nat.pow_succ']; omega
  simp only [signedOf, Int.bmod_def, Nat.add_sub_cancel, ← Int.natCast_mod]
  norm_cast
  rw [half]

theorem bitsOf_cast (w : Nat) (v : Int) : ((bitsOf w v : Nat) : Int) = v % 2 ^ w :=
  Int.toNat_of_nonneg (Int.emod_nonneg _ (by positivity))

theorem bitsOf_lt (w : Nat) (v : Int) : bitsOf w v < 2 ^ w := by
  have h : v % 2 ^ w < 2 ^ w := Int.emod_lt_of_pos _ (by positivity)
  rw [← bitsOf_cast] at h
  exact_mod_cast h

theorem signedOf_bitsOf (w : Nat) (v : Int) (hw : 1 ≤ w) (lo : -2 ^ (w - 1) ≤ v) (hi : v < 2 ^ (w - 1)) :
    signedOf w (bitsOf w v) = v := by
  obtain ⟨k, rfl⟩ : ∃ k, w = k + 1 := ⟨w - 1, by omega⟩
  have double : (2 : Int) ^ (k + 1) = 2 * 2 ^ k := pow_succ' 2 k
  rw [Nat.add_sub_cancel] at lo hi
  calc signedOf (k + 1) (bitsOf (k + 1) v) = (v % 2 ^ (k + 1)).bmod (2 ^ (k + 1)) := by
        rw [signedOf_eq_bmod _ _ hw, bitsOf_cast]
    _ = v.bmod (2 ^ (k + 1)) := by exact_mod_cast Int.emod_bmod v _
    _ = v := Int.bmod_eq_of_le (by push_cast; omega) (by push_cast; omega)

/-- Settles O13: both byte readings are remainders modulo 256^n, which the ranges make the value itself. -/
theorem littleEndianFields : Obligations.LittleEndianFields := by
  refine ⟨fun n v => ⟨length_leBytes n v, fun h => ?_, fun i => getD_leBytes n v i⟩, fun n v hn lo hi => ?_⟩
  · rw [leNat_leBytes, Nat.mod_eq_of_lt h]
  · have fits : bitsOf (8 * n) v < 256 ^ n := by
      have := bitsOf_lt (8 * n) v
      rwa [Nat.pow_mul] at this
    rw [leBytesS, leNat_leBytes, Nat.mod_eq_of_lt fits, signedOf_bitsOf _ _ (by omega) lo hi]

end Sys2Proof

/-! SUPPORT. What a committed configuration brings about leaves the controller's state and the LFX coefficients alone. -/

namespace Sys2Proof.Machine

/-- The state of the Security and Life-cycle Controller and the Landing's LFX coefficients are the same (R302, R467). -/
abbrev Device.SecLf (t s : Device) : Prop := t.sec = s.sec ∧ t.land.lf = s.land.lf

theorem Device.SecLf.refl (s : Device) : s.SecLf s := ⟨rfl, rfl⟩

theorem Device.SecLf.trans {a b c : Device} (h : a.SecLf b) (k : b.SecLf c) : a.SecLf c :=
  ⟨h.1.trans k.1, h.2.trans k.2⟩

theorem foldl_secLf {α : Type} (f : Device → α → Device) (h : ∀ s a, (f s a).SecLf s) (l : List α) (s : Device) :
    (l.foldl f s).SecLf s := by
  induction l generalizing s with
  | nil => exact .refl s
  | cons a l ih => rw [List.foldl_cons]; exact (ih _).trans (h s a)

theorem secLf_ite {c : Prop} [Decidable c] {a b x : Device} (h : a.SecLf x) (k : b.SecLf x) :
    (if c then a else b).SecLf x := by
  split <;> assumption

/-! ## Shared updates -/

theorem Device.journal_secLf (s : Device) (c a b : Nat) : (s.journal c a b).SecLf s := by
  unfold Device.SecLf; simp

theorem Device.degrade_secLf (s : Device) (f : Degraded → Degraded) : (s.degrade f).SecLf s := ⟨rfl, rfl⟩

theorem Device.arm_secLf (s : Device) (i t : Nat) (e : Bool) : (s.arm i t e).SecLf s := by
  unfold Device.SecLf; simp

theorem Device.disarm_secLf (s : Device) (i : Nat) : (s.disarm i).SecLf s := by
  unfold Device.SecLf; simp

theorem Device.setFunc_secLf (s : Device) (k : Func) (v : FuncState) : (s.setFunc k v).SecLf s := by
  unfold Device.SecLf; simp

theorem Device.want_secLf (s : Device) (k : Func) (b : Bool) : (s.want k b).SecLf s :=
  secLf_ite (Device.setFunc_secLf ..) (Device.setFunc_secLf ..)

theorem Device.bounce_secLf (s : Device) (k : Func) : (s.bounce k).SecLf s :=
  secLf_ite ((Device.setFunc_secLf ..).trans (Device.setFunc_secLf ..)) (.refl s)

theorem Device.bounceIf_secLf (s : Device) (b : Bool) (k : Func) : (s.bounceIf b k).SecLf s :=
  secLf_ite (Device.bounce_secLf s k) (.refl s)

theorem Device.applyFunctions_secLf (s : Device) : s.applyFunctions.SecLf s := by
  rw [Device.applyFunctions]
  exact foldl_secLf Device.wantStep (fun x f => Device.want_secLf x f (x.wanted f)) allFuncs s

/-! ## The primary's own exchanges -/

theorem Device.hwAsk_secLf (s : Device) (dst typ : Nat) (b : Bytes) : (s.hwAsk dst typ b).SecLf s := ⟨rfl, rfl⟩

theorem Device.loopAsk_secLf (s : Device) (r : LoopRun) : (s.loopAsk r).SecLf s := by
  unfold Device.loopAsk; split <;> exact ⟨rfl, rfl⟩

theorem Device.loopPump_secLf (s : Device) : s.loopPump.SecLf s := by
  unfold Device.loopPump
  split
  · exact .refl s
  · split
    · exact secLf_ite (Device.loopAsk_secLf ..) (.refl s)
    · split
      · exact Device.loopAsk_secLf ..
      · exact .refl s

theorem Device.hwPump_secLf (s : Device) : s.hwPump.SecLf s := by
  unfold Device.hwPump
  split
  · exact .refl s
  · split
    · exact Device.hwAsk_secLf ..
    · split
      · exact Device.hwAsk_secLf ..
      · exact Device.loopPump_secLf ..

/-! ## Estimates, conditions, the temperature rule -/

theorem Device.routeEstEnergy_secLf (s : Device) (inc : Int) : (s.routeEstEnergy inc).SecLf s := by
  unfold Device.routeEstEnergy
  split
  · split
    · split
      · exact ⟨rfl, rfl⟩
      · exact .refl s
    · split
      · exact .refl s
      · split
        · exact .refl s
        · exact ⟨rfl, rfl⟩
  · exact .refl s

theorem Device.convert_est_secLf (s : Device) (inc : Int) : (s.convert inc false).SecLf s := by
  unfold Device.convert
  extract_lets
  exact secLf_ite (secLf_ite ⟨rfl, rfl⟩ (secLf_ite ⟨rfl, rfl⟩ ⟨rfl, rfl⟩)) (.refl s)

theorem Device.accrueEst_secLf (s : Device) (t : Nat) : (s.accrueEst t).SecLf s := by
  unfold Device.accrueEst
  exact secLf_ite (secLf_ite (.refl s) ((Device.convert_est_secLf ..).trans (Device.routeEstEnergy_secLf ..))) (.refl s)

theorem Device.endFlowFault_secLf (s : Device) (t : Nat) : (s.endFlowFault t).SecLf s :=
  secLf_ite (Device.accrueEst_secLf s t) (.refl s)

theorem Device.recond_secLf (s : Device) : s.recond.SecLf s := by
  have edge : s.safeEdge.SecLf s := secLf_ite (.refl s) (Device.accrueEst_secLf ..)
  exact secLf_ite edge (.refl s)

theorem Device.fallDue_secLf (s : Device) : s.fallDue.SecLf s := by
  unfold Device.fallDue
  split
  · extract_lets ks cap temp s1 s2
    have armed : s2.SecLf s := Device.arm_secLf s1 ..
    have sent : ((s2.hwBurst 7).hwSend 7 0x08 []).SecLf s := armed
    exact secLf_ite sent armed
  · exact .refl s

theorem Device.tempRule_secLf (s : Device) : s.tempRule.SecLf s :=
  secLf_ite (secLf_ite (Device.fallDue_secLf s) (Device.arm_secLf ..)) (.refl s)

/-! ## Radio and display -/

theorem Device.contactAt_secLf (s : Device) (t : Nat) : (s.contactAt t).SecLf s := Device.arm_secLf ..

theorem Device.startContacts_secLf (s : Device) : s.startContacts.SecLf s :=
  secLf_ite (secLf_ite (Device.contactAt_secLf ..) (Device.contactAt_secLf ..)) (.refl s)

theorem Device.wmStart_secLf (s : Device) : s.wmStart.SecLf s :=
  secLf_ite (Device.arm_secLf ..) (.refl s)

theorem Device.armWindows_secLf (s : Device) : s.armWindows.SecLf s := by
  unfold Device.armWindows
  dsimp only
  split
  · exact secLf_ite (Device.disarm_secLf ..) (.refl s)
  · exact Device.arm_secLf ..

theorem Device.planRadio_secLf (s : Device) : s.planRadio.SecLf s := by
  have contacts : (if s.radio.role = 0 ∧ s.armed 6 = true then s.disarm 6 else s.startContacts).SecLf s :=
    secLf_ite (Device.disarm_secLf ..) (Device.startContacts_secLf s)
  exact (Device.armWindows_secLf _).trans ((secLf_ite (Device.disarm_secLf ..) (Device.wmStart_secLf _)).trans contacts)

theorem Device.armRefresh_secLf (s : Device) : s.armRefresh.SecLf s :=
  secLf_ite (Device.disarm_secLf ..) (Device.arm_secLf ..)

theorem Device.displayTables_secLf (s : Device) : s.displayTables.SecLf s := by
  unfold Device.displayTables
  extract_lets p s1
  have tables : (if p.2 = 0 then s1 else s1.journal 0x703 p.2 0).SecLf s1 := secLf_ite (.refl s1) (Device.journal_secLf ..)
  exact (Device.degrade_secLf ..).trans tables

theorem Device.displayRetable_secLf (s : Device) : s.displayRetable.SecLf s :=
  secLf_ite (.refl s) (Device.displayTables_secLf s)

/-! ## A commit of the configuration -/

theorem Device.pushCorr_secLf (s : Device) : s.pushCorr.SecLf s := Device.hwPump_secLf _

theorem Device.ageRecompute_secLf (s : Device) : s.ageRecompute.SecLf s := by
  unfold Device.ageRecompute
  split
  · exact .refl s
  · split
    · extract_lets a n e c beyond tb tr s1 s2
      have clamped : s2.SecLf s := secLf_ite (Device.journal_secLf s1 ..) (.refl s)
      exact secLf_ite ((Device.pushCorr_secLf s2).trans clamped) clamped
    · exact .refl s

theorem Device.calibTest_secLf (s : Device) : s.calibTest.SecLf s :=
  secLf_ite (Device.journal_secLf ..) (.refl s)

theorem Device.classDefault_secLf (s : Device) : s.classDefault.SecLf s :=
  secLf_ite (.refl s) (.refl s)

theorem Device.renameSecs_secLf (s : Device) : s.renameSecs.SecLf s :=
  secLf_ite (.refl s) (.refl s)

theorem Device.armWake_secLf (s : Device) : s.armWake.SecLf s := by
  unfold Device.armWake
  split
  · exact secLf_ite (Device.arm_secLf ..) (.refl s)
  · exact .refl s

theorem Device.shotChanged_secLf (s : Device) (old : Conf) : (s.shotChanged old).SecLf s :=
  secLf_ite (.refl s) (.refl s)

theorem Device.initRole_secLf (s : Device) : s.initRole.SecLf s :=
  secLf_ite (Device.degrade_secLf ..) (.refl s)

theorem Device.startMetering_secLf (s : Device) : s.startMetering.SecLf s :=
  (Device.arm_secLf ..).trans (Device.endFlowFault_secLf s _)

theorem Device.recommitA_secLf (s : Device) (old : Conf) : (s.recommitA old).SecLf s := by
  have wake := (Device.armWake_secLf _).trans
    (secLf_ite (c := old.g.shot ≠ s.conf.g.shot) (Device.shotChanged_secLf s old) (.refl s))
  exact secLf_ite wake wake

theorem Device.recommitB_secLf (s : Device) (o n : Groups) : (s.recommitB o n).SecLf s := by
  have radio : (if o.radio ≠ n.radio ∨ o.phy ≠ n.phy then s.initRadio else s).SecLf s := secLf_ite (.refl s) (.refl s)
  exact secLf_ite ((Device.initRole_secLf _).trans radio) radio

theorem Device.dropBridge_secLf (s : Device) : s.dropBridge.SecLf s := by
  unfold Device.dropBridge; split <;> exact ⟨rfl, rfl⟩

theorem Device.recommitT_secLf (s : Device) (o n : Groups) : (s.recommitT o n).SecLf s :=
  (Device.dropBridge_secLf _).trans (secLf_ite ⟨rfl, rfl⟩ (.refl s))

theorem Device.recommitC_secLf (s : Device) (old new : Conf) : (s.recommitC old new).SecLf s :=
  secLf_ite (.refl s) (secLf_ite ((Device.armRefresh_secLf _).trans (Device.displayRetable_secLf s)) (Device.disarm_secLf ..))

theorem Device.recommitD_secLf (s : Device) (o n : Groups) : (s.recommitD o n).SecLf s := by
  rw [Device.recommitD]
  refine (Device.applyFunctions_secLf _).trans ?_
  exact foldl_secLf (fun (x : Device) (r : Bool × Func) => x.bounceIf r.1 r.2) (fun x r => Device.bounceIf_secLf x r.1 r.2) _ s

theorem Device.recommitE_secLf (s : Device) (was : Bool) (o n : Groups) : (s.recommitE was o n).SecLf s := by
  unfold Device.recommitE
  extract_lets s1
  have metering : s1.SecLf s := secLf_ite (Device.startMetering_secLf s) (.refl s)
  exact secLf_ite ((Device.tempRule_secLf _).trans ((Device.arm_secLf ..).trans metering)) metering

theorem Device.applyCommit_secLf (s : Device) (old : Conf) : (s.applyCommit old).SecLf s := by
  unfold Device.applyCommit
  extract_lets o n was s0 s1
  have paths : s0.SecLf s := (Device.renameSecs_secLf _).trans (Device.classDefault_secLf s)
  have blocks : s1.SecLf s0 :=
    (Device.recommitC_secLf ..).trans ((Device.recommitT_secLf ..).trans ((Device.recommitB_secLf ..).trans
      (Device.recommitA_secLf ..)))
  exact (Device.recond_secLf _).trans ((Device.planRadio_secLf _).trans ((Device.recommitE_secLf ..).trans
    ((Device.recommitD_secLf ..).trans (blocks.trans paths))))

end Sys2Proof.Machine

/-! SUPPORT. What events, verdicts and the first steps of a taken record write, and what they leave alone. -/

namespace Sys2Proof.Machine

/-- `t` is `s` but for what is written as an event is entered: the controller's state, the journal, the time counters,
the Store (R242, R282, R290). -/
def Device.Booked (t s : Device) : Prop :=
  t = { s with sec := t.sec, jnl := t.jnl, toll := { s.toll with ft := t.toll.ft }, store := t.store }

theorem Device.Booked.refl (s : Device) : s.Booked s := rfl

theorem Device.Booked.trans {a b c : Device} (h : a.Booked b) (k : b.Booked c) : a.Booked c := by
  unfold Device.Booked at *; rw [h, k]

theorem Device.Booked.land {t s : Device} (h : t.Booked s) : t.land = s.land := by
  unfold Device.Booked at h; exact (congrArg Device.land h).trans rfl

theorem Device.Booked.refusals {t s : Device} (h : t.Booked s) : t.refusals = s.refusals := by
  unfold Device.Booked at h; exact (congrArg Device.refusals h).trans rfl

theorem Device.Booked.radio {t s : Device} (h : t.Booked s) : t.radio = s.radio := by
  unfold Device.Booked at h; exact (congrArg Device.radio h).trans rfl

theorem Device.Booked.withLand {t s : Device} (h : t.Booked s) (l : Landing) :
    ({ t with land := l } : Device).Booked { s with land := l } := by
  unfold Device.Booked at h ⊢; rw [h]

theorem Device.Booked.withRadio {t s : Device} (h : t.Booked s) (x : Radio) :
    ({ t with radio := x } : Device).Booked { s with radio := x } := by
  unfold Device.Booked at h ⊢; rw [h]

theorem Device.withSec_booked (s : Device) (x : Security) : ({ s with sec := x } : Device).Booked s := rfl

theorem Device.commit_booked (s : Device) : s.commit.Booked s := by
  unfold Device.Booked Device.commit; split <;> rfl

theorem Device.journalWith_booked (s : Device) (t : Nat) (u : Bool) (c a b : Nat) : (s.journalWith t u c a b).Booked s := by
  unfold Device.journalWith
  split
  · exact .refl s
  · exact (Device.commit_booked _).trans rfl

theorem Device.journal_booked (s : Device) (c a b : Nat) : (s.journal c a b).Booked s := Device.journalWith_booked ..

theorem Device.tamper_booked (s : Device) (k : Nat) : (s.tamper k).Booked s := by
  unfold Device.tamper Device.tamperAt Device.tamperWith
  split
  · split
    · exact .refl s
    · dsimp only
      split
      · exact (Device.commit_booked _).trans rfl
      · exact (Device.journalWith_booked ..).trans rfl
  · exact .refl s

/-- Of the controller's state a count of tamper writes the tamper ledger only (R465). -/
theorem Device.tamper_sec (s : Device) (k : Nat) :
    (s.tamper k).sec = { s.sec with
      tamper := (s.tamper k).sec.tamper, tamperNew := (s.tamper k).sec.tamperNew
      tamperTotal := (s.tamper k).sec.tamperTotal } := by
  unfold Device.tamper Device.tamperAt Device.tamperWith
  split
  · split
    · rfl
    · dsimp only
      split <;> simp
  · rfl

@[simp] theorem Device.tamper_seqOf (s : Device) (k j : Nat) : (s.tamper k).sec.seqOf j = s.sec.seqOf j := by
  rw [Device.tamper_sec]; rfl

@[simp] theorem Device.tamper_hashes (s : Device) (k : Nat) : (s.tamper k).sec.hashes = s.sec.hashes := by
  rw [Device.tamper_sec]

/-! ## A record that is taken (R441, R443) -/

@[simp] theorem Security.setSeq_seqOf (x : Security) (k v : Nat) : (x.setSeq k v).seqOf k = v := by
  unfold Security.setSeq; split <;> simp [Security.seqOf]

@[simp] theorem Security.setSeq_hashes (x : Security) (k v : Nat) : (x.setSeq k v).hashes = x.hashes := by
  unfold Security.setSeq; split <;> rfl

/-- The device as a taken record finds it when it is applied: number and hash are set, a legal change is counted. -/
def Device.taken (s : Device) (r : Rec) : Device := (s.recCommit r).legalCount r

theorem Device.recCommit_booked (s : Device) (r : Rec) : (s.recCommit r).Booked s :=
  (Device.commit_booked _).trans (Device.withSec_booked s _)

theorem Device.legalCount_booked (s : Device) (r : Rec) : (s.legalCount r).Booked s := by
  unfold Device.legalCount
  split
  · exact Device.tamper_booked ..
  · exact .refl s

theorem Device.taken_booked (s : Device) (r : Rec) : (s.taken r).Booked s :=
  (Device.legalCount_booked ..).trans (Device.recCommit_booked ..)

@[simp] theorem Device.taken_land (s : Device) (r : Rec) : (s.taken r).land = s.land :=
  (s.taken_booked r).land

@[simp] theorem Device.taken_refusals (s : Device) (r : Rec) : (s.taken r).refusals = s.refusals :=
  (s.taken_booked r).refusals

@[simp] theorem Device.taken_radio (s : Device) (r : Rec) : (s.taken r).radio = s.radio :=
  (s.taken_booked r).radio

@[simp] theorem Device.taken_calm (s : Device) (r : Rec) : (s.taken r).Calm s :=
  (Device.legalCount_calm ..).trans (Device.recCommit_calm ..)

theorem Device.taken_seqOf (s : Device) (r : Rec) : (s.taken r).sec.seqOf (r.signer 0) = r.seq := by
  have seq : (s.recCommit r).sec.seqOf (r.signer 0) = r.seq := by
    rw [Device.recCommit, Device.commit_sec]
    exact Security.setSeq_seqOf s.sec _ _
  unfold Device.taken Device.legalCount
  split <;> simp [seq]

theorem Device.taken_hashes (s : Device) (r : Rec) :
    (s.taken r).sec.hashes = s.sec.hashes.set (r.signer 0) (r.hash.take 16) := by
  unfold Device.taken Device.legalCount
  split <;> simp [Device.recCommit]

/-- The entry of REC_STATUS for a record that is taken (R450). -/
def takenVerdict (tick : Nat) (p : RecPath) (r : Rec) : Verdict :=
  ⟨tick, r.typ, 0, r.seq, r.signer 0, if r.nSig = 2 then r.signer 1 else 15, p == .air⟩

theorem Device.verdict_zero (s : Device) (p : RecPath) (r : Rec) :
    s.verdict p r 0 = Device.journal { s with sec := { s.sec with
      verdicts := (takenVerdict s.land.tick p r :: s.sec.verdicts).take 8
      verdictSeq := wrapU 32 (s.sec.verdictSeq + 1) } } 0x801 r.typ r.seq := by
  simp [Device.verdict, takenVerdict]

theorem Device.verdict_zero_booked (s : Device) (p : RecPath) (r : Rec) : (s.verdict p r 0).Booked s := by
  rw [Device.verdict_zero]
  exact (Device.journal_booked ..).trans (Device.withSec_booked s _)

@[simp] theorem Device.verdict_zero_land (s : Device) (p : RecPath) (r : Rec) : (s.verdict p r 0).land = s.land :=
  (s.verdict_zero_booked p r).land

@[simp] theorem Device.verdict_zero_refusals (s : Device) (p : RecPath) (r : Rec) :
    (s.verdict p r 0).refusals = s.refusals :=
  (s.verdict_zero_booked p r).refusals

/-- What the record itself does keeps the tick and the controller's state: then it counts as accepted. -/
theorem Device.verdict_accepted (d x : Device) (p : RecPath) (r : Rec) (tick : x.land.tick = d.land.tick)
    (sec : x.sec = (d.taken r).sec) : Accepted d (x.verdict p r 0) p r := by
  refine ⟨?_, ?_, ?_⟩
  · rw [Device.verdict_zero, Device.journal_sec, tick]; rfl
  · rw [Device.verdict_zero, Device.journal_sec, ← d.taken_seqOf r, ← sec]; rfl
  · rw [Device.verdict_zero, Device.journal_sec, ← d.taken_hashes r, ← sec]

theorem recOf_typ (n : Nat) (rest : Bytes) : (recOf (BitVec.ofNat 8 n :: rest)).typ = n % 256 := by
  simp [recOf, getU, slice, leNat]

/-- A taken record outside the life cycle: it is applied and its verdict entered. -/
theorem Device.record_taken {d : Device} {typ : Nat} {p : RecPath} {rest : Bytes} {r : Rec} (h : Takes d typ p rest r)
    (small : typ < 256) (n1 : typ ≠ 1) (n4 : typ ≠ 4) :
    d.record typ p rest = ((d.taken r).applyRec r).verdict p r 0 ∧ r.typ = typ := by
  obtain ⟨rfl, up, sound, cause⟩ := h
  have typ_eq := (recOf_typ typ rest).trans (Nat.mod_eq_of_lt small)
  refine ⟨?_, typ_eq⟩
  simp [Device.record, Device.decideRec, up, sound, cause, typ_eq, n1, n4, Device.taken]

end Sys2Proof.Machine

/-! SUPPORT. What each configuration record leaves once it is taken. -/

namespace Sys2Proof.Machine

/-! ## CALIB and PARAM_EXPERT (R69, R539, R541) -/

/-- The calibration stored, in force, and handed to the Landing, before the blocks follow it. -/
def Device.storeCalib (s : Device) (r : Rec) : Device :=
  let c := calibOf ((blocksOf sectionSize r.body).getD [])
  { s with
    conf := { s.conf with calibStored := r.bytes, calib := c }
    land := if s.writable then { s.land with lf := c.lf } else s.land }

/-- The stored PARAM_EXPERT and the groups it leaves in force, before the blocks follow them. -/
def Device.storeExpert (s : Device) (r : Rec) : Device :=
  let g := s.groupsAfter r
  let p := if s.conf.safePreset then s.conf.pendingMask else pendingOf s.image g
  { s with
    conf := { s.conf with expertStored := r.bytes, g := g, pendingMask := p }
    straps := { s.straps with expertPendingBit := s.straps.expertPendingBit && p != 0 } }

theorem Device.applyCalib_kept (s : Device) (r : Rec) : (s.applyCalib r).Kept (s.storeCalib r) := by
  unfold Device.applyCalib
  extract_lets c old conf s1 s2 s3
  have aged : s2.Kept s1 := kept_ite (Device.ageRecompute_kept s1) (.refl s1)
  have tested : s3.Kept s1 := (kept_ite (.refl s2) (Device.calibTest_kept s2)).trans aged
  exact kept_ite ((Device.applyCommit_kept s3 old).trans tested) tested

theorem Device.applyCalib_secLf (s : Device) (r : Rec) : (s.applyCalib r).SecLf (s.storeCalib r) := by
  unfold Device.applyCalib
  extract_lets c old conf s1 s2 s3
  have aged : s2.SecLf s1 := secLf_ite (Device.ageRecompute_secLf s1) (.refl s1)
  have tested : s3.SecLf s1 := (secLf_ite (.refl s2) (Device.calibTest_secLf s2)).trans aged
  exact secLf_ite ((Device.applyCommit_secLf s3 old).trans tested) tested

theorem Device.applyExpert_kept (s : Device) (r : Rec) : (s.applyExpert r).Kept (s.storeExpert r) :=
  kept_ite (Device.applyCommit_kept (s.storeExpert r) s.conf) (.refl _)

theorem Device.applyExpert_secLf (s : Device) (r : Rec) : (s.applyExpert r).SecLf (s.storeExpert r) :=
  secLf_ite (Device.applyCommit_secLf (s.storeExpert r) s.conf) (.refl _)


theorem Device.groupsAfter_taken (d : Device) (r : Rec) : (d.taken r).groupsAfter r = d.groupsAfter r := by
  simp [Device.groupsAfter, Device.image]

theorem Device.calib_clause (d : Device) (p : RecPath) (r : Rec) (t : Device)
    (ht : t = ((d.taken r).applyCalib r).verdict p r 0) :
    Accepted d t p r ∧ t.conf.calibStored = r.bytes ∧ t.conf.calib = calibOf ((blocksOf sectionSize r.body).getD []) ∧
      t.land.lf = (if d.land.supply = .bat then t.conf.calib.lf else d.land.lf) ∧
      t.conf.expertStored = d.conf.expertStored ∧ t.conf.g = d.conf.g ∧ t.sec.keys = d.sec.keys ∧ t.sec.lc = d.sec.lc ∧
      t.land.tick = d.land.tick := by
  subst ht
  obtain ⟨-, -, calibStored, expertStored, g, calib, -⟩ := Device.applyCalib_kept (d.taken r) r
  obtain ⟨sec, lf⟩ := Device.applyCalib_secLf (d.taken r) r
  refine ⟨Device.verdict_accepted d _ p r (by simp) sec, ?_⟩
  simp only [Device.storeCalib] at calibStored expertStored g calib sec lf
  simp [calibStored, expertStored, g, calib, sec, lf, Device.writable, apply_ite Landing.lf]

/-- A given block of `CFG0` comes into force where that strap reads code 15 (R69, R541). -/
theorem Device.groupsAfter_medium (d : Device) (r : Rec) (m : MediumP) (preset : d.conf.safePreset = false)
    (code : codeOf d.straps.codes 0 = 15) (good : bitAt d.straps.badMask 0 = false)
    (given : (groupsOf ((blocksOf groupSize r.body).getD [])).medium = some m) : (d.groupsAfter r).medium = some m := by
  simp [Device.groupsAfter, mergeGroups, takeGroup, Device.image, preset, code, good, given]

/-- At any other code the group stays. -/
theorem Device.groupsAfter_medium_stays (d : Device) (r : Rec) (code : codeOf d.straps.codes 0 ≠ 15) :
    (d.groupsAfter r).medium = d.conf.g.medium := by
  unfold Device.groupsAfter
  split
  · rfl
  · simp [mergeGroups, takeGroup, Device.image, code]

theorem Device.groupsAfter_safePreset (d : Device) (r : Rec) (preset : d.conf.safePreset = true) :
    d.groupsAfter r = d.conf.g := by
  simp [Device.groupsAfter, preset]

theorem Device.expert_clause (d : Device) (p : RecPath) (r : Rec) (t : Device)
    (ht : t = ((d.taken r).applyExpert r).verdict p r 0) :
    Accepted d t p r ∧ t.conf.expertStored = r.bytes ∧ t.conf.g = d.groupsAfter r ∧
      (d.conf.safePreset = false → codeOf d.straps.codes 0 = 15 → bitAt d.straps.badMask 0 = false →
        ∀ m, (groupsOf ((blocksOf groupSize r.body).getD [])).medium = some m → t.conf.g.medium = some m) ∧
      (codeOf d.straps.codes 0 ≠ 15 → t.conf.g.medium = d.conf.g.medium) ∧
      (d.conf.safePreset = true → t.conf.g = d.conf.g) ∧ t.conf.calibStored = d.conf.calibStored ∧
      t.conf.calib = d.conf.calib ∧ t.sec.keys = d.sec.keys ∧ t.sec.lc = d.sec.lc ∧ t.land.tick = d.land.tick := by
  subst ht
  obtain ⟨-, -, calibStored, expertStored, g, calib, -⟩ := Device.applyExpert_kept (d.taken r) r
  obtain ⟨sec, -⟩ := Device.applyExpert_secLf (d.taken r) r
  simp only [Device.storeExpert, Device.groupsAfter_taken] at calibStored expertStored g calib sec
  refine ⟨Device.verdict_accepted d _ p r (by simp) sec, by simp [expertStored], by simp [g], ?_, ?_, ?_,
    by simp [calibStored, calib, sec]⟩
  · intro preset code good m given
    simp [g, Device.groupsAfter_medium d r m preset code good given]
  · intro code
    simp [g, Device.groupsAfter_medium_stays d r code]
  · intro preset
    simp [g, Device.groupsAfter_safePreset d r preset]

/-! ## TARIFF_CAL (R265) -/

/-- Arming slot 0 writes the Landing only. -/
theorem Device.rearmBoundary_frame (s : Device) :
    s.rearmBoundary.sec = s.sec ∧ s.rearmBoundary.conf = s.conf ∧ s.rearmBoundary.bill = s.bill := by
  unfold Device.rearmBoundary
  split
  · exact ⟨rfl, rfl, rfl⟩
  · unfold Device.armBoundary
    dsimp only
    split <;> simp

theorem Device.calendar_clause (d : Device) (p : RecPath) (r : Rec) (t : Device)
    (ht : t = ((d.taken r).applyCalendar r).verdict p r 0) :
    Accepted d t p r ∧ t.bill.calPassive = some (calendarOf r.body r.seq) ∧ t.bill.calActive = d.bill.calActive ∧
      t.conf = d.conf ∧ t.sec.keys = d.sec.keys ∧ t.sec.lc = d.sec.lc ∧ t.land.tick = d.land.tick := by
  have applied : ((d.taken r).applyCalendar r).sec = (d.taken r).sec ∧ ((d.taken r).applyCalendar r).conf = d.conf ∧
      ((d.taken r).applyCalendar r).bill = { d.bill with calPassive := some (calendarOf r.body r.seq), deferred := false } := by
    unfold Device.applyCalendar
    dsimp only
    split <;> simp [Device.rearmBoundary_frame]
  obtain ⟨sec, conf, bill⟩ := applied
  subst ht
  refine ⟨Device.verdict_accepted d _ p r (by simp) sec, ?_⟩
  simp [sec, conf, bill]

/-! ## TIME_SET (R312, R323) -/

/-- A set in range is given; a relative one is its signed delta (R312, R536). -/
theorem timeSetOf_relative (b : Bytes) (given : (timeSetOf b).isSome = true) (rel : getU b 0 1 = 1) :
    timeSetOf b = some (.rel (getS b 10 6)) := by
  unfold timeSetOf at given ⊢
  simp only [rel, if_true] at given ⊢
  split at given
  · simp [*]
  · cases given

theorem Device.waitSet_eq (s : Device) (x : Option PendSet) :
    s.waitSet x = { s with land := if s.land.supply = .bat then { s.land with pendSet := x } else s.land } := by
  simp only [Device.waitSet, Device.writable, beq_iff_eq]
  split <;> rfl

theorem Device.timeSet_clause (d : Device) (p : RecPath) (r : Rec) (t : Device) (given : (timeSetOf r.body).isSome = true)
    (ht : t = ((d.taken r).applyTimeSet r.body).verdict p r 0) :
    Accepted d t p r ∧
      (d.land.supply = .bat → t.land = { d.land with pendSet := timeSetOf r.body } ∧ t.land.pendSet.isSome = true ∧
        (getU r.body 0 1 = 1 → t.land.pendSet = some (.rel (getS r.body 10 6)))) ∧
      (d.land.supply ≠ .bat → t.land = d.land) ∧ t.sec.keys = d.sec.keys ∧ t.sec.lc = d.sec.lc ∧
      t = { d with sec := t.sec, jnl := t.jnl, toll := { d.toll with ft := t.toll.ft }, store := t.store, land := t.land } := by
  let l := if d.land.supply = .bat then { d.land with pendSet := timeSetOf r.body } else d.land
  have applied : (d.taken r).applyTimeSet r.body = { d.taken r with land := l } := by
    rw [Device.applyTimeSet, Device.waitSet_eq, Device.taken_land]
  rw [applied] at ht
  have booked : t.Booked { d with land := l } := by
    rw [ht]; exact (Device.verdict_zero_booked ..).trans ((d.taken_booked r).withLand l)
  have land : t.land = l := booked.land
  have tick : l.tick = d.land.tick := by simp only [l, apply_ite Landing.tick, ite_self]
  refine ⟨ht ▸ Device.verdict_accepted d _ p r tick rfl, fun bat => ?_, fun locked => ?_, by simp [ht], by simp [ht], ?_⟩
  · simp only [land, l, bat, if_true]
    exact ⟨trivial, given, timeSetOf_relative r.body given⟩
  · simp only [land, l, locked, if_false]
  · rw [land]; exact booked

/-! ## RADIO_CFG (R387, R529) -/

/-- The record writes the radio only; opening the join channel keeps what it has set. -/
theorem Device.applyRadioCfg_radio (s : Device) (b : Bytes) : ∃ x : Radio, s.applyRadioCfg b = { s with radio := x } ∧
    x.cfg = slice b 0 13 ++ [0, 0, 0] ∧ x.netId = getU b 0 2 ∧ x.upNetId = getU b 2 2 := by
  unfold Device.applyRadioCfg Device.openJoin
  dsimp only
  split <;> exact ⟨_, rfl, rfl, rfl, rfl⟩

theorem Device.radioCfg_clause (d : Device) (p : RecPath) (r : Rec) (t : Device)
    (ht : t = ((d.taken r).applyRadioCfg r.body).verdict p r 0) :
    Accepted d t p r ∧ t.radio.cfg = slice r.body 0 13 ++ [0, 0, 0] ∧ t.radio.netId = getU r.body 0 2 ∧
      t.radio.upNetId = getU r.body 2 2 ∧ t.sec.keys = d.sec.keys ∧ t.sec.lc = d.sec.lc ∧
      t = { d with sec := t.sec, jnl := t.jnl, toll := { d.toll with ft := t.toll.ft }, store := t.store, radio := t.radio } := by
  obtain ⟨x, applied, cfg, netId, upNetId⟩ := (d.taken r).applyRadioCfg_radio r.body
  rw [applied] at ht
  have booked : t.Booked { d with radio := x } := by
    rw [ht]; exact (Device.verdict_zero_booked ..).trans ((d.taken_booked r).withRadio x)
  have radio : t.radio = x := booked.radio
  refine ⟨ht ▸ Device.verdict_accepted d _ p r (by simp) rfl, radio ▸ cfg, radio ▸ netId, radio ▸ upNetId, by simp [ht],
    by simp [ht], ?_⟩
  rw [radio]; exact booked

/-! ## DISPLAY_REQ (R428) -/

/-- A composition leaves page, budget, refusals and the controller's state. -/
theorem Device.displayCompose_frame (s : Device) (full : Bool) (n : Nat) :
    (s.displayCompose full n).disp.page = s.disp.page ∧ (s.displayCompose full n).disp.budgetUsed = s.disp.budgetUsed ∧
      (s.displayCompose full n).refusals = s.refusals ∧ (s.displayCompose full n).sec = s.sec ∧
      (s.displayCompose full n).conf = s.conf := by
  unfold Device.displayCompose
  dsimp only
  split <;> simp

theorem Device.displayRequest_admitted (s : Device) (page : Nat) (full : Bool) (hold : Nat) (on : s.on .display = true)
    (budget : s.disp.budgetUsed < (s.conf.g.display.getD {}).updCap) :
    s.displayRequest page full hold = (Device.showPage { s with disp := { s.disp with
      budgetUsed := s.disp.budgetUsed + 1 } } page hold).displayCompose full 1 := by
  simp [Device.displayRequest, Device.displayAdmit, on, budget]

theorem Device.displayRequest_off (s : Device) (page : Nat) (full : Bool) (hold : Nat) (off : s.on .display = false) :
    s.displayRequest page full hold = s.refuse 8 := by
  simp [Device.displayRequest, Device.displayAdmit, off]

@[simp] theorem Device.taken_on (d : Device) (r : Rec) (k : Func) : (d.taken r).on k = d.on k := by
  simp [Device.on]

theorem Device.displayReq_clause (d : Device) (p : RecPath) (r : Rec) (page : Nat) (full : Bool) (hold : Nat) (t : Device)
    (on : d.on .display = true) (budget : d.disp.budgetUsed < (d.conf.g.display.getD {}).updCap)
    (ht : t = ((d.taken r).displayRequest page full hold).verdict p r 0) :
    Accepted d t p r ∧ t.disp.page = page ∧ t.disp.budgetUsed = d.disp.budgetUsed + 1 ∧ t.refusals = d.refusals ∧
      t.conf = d.conf ∧ t.sec.keys = d.sec.keys ∧ t.sec.lc = d.sec.lc ∧ t.land.tick = d.land.tick := by
  rw [Device.displayRequest_admitted _ _ _ _ (by simpa using on) (by simpa using budget)] at ht
  subst ht
  refine ⟨Device.verdict_accepted d _ p r (by simp) (by simp [Device.displayCompose_frame, Device.showPage]), ?_⟩
  simp [Device.displayCompose_frame, Device.showPage]

theorem Device.displayReq_off_clause (d : Device) (p : RecPath) (r : Rec) (page : Nat) (full : Bool) (hold : Nat)
    (t : Device) (off : d.on .display = false) (ht : t = ((d.taken r).displayRequest page full hold).verdict p r 0) :
    Accepted d t p r ∧ t.refusals = setAt d.refusals 8 satInc ∧ t.disp = d.disp ∧ t.land = d.land := by
  rw [Device.displayRequest_off _ _ _ _ (by simpa using off)] at ht
  subst ht
  exact ⟨Device.verdict_accepted d _ p r (by simp) rfl, by simp⟩

/-- A record that passes the checks of R441 has its fields in range (step 11). -/
theorem Device.recCause_zero_inRange (d : Device) (p : RecPath) (r : Rec) (cause : d.recCause p r = 0) :
    d.inRangeRec r = true := by
  unfold Device.recCause at cause
  iterate 10 obtain ⟨-, cause⟩ := chain_zero (by decide) cause
  exact not_not_true (chain_zero (by decide) cause).1

/-- A taken TIME_SET gives a target or a delta. -/
theorem Device.recCause_zero_timeSet (d : Device) (p : RecPath) (r : Rec) (cause : d.recCause p r = 0) (typ : r.typ = 8) :
    (timeSetOf r.body).isSome = true := by
  have range := d.recCause_zero_inRange p r cause
  simp only [Device.inRangeRec, typ, Bool.and_eq_true] at range
  exact range.2

end Sys2Proof.Machine

namespace Sys2Proof
open Machine

/-- Settles O37: each record is applied to the device as taken, and its verdict writes the record books only. -/
theorem configurationRecords : Obligations.ConfigurationRecords := by
  intro dt p rest s d r hd
  subst hd
  refine ⟨fun h => ?_, fun h => ?_, fun h => ?_, fun h => ?_, fun h => ?_, fun h => ⟨fun on budget => ?_, fun off => ?_⟩⟩
  all_goals
    obtain ⟨record, typ⟩ := Device.record_taken h (by decide) (by decide) (by decide)
    simp only [Device.applyRec, typ] at record
    refine ⟨_, rfl, ?_⟩
  · exact Device.calib_clause _ p r _ record
  · exact Device.expert_clause _ p r _ record
  · exact Device.calendar_clause _ p r _ record
  · exact Device.timeSet_clause _ p r _ (Device.recCause_zero_timeSet _ p r h.2.2.2 typ) record
  · exact Device.radioCfg_clause _ p r _ record
  · exact Device.displayReq_clause _ p r _ _ _ _ on budget record
  · exact Device.displayReq_off_clause _ p r _ _ _ _ off record

end Sys2Proof

/-! SUPPORT. What passes in two spans of time is what passes in their sum (R298 to R301, R319). -/

namespace Sys2Proof.Machine

/-- What fired at the end of the first span is settled by the second; what fires in the second fires at the sum. -/
theorem Alarm.reach_settle_reach (a : Alarm) {p t q u : Nat} (later : t ≤ q) (last : q ≤ u) :
    ((a.settle.reach p t).settle).reach q u = a.settle.reach q u := by
  unfold Alarm.reach Alarm.settle
  by_cases armed : a.armed = true ∧ a.fired = false
  · obtain ⟨ha, hf⟩ := armed
    by_cases early : a.target ≤ t
    · have atEnd : a.target ≤ u := by omega
      have notFresh : ¬ q < a.target := by omega
      simp [ha, hf, early, atEnd, notFresh]
    · simp [ha, hf, early]
  · have quiet : (a.armed && !a.fired) = false := by
      cases ha : a.armed <;> cases hf : a.fired <;> simp_all
    simp [quiet]

theorem Landing.elapse_elapse (l : Landing) (a b : Nat) : (l.elapse a).elapse b = l.elapse (a + b) := by
  rcases Nat.eq_zero_or_pos a with rfl | ha
  · rw [Landing.elapse_zero, Nat.zero_add]
  rcases Nat.eq_zero_or_pos b with rfl | hb
  · rfl
  have na : a ≠ 0 := by omega
  have nb : b ≠ 0 := by omega
  have nab : a + b ≠ 0 := by omega
  have tick : min (min (l.tick + a) tickMax + b) tickMax = min (l.tick + (a + b)) tickMax := by omega
  have prev : min (min (l.tick + a) tickMax + (b - 1)) tickMax = min (l.tick + (a + b - 1)) tickMax := by omega
  have later : min (l.tick + a) tickMax ≤ min (l.tick + (a + b - 1)) tickMax := by omega
  have last : min (l.tick + (a + b - 1)) tickMax ≤ min (l.tick + (a + b)) tickMax := by omega
  simp only [Landing.elapse, na, nb, nab, if_false, Landing.fireAlarms, Landing.debouncing, tick, prev, List.map_map,
    Nat.mul_add, Nat.add_assoc]
  congr 1
  exact List.map_congr_left fun x _ => Alarm.reach_settle_reach x later last

theorem ExtShot.level_level (e : ExtShot) (p : ShotP) (a n : Nat) :
    ExtShot.level { e with tokens := e.level p a } p n = e.level p (a + n) := by
  simp only [ExtShot.level, Nat.mul_add]
  omega

theorem ExtShot.refill_refill (e : ExtShot) (p : ShotP) (a b : Nat) : (e.refill p a).refill p b = e.refill p (a + b) := by
  rcases Nat.eq_zero_or_pos a with rfl | ha
  · rw [Nat.zero_add]; rfl
  rcases Nat.eq_zero_or_pos b with rfl | hb
  · rfl
  have na : a ≠ 0 := by omega
  have nb : b ≠ 0 := by omega
  have nab : a + b ≠ 0 := by omega
  have before : a + b - 1 = a + (b - 1) := by omega
  have full (n : Nat) := e.level_level p a n
  simp only [ExtShot.refill, na, nb, nab, if_false, before]
  simp only [ExtShot.level] at full ⊢
  simp only [full]

theorem Transit.elapse_elapse (t : Transit) (p : ShotP) (a b : Nat) : (t.elapse p a).elapse p b = t.elapse p (a + b) := by
  simp [Transit.elapse, ExtShot.refill_refill, Function.comp_def, Nat.sub_sub]

theorem PulseCh.elapse_elapse (c : PulseCh) (a b : Nat) : (c.elapse a).elapse b = c.elapse (a + b) := by
  simp [PulseCh.elapse, Nat.sub_sub]

theorem FuncState.restart_cycling (f : FuncState) : ¬ (f.restart.st = .off ∧ f.restart.cycling = true) := by
  unfold FuncState.restart
  split
  · simp
  · assumption

/-- The first edge ends every cycle of OFF; a later one finds none. -/
theorem FuncState.restart_restart (f : FuncState) : f.restart.restart = f.restart := by
  conv_lhs => unfold FuncState.restart
  exact if_neg f.restart_cycling

theorem Funcs.edge_edge (f : Funcs) : f.edge.edge = f.edge := by
  simp only [Funcs.edge, FuncState.restart_restart]

theorem Funcs.elapse_elapse (f : Funcs) (a b : Nat) :
    (if b = 0 then (if a = 0 then f else f.edge) else (if a = 0 then f else f.edge).edge) =
      if a + b = 0 then f else f.edge := by
  rcases Nat.eq_zero_or_pos a with rfl | ha
  · simp
  · have na : a ≠ 0 := by omega
    simp [na, Funcs.edge_edge]

theorem Device.elapse_ticking (d : Device) (n : Nat) : (d.elapse n).ticking = d.ticking := by
  unfold Device.elapse
  dsimp only
  split
  · simp [Device.ticking]
  · rfl

end Sys2Proof.Machine

namespace Sys2Proof
open Machine

/-- Settles O4: each part that time moves composes, and a device whose Landing stands still is not moved at all. -/
theorem timePassingComposes : Obligations.TimePassingComposes := by
  intro d a b
  refine ⟨(d.elapse a).readyTimes, ?_⟩
  have ticks := d.elapse_ticking a
  by_cases runs : d.ticking = true
  · rw [Device.elapse, ticks]
    simp only [Device.elapse, runs, if_true, Landing.elapse_elapse, Transit.elapse_elapse, PulseCh.elapse_elapse,
      Funcs.elapse_elapse]
  · rw [Device.elapse, ticks]
    simp only [Device.elapse, runs]
    rfl

end Sys2Proof

/-! SUPPORT. Function states and the table of R25; draining and restarting. -/

namespace Sys2Proof
open Machine

/-- Settles O5. -/
theorem resetLeaves : Obligations.ResetLeaves :=
  ⟨rfl, rfl, rfl, rfl, rfl, rfl, rfl, rfl, rfl, rfl, rfl, rfl, rfl⟩

end Sys2Proof

namespace Sys2Proof.Machine

/-! ## The table of R25 -/

@[simp] theorem Funcs.get_set_same (f : Funcs) (k : Func) (v : FuncState) : (f.set k v).get k = v := by
  cases k <;> rfl

@[simp] theorem Funcs.set_get (f : Funcs) (k : Func) : f.set k (f.get k) = f := by
  cases k <;> rfl

@[simp] theorem Funcs.edge_get (f : Funcs) (k : Func) : f.edge.get k = (f.get k).restart := by
  cases k <;> rfl

theorem FuncState.off_follows_table (f : FuncState) (sound : f.retired = false) (still : f.cycling = false)
    (off : f.st = .off) : f.enable.st = .on ∧ f.disable.st = .off ∧ f.drained.st = .off := by
  simp [FuncState.enable, FuncState.disable, FuncState.drained, off, sound, still]

theorem FuncState.on_follows_table (f : FuncState) (on : f.st = .on) :
    f.enable.st = .on ∧ f.enable.latch = f.latch ∧ f.disable.st = .stopping ∧ f.disable.latch = false ∧
      f.drained.st = .on := by
  simp [FuncState.enable, FuncState.disable, FuncState.drained, on]

theorem FuncState.drained_stopping (f : FuncState) (stopping : f.st = .stopping) :
    f.drained = { f with st := .off, cycling := f.latch, latch := false } := by
  simp [FuncState.drained, stopping]

theorem FuncState.drained_not_stopping (f : FuncState) (moving : f.st ≠ .stopping) : f.drained = f := by
  cases st : f.st <;> simp_all [FuncState.drained]

theorem FuncState.restart_still (f : FuncState) (still : f.cycling = false) : f.restart = f := by
  simp [FuncState.restart, still]

theorem FuncState.restart_cycle (f : FuncState) (off : f.st = .off) (cycling : f.cycling = true)
    (sound : f.retired = false) : f.restart = { f with st := .on, cycling := false } := by
  simp [FuncState.restart, off, cycling, sound]

theorem FuncState.stopping_follows_table (f : FuncState) (sound : f.retired = false) (stopping : f.st = .stopping) :
    f.enable.st = .stopping ∧ f.enable.latch = true ∧ f.disable.st = .stopping ∧ f.disable.latch = false ∧
      f.drained.st = .off ∧ f.drained.latch = false ∧ (f.latch = false → f.drained.restart.st = .off) ∧
      (f.latch = true → f.drained.restart.st = .on) := by
  rw [f.drained_stopping stopping]
  refine ⟨?_, ?_, ?_, ?_, rfl, rfl, fun clear => ?_, fun latched => ?_⟩
  · simp [FuncState.enable, stopping, sound]
  · simp [FuncState.enable, stopping, sound]
  · simp [FuncState.disable, stopping]
  · simp [FuncState.disable, stopping]
  · exact congrArg FuncState.st (FuncState.restart_still { f with st := .off, cycling := f.latch, latch := false } clear)
  · exact congrArg FuncState.st (FuncState.restart_cycle { f with st := .off, cycling := f.latch, latch := false } rfl latched sound)

theorem Device.enable_from_off (d : Device) (k : Func) (off : (d.fn.get k).st = .off)
    (on : (d.fn.get k).enable.st = .on) :
    d.enable k = Device.resetFunc { d with fn := d.fn.set k (d.fn.get k).enable } k := by
  simp [Device.enable, Device.setFunc, off, on]

theorem Device.drain_stopping (d : Device) (k : Func) (stopping : (d.fn.get k).st = .stopping) :
    d.drain k = if (d.fn.get k).latch then Device.resetFunc { d with fn := d.fn.set k (d.fn.get k).drained } k
      else (Device.resetFunc { d with fn := d.fn.set k (d.fn.get k).drained } k).wentOff k := by
  simp [Device.drain, stopping, FuncState.drained_stopping]

theorem Device.drain_not_stopping (d : Device) (k : Func) (moving : (d.fn.get k).st ≠ .stopping) : d.drain k = d := by
  simp [Device.drain, moving, FuncState.drained_not_stopping]

theorem Device.elapse_fn (d : Device) (n : Nat) :
    (d.elapse n).fn = if d.ticking = true ∧ 1 ≤ n then d.fn.edge else d.fn := by
  unfold Device.elapse
  by_cases runs : d.ticking = true <;> by_cases none : n = 0 <;> simp [runs, none, Nat.one_le_iff_ne_zero]

end Sys2Proof.Machine

namespace Sys2Proof
open Machine

/-- Settles O11. -/
theorem functionStatesFollowTheTable : Obligations.FunctionStatesFollowTheTable := by
  refine ⟨fun f sound still => ⟨f.off_follows_table sound still, f.on_follows_table, f.stopping_follows_table sound⟩,
    Device.enable_from_off, ?_, ?_⟩
  · intro d k e stopping he
    rw [d.drain_stopping k stopping, he]
  · intro d k n runs edge
    rw [d.elapse_fn, if_pos ⟨runs, edge⟩, Funcs.edge_get]

end Sys2Proof

namespace Sys2Proof.Machine

/-! ## FUNCTION_DRAINED and FUNCTION_RESTART -/

theorem Device.wentOff_other (d : Device) (k : Func) (other : k ≠ .pulseOut) : d.wentOff k = d := by
  cases k
  case pulseOut => exact absurd rfl other
  all_goals rfl

/-- Once its LFX edges have come, nothing is left of a restart for the command to do. -/
theorem Device.restarted_elapse (d : Device) (n : Nat) (k : Func) : (d.elapse n).restarted n k = d.elapse n := by
  unfold Device.restarted
  rw [d.elapse_ticking]
  split
  · rename_i edge
    obtain ⟨runs, later⟩ : d.ticking = true ∧ 1 ≤ n := by
      simpa [Nat.one_le_iff_ne_zero] using edge
    have ended : ((d.elapse n).fn.get k).restart = (d.elapse n).fn.get k := by
      rw [d.elapse_fn, if_pos ⟨runs, later⟩, Funcs.edge_get, FuncState.restart_restart]
    rw [ended, Funcs.set_get]
  · rfl

theorem execFunctionRestart_eq (dt : Nat) (k : Func) (s : State) :
    exec (.functionRestart dt k) s = .next { s with dev := s.dev.elapse dt } := by
  show Host.Outcome.next { s with dev := (s.dev.elapse dt).restarted dt k } = _
  rw [s.dev.restarted_elapse dt k]

end Sys2Proof.Machine

namespace Sys2Proof
open Machine

/-- Settles O26. -/
theorem functionsDrainAndRestart : Obligations.FunctionsDrainAndRestart := by
  intro dt k s d hd
  have drained (empty : d.drainedOf k = true) : exec (.functionDrained dt k) s = .next { s with dev := d.drain k } := by
    simp [exec, execFunctionDrained, ← hd, empty]
  refine ⟨fun stopping empty v e hv he => ?_, fun moving => ?_, fun runs edge off cycling sound => ?_, fun noEdge => ?_⟩
  · rw [drained empty, d.drain_stopping k stopping, FuncState.drained_stopping _ stopping, ← hv, ← he]
    refine ⟨fun stays => ?_, fun clear out => ?_⟩
    · by_cases latched : (d.fn.get k).latch = true
      · rw [if_pos latched]
      · rw [if_neg latched, e.wentOff_other k (stays.resolve_left latched)]
    · rw [clear, out]
      rfl
  · simp [exec, execFunctionDrained, ← hd, d.drain_not_stopping k moving]
  · refine ⟨by rw [execFunctionRestart_eq, hd], ?_⟩
    rw [hd, s.dev.elapse_fn, if_pos ⟨runs, edge⟩, Funcs.edge_get, FuncState.restart_cycle _ off cycling sound]
  · refine ⟨by rw [execFunctionRestart_eq, hd], ?_⟩
    rw [hd, s.dev.elapse_fn]
    split
    · rename_i edge
      obtain ⟨runs, later⟩ := edge
      have still : (s.dev.fn.get k).cycling = false := by
        rcases noEdge with stops | none | still
        · simp [runs] at stops
        · omega
        · exact still
      rw [Funcs.edge_get, FuncState.restart_still _ still]
    · rfl

end Sys2Proof

/-! SUPPORT. A slot armed for a later tick, and what a strap re-read writes (R61, R75, R76, R319). -/

namespace Sys2Proof

@[simp] theorem getElem?_setAt_self {α : Type} (l : List α) (i : Nat) (f : α → α) : (setAt l i f)[i]? = l[i]?.map f := by
  unfold setAt
  cases h : l[i]? with
  | none => simpa using h
  | some x =>
    have inside := (List.getElem?_eq_some_iff.mp h).1
    simp [List.getElem?_set_self inside]

end Sys2Proof

namespace Sys2Proof.Machine

/-- A slot armed for a tick still to come has not fired. -/
theorem Device.arm_later (s : Device) (i target : Nat) (bat : s.land.supply = .bat) (later : s.land.tick < target) (a : Alarm)
    (slot : s.land.alarms[i]? = some a) :
    (s.arm i target true).land.alarms[i]? = some { armed := true, fired := false, elapsed := true, target := min target tickMax } := by
  have ahead : ¬ target ≤ s.land.tick := by omega
  simp [Device.arm, Device.writable, bat, Landing.arm, slot, ahead]

/-- A read but for its alarm: a difference counts STRAP_CHANGED, STRAP_LAST follows (R75, R76). -/
def Device.strapSeen (s : Device) (img : StrapImage) : Device :=
  let s1 := if s.straps.lastCodes != img.codes || s.straps.lastBad != img.bad then s.tamper 4 else s
  { s1 with straps := { s1.straps with lastCodes := img.codes, lastBad := img.bad, lastRead := s1.land.tick } }

theorem Device.strapSeen_booked (s : Device) (img : StrapImage) :
    (s.strapSeen img).Booked { s with straps := { s.straps with
      lastCodes := img.codes, lastBad := img.bad, lastRead := s.land.tick } } := by
  unfold Device.strapSeen
  dsimp only
  split
  · have counted := s.tamper_booked 4
    unfold Device.Booked at counted ⊢
    rw [counted]
  · rfl

theorem Device.strapRead_eq (s : Device) (img : StrapImage) (primary : s.secondary = false) :
    s.strapRead img = (s.strapSeen img).arm 4 (s.land.tick + tpd) true := by
  have seen : (s.strapSeen img).secondary = false ∧ (s.strapSeen img).land.tick = s.land.tick := by
    rw [s.strapSeen_booked img]
    exact ⟨primary, rfl⟩
  show (if (s.strapSeen img).secondary then _ else (s.strapSeen img).arm 4 ((s.strapSeen img).land.tick + tpd) true) = _
  rw [seen.1, seen.2]
  rfl

theorem Device.strapSeen_same_sec (s : Device) (img : StrapImage) (codes : s.straps.lastCodes = img.codes)
    (bad : s.straps.lastBad = img.bad) : (s.strapSeen img).sec = s.sec := by
  simp [Device.strapSeen, codes, bad]

end Sys2Proof.Machine

namespace Sys2Proof
open Machine

/-- Settles O34. -/
theorem strapRereadChangesNoConfiguration : Obligations.StrapRereadChangesNoConfiguration := by
  intro dt reads s d hd
  refine ⟨fun up fired primary still idle => ?_, fun busy => ?_⟩
  · have read := d.strapRead_eq (decodeStraps reads) primary
    refine ⟨(d.strapRead (decodeStraps reads)).stepRan 1, ?_, ?_, ?_, ?_, ?_, ?_⟩
    · simp [exec, execStrapReread, ← hd, up, fired, primary, still, idle]
    · rw [Device.stepRan_straps, read, Device.arm_straps, d.strapSeen_booked]
    · intro bat a slot
      rw [Device.stepRan_land, read]
      refine Device.arm_later _ 4 _ ?_ ?_ a ?_ <;> rw [(d.strapSeen_booked _).land]
      · exact bat
      · exact Nat.lt_add_of_pos_right (by decide)
      · exact slot
    · rw [Device.stepRan_conf, read, Device.arm_conf, d.strapSeen_booked]
    · exact congrArg Prod.fst (d.strapRead_life _)
    · intro codes bad
      rw [Device.stepRan_sec, read, Device.arm_sec, d.strapSeen_same_sec _ codes bad]
  · have stays : (d.up && d.fired 4 && !d.secondary && !d.temp.running && !d.haw.sampling) = false := by
      rcases busy with busy | busy | busy | busy <;> simp [busy]
    simp [exec, execStrapReread, ← hd, stays]

end Sys2Proof

/-! SUPPORT. The commands that leave the life-cycle state and the fuses (R9, R454). -/

namespace Sys2Proof.Machine

/-! ## Records outside the life cycle -/

/-- A record that is neither PROVISION nor LIFECYCLE is applied without the life cycle (R446, R457). -/
theorem Device.applyRec_life (s : Device) (r : Rec) (n1 : r.typ ≠ 1) (n4 : r.typ ≠ 4) :
    (s.applyRec r).sec.life = s.sec.life := by
  unfold Device.applyRec
  dsimp only
  split
  case h_1 typ => exact absurd typ n1
  case h_4 typ => exact absurd typ n4
  all_goals simp

theorem Device.decideRec_life (s : Device) (p : RecPath) (b : Bytes) (n1 : (recOf b).typ ≠ 1) (n4 : (recOf b).typ ≠ 4) :
    (s.decideRec p b).2.sec.life = s.sec.life := by
  have taken : (((s.recCommit (recOf b)).legalCount (recOf b)).applyRec (recOf b)).sec.life = s.sec.life := by
    rw [Device.applyRec_life _ _ n1 n4, Device.legalCount_life, Device.recCommit_life]
  simp only [Device.decideRec, n1, n4, or_self, if_false]
  rw [apply_ite Prod.snd]
  exact life_ite ((Device.verdict_life ..).trans taken) (Device.verdict_life ..)

theorem Device.record_life (s : Device) (typ : Nat) (p : RecPath) (rest : Bytes) (n1 : typ % 256 ≠ 1) (n4 : typ % 256 ≠ 4) :
    (s.record typ p rest).sec.life = s.sec.life :=
  life_ite (s.decideRec_life p _ (by rwa [recOf_typ]) (by rwa [recOf_typ])) rfl

theorem Device.displayPress_life (s : Device) :
    ((if s.conf.safePreset then s else s.showPage s.nextPage (s.conf.g.display.getD {}).pageTimeout).displayCompose false 1).sec.life =
      s.sec.life :=
  (Device.displayCompose_life ..).trans (life_ite rfl (Device.showPage_life ..))

end Sys2Proof.Machine

namespace Sys2Proof

/-- Not a PROVISION or LIFECYCLE record, in none of the ways in which one arrives, and not a part of a cold start. -/
def Instr.sparesLife (c : Instr) : Prop :=
  match c with
  | .provision .. | .lifecycle .. | .optRecord .. | .rxNote .. | .coldStart .. | .lfxWait .. | .condWaitEnd .. => False
  | _ => True

end Sys2Proof

namespace Sys2Proof.Machine

/-- A command outside the records and cold starts named leaves the life-cycle state and the fuses (R9, R454): one unguarded
operation, one behind a guard, or a choice of operations, and each leaves them. -/
theorem exec_life (c : Instr) (s t : State) (h : exec c s = .next t) (spares : c.sparesLife) :
    t.dev.sec.life = s.dev.sec.life := by
  cases c
  case provision | lifecycle | optRecord | rxNote | coldStart | lfxWait | condWaitEnd => exact spares.elim
  all_goals cases h; dsimp only
  case identity | keys | calib | paramExpert | tariffCal | timeSet | radioCfg | radioKeys | displayReq | wipe =>
    exact (Device.record_life _ _ _ _ (by decide) (by decide)).trans (Device.elapse_life ..)
  case rxPoll | rxJoinPoll | rxAck | rxData | rxRead | rxTime =>
    exact (Device.airIn_life _ _ _ _ (by simp)).trans (Device.elapse_life ..)
  case result | half | ack | sampleRsp | refuse | loopcalRsp =>
    exact (Device.atPrimary_life _ _ _ _ (by simp)).trans (Device.elapse_life ..)
  case syncRsp =>
    exact (Device.atPrimary_life _ _ _ _ (by simp)).trans (life_ite (by simp) (by simp))
  case syncReq | cfg | mark | loopcal | time =>
    exact life_ite ((Device.hwReceive_life _ _ _ _ (by simp)).trans (Device.elapse_life ..)) (Device.elapse_life ..)
  case fire | sampleReq =>
    exact life_ite ((Device.hwHears_life _ _ _ _ (by simp)).trans (Device.elapse_life ..)) (Device.elapse_life ..)
  case optRead | optBaud | optHello =>
    exact (Device.optReceive_life _ _ _ _ (by simp)).trans (Device.elapse_life ..)
  case boundaryTransaction | wake | functionRestart | vextTakeover | vextRelease => simp
  case pathPairDone =>
    split
    · split <;> simp
    · split
      · exact life_ite ((Device.afterPair_life _).trans (life_ite (by simp) (by simp))) (Device.elapse_life ..)
      · simp
  case refInLoss | flashCopy | flashErase => split <;> [(split <;> simp); simp]
  case timeSetApply | windowMiss | childEvicted | parentWindowOpen | searchWindow =>
    split <;> [exact life_ite (by simp) (by simp); simp]
  case pageTimeout => split <;> [exact life_ite (life_ite (by simp) (by simp)) (by simp); simp]
  case proxyExpired => exact life_ite (by split <;> simp) (by simp)
  case wmbusTelegram =>
    refine life_ite (life_ite (by simp) ?_) (by simp)
    split <;> [exact life_ite (by simp) (by simp); simp]
  case displayRefresh | contactAlarm | missingResponse | loopcalRun | hawserTimeBroadcast =>
    exact life_ite (life_ite (by simp) (by simp)) (by simp)
  case resetNLow => exact life_ite (by simp) (life_ite (by simp) (by simp))
  case sampleComplete => exact life_ite (life_ite (by simp) (by simp)) (life_ite (by simp) (by simp))
  case trstNRise => exact life_ite ((Device.tamper_life ..).trans (Device.elapse_life ..)) (Device.elapse_life ..)
  case trstNFall => exact life_ite ((Device.reconcile_life _).trans (Device.elapse_life ..)) (Device.elapse_life ..)
  case buttonPress dt _ =>
    have awake (n : Nat) : (if 656 ≤ n then (s.dev.elapse dt).woken 5 else s.dev.elapse dt).sec.life = s.dev.sec.life :=
      life_ite (by simp) (by simp)
    exact life_ite ((Device.displayAdmit_life _ _ Device.displayPress_life).trans (awake _)) (awake _)
  case tamperFifoService => exact life_ite ((foldl_life _ Device.serveTamper_life _ _).trans (by simp)) (by simp)
  all_goals exact life_ite (by simp) (by simp)
end Sys2Proof.Machine

namespace Sys2Proof
open Machine

/-- Settles O10: the life-cycle state and the fuses are one quantity, `Security.life`, and each such command leaves it. -/
theorem onlyRecordsAndColdStartsTouchTheLifeCycle : Obligations.OnlyRecordsAndColdStartsTouchTheLifeCycle := by
  intro c s t h spares
  have life := exec_life c s t h (by cases c <;> exact spares)
  simpa [Security.life] using life

end Sys2Proof

/-! SUPPORT. The frames of the optical port and the verdicts they are answered with (R441, R450 to R453). -/

namespace Sys2Proof.Machine

/-! ## Verdicts -/

theorem Device.tamper_verdicts (s : Device) (k : Nat) : (s.tamper k).sec.verdicts = s.sec.verdicts := by
  rw [Device.tamper_sec]

/-- A verdict is entered first in REC_STATUS and booked; beside that it counts refusals (R21, R441, R450). -/
theorem Device.verdict_entered (s : Device) (p : RecPath) (r : Rec) (cause : Nat) :
    ∃ (x : Device) (l : List Nat), s.verdict p r cause = { x with refusals := l } ∧ x.Booked s ∧
      x.sec.verdicts.head?.map (·.cause) = some cause := by
  unfold Device.verdict
  extract_lets named v _ s1 s2 s3 s4
  have booked : s1.Booked s := s.withSec_booked _
  have entered : s1.sec.verdicts.head?.map (·.cause) = some cause := rfl
  have told : s2.Booked s ∧ s2.sec.verdicts = s1.sec.verdicts :=
    ⟨(s1.journal_booked ..).trans booked, congrArg Security.verdicts (Device.journal_sec ..)⟩
  have counted : s3.Booked s ∧ s3.sec.verdicts = s1.sec.verdicts := by
    have tamper (k : Nat) : (s2.tamper k).Booked s ∧ (s2.tamper k).sec.verdicts = s1.sec.verdicts :=
      ⟨(s2.tamper_booked k).trans told.1, (s2.tamper_verdicts k).trans told.2⟩
    simp only [s3]
    split
    · exact tamper 11
    · split
      · exact tamper 12
      · exact told
  have refused : ∃ l, s4 = { s3 with refusals := l } := by
    simp only [s4]
    split <;> exact ⟨_, rfl⟩
  obtain ⟨l, refused⟩ := refused
  split
  · refine ⟨s1.journal 0x801 r.typ r.seq, (s1.journal 0x801 r.typ r.seq).refusals, rfl,
      (s1.journal_booked ..).trans booked, ?_⟩
    rw [Device.journal_sec]
    exact entered
  · refine ⟨s3, ?_⟩
    simp only [counted.1, counted.2, entered, and_self, and_true, refused]
    split
    · exact ⟨_, rfl⟩
    · split <;> exact ⟨_, rfl⟩

theorem Device.verdict_head (s : Device) (p : RecPath) (r : Rec) (cause : Nat) :
    (s.verdict p r cause).sec.verdicts.head?.map (·.cause) = some cause := by
  obtain ⟨x, l, given, -, head⟩ := s.verdict_entered p r cause
  rw [given]
  exact head

/-- But for the counts of refusals a verdict writes the record books only. -/
theorem Device.verdict_filed (s : Device) (p : RecPath) (r : Rec) (cause : Nat) :
    (s.verdict p r cause).Booked { s with refusals := (s.verdict p r cause).refusals } := by
  obtain ⟨x, l, given, booked, -⟩ := s.verdict_entered p r cause
  rw [given]
  unfold Device.Booked at booked ⊢
  rw [booked]

theorem Device.verdict_spares (s : Device) (p : RecPath) (r : Rec) (cause : Nat) :
    (s.verdict p r cause).sec.keys = s.sec.keys ∧ (s.verdict p r cause).sec.lc = s.sec.lc ∧
      (s.verdict p r cause).conf = s.conf ∧ (s.verdict p r cause).land = s.land ∧
      (s.verdict p r cause).toll.led = s.toll.led := by
  obtain ⟨conf, led, -, -, -, lc, keys, -⟩ := s.verdict_calm p r cause
  exact ⟨keys, lc, conf, (s.verdict_filed p r cause).land, led⟩

theorem Device.verdict_opt (s : Device) (p : RecPath) (r : Rec) (cause : Nat) : (s.verdict p r cause).opt = s.opt := by
  rw [s.verdict_filed p r cause]

theorem Security.blow_verdicts (x : Security) : x.blow.verdicts = x.verdicts := by
  unfold Security.blow
  split <;> rfl

theorem Device.transitionEnd_verdicts (s : Device) : s.transitionEnd.sec.verdicts = s.sec.verdicts := by
  have begun : s.holdStart.sec = s.sec := by
    unfold Device.holdStart Device.holdBegin
    dsimp only
    split <;> rfl
  exact (Security.blow_verdicts _).trans (congrArg Security.verdicts begun)

/-- A decided record leaves its cause in REC_STATUS, and answers it. -/
theorem Device.decideRec_head (s : Device) (p : RecPath) (b : Bytes) (c : Nat)
    (cause : c = if s.st.secIsolated then 14 else s.recCause p (recOf b)) :
    (s.decideRec p b).1 = c ∧ (s.decideRec p b).2.sec.verdicts.head?.map (·.cause) = some c := by
  unfold Device.decideRec
  dsimp only
  rw [← cause]
  split
  case isTrue accepted =>
    refine ⟨accepted.symm, ?_⟩
    rw [accepted]
    split
    · rw [Device.transitionEnd_verdicts, Device.verdict_head]
    · exact Device.verdict_head ..
  case isFalse => exact ⟨rfl, Device.verdict_head ..⟩

/-! ## Frames -/

/-- What a port that listens and sends nothing does with the characters of a frame (R451, R453). -/
theorem Device.optReceive_live (d : Device) (kind : Nat) (b : Bytes) (h : OptFrame → Device → Device)
    (live : d.optLive = true) (free : d.optBusy = false) :
    d.optReceive kind b h = match optParse b with
      | some f => if f.kind = kind then h f d.optSeen else d.optSeen
      | none => d.optSeen := by
  simp only [Device.optReceive, live, free]
  rfl

theorem Device.optReceive_good (d : Device) (kind : Nat) (b : Bytes) (h : OptFrame → Device → Device)
    (live : d.optLive = true) (free : d.optBusy = false) (f : OptFrame) (good : optParse b = some f) (own : f.kind = kind) :
    d.optReceive kind b h = h f d.optSeen := by
  rw [d.optReceive_live kind b h live free, good]
  exact if_pos own

theorem Device.optReceive_bad (d : Device) (kind : Nat) (b : Bytes) (h : OptFrame → Device → Device)
    (live : d.optLive = true) (free : d.optBusy = false) (bad : optParse b = none) :
    d.optReceive kind b h = d.optSeen := by
  rw [d.optReceive_live kind b h live free, bad]

theorem Device.optReceive_busy (d : Device) (kind : Nat) (b : Bytes) (h : OptFrame → Device → Device)
    (live : d.optLive = true) (busy : d.optBusy = true) : d.optReceive kind b h = d.optSeen := by
  simp only [Device.optReceive, live, busy]
  rfl

theorem Device.optBusy_false (d : Device) (free : d.land.lfxRunning = false ∨ d.opt.answerEnd ≤ d.land.osc) :
    d.optBusy = false := by
  unfold Device.optBusy
  rcases free with stopped | ended
  · simp [stopped]
  · simp [Nat.not_lt.mpr ended]

/-- A record frame while the port is ON goes the way of every frame. -/
theorem execOptRecord_on (dt : Nat) (b : Bytes) (m : Option Nat) (s : State) (on : (s.dev.elapse dt).on .optical = true) :
    exec (.optRecord dt b m) s =
      .next { s with dev := (s.dev.elapse dt).optReceive 1 b fun f x => x.optRecord m f } := by
  simp [exec, execOptRecord, on]

/-- A record frame while the port is not ON (R26). -/
theorem execOptRecord_off (dt : Nat) (b : Bytes) (m : Option Nat) (s : State) (up : (s.dev.elapse dt).up = true)
    (awake : (s.dev.elapse dt).awake = true) (off : (s.dev.elapse dt).on .optical = false) :
    exec (.optRecord dt b m) s = .next { s with dev := (s.dev.elapse dt).optStopping b } := by
  simp [exec, execOptRecord, up, awake, off]

/-! ## Answers -/

/-- A record while another is undecided: the verdict is entered, and nothing else but the answer is written (R445). -/
theorem Device.optRecord_waiting (e : Device) (tag ms : Nat) (p : Bytes) :
    e.optRecord (some ms) ⟨1, tag, p⟩ = { e.verdict .optical (recOf p) 14 with opt := { e.opt with
      lastAnswer := optBytes ⟨0x81, tag, leBytes 1 14 ++ leBytes 2 (min ms 0xFFFE)⟩
      answerEnd := (e.optRecord (some ms) ⟨1, tag, p⟩).opt.answerEnd } } := by
  rw [← e.verdict_opt .optical (recOf p) 14]
  rfl

/-- A record that finds the port in STOPPING (R26). -/
theorem Device.optStopping_record (d : Device) (b : Bytes) (tag : Nat) (p : Bytes) (good : optParse b = some ⟨1, tag, p⟩)
    (stopping : d.fn.optical.st = .stopping) :
    d.optStopping b =
      (Device.refuse { d.verdict .optical (recOf p) 14 with refusals := d.refusals } 8).optVerdict tag 14 0xFFFF := by
  simp only [Device.optStopping, good, stopping, and_self, if_true]

/-- DATA with the piece that the object gives, or the reason of the refusal (R453). -/
theorem Device.optData_asked (e : Device) (tag : Nat) (q : Bytes) (len : q.length = 7) (least : 1 ≤ getU q 5 2)
    (most : getU q 5 2 ≤ 1024) :
    e.optData tag q = e.optAnswer ⟨0x82, tag,
      match (e.loadShadow 3).readPiece false (getU q 0 2) (getU q 2 3) (getU q 5 2) with
      | .piece x => leBytes 2 (getU q 0 2) ++ leBytes 3 (getU q 2 3) ++ leBytes 2 x.length ++ x
      | .refused r => leBytes 2 (getU q 0 2) ++ leBytes 3 (getU q 2 3) ++ leBytes 2 0 ++ leBytes 1 r⟩ := by
  have asked : ¬ (q.length ≠ 7 ∨ getU q 5 2 = 0 ∨ 1024 < getU q 5 2) := by omega
  simp only [Device.optData, asked, if_false]
  rfl

theorem Device.optBaud_known (e : Device) (tag : Nat) (q : Bytes) (len : q.length = 1) (known : getU q 0 1 ≤ 2) (a : Bytes)
    (ha : a = optBytes ⟨0x83, tag, leBytes 8 (e.sec.devEui.getD 0) ++ leBytes 1 e.sec.lc.code ++ leBytes 1 (getU q 0 1)⟩) :
    e.optBaud ⟨3, tag, q⟩ = { e with opt := { e.opt with
      baud := getU q 0 1, lastAnswer := a, answerEnd := e.land.osc + optCycles e.opt.baud a.length } } := by
  subst ha
  simp only [Device.optBaud, len, known, and_self, if_true]
  rfl

end Sys2Proof.Machine

namespace Sys2Proof
open Machine

/-- Settles O53. -/
theorem opticalPortAnswers : Obligations.OpticalPortAnswers := by
  intro dt s d e took hd htook he
  have seen : d.optSeen = e := he.symm
  refine ⟨fun up awake on free => ?_, fun up awake on running early b m => ?_, fun b m up awake off => ?_,
    fun active quiet => ?_, fun rest => ?_⟩
  · have live : d.optLive = true := by simp [Device.optLive, up, awake, on]
    have idle := d.optBusy_false free
    refine ⟨?_, ?_, ?_, ?_, ?_, ?_⟩
    · intro b p tag good
      have handled (m : Option Nat) : exec (.optRecord dt b m) s = .next { s with dev := e.optRecord m ⟨1, tag, p⟩ } := by
        rw [execOptRecord_on dt b m s (hd ▸ on), ← hd, d.optReceive_good 1 b _ live idle _ good rfl, seen]
      refine ⟨fun c hc => ⟨_, handled none, ?_⟩, fun ms => ⟨_, handled (some ms), ?_⟩⟩
      · obtain ⟨answered, entered⟩ := e.decideRec_head .optical p c hc
        exact ⟨by simp [Device.optRecord, Device.optVerdict, Device.optAnswer, answered, uB], entered⟩
      · obtain ⟨keys, lc, conf, land, led⟩ := e.verdict_spares .optical (recOf p) 14
        exact ⟨by rw [e.optRecord_waiting], e.verdict_head .., keys.trans (by rw [he]), lc.trans (by rw [he]),
          conf.trans (by rw [he]), land.trans (by rw [he]), led.trans (by rw [he])⟩
    · intro b q tag good len least most
      have handled : exec (.optRead dt b) s = .next { s with dev := e.optData tag q } := by
        show Host.Outcome.next { s with dev := (s.dev.elapse dt).optReceive 2 b fun f x => x.optData f.tag f.payload } = _
        rw [← hd, d.optReceive_good 2 b _ live idle _ good rfl, seen]
      rw [handled, e.optData_asked tag q len least most]
      refine ⟨fun x a piece ha => ?_, fun r a refused ha => ?_⟩
      · rw [piece, ha, htook, he]; rfl
      · rw [refused, ha, htook, he]; rfl
    · intro b q a tag n good len hn known ha
      show Host.Outcome.next { s with dev := (s.dev.elapse dt).optReceive 3 b fun f x => x.optBaud f } = _
      subst hn
      rw [← hd, d.optReceive_good 3 b _ live idle _ good rfl, seen, e.optBaud_known tag q len known a (by rw [ha, he]), htook, he]
      rfl
    · intro b q a tag good ha
      show Host.Outcome.next { s with dev := (s.dev.elapse dt).optReceive 4 b fun f x => x.optInfo f.tag } = _
      rw [← hd, d.optReceive_good 4 b _ live idle _ good rfl, seen, ha, htook, he]
      rfl
    · intro b bad
      refine ⟨?_, ?_, ?_, ?_⟩
      · rw [execOptRecord_on dt b none s (hd ▸ on), ← hd, d.optReceive_bad 1 b _ live idle bad, seen]
      all_goals
        refine congrArg (fun x : Device => Host.Outcome.next { s with dev := x }) ?_
        rw [← hd, ← seen]
        exact d.optReceive_bad _ b _ live idle bad
    · simp [exec, execOptFrameGap, ← hd, live, Device.optGap]
  · have live : d.optLive = true := by simp [Device.optLive, up, awake, on]
    have busy : d.optBusy = true := by simp [Device.optBusy, running, early]
    refine ⟨?_, ?_, ?_, ?_⟩
    · rw [execOptRecord_on dt b m s (hd ▸ on), ← hd, d.optReceive_busy 1 b _ live busy, seen]
    all_goals
      refine congrArg (fun x : Device => Host.Outcome.next { s with dev := x }) ?_
      rw [← hd, ← seen]
      exact d.optReceive_busy _ b _ live busy
  · rw [execOptRecord_off dt b m s (hd ▸ up) (hd ▸ awake) (hd ▸ off), ← hd]
    refine ⟨fun bad => by rw [Device.optStopping, bad], fun k tag p good => ⟨fun other => ?_, fun record stopping => ?_⟩⟩
    · have wrong : ¬ (k = 1 ∧ d.fn.optical.st = .stopping) := by tauto
      simp only [Device.optStopping, good, wrong, if_false]
    · rw [record] at good
      obtain ⟨keys, lc, conf, land, -⟩ := d.verdict_spares .optical (recOf p) 14
      rw [d.optStopping_record b tag p good stopping]
      refine ⟨_, rfl, ?_, rfl, d.verdict_head .., keys, lc, conf, land⟩
      rw [← d.verdict_opt .optical (recOf p) 14]
      rfl
  · simp [exec, execOptIdleTimeout, ← hd, active, quiet]
  · have still : (d.opt.active && decide (d.opt.lastChar + 163840 ≤ d.land.osc)) = false := by
      rcases rest with closed | early
      · simp [closed]
      · simp [Nat.not_le.mpr early]
    simp [exec, execOptIdleTimeout, ← hd, still]

end Sys2Proof

/-! SUPPORT. What a boundary transaction, the estimates and the conditions write (R242, R243, R281): billing, event journal,
clock alarms, counters and estimates, the Store. Configuration, flow, paths, sample and billed registers stand. -/

namespace Sys2Proof.Machine

/-! ## The calendar lane -/

/-- `t` is `s` but for billing, journal, the Landing, the Tollhouse, the Store and the free values; the ledgers of volume and
billed energy are the same. -/
structure Device.Laned (t s : Device) : Prop where
  rest : t = { s with toll := t.toll, bill := t.bill, jnl := t.jnl, land := t.land, store := t.store, free := t.free }
  billed : t.SameBilled s

theorem Device.Laned.refl (s : Device) : s.Laned s := ⟨rfl, rfl, rfl, rfl⟩

theorem Device.Laned.trans {a b c : Device} (h : a.Laned b) (k : b.Laned c) : a.Laned c :=
  ⟨by rw [h.rest, k.rest], h.billed.trans k.billed⟩

theorem Device.Laned.of_ite {p : Prop} [Decidable p] {a b s : Device} (h : p → a.Laned s) (k : ¬ p → b.Laned s) :
    (if p then a else b).Laned s := by
  split
  · exact h ‹_›
  · exact k ‹_›

theorem Device.commit_laned (s : Device) : s.commit.Laned s := by
  unfold Device.commit
  split <;> exact ⟨rfl, rfl, rfl, rfl⟩

theorem Device.journal_laned (s : Device) (c a b : Nat) : (s.journal c a b).Laned s := by
  unfold Device.journal Device.journalAt Device.journalWith
  split
  · exact .refl s
  · exact (Device.commit_laned _).trans ⟨rfl, rfl, rfl, rfl⟩

theorem Device.arm_laned (s : Device) (i t : Nat) (e : Bool) : (s.arm i t e).Laned s := by
  unfold Device.arm
  split <;> exact ⟨rfl, rfl, rfl, rfl⟩

theorem Device.disarm_laned (s : Device) (i : Nat) : (s.disarm i).Laned s := by
  unfold Device.disarm
  split <;> exact ⟨rfl, rfl, rfl, rfl⟩

/-- A step that writes billing only. -/
theorem Device.withBill_laned (s : Device) (b : Bill) : ({ s with bill := b } : Device).Laned s := ⟨rfl, rfl, rfl, rfl⟩

/-! ### Estimates and conditions -/

theorem Device.routeEst_laned (s : Device) (d : Side) (num : Int) : (s.routeEst d num).Laned s :=
  ⟨rfl, s.routeEst_billed d num⟩

theorem Device.routeEstEnergy_laned (s : Device) (inc : Int) : (s.routeEstEnergy inc).Laned s := by
  unfold Device.routeEstEnergy
  refine .of_ite (fun _ => .of_ite (fun _ => ?_) fun _ => ?_) fun _ => .refl s
  · split
    · exact s.routeEst_laned ..
    · exact .refl s
  · split
    · exact .refl s
    · split
      · exact .refl s
      · exact s.routeEst_laned ..

theorem Device.convert_est_laned (s : Device) (inc : Int) : (s.convert inc false).Laned s := by
  refine ⟨?_, s.convert_est_billed inc⟩
  unfold Device.convert
  simp only [Bool.false_and, Bool.false_eq_true, if_false]
  repeat' split
  all_goals rfl

theorem Device.accrueEst_laned (s : Device) (t : Nat) : (s.accrueEst t).Laned s := by
  unfold Device.accrueEst
  dsimp only
  split
  · split
    · exact ⟨rfl, rfl, rfl, rfl⟩
    · exact (Device.convert_est_laned ..).trans ((Device.routeEstEnergy_laned ..).trans ⟨rfl, rfl, rfl, rfl⟩)
  · exact .refl s

theorem Device.bringUp_laned (s : Device) (t : Nat) : (s.bringUp t).Laned s :=
  Device.Laned.trans ⟨rfl, rfl, rfl, rfl⟩ (s.accrueEst_laned t)

theorem Device.recond_laned (s : Device) : s.recond.Laned s := by
  have edge : s.safeEdge.Laned s := by
    unfold Device.safeEdge
    split
    · exact .refl s
    · exact s.accrueEst_laned _
  unfold Device.recond
  split
  · exact Device.Laned.trans ⟨rfl, rfl, rfl, rfl⟩ edge
  · exact .refl s

/-! ### Demand, hours, days and billing periods -/

theorem Device.stage_laned (s : Device) (e : Staged) : (s.stage e).Laned s := by
  unfold Device.stage
  dsimp only
  split
  · exact s.withBill_laned _
  · split
    · exact s.withBill_laned _
    · exact (Device.journal_laned ..).trans (s.withBill_laned _)

theorem Device.endSub_laned (s : Device) (t : Nat) (k : EndKind) : (s.endSub t k).Laned s := by
  have form (a : Device) (e accE accV : Nat) (short bad : Bool) : (a.formValue t e accE accV short bad k).Laned a :=
    a.withBill_laned _
  unfold Device.endSub
  exact .of_ite (fun _ => .of_ite (fun _ => .refl s) fun _ => form ..) fun _ =>
    .of_ite (fun _ => .of_ite (fun _ => (form ..).trans (s.withBill_laned _)) fun _ => s.withBill_laned _) fun _ =>
      s.withBill_laned _

theorem Device.beginSub_laned (s : Device) (t : Nat) : (s.beginSub t).Laned s := s.withBill_laned _

theorem Device.endHour_laned (s : Device) (t : Nat) (k : EndKind) : (s.endHour t k).Laned s :=
  Device.Laned.trans ⟨rfl, rfl, rfl, rfl⟩ (s.stage_laned _)

theorem Device.beginHour_laned (s : Device) (t : Nat) : (s.beginHour t).Laned s := s.withBill_laned _

theorem Device.crossDay_laned (s : Device) (t n : Nat) (last localDay : Int) (late : Bool) :
    (s.crossDay t n last localDay late).Laned s := by
  unfold Device.crossDay
  dsimp only
  exact .of_ite (fun _ => (Device.journal_laned ..).trans ((Device.withBill_laned ..).trans (s.stage_laned _)))
    fun _ => (Device.withBill_laned ..).trans (s.stage_laned _)

theorem Device.crossBill_laned (s : Device) (t n : Nat) (last : Int) (late : Bool) : (s.crossBill t n last late).Laned s := by
  unfold Device.crossBill
  dsimp only
  split <;> exact (Device.journal_laned ..).trans (s.withBill_laned _)

theorem Device.crossEnds_laned (s : Device) (t : Nat) (late : Bool) : (s.crossEnds t late).Laned s := by
  unfold Device.crossEnds
  extract_lets c from1 d s1 b
  have day : s1.Laned s := .of_ite (fun _ => s.crossDay_laned ..) fun _ => .refl s
  exact .of_ite (fun _ => .of_ite (fun _ => (s1.crossBill_laned ..).trans day) fun _ => day) fun _ => .refl s

theorem Device.seedSched_laned (s : Device) (t : Nat) : (s.seedSched t).Laned s := by
  unfold Device.seedSched
  split
  · exact s.withBill_laned _
  · exact .refl s

/-! ### The boundary transaction (R281) -/

theorem Device.armRefresh_laned (s : Device) : s.armRefresh.Laned s := by
  unfold Device.armRefresh
  exact .of_ite (fun _ => s.disarm_laned _) fun _ => s.arm_laned ..

theorem Device.activate_laned (s : Device) (t : Nat) (p : Calendar) : (s.activate t p).Laned s := by
  unfold Device.activate Device.realignRefresh
  dsimp only
  exact .of_ite (fun _ => (Device.armRefresh_laned _).trans ((Device.journal_laned ..).trans (s.withBill_laned _)))
    fun _ => (Device.journal_laned ..).trans (s.withBill_laned _)

theorem Device.calStep_laned (s : Device) (t : Nat) : (s.calStep t).Laned s := by
  unfold Device.calStep
  split
  · exact .refl s
  · exact .of_ite (fun _ => s.activate_laned ..) fun _ =>
      .of_ite (fun _ => (Device.journal_laned ..).trans (s.withBill_laned _)) fun _ => .refl s

theorem Device.tariffStep_laned (s : Device) (t : Nat) : (s.tariffStep t).Laned s := ⟨rfl, rfl, rfl, rfl⟩

theorem Device.trustStep_laned (s : Device) : s.trustStep.Laned s := by
  unfold Device.trustStep
  exact .of_ite (fun _ => s.withBill_laned _) fun _ =>
    .of_ite (fun _ => (Device.journal_laned ..).trans (s.withBill_laned _)) fun _ => s.withBill_laned _

theorem Device.closeStep_laned (s : Device) (t : Nat) (x : TxnCtx) : (s.closeStep t x).Laned s := by
  have sub (k : EndKind) : ((s.endSub t k).beginSub t).Laned s := (Device.beginSub_laned ..).trans (s.endSub_laned ..)
  have hour (a : Device) (k : EndKind) (h : a.Laned s) : ((a.endHour t k).beginHour t).Laned s :=
    (Device.beginHour_laned ..).trans ((a.endHour_laned ..).trans h)
  unfold Device.closeStep
  refine .of_ite (fun _ => hour _ _ ((Device.withBill_laned ..).trans (sub _))) fun _ => ?_
  extract_lets _ _ s1
  have subs : s1.Laned s := .of_ite (fun _ => sub _) fun _ => s.withBill_laned _
  exact .of_ite (fun _ => hour _ _ subs) fun _ => (s1.withBill_laned _).trans subs

theorem Device.splitMarks_laned (s : Device) (x : TxnCtx) : (s.splitMarks x).Laned s := by
  unfold Device.splitMarks
  exact .of_ite (fun _ => (Device.journal_laned ..).trans (.of_ite (fun _ => s.withBill_laned _) fun _ => .refl s))
    fun _ => .refl s

theorem Device.armBoundary_laned (s : Device) : s.armBoundary.Laned s := by
  unfold Device.armBoundary
  dsimp only
  split
  · exact s.disarm_laned _
  · exact s.arm_laned ..

theorem Device.transaction_laned (s : Device) (x : TxnCtx) : (s.transaction x).Laned s := by
  unfold Device.transaction
  extract_lets t became s1 s2 s3 s4 s5 s6
  have brought : s1.Laned s :=
    (Device.trustStep_laned _).trans ((Device.bringUp_laned ..).trans ⟨rfl, rfl, rfl, rfl⟩)
  have closed : s2.Laned s := .of_ite (fun _ => brought) fun _ => (s1.closeStep_laned ..).trans brought
  have crossed : s3.Laned s :=
    (Device.splitMarks_laned ..).trans ((Device.crossEnds_laned ..).trans
      (.of_ite (fun _ => (s2.seedSched_laned t).trans closed) fun _ => closed))
  have tariff : s4.Laned s := (Device.tariffStep_laned ..).trans ((s3.calStep_laned t).trans crossed)
  have told : s5.Laned s := .of_ite (fun _ => (s4.journal_laned ..).trans tariff) fun _ => tariff
  have begun : s6.Laned s :=
    .of_ite (fun _ => (Device.beginHour_laned ..).trans ((s5.beginSub_laned t).trans told)) fun _ => told
  exact (Device.commit_laned _).trans ((Device.armBoundary_laned _).trans ((s6.withBill_laned _).trans begun))

theorem Device.boundaryFirst_laned (s : Device) : s.boundaryFirst.Laned s :=
  .of_ite (fun _ => s.transaction_laned _) fun _ => .refl s

theorem Device.boundaryLast_laned (s : Device) : s.boundaryLast.Laned s :=
  .of_ite (fun _ => s.transaction_laned _) fun _ => .refl s

theorem Device.holdClose_laned (s : Device) (t : Nat) : (s.holdClose t).Laned s :=
  (Device.withBill_laned ..).trans ((Device.endHour_laned ..).trans (s.endSub_laned ..))

end Sys2Proof.Machine

/-! SUPPORT. What an admitted increment does to the volume ledger, and the closing of a gap (R169, R170, R173, R223). -/

namespace Sys2Proof.Machine

/-! ## Pricing and Capstan leave the volume ledger -/

/-- Configuration and volume ledger are the same. -/
def Device.SameVolume (t s : Device) : Prop := t.conf = s.conf ∧ t.toll.led.vol = s.toll.led.vol

theorem Device.SameVolume.refl (s : Device) : s.SameVolume s := ⟨rfl, rfl⟩

theorem Device.SameVolume.trans {a b c : Device} (h : a.SameVolume b) (k : b.SameVolume c) : a.SameVolume c :=
  ⟨h.1.trans k.1, h.2.trans k.2⟩

theorem Device.Calm.volume {t s : Device} (h : t.Calm s) : t.SameVolume s := by
  obtain ⟨conf, led, -⟩ := h
  exact ⟨conf, congrArg (·.vol) led⟩

theorem Device.Laned.volume {t s : Device} (h : t.Laned s) : t.SameVolume s := ⟨by rw [h.rest], h.billed.1⟩

theorem Device.SameVolume.of_ite {p : Prop} [Decidable p] {a b s : Device} (h : a.SameVolume s) (k : b.SameVolume s) :
    (if p then a else b).SameVolume s := by
  split
  · exact h
  · exact k

theorem Device.fallDue_volume (s : Device) : s.fallDue.SameVolume s := by
  unfold Device.fallDue
  extract_lets ks _ _ s1 s2
  have armed : s2.SameVolume s := (s1.arm_calm ..).volume.trans (.refl s)
  refine .of_ite (.of_ite ?_ armed) (.refl s)
  exact (Device.hwSend_calm ..).volume.trans ((Device.hwBurst_calm ..).volume.trans armed)

theorem Device.tempRule_volume (s : Device) : s.tempRule.SameVolume s := by
  unfold Device.tempRule
  exact .of_ite (.of_ite s.fallDue_volume (s.arm_calm ..).volume) (.refl s)

theorem Device.rateRise_volume (s : Device) (q : Option Int) : (s.rateRise q).SameVolume s := by
  unfold Device.rateRise
  split
  · exact .refl s
  · exact .of_ite (.refl s) (.refl s)

theorem Device.turnMark_volume (s : Device) (h : Nat) : (s.turnMark h).SameVolume s := by
  unfold Device.turnMark
  extract_lets n s1
  have pulsed : s1.SameVolume s := .of_ite (s.oweMode_calm 1 1).volume (.refl s)
  exact .of_ite ((s1.journal_calm ..).volume.trans pulsed) pulsed

theorem Device.turnMarks_volume (s : Device) (a k : Nat) : (s.turnMarks a k).SameVolume s := by
  induction k with
  | zero => exact .refl s
  | succ k ih => exact (Device.turnMark_volume ..).trans ih

theorem Device.turn_volume (s : Device) (inc : Int) (q : Option Int) : (s.turn inc q).SameVolume s := by
  unfold Device.turn Device.turnsUp Device.turnsDown
  dsimp only
  refine .of_ite (.refl s) (.of_ite ?_ (.of_ite ?_ (.refl s)))
  · exact (Device.rateRise_volume ..).trans ((Device.tempRule_volume _).trans (Device.turnMarks_volume ..))
  · exact (Device.oweMode_calm ..).volume

theorem Ledgers.setSide_vol (l : Ledgers) (d : Side) (v : SideLedger) : (l.setSide d v).vol = l.vol := by
  cases d <;> rfl

theorem Device.creditRise_volume (s : Device) (d : Side) (l : SideLedger) (rise : Nat) :
    (s.creditRise d l rise).SameVolume s :=
  (Device.oweMode_calm ..).volume.trans ⟨rfl, Ledgers.setSide_vol ..⟩

theorem Device.routeBilled_volume (s : Device) (d : Side) (num : Int) : (s.routeBilled d num).SameVolume s := by
  unfold Device.routeBilled
  exact .of_ite ⟨rfl, Ledgers.setSide_vol ..⟩ (s.creditRise_volume ..)

theorem Device.routeEnergy_volume (s : Device) (inc : Int) (q : Option Int) : (s.routeEnergy inc q).SameVolume s := by
  unfold Device.routeEnergy
  refine .of_ite (.of_ite ?_ ?_) (.refl s)
  · split
    · exact (s.routeEst_laned ..).volume
    · exact .refl s
  · split
    · exact .refl s
    · split
      · exact .refl s
      · exact (Device.routeBilled_volume ..).trans ⟨rfl, rfl⟩

theorem Device.routeGas_volume (s : Device) (ib : Int) (cv : Nat) (billed : Bool) : (s.routeGas ib cv billed).SameVolume s := by
  unfold Device.routeGas
  exact .of_ite (.of_ite ⟨rfl, rfl⟩ ((Device.creditRise_volume ..).trans ⟨rfl, rfl⟩)) ⟨rfl, rfl⟩

theorem Device.convert_volume (s : Device) (inc : Int) (billed : Bool) : (s.convert inc billed).SameVolume s := by
  unfold Device.convert
  extract_lets c und l x ib rm l1 l2 _ _ s1
  have led : s1.SameVolume s := by
    refine ⟨rfl, ?_⟩
    show l2.vol = s.toll.led.vol
    simp only [l2, l1]
    split <;> rfl
  exact .of_ite (.of_ite ((s1.routeGas_volume ..).trans led) (.of_ite ((s1.routeGas_volume ..).trans led) led)) (.refl s)

theorem Device.powerRule_volume (s : Device) : s.powerRule.SameVolume s := by
  unfold Device.powerRule
  exact .of_ite ⟨rfl, rfl⟩ (.refl s)

/-! ## The volume ledger takes an increment (R173) -/

theorem Device.addVolume_volume (s : Device) (inc : Int) : (s.addVolume inc).SameVolume { s with
    toll := { s.toll with led := { s.toll.led with vol := s.toll.led.vol.add inc } } } := by
  unfold Device.addVolume
  dsimp only
  exact .of_ite (.of_ite ((Device.tamper_calm _ 16).volume.trans ⟨rfl, rfl⟩) ⟨rfl, rfl⟩) ⟨rfl, rfl⟩

/-- Without LEGAL_HOLD an admitted increment is added to the volume ledger, and nothing else happens to that (R223, R518). -/
theorem Device.admitInc_vol (s : Device) (inc : Int) (q : Option Int) (free : s.st.legalHold = false) :
    (s.admitInc inc q).conf = s.conf ∧ (s.admitInc inc q).toll.led.vol = s.toll.led.vol.add inc := by
  unfold Device.admitInc
  rw [free]
  extract_lets same l _ _ s0 s1 _ _ _ s2
  have taken := s0.addVolume_volume inc
  have priced : s1.SameVolume (s0.addVolume inc) :=
    (Device.convert_volume ..).trans ((Device.routeEnergy_volume ..).trans (Device.turn_volume ..))
  have ended : (if same then s2.powerRule else s2).SameVolume (s0.addVolume inc) :=
    .trans (.of_ite s2.powerRule_volume (.refl s2)) priced
  have done := (Device.commit_calm _).volume.trans ended
  exact ⟨done.1.trans taken.1, done.2.trans taken.2⟩

/-! ## The closing of a gap (R170) -/

/-- The volume ledger with the closing increment of a gap at flow `q` over `span` ticks, stamped at tick `t`. -/
def VolLedger.closed (v : VolLedger) (q : Int) (span t : Nat) : VolLedger :=
  { v.add (incOf q span v.incRem).1 with incRem := (incOf q span v.incRem).2, tPrev := t }

/-- The increment and the new remainder together make up what has flowed (R169). -/
theorem VolLedger.closed_sum (v : VolLedger) (q : Int) (span t : Nat) :
    225 * ((v.closed q span t).net - v.net) + (v.closed q span t).incRem = q * span * 32 + v.incRem ∧
      (v.closed q span t).incRem < 225 := by
  simp only [VolLedger.closed, VolLedger.add, incOf, quot]
  omega

/-- A gap closes with the flow `qf` in force (R143, R170). -/
structure Device.GapClosed (t s : Device) (qf : Int) : Prop where
  conf : t.conf = s.conf
  flow : t.flow.qf = none
  fault : t.tr.cs.flowFault = true ∧ t.tr.cs.flowHeld = false ∧ t.tr.cs.tFaultStart = s.tGap
  vol : t.toll.led.vol = s.toll.led.vol.closed qf s.gapTicks s.land.tick

theorem Device.closeGap_closed (s : Device) (qf : Int) (flow : s.flow.qf = some qf) (free : s.st.legalHold = false) :
    s.closeGap.GapClosed s qf := by
  have span : s.tGap - s.toll.led.vol.tPrev = s.gapTicks := Nat.add_sub_cancel_left ..
  obtain ⟨conf, vol⟩ := (s.formIncrement qf s.gapTicks).1.admitInc_vol (s.formIncrement qf s.gapTicks).2 none free
  unfold Device.closeGap
  simp only [flow, span]
  refine ⟨conf, rfl, ⟨rfl, rfl, rfl⟩, ?_⟩
  show { ((s.formIncrement qf s.gapTicks).1.admitInc (s.formIncrement qf s.gapTicks).2 none).toll.led.vol with
    tPrev := s.land.tick } = _
  rw [vol]
  rfl

theorem Device.GapClosed.laned {a t s : Device} {qf : Int} (lane : a.Laned t) (h : t.GapClosed s qf) : a.GapClosed s qf :=
  ⟨lane.volume.1.trans h.conf, by rw [lane.rest]; exact h.flow, by rw [lane.rest]; exact h.fault, lane.volume.2.trans h.vol⟩

/-- The decision of the gap where no cycle spans it. -/
theorem Device.decideGap_closed (s : Device) (qf : Int) (flow : s.flow.qf = some qf) (free : s.st.legalHold = false)
    (decided : s.cycleSpansGap = false) : s.decideGap.GapClosed s qf := by
  have lane : (s.disarm 2).Laned s := s.disarm_laned 2
  have same : (s.disarm 2).toll = s.toll ∧ (s.disarm 2).conf = s.conf ∧ (s.disarm 2).land.tick = s.land.tick :=
    ⟨by simp, by simp, by simp⟩
  obtain ⟨conf, none, fault, vol⟩ := (s.disarm 2).closeGap_closed qf (by simpa using flow) (by simpa using free)
  simp only [Device.tGap, Device.gapTicks, same] at conf fault vol
  have closed : (s.disarm 2).closeGap.GapClosed s qf := ⟨conf, none, fault, vol⟩
  rw [Device.decideGap, decided]
  exact closed.laned (Device.recond_laned _)

/-- A cycle that spans the gap leaves its decision to the end of the cycle. -/
theorem Device.decideGap_waits (s : Device) (spans : s.cycleSpansGap = true) :
    s.decideGap.flow = { s.flow with gapWait := true } ∧ s.decideGap.toll.led = s.toll.led ∧ s.decideGap.tr = s.tr ∧
      s.decideGap.conf = s.conf ∧ s.decideGap.land.tick = s.land.tick := by
  rw [Device.decideGap, spans]
  simp

end Sys2Proof.Machine

namespace Sys2Proof
open Machine

/-- Settles O47: the boundary of the tick leaves flow, configuration and clock, and the gap is decided on what it leaves. -/
theorem gapsCloseAtGapHold : Obligations.GapsCloseAtGapHold := by
  intro dt s d b hd hb
  have lane : b.Laned d := hb ▸ d.boundaryFirst_laned
  have flow : b.flow = d.flow := by rw [lane.rest]
  have conf : b.conf = d.conf := lane.volume.1
  have tick : b.land.tick = d.land.tick := by rw [hb]; simp
  refine ⟨fun qf fired live flowing undecided => ?_, fun idle => ?_⟩
  · have due : d.gapDue = true := by simp [Device.gapDue, fired, live, flowing, undecided]
    have run : exec (.gapHoldExpiry dt) s = .next { s with dev := b.decideGap } := by
      simp [exec, execGapHoldExpiry, ← hd, due, hb]
    refine ⟨fun decided free => ⟨_, run, ?_⟩, fun spans => ⟨_, run, ?_⟩⟩
    · obtain ⟨conf', none, ⟨fault, held, start⟩, vol⟩ := b.decideGap_closed qf (flow ▸ flowing) free decided
      have span : b.gapTicks = d.conf.shot.gapHold * 32768 := by rw [Device.gapTicks, conf]; rfl
      obtain ⟨sum, rem⟩ := b.toll.led.vol.closed_sum qf b.gapTicks b.land.tick
      rw [← vol] at sum rem
      rw [Device.tGap, span] at start
      rw [span] at sum
      exact ⟨none, fault, held, start, sum, rem, by rw [vol]; exact tick, conf'.trans conf, by simp [tick]⟩
    · obtain ⟨wait, led, tr, conf', tick'⟩ := b.decideGap_waits spans
      exact ⟨by rw [wait, flow], led, tr, conf'.trans conf, tick'.trans tick⟩
  · have still : d.gapDue = false := by
      rcases idle with h | h | h | h <;> simp [Device.gapDue, h]
    simp [exec, execGapHoldExpiry, ← hd, still]

end Sys2Proof

/-! SUPPORT. What the hold-up commit records, and what the loss of power leaves (R477, R482, R484). -/

namespace Sys2Proof.Machine

/-! ## The transaction of the commit -/

/-- The books as the commit finds them when it records: the last boundary made, counters and running entries closed. -/
theorem Device.holdTransaction_power (s : Device) (us n : Nat) :
    (s.holdTransaction us n).power = { s.power with
      tDown := s.land.tick, holdUs := min us 0xFFFF, holdCommits := satInc s.power.holdCommits
      undo := some s.boundaryLast.undo } := by
  unfold Device.holdTransaction
  extract_lets t s0 s1 s2
  have bounded : s0.Laned s := s.boundaryLast_laned
  have closed : s1.Laned s :=
    .of_ite (fun _ => (Device.holdClose_laned ..).trans ((s0.bringUp_laned t).trans bounded)) fun _ => bounded
  have power : s2.power = s.power := by
    show s1.power = s.power
    rw [closed.rest]
  rw [Device.commit_power]
  show { s2.power with
    tDown := t, holdUs := min us 0xFFFF, holdCommits := satInc s2.power.holdCommits, undo := some s0.undo } = _
  rw [power]

theorem Device.holdTransaction_mirrors (s : Device) (us n : Nat) :
    (s.holdTransaction us n).land.cntMirror = (s.holdTransaction us n).land.cnt ∧
      (s.holdTransaction us n).land.plsMirror = (s.holdTransaction us n).land.plsCount := by
  unfold Device.holdTransaction
  rw [Device.commit_land]
  exact ⟨rfl, rfl⟩

/-! ## The loss of power -/

theorem Radio.dropReasm_exch (r : Radio) : r.dropReasm.exch = r.exch := by
  unfold Radio.dropReasm
  split <;> rfl

theorem Radio.endExch_exch (r : Radio) : r.endExch.exch = none := by
  unfold Radio.endExch
  split
  · rfl
  · assumption

theorem Radio.clear_exch (r : Radio) : r.clear.exch = none :=
  r.endExch.dropReasm_exch.trans r.endExch_exch

/-- Without power nothing of the switched domain is ON but the optical port, which has its state again with the power; in
SHIP that and the pulse outputs are OFF too (R27, R477, R482). -/
theorem Device.unpower_fn (s : Device) (k : Func) (off : (k ≠ .pulseOut ∧ k ≠ .optical) ∨ s.power.shipping = true) :
    (s.unpower.fn.get k).st = .off := by
  show (Funcs.get (if s.power.shipping then { optical := {} } else { pulseOut := s.fn.pulseOut }) k).st = .off
  rcases off with ⟨notPulse, notOptical⟩ | ship
  · cases k
    case pulseOut => exact absurd rfl notPulse
    case optical => exact absurd rfl notOptical
    all_goals split <;> rfl
  · rw [ship]
    cases k <;> rfl

theorem Device.unpower_power (s : Device) : s.unpower.power = { s.power with
    st := if s.power.shipping then .ship else .unpowered
    phase := .down, holdDue := false, shipping := false, held := none, waitAlert := false, heldItems := 0
    heldRegions := 0 } := rfl

/-- The exchange, the request of the cascade and the cycle in flight go with the power. -/
theorem Device.unpower_idle (s : Device) :
    s.unpower.radio.exch = none ∧ s.unpower.haw.out = none ∧ s.unpower.tr.cyc.inFlight = none ∧
      s.unpower.sec.tap = .closed :=
  ⟨Radio.clear_exch _, rfl, rfl, rfl⟩

/-- In SHIP nothing drives the pulse outputs, and what they owed is gone (R181, R477). -/
theorem Device.unpower_ship_pulse (s : Device) (ship : s.power.shipping = true) :
    s.unpower.pulse.ch0.owed = 0 ∧ s.unpower.pulse.ch1.owed = 0 ∧ s.unpower.pulse.ch0.low = false ∧
      s.unpower.pulse.ch1.low = false := by
  have pulse : s.unpower.pulse = s.pulse.ship := if_pos ship
  rw [pulse]
  exact ⟨rfl, rfl, rfl, rfl⟩

end Sys2Proof.Machine

namespace Sys2Proof
open Machine

/-- Settles O29: what is recorded before the power goes stands after it. -/
theorem holdUpCommitRecordsAndUnpowers : Obligations.HoldUpCommitRecordsAndUnpowers := by
  intro dt us n s d hd ready hready
  have same : ready = d.holdReady := by
    rw [hready]
    simp [Device.holdReady, Device.shipDrained, Device.drainedOf]
  refine ⟨fun due => ?_, fun waits => ?_⟩
  · have run : exec (.holdupCommit dt us n) s = .next { s with dev := d.holdUp us n } := by
      simp [exec, execHoldupCommit, ← hd, ← same, due]
    let x := if d.started then d.holdTransaction us n else d
    have clock : x.Same d := same_ite (d.holdTransaction_same ..) (.refl d)
    have ship : x.power.shipping = d.power.shipping := by
      simp only [x]
      split
      · rw [Device.holdTransaction_power]
      · rfl
    obtain ⟨-, -, -, -, -, tick, -, stopped, neverSet, -⟩ := clock
    obtain ⟨keys, -, calib, expert, groups, -⟩ := d.holdUp_kept us n
    obtain ⟨exch, out, flight, tap⟩ := x.unpower_idle
    refine ⟨x.unpower, run, rfl, rfl, ?_, tap, fun k notPulse notOptical => x.unpower_fn k (.inl ⟨notPulse, notOptical⟩),
      exch, out, flight, tick, stopped, neverSet, congrArg Prod.fst (d.holdUp_life us n), keys, calib, expert, groups,
      fun shipping => ?_, fun started => ?_⟩
    · rw [← ship]
      rfl
    · exact ⟨fun k => x.unpower_fn k (.inr (ship.trans shipping)), x.unpower_ship_pulse (ship.trans shipping)⟩
    · have recorded : x = d.holdTransaction us n := if_pos started
      obtain ⟨cnt, pls⟩ := d.holdTransaction_mirrors us n
      rw [recorded]
      refine ⟨?_, ?_, cnt, pls⟩ <;> rw [Device.unpower_power, Device.holdTransaction_power]
  · simp [exec, execHoldupCommit, ← hd, ← same, waits]

end Sys2Proof

/-! SUPPORT. What the steps of a sample write, and the sample that they leave (R196 to R208, R223). -/

namespace Sys2Proof.Machine

/-! ## The steps of a sample -/

/-- What the steps of a sample leave of the converter's state as it was: all but units, comparisons and runs, and of the
sample the flags of R196, R205 and R206. -/
def Temp.stepped (m n : Temp) : Temp :=
  { n with
    units := m.units, checks := m.checks, negSince := m.negSince, nonNegRun := m.nonNegRun
    sample := { n.sample with
      refFault := m.sample.refFault, refRatio := m.sample.refRatio, swapSuspect := m.sample.swapSuspect
      checkFail := m.sample.checkFail } }

/-- `t` is `s` but for what a step of a sample writes: converter, degraded flag, billing, journal, tamper, Store. -/
structure Device.Stepped (t s : Device) : Prop where
  rest : t = { s with
    temp := t.temp, power := t.power, bill := t.bill, jnl := t.jnl, sec := t.sec, toll := t.toll, store := t.store }
  temp : t.temp = t.temp.stepped s.temp
  billed : t.SameBilled s

theorem Device.Stepped.refl (s : Device) : s.Stepped s := ⟨rfl, rfl, rfl, rfl, rfl⟩

theorem Device.Stepped.trans {a b c : Device} (h : a.Stepped b) (k : b.Stepped c) : a.Stepped c := by
  refine ⟨by rw [h.rest, k.rest], ?_, h.billed.trans k.billed⟩
  rw [h.temp, k.temp]
  rfl

theorem Device.Stepped.of_ite {p : Prop} [Decidable p] {a b s : Device} (h : a.Stepped s) (k : b.Stepped s) :
    (if p then a else b).Stepped s := by
  split
  · exact h
  · exact k

theorem Device.Stepped.kept {t s : Device} (h : t.Stepped s) : t.flow = s.flow ∧ t.tr = s.tr ∧ t.conf = s.conf := by
  rw [h.rest]
  exact ⟨rfl, rfl, rfl⟩

theorem Device.Booked.stepped {t s : Device} (h : t.Booked s) : t.Stepped s := by
  have temp : t.temp = s.temp := by rw [h]
  have led : t.toll.led = s.toll.led := by rw [h]
  refine ⟨by rw [h], by rw [temp]; rfl, by rw [led], by rw [led], by rw [led]⟩

theorem Device.journal_stepped (s : Device) (c a b : Nat) : (s.journal c a b).Stepped s := (s.journal_booked ..).stepped

theorem Device.tamper_stepped (s : Device) (k : Nat) : (s.tamper k).Stepped s := (s.tamper_booked k).stepped

theorem Device.degrade_stepped (s : Device) (f : Degraded → Degraded) : (s.degrade f).Stepped s := ⟨rfl, rfl, rfl, rfl, rfl⟩

/-- Units, comparisons, runs and the flags of the sample are what a step may write. -/
theorem Device.withTemp_stepped (s : Device) (m : Temp) (h : m = m.stepped s.temp) : ({ s with temp := m } : Device).Stepped s :=
  ⟨rfl, h, rfl, rfl, rfl⟩

theorem Device.refStep_stepped (s : Device) (own : OwnPart) : (s.refStep own).Stepped s := by
  unfold Device.refStep
  extract_lets was _ _ s1
  have noted : s1.Stepped s := s.withTemp_stepped _ rfl
  exact .of_ite ((Device.journal_stepped ..).trans ((s1.degrade_stepped _).trans noted))
    (.of_ite ((s1.degrade_stepped _).trans noted) noted)

theorem Device.unitStep_stepped (s : Device) (x : Nat) (v : Int) (fault : Nat) : (s.unitStep x v fault).1.Stepped s := by
  unfold Device.unitStep
  extract_lets r _ s1 s2 a s3
  have stepped : s1.Stepped s := s.withTemp_stepped _ rfl
  have told : s2.Stepped s := .of_ite ((s1.journal_stepped ..).trans stepped) stepped
  have retired : a.Stepped s := (Device.journal_stepped ..).trans ((s2.degrade_stepped _).trans told)
  exact .of_ite (.of_ite ((a.tamper_stepped 19).trans retired) retired) told

theorem unitSteps_stepped (l : List (Nat × Option (Int × Nat))) (s : Device) (acc : List (Option Int × Bool)) :
    (unitSteps l s acc).1.Stepped s := by
  induction l generalizing s acc with
  | nil => exact .refl s
  | cons x l ih =>
    obtain ⟨x, _ | p⟩ := x
    · exact ih s _
    · exact (ih _ _).trans (s.unitStep_stepped ..)

theorem Device.bridgeStep_stepped (s : Device) (b : Option ((Int × Nat) × (Int × Nat))) (thetaM : Int) :
    (s.bridgeStep b thetaM).1.Stepped s := by
  unfold Device.bridgeStep
  dsimp only
  split
  · split <;> exact s.unitStep_stepped ..
  · exact .refl s

theorem Device.swapStep_stepped (s : Device) (mode : ThermalMode) : (s.swapStep mode).Stepped s := by
  unfold Device.swapStep
  dsimp only
  refine .of_ite (.of_ite ?_ (s.withTemp_stepped _ rfl)) (.of_ite (s.withTemp_stepped _ rfl)
    (.of_ite ?_ (s.withTemp_stepped _ rfl)))
  · exact (Device.tamper_stepped ..).trans ((Device.journal_stepped ..).trans ((Device.degrade_stepped ..).trans
      (s.withTemp_stepped _ rfl)))
  · exact (Device.degrade_stepped ..).trans (s.withTemp_stepped _ rfl)

theorem checkSteps_stepped (vals : List (Option Int × Bool)) (l : List (Chan × Nat)) (s : Device) :
    (checkSteps vals l s).Stepped s := by
  induction l generalizing s with
  | nil => exact .refl s
  | cons c l ih =>
    unfold checkSteps
    split
    · exact ih s
    · split
      · extract_lets k _ s1
        have compared : s1.Stepped s := s.withTemp_stepped _ rfl
        exact (ih _).trans (.of_ite ((s1.journal_stepped ..).trans compared) compared)
      · exact ih s

theorem Device.checkFlag_stepped (s : Device) : s.checkFlag.Stepped s := by
  unfold Device.checkFlag
  exact (Device.degrade_stepped ..).trans (s.withTemp_stepped _ rfl)

/-! ## Values carried by the channels -/

/-- A channel whose conversion is valid carries a value. -/
def Carried (vals : List (Option Int × Bool)) : Prop := ∀ v ∈ vals, v.2 = true → v.1.isSome = true

theorem TempUnit.step_carried (u : TempUnit) (w : WiringP) (now : Nat) (v : Int) (fault : Nat)
    (valid : (u.step w now v fault).valid = true) : (u.step w now v fault).value.isSome = true := by
  unfold TempUnit.step at valid ⊢
  dsimp only at valid ⊢
  split
  · rfl
  · rename_i bad
    simp [bad] at valid

theorem Device.unitStep_carried (s : Device) (x : Nat) (v : Int) (fault : Nat) (valid : (s.unitStep x v fault).2.2 = true) :
    (s.unitStep x v fault).2.1.isSome = true :=
  TempUnit.step_carried _ _ _ _ _ valid

theorem unitSteps_carried (l : List (Nat × Option (Int × Nat))) (s : Device) (acc : List (Option Int × Bool))
    (before : Carried acc) : Carried (unitSteps l s acc).2 := by
  induction l generalizing s acc with
  | nil => exact before
  | cons x l ih =>
    obtain ⟨x, _ | p⟩ := x
    · refine ih s _ fun v hv => ?_
      rcases List.mem_append.mp hv with old | new
      · exact before v old
      · simp [List.mem_singleton.mp new]
    · refine ih _ _ fun v hv => ?_
      rcases List.mem_append.mp hv with old | new
      · exact before v old
      · rw [List.mem_singleton.mp new]
        exact s.unitStep_carried x p.1 p.2

/-- The value that channel `k` carries, and whether its conversion is valid. -/
def carriedAt (vals : List (Option Int × Bool)) (k : Nat) : Option Int × Bool := vals.getD k (none, false)

theorem carriedAt_some (vals : List (Option Int × Bool)) (carried : Carried vals) (k : Nat)
    (present : ((carriedAt vals k).2 || ((carriedAt vals k).1.isSome && !(carriedAt vals k).2)) = true) :
    (carriedAt vals k).1 = some ((carriedAt vals k).1.getD 0) := by
  have carries : (carriedAt vals k).1.isSome = true := by
    cases valid : (carriedAt vals k).2
    · simpa [valid] using present
    · unfold carriedAt at valid ⊢
      rw [List.getD_eq_getElem?_getD] at valid ⊢
      cases at_k : vals[k]? with
      | none => simp [at_k] at valid
      | some v =>
        rw [at_k] at valid
        exact carried v (List.mem_of_getElem? at_k) valid
  obtain ⟨a, value⟩ := Option.isSome_iff_exists.mp carries
  rw [value]
  rfl

/-- The difference of two temperatures, where both are carried (R202). -/
def spread : Option Int → Option Int → Option Int
  | some a, some b => some (a - b)
  | _, _ => none

theorem spread_some_left {f r : Option Int} {x : Int} (h : spread f r = some x) : ∃ a, f = some a := by
  cases f with
  | none => cases r <;> simp [spread] at h
  | some a => exact ⟨a, rfl⟩

/-- Δθ of FLOW and RETURN (R202). -/
def Device.thetaDiff (s : Device) (vals : List (Option Int × Bool)) : Option Int :=
  spread ((s.roleIdx 2).bind fun k => (carriedAt vals k).1) ((s.roleIdx 3).bind fun k => (carriedAt vals k).1)

/-! ## The sample that completes -/

theorem Device.Stepped.roleIdx {t s : Device} (h : t.Stepped s) (r : Nat) : t.roleIdx r = s.roleIdx r := by
  rw [h.rest]
  rfl

theorem Device.samplePriced_laned (s : Device) : s.samplePriced.Laned s := by
  have noted : ({ s with toll := { s.toll with led := { s.toll.led with holdBefore := s.toll.led.hold } } } : Device).Laned s :=
    ⟨rfl, rfl, rfl, rfl⟩
  unfold Device.samplePriced
  refine .of_ite (fun _ => ?_) fun _ => noted
  split
  · exact noted
  · split
    · exact ⟨rfl, rfl, rfl, rfl⟩
    · unfold Device.powerRule
      exact .of_ite (fun _ => ⟨rfl, rfl, rfl, rfl⟩) fun _ => noted

/-- On a heat-only function the side is HEAT (R204). -/
theorem sideOf_heatOnly (m : MediumP) (known cool : Bool) (flow : Int) (heat : m.cls = 1 ∨ m.cls = 4) :
    sideOf m known cool flow = false := by
  simp [sideOf, heat]

/-- What a completed sample leaves, whose channels carry `vals` (R201, R202, R204). -/
structure Device.SampleTaken (t s : Device) (vals : List (Option Int × Bool)) : Prop where
  theta : t.temp.sample.theta = (List.range 4).map fun k => (carriedAt vals k).1.getD 0
  valid : t.temp.sample.valid = (List.range 4).map fun k => (carriedAt vals k).2
  held : t.temp.sample.held = (List.range 4).map fun k => (carriedAt vals k).1.isSome && !(carriedAt vals k).2
  dtheta : t.temp.sample.dtheta = fitS 41 32 ((s.thetaDiff vals).getD 0)
  heatOnly : ∀ x, s.thetaDiff vals = some x → s.conf.cls = 1 ∨ s.conf.cls = 4 →
    t.temp.sample.mode = modeOf s.conf.medium false x
  noEnergy : energyClass s.conf.cls = false → t.temp.sample.mode = .none
  stamp : t.temp.sample.tick = s.land.tick ∧ t.temp.sample.seq = wrapU 16 (s.temp.sample.seq + 1)
  ended : t.temp.running = false ∧ t.temp.any = true
  pricing : t.temp.pricing = some t.temp.sample ∧ t.temp.prevPricing = s.temp.pricing
  billed : t.SameBilled s
  kept : t.flow = s.flow ∧ t.tr = s.tr ∧ t.conf = s.conf

theorem Device.completeSample_taken (s : Device) (own : OwnPart) :
    ∃ vals, Carried vals ∧ (s.completeSample own).SampleTaken s vals := by
  refine ⟨(unitSteps ((s.refStep own).partResults own) (s.refStep own) []).2, unitSteps_carried _ _ _ (by simp [Carried]), ?_⟩
  unfold Device.completeSample
  extract_lets now s0 r s1 vals val anyRole thetaM f rt md dth cool mode b s2 _ m _ s3 s4 _ _ _ s5
  have w1 : s1.Stepped s := (unitSteps_stepped ..).trans (s.refStep_stepped own)
  have w2 : s2.Stepped s := (s1.bridgeStep_stepped ..).trans w1
  have w4 : s4.Stepped s3 :=
    (Device.checkFlag_stepped _).trans ((checkSteps_stepped ..).trans (s3.swapStep_stepped mode))
  have w5 : s5.samplePriced.recond.commit.Laned s5 :=
    (Device.commit_laned _).trans ((Device.recond_laned _).trans s5.samplePriced_laned)
  have diff : spread f rt = s.thetaDiff vals := by
    simp only [f, rt, val, w1.roleIdx]
    rfl
  have medium : md = s.conf.medium := by
    show s1.conf.medium = _
    rw [w1.rest]
  have heat : ∀ x, s.thetaDiff vals = some x → s.conf.cls = 1 ∨ s.conf.cls = 4 → mode = modeOf s.conf.medium false x := by
    intro x known cls
    obtain ⟨a, flow⟩ := spread_some_left (diff.trans known)
    have dth' : dth = some x := diff.trans known
    have energy : energyClass s.conf.medium.cls = true := by
      rcases (show s.conf.medium.cls = 1 ∨ s.conf.medium.cls = 4 from cls) with h | h <;> rw [h] <;> rfl
    have side : cool = false := by
      simp only [cool, flow, dth', medium, energy, if_true]
      exact sideOf_heatOnly _ _ _ _ cls
    simp only [mode, dth', medium, side, energy, if_true]
  have idle : energyClass s.conf.cls = false → mode = .none := by
    intro none
    have off : energyClass md.cls = false := by
      rw [medium]
      exact none
    obtain none' | ⟨x, some'⟩ := dth.eq_none_or_eq_some
    · simp only [mode, none']
    · simp [mode, some', off]
  have led : s5.SameBilled s := w4.billed.trans w2.billed
  obtain ⟨flow4, tr4, conf4⟩ := w4.kept
  obtain ⟨flow2, tr2, conf2⟩ := w2.kept
  have temp : s5.samplePriced.recond.commit.temp = s5.temp := by rw [w5.rest]
  have sample {α : Type} (g : TempSample → α) (h : g s4.temp.sample = g m) :
      g s5.samplePriced.recond.commit.temp.sample = g m := by
    rw [temp]
    exact h
  exact
    { theta := sample (·.theta) (congrArg (·.sample.theta) w4.temp)
      valid := sample (·.valid) (congrArg (·.sample.valid) w4.temp)
      held := sample (·.held) (congrArg (·.sample.held) w4.temp)
      dtheta := (sample (·.dtheta) (congrArg (·.sample.dtheta) w4.temp)).trans (congrArg (fun d => fitS 41 32 (d.getD 0)) diff)
      heatOnly := fun x known cls => (sample (·.mode) (congrArg (·.sample.mode) w4.temp)).trans (heat x known cls)
      noEnergy := fun none => (sample (·.mode) (congrArg (·.sample.mode) w4.temp)).trans (idle none)
      stamp := ⟨sample (·.tick) (congrArg (·.sample.tick) w4.temp),
        (sample (·.seq) (congrArg (·.sample.seq) w4.temp)).trans
          (congrArg (fun n => wrapU 16 (n + 1)) (congrArg (·.sample.seq) w2.temp))⟩
      ended := by
        rw [temp]
        exact ⟨congrArg (·.running) w4.temp, congrArg (·.any) w4.temp⟩
      pricing := by
        rw [temp]
        exact ⟨rfl, (congrArg (·.pricing) w4.temp).trans (congrArg (·.pricing) w2.temp)⟩
      billed := w5.billed.trans led
      kept := by
        rw [w5.rest]
        exact ⟨flow4.trans flow2, tr4.trans tr2, conf4.trans conf2⟩ }

theorem getD_map_range {α : Type} (g : Nat → α) (n i : Nat) (x : α) (h : i < n) : ((List.range n).map g).getD i x = g i := by
  rw [List.getD_eq_getElem?_getD, List.getElem?_map, List.getElem?_range h]
  rfl

/-- A channel that is valid or held carries the temperature of the sample. -/
theorem Device.SampleTaken.carries {t s : Device} {vals : List (Option Int × Bool)} (h : t.SampleTaken s vals)
    (carried : Carried vals) (i : Nat) (lt : i < 4) (present : t.temp.sample.present i = true) :
    (carriedAt vals i).1 = some (t.temp.sample.theta.getD i 0) := by
  rw [TempSample.present, h.valid, h.held, getD_map_range _ _ _ _ lt, getD_map_range _ _ _ _ lt] at present
  rw [h.theta, getD_map_range _ _ _ _ lt]
  exact carriedAt_some vals carried i present

/-- With FLOW and RETURN valid or held, Δθ is the difference of their temperatures (R202). -/
theorem Device.SampleTaken.thetaDiff {t s : Device} {vals : List (Option Int × Bool)} (h : t.SampleTaken s vals)
    (carried : Carried vals) {i j : Nat} (flow : s.roleIdx 2 = some i) (ret : s.roleIdx 3 = some j) (hi : i < 4) (hj : j < 4)
    (pi : t.temp.sample.present i = true) (pj : t.temp.sample.present j = true) :
    s.thetaDiff vals = some (t.temp.sample.theta.getD i 0 - t.temp.sample.theta.getD j 0) := by
  rw [Device.thetaDiff, flow, ret]
  show spread (carriedAt vals i).1 (carriedAt vals j).1 = _
  rw [h.carries carried i hi pi, h.carries carried j hj pj]
  rfl

/-- A value that its field holds is kept (log 14). -/
theorem fitS_fits (tag w : Nat) (v : Int) (low : -(2 ^ (w - 1)) ≤ v) (high : v < 2 ^ (w - 1)) : fitS tag w v = v := by
  simp only [fitS, fitRange]
  exact if_pos ⟨low, Int.le_sub_one_of_lt high⟩

/-! ## The sample that begins (R11) -/

/-- The device as a sample begins, but for its alarm and the call of the secondaries. -/
def Device.sampleBegun (s : Device) : Device :=
  { s with
    cap := { s.cap with tempTurns := 0 }
    temp := { s.temp with
      due := false, running := true, lastDue := s.land.tick, awaiting := s.sampleDevices, parts := [], ownPart := none } }

theorem Device.fallDue_begins (s : Device) (on : s.on .converter = true) (idle : s.temp.running = false) :
    s.fallDue = (let a := s.sampleBegun.arm 3 (s.land.tick + s.conf.clamp.tMax * 2048) true
      if s.haw.role == 1 && s.on .hawser then (a.hwBurst 7).hwSend 7 0x08 [] else a) := by
  simp only [Device.fallDue, on, idle]
  rfl

theorem Device.fallDue_waits (s : Device) (busy : s.on .converter = false ∨ s.temp.running = true) :
    s.fallDue = { s with temp := { s.temp with due := true } } := by
  have off : (s.on .converter && !s.temp.running) = false := by rcases busy with h | h <;> simp [h]
  simp only [Device.fallDue, off]
  rfl

/-- Beginning and alarm are all that a sample that falls due does to these. -/
theorem Device.fallDue_fields (s : Device) (on : s.on .converter = true) (idle : s.temp.running = false) :
    s.fallDue.temp = s.sampleBegun.temp ∧ s.fallDue.cap = s.sampleBegun.cap ∧
      s.fallDue.land.alarms = (s.sampleBegun.arm 3 (s.land.tick + s.conf.clamp.tMax * 2048) true).land.alarms ∧
      s.fallDue.toll = s.toll ∧ s.fallDue.tr = s.tr ∧ s.fallDue.conf = s.conf := by
  rw [s.fallDue_begins on idle]
  dsimp only
  split <;> simp [Device.sampleBegun, Device.hwSend, Device.hwBurst]

/-! ## The two instructions -/

/-- A sample falls due (R11). -/
theorem tempSampleDue_settled (dt : Nat) (s : State) (d : Device) (hd : d = (s.dev.elapse dt).woken 1) :
    (d.tolling = true → d.fired 3 = true ∨ d.temp.due = true →
      exec (.tempSampleDue dt) s = .next { s with dev := d.fallDue }) ∧
    (d.tolling = false ∨ (d.fired 3 = false ∧ d.temp.due = false) →
      exec (.tempSampleDue dt) s = .next { s with dev := d }) := by
  refine ⟨fun tolling due => ?_, fun idle => ?_⟩
  · have falls : (d.fired 3 || d.temp.due) = true := by rcases due with h | h <;> simp [h]
    simp [exec, execTempSampleDue, ← hd, tolling, falls]
  · have stays : (d.tolling && (d.fired 3 || d.temp.due)) = false := by
      rcases idle with h | ⟨h, k⟩
      · simp [h]
      · simp [h, k]
    simp [exec, execTempSampleDue, ← hd, stays]

/-- The mode of a heat-only function (R204). -/
theorem modeOf_heat (m : MediumP) (x : Int) : modeOf m false x =
    if (m.dthetaZero : Int) ≤ x then .heat else if -(m.dthetaNeg : Int) < x then .none else .neg := by
  simp [modeOf]

/-- The device with its own conversions done. -/
def Device.converted (d : Device) (m : SampleInput) : Device :=
  { d with temp := { d.temp with ownPart := some (d.ownConvert m) } }

/-- The conversions of a device that is no secondary (R201, R403). -/
theorem sampleComplete_settled (dt : Nat) (m : SampleInput) (s : State) (d : Device) (hd : d = s.dev.elapse dt)
    (primary : d.secondary = false) :
    (d.up = true → d.temp.running = true → d.on .converter = true →
      exec (.sampleComplete dt m) s = .next { s with dev := (d.converted m).trySample }) ∧
    (d.temp.running = false ∨ d.on .converter = false → exec (.sampleComplete dt m) s = .next { s with dev := d }) := by
  refine ⟨fun up running on => ?_, fun idle => ?_⟩
  · simp [exec, execSampleComplete, ← hd, primary, up, running, on, Device.converted]
  · have stays : (d.up && d.temp.running && d.on .converter) = false := by rcases idle with h | h <;> simp [h]
    simp [exec, execSampleComplete, ← hd, primary, stays]

theorem Device.converted_completes (d : Device) (m : SampleInput) (parts : d.temp.awaiting = []) :
    (d.converted m).trySample = (d.converted m).boundaryFirst.completeSample (d.ownConvert m) := by
  simp [Device.trySample, Device.converted, parts]

theorem Device.converted_waits (d : Device) (m : SampleInput) (parts : d.temp.awaiting ≠ []) :
    (d.converted m).trySample = d.converted m := by
  simp [Device.trySample, Device.converted, parts]

/-- A boundary of the tick leaves what a sample reads, and the billed registers. -/
theorem Device.converted_boundary (d : Device) (m : SampleInput) :
    let b := (d.converted m).boundaryFirst
    b.conf = d.conf ∧ (∀ r, b.roleIdx r = d.roleIdx r) ∧ (b.temp.pricing = d.temp.pricing ∧
      b.temp.sample.seq = d.temp.sample.seq) ∧ b.SameBilled d ∧ b.flow = d.flow ∧ b.tr = d.tr ∧ b.land.tick = d.land.tick := by
  have lane : (d.converted m).boundaryFirst.Laned (d.converted m) := (d.converted m).boundaryFirst_laned
  have billed : (d.converted m).boundaryFirst.SameBilled d := lane.billed
  have tick : (d.converted m).boundaryFirst.land.tick = d.land.tick := by simp [Device.converted]
  refine ⟨?_, fun r => ?_, ⟨?_, ?_⟩, billed, ?_, ?_, tick⟩ <;> rw [lane.rest] <;> rfl

end Sys2Proof.Machine

namespace Sys2Proof
open Machine

/-- Settles O48: a sample completes on what the boundary of its tick leaves, which is nothing of what a sample reads. -/
theorem temperatureSamplesComplete : Obligations.TemperatureSamplesComplete := by
  refine ⟨fun dt s d hd => ?_, fun dt m s d hd => ⟨fun role up running on parts => ?_, fun role up running on parts => ?_,
    fun primary idle => (sampleComplete_settled dt m s d hd primary).2 idle⟩⟩
  · obtain ⟨falls, stays⟩ := tempSampleDue_settled dt s d hd
    refine ⟨fun tolling due => ⟨fun on idle => ⟨d.fallDue, falls tolling due, ?_⟩, fun busy => ?_⟩, stays⟩
    · obtain ⟨temp, cap, land, toll, tr, conf⟩ := d.fallDue_fields on idle
      rw [temp, cap, land]
      refine ⟨rfl, rfl, rfl, rfl, rfl, fun bat long a slot => ?_, toll, tr, conf, by simp⟩
      exact Device.arm_later _ 3 _ bat (Nat.lt_add_of_pos_right (by omega)) a slot
    · rw [falls tolling due, d.fallDue_waits busy]
  · have alone : d.secondary = false := by simp [Device.secondary, role]
    obtain ⟨vals, carried, taken⟩ := (d.converted m).boundaryFirst.completeSample_taken (d.ownConvert m)
    refine ⟨_, by rw [(sampleComplete_settled dt m s d hd alone).1 up running on, Device.converted_completes d m parts], ?_⟩
    obtain ⟨conf, role, ⟨pricing, seq⟩, billed, flow, tr, tick⟩ := Device.converted_boundary d m
    obtain ⟨stamp, seq'⟩ := taken.stamp
    obtain ⟨stopped, any⟩ := taken.ended
    obtain ⟨now, before⟩ := taken.pricing
    obtain ⟨flow', tr', conf'⟩ := taken.kept
    obtain ⟨vol, heat, cool⟩ := taken.billed.trans billed
    refine ⟨stamp.trans tick, ?_, stopped, any, now, before.trans pricing, ?_, vol, heat, cool, flow'.trans flow,
      tr'.trans tr, conf'.trans conf, by simp [Device.converted]⟩
    · rw [seq', seq, wrapU]
    · intro i j x flowIdx retIdx hi hj pi pj hx
      have diff := taken.thetaDiff carried ((role 2).trans flowIdx) ((role 3).trans retIdx) hi hj pi pj
      rw [← hx] at diff
      refine ⟨fun low high => ?_, fun cls => ?_, fun cls => ?_⟩
      · rw [taken.dtheta, diff]
        exact fitS_fits 41 32 x low high
      · rw [taken.heatOnly x diff (conf ▸ cls), conf, modeOf_heat]
      · refine taken.noEnergy ?_
        rw [conf]
        rcases cls with none | gas
        · simp [energyClass, none]
        · have above : ¬ d.conf.cls ≤ 6 := by omega
          simp [energyClass, above]
  · have alone : d.secondary = false := by simp [Device.secondary, role]
    rw [(sampleComplete_settled dt m s d hd alone).1 up running on, Device.converted_waits d m parts]
    rfl

end Sys2Proof

/-! SUPPORT. The waits of a cold start, and the strap image that it leaves (R60, R479, R480, R512). -/

namespace Sys2Proof.Machine

theorem vcoreOk_inside {v : Nat} (low : 855 ≤ v) (high : v ≤ 945) : vcoreOk v = true := by
  simp [vcoreOk, low, high]

theorem vcoreOk_outside {v : Nat} (out : v < 855 ∨ 945 < v) : vcoreOk v = false := by
  simp only [vcoreOk, decide_eq_false_iff_not]
  omega

/-! ## The image read (R60, R71, R73) -/

theorem Device.coldSafe_same (s : Device) (g : Groups) (moved : Bool) : (s.coldSafe g moved).Same s :=
  same_ite (Device.capRestart_same ..) (.refl s)

theorem Device.Kept.codes {t s : Device} (h : t.Kept s) : t.straps.codes = s.straps.codes := by
  obtain ⟨-, -, -, -, -, -, codes⟩ := h
  exact codes

theorem Device.coldSafe_codes (s : Device) (g : Groups) (moved : Bool) : (s.coldSafe g moved).straps.codes = s.straps.codes := by
  cases moved
  · rfl
  · exact (Device.capRestart_kept ..).codes

theorem Device.coldStraps_codes (s : Device) (img : StrapImage) : (s.coldStraps img).straps.codes = img.codes := by
  unfold Device.coldStraps
  dsimp only
  split
  · exact (Device.tamper_kept ..).codes
  · rfl

/-- The device with the straps read, before the image is judged. -/
def Device.strapsRead (s : Device) (inp : ColdStartInput) (g : Groups) : Device :=
  let s1 := Device.coldStraps { s with haw := { s.haw with role := g.role } } (decodeStraps inp.straps)
  { s1 with conf := { s1.conf with calib := storedCalib s1.conf.calibStored } }

/-- What the verdict on an image makes of it (R71, R73). -/
def Device.imageJudged (s : Device) (img : StrapImage) (g : Groups) (old : Option Nat) (moved : Bool) : ImageVerdict → Device
  | .pass => (s.coldPass img g).coldImage old img
  | .fault => s.coldSafe g moved
  | .refused => (Device.coldSafe { s with straps := { s.straps with loadRefused := true } } g moved).refuse 7

theorem Device.coldImageRead_eq (s : Device) (inp : ColdStartInput) :
    ∃ (g : Groups) (moved : Bool) (v : ImageVerdict), s.coldImageRead inp =
      ((s.strapsRead inp g).imageJudged (decodeStraps inp.straps) g s.straps.inForce moved v).coldBlocks s.conf inp := by
  unfold Device.coldImageRead
  extract_lets img was old moved g haw s1 conf s2 straps s3
  clear_value moved g
  refine ⟨g, moved, validate img g s.haw.expected (s.haw.expectedKnown && !moved), ?_⟩
  simp only [s3]
  cases validate img g s.haw.expected (s.haw.expectedKnown && !moved) <;> rfl

theorem Device.strapsRead_same (s : Device) (inp : ColdStartInput) (g : Groups) : (s.strapsRead inp g).Same s :=
  Device.coldStraps_same ..

theorem Device.strapsRead_codes (s : Device) (inp : ColdStartInput) (g : Groups) :
    (s.strapsRead inp g).straps.codes = (decodeStraps inp.straps).codes :=
  Device.coldStraps_codes ..

theorem Device.imageJudged_same (s : Device) (img : StrapImage) (g : Groups) (old : Option Nat) (moved : Bool)
    (v : ImageVerdict) : (s.imageJudged img g old moved v).Same s := by
  cases v
  case pass => exact (Device.coldImage_same ..).trans (Device.coldPass_same ..)
  case fault => exact Device.coldSafe_same ..
  case refused => exact (Device.refuse_same ..).trans (Device.coldSafe_same ..)

theorem Device.imageJudged_codes (s : Device) (img : StrapImage) (g : Groups) (old : Option Nat) (moved : Bool)
    (v : ImageVerdict) : (s.imageJudged img g old moved v).straps.codes = s.straps.codes := by
  cases v
  case pass => exact (Device.coldImage_kept ..).codes
  case fault => exact Device.coldSafe_codes ..
  case refused => exact Device.coldSafe_codes ..

/-- Whatever becomes of the image, it has been read when its configuration reaches the blocks. -/
theorem Device.coldImageRead_blocks (s : Device) (inp : ColdStartInput) :
    ∃ x : Device, s.coldImageRead inp = x.coldBlocks s.conf inp ∧ x.Same s ∧
      x.straps.codes = (decodeStraps inp.straps).codes := by
  obtain ⟨g, moved, v, blocks⟩ := s.coldImageRead_eq inp
  exact ⟨_, blocks, (Device.imageJudged_same ..).trans (s.strapsRead_same inp g),
    (Device.imageJudged_codes ..).trans (s.strapsRead_codes inp g)⟩

/-! ## The wait for VHOLD (R479) -/

/-- A cold start that has gone through: `t` waits for VHOLD with the image of `inp`, on the clock of `s`. -/
def Device.AwaitsVhold (t s : Device) (inp : ColdStartInput) : Prop :=
  t.power.phase = .vholdWait ∧ t.power.coldDue = s.power.coldDue ∧ t.land.lfxRunning = s.land.lfxRunning ∧
    t.straps.codes = (decodeStraps inp.straps).codes

theorem Device.AwaitsVhold.of_same {t a s : Device} {inp : ColdStartInput} (h : t.AwaitsVhold a inp) (k : a.Same s) :
    t.AwaitsVhold s inp := by
  obtain ⟨phase, due, running, codes⟩ := h
  obtain ⟨-, -, -, due', -, -, -, -, -, running', -⟩ := k
  exact ⟨phase, due.trans due', running.trans running', codes⟩

theorem Device.coldWait_phase (s : Device) : s.coldWait.power.phase = .vholdWait ∧
    s.coldWait.power.coldDue = s.power.coldDue ∧ s.coldWait.land.lfxRunning = s.land.lfxRunning := by
  have synced : s.coldWait.Same { s with power := { s.power with phase := .vholdWait, held := none } } :=
    same_ite (Device.startSync_same _) (.refl _)
  obtain ⟨phase, -, -, due, -, -, -, -, -, running, -⟩ := synced
  exact ⟨phase, due, running⟩

theorem Device.coldBlocks_wait (s : Device) (was : Conf) (inp : ColdStartInput) :
    ∃ x : Device, s.coldBlocks was inp = x.coldWait ∧ x.Same s := by
  unfold Device.coldBlocks
  extract_lets s2 s5
  refine ⟨_, rfl, (Device.arm_same ..).trans ((Device.coldClocks_same ..).trans ((Device.coldFit_same _).trans ?_))⟩
  refine (Device.initRole_same _).trans ((Device.initRadio_same _).trans ((Device.initPulse_same _).trans ?_))
  exact (Device.initPaths_same ..).trans (Device.coldAnalog_same ..)

theorem Device.coldBlocks_awaits (s : Device) (was : Conf) (inp : ColdStartInput)
    (read : s.straps.codes = (decodeStraps inp.straps).codes) : (s.coldBlocks was inp).AwaitsVhold s inp := by
  have codes : (s.coldBlocks was inp).straps.codes = (decodeStraps inp.straps).codes :=
    (s.coldBlocks_kept was inp).codes.trans read
  obtain ⟨x, wait, same⟩ := s.coldBlocks_wait was inp
  rw [wait] at codes ⊢
  obtain ⟨phase, due, running⟩ := x.coldWait_phase
  exact Device.AwaitsVhold.of_same ⟨phase, due, running, codes⟩ same

/-- From the journal step on nothing stops the sequence before its wait for VHOLD. -/
theorem Device.coldRest_awaits (s : Device) (inp : ColdStartInput) : (s.coldRest inp).AwaitsVhold s inp := by
  unfold Device.coldRest
  extract_lets begun s0 s1 counters s2
  have journal : s1.Same s0 := Device.coldJournal_same ..
  have events : s2.coldCount.flushEvents.Same s1 :=
    (Device.flushEvents_same _).trans ((Device.coldCount_same _).trans (Device.coldLifecycle_same ..))
  obtain ⟨x, blocks, same, codes⟩ := s2.coldCount.flushEvents.coldImageRead_blocks inp
  rw [blocks]
  have restarted : (x.coldBlocks s2.coldCount.flushEvents.conf inp).AwaitsVhold s0 inp :=
    (x.coldBlocks_awaits _ inp codes).of_same (same.trans (events.trans journal))
  exact restarted

/-! ## The self-test (R480, R512) -/

/-- After a restart of the Landing the self-test leaves the sequence waiting for LFX. -/
theorem Device.coldSelfTest_restarted (s : Device) (inp : ColdStartInput) (restarted : s.power.landRestarted = true) :
    (s.coldSelfTest inp).power.phase = .lfxWait ∧ (s.coldSelfTest inp).power.held = s.power.held ∧
      (s.coldSelfTest inp).power.coldDue = s.power.coldDue := by
  obtain ⟨-, held, again, due, -⟩ := s.coldTests_same inp
  rw [Device.coldSelfTest, if_pos (again.trans restarted)]
  exact ⟨rfl, held, due⟩

theorem Device.coldSelfTest_awaits (s : Device) (inp : ColdStartInput) (kept : s.power.landRestarted = false) :
    (s.coldSelfTest inp).AwaitsVhold s inp := by
  have tested : (s.coldTests inp).Same s := s.coldTests_same inp
  have still : (s.coldTests inp).power.landRestarted = false := by
    obtain ⟨-, -, again, -⟩ := tested
    exact again.trans kept
  rw [Device.coldSelfTest, if_neg (by rw [still]; decide)]
  exact ((s.coldTests inp).coldRest_awaits inp).of_same tested

/-- The wait that follows the self-test. -/
theorem Device.coldSelfTest_phase (s : Device) (inp : ColdStartInput) :
    (s.coldSelfTest inp).power.phase = if s.power.landRestarted then .lfxWait else .vholdWait := by
  cases restarted : s.power.landRestarted
  · exact (s.coldSelfTest_awaits inp restarted).1
  · exact (s.coldSelfTest_restarted inp restarted).1

/-! ## The commands -/

theorem Device.coldBegin_inside (s : Device) (inp : ColdStartInput) (low : 855 ≤ inp.vcoreMv) (high : inp.vcoreMv ≤ 945) :
    s.coldBegin inp = (s.coldClear inp).coldSelfTest inp := by
  rw [Device.coldBegin, vcoreOk_inside low high]
  rfl

/-- A VCORE outside its band holds the sequence, with what it was given. -/
theorem Device.coldBegin_outside (s : Device) (inp : ColdStartInput) (out : inp.vcoreMv < 855 ∨ 945 < inp.vcoreMv) :
    (s.coldBegin inp).power.phase = .condWait ∧ (s.coldBegin inp).st.condWait = true ∧
      (s.coldBegin inp).power.held = some inp ∧ (s.coldBegin inp).power.coldDue = false := by
  rw [Device.coldBegin, vcoreOk_outside out]
  exact ⟨rfl, rfl, rfl, rfl⟩

/-- A cold start takes what is due, whichever wait it comes to. -/
theorem Device.coldBegin_taken (s : Device) (inp : ColdStartInput) : (s.coldBegin inp).power.coldDue = false := by
  by_cases out : inp.vcoreMv < 855 ∨ 945 < inp.vcoreMv
  · obtain ⟨-, -, -, due⟩ := s.coldBegin_outside inp out
    exact due
  · rw [s.coldBegin_inside inp (by omega) (by omega)]
    cases restarted : s.power.landRestarted
    · obtain ⟨-, due, -⟩ := (s.coldClear inp).coldSelfTest_awaits inp restarted
      exact due
    · obtain ⟨-, -, due⟩ := (s.coldClear inp).coldSelfTest_restarted inp restarted
      exact due

end Sys2Proof.Machine

namespace Sys2Proof
open Machine

/-- Settles O30: the self-test ends in the wait that the Landing asks for, and the journal step in the wait for VHOLD. -/
theorem coldStartGoesThroughItsWaits : Obligations.ColdStartGoesThroughItsWaits := by
  intro dt s d hd unheld
  refine ⟨fun i due down bat landed free => ⟨d.coldBegin i, ?_, d.coldBegin_taken i, fun out => ?_,
      fun low high restarted => ?_, fun low high kept => ?_⟩, fun i ticking low => ?_,
    fun i v held phase waits => ⟨fun out => ?_, fun low high => ?_⟩, fun i w held phase => ⟨?_, ?_⟩⟩
  · simp [exec, execColdStart, ← hd, due, unheld, free, down, bat, landed]
  · obtain ⟨phase, cond, held, -⟩ := d.coldBegin_outside i out
    exact ⟨phase, cond, held⟩
  · rw [d.coldBegin_inside i low high]
    obtain ⟨phase, held, -⟩ := (d.coldClear i).coldSelfTest_restarted i restarted
    exact ⟨phase, held⟩
  · rw [d.coldBegin_inside i low high]
    obtain ⟨phase, -, -, codes⟩ := (d.coldClear i).coldSelfTest_awaits i kept
    exact ⟨phase, codes⟩
  · have reset : d.inReset = true := by simp [Device.inReset, ticking, low]
    simp [exec, execColdStart, ← hd, reset]
  · simp [exec, execCondWaitEnd, ← hd, held, phase, waits, unheld, vcoreOk_outside out]
  · let x : Device := { d with st := { d.st with vcoreMv := v } }
    have run : exec (.condWaitEnd dt v) s = .next { s with dev := x.coldSelfTest i } := by
      simp [exec, execCondWaitEnd, ← hd, held, phase, waits, unheld, vcoreOk_inside low high, x]
    exact ⟨_, run, x.coldSelfTest_phase i⟩
  · let x : Device := Device.journal { d with land := { d.land with lfxRunning := true } } 0x903 w 0
    have run : exec (.lfxWait dt w true) s = .next { s with dev := x.coldRest i } := by
      simp [exec, execLfxWait, ← hd, held, phase, unheld, x]
    obtain ⟨rest, -, running, codes⟩ := x.coldRest_awaits i
    have started : x.land.lfxRunning = true := by simp [x]
    exact ⟨_, run, running.trans started, rest, codes⟩
  · simp [exec, execLfxWait, ← hd, held, phase, unheld]

end Sys2Proof

/-! SUPPORT. The Landing's inputs: what a tamper input enters into the FIFO, what a pulse counts (R326, R328 to R330). -/

namespace Sys2Proof.Machine

theorem Device.untrusted_land (s : Device) : s.land.untrusted = !s.trusted := by
  simp [Landing.untrusted, Device.trusted]

theorem Device.tamperIn_room (s : Device) (k : TamperIn) (room : s.land.fifo.length < 8) :
    s.tamperIn k = { s with land := { s.land with fifo := s.land.fifo ++ [⟨k, s.land.tick, !s.trusted⟩] } } := by
  rw [Device.tamperIn, if_pos room, s.untrusted_land]

/-- An event of the Landing waits where the domain is not up and awake (R331). -/
theorem Device.landEvent_waits (s : Device) (c a b : Nat) (rest : (s.up && s.awake) = false) :
    s.landEvent c a b =
      { s with land := { s.land with queued := s.land.queued ++ [⟨c, s.land.tick, a, b, !s.trusted⟩] } } :=
  if_neg (Bool.eq_false_iff.mp rest)

theorem Device.tamperIn_full (s : Device) (k : TamperIn) (full : 8 ≤ s.land.fifo.length) (rest : (s.up && s.awake) = false) :
    s.tamperIn k = { s with land := { s.land with
      cnt := { s.land.cnt with tinLost := satInc s.land.cnt.tinLost }
      queued := s.land.queued ++ [⟨0x408, s.land.tick, satInc s.land.cnt.tinLost, 0, !s.trusted⟩] } } := by
  rw [Device.tamperIn, if_neg (Nat.not_lt.mpr full)]
  exact Device.landEvent_waits _ _ _ _ rest

/-! ## The seal (R328) -/

/-- The entry that a change of the seal makes (R330). -/
def SealState.entry : SealState → Option TamperIn
  | .ok => some .sealOk
  | .opened => some .sealOpen
  | .short => some .sealShort
  | .notMonitored => none

theorem Device.setSeal_room (s : Device) (v : SealState) (k : TamperIn) (entry : v.entry = some k)
    (other : s.land.sealSt ≠ v) (room : s.land.fifo.length < 8) :
    s.setSeal v = { s with land := { s.land with
      sealSt := v, fifo := s.land.fifo ++ [⟨k, s.land.tick, !s.trusted⟩] } } := by
  have enters : s.setSeal v = Device.tamperIn { s with land := { s.land with sealSt := v } } k := by
    cases v
    case notMonitored => cases entry
    all_goals
      cases entry
      exact if_neg other
  rw [enters]
  exact Device.tamperIn_room _ k room

/-- A first failed probe is only counted. -/
theorem Device.probe_fails_once (s : Device) (between : Bool) (none : s.land.sealFail = 0) :
    s.probe true between = { s with land := { s.land with probeIn := 0, sealFail := 1, sealGood := 0 } } := by
  simp [Device.probe, none]

/-- A failed probe after a failed one opens the seal. -/
theorem Device.probe_opens (s : Device) (between : Bool) (once : 1 ≤ s.land.sealFail) (other : s.land.sealSt ≠ .opened)
    (room : s.land.fifo.length < 8) :
    s.probe true between = { s with land := { s.land with
      probeIn := 0, sealFail := 2, sealGood := 0, sealSt := .opened
      fifo := s.land.fifo ++ [⟨.sealOpen, s.land.tick, !s.trusted⟩] } } := by
  have twice : s.probe true between =
      Device.setSeal { s with land := { s.land with probeIn := 0, sealFail := 2, sealGood := 0 } } .opened := by
    simp [Device.probe, once]
  rw [twice]
  exact Device.setSeal_room _ .opened .sealOpen rfl other room

/-- A good probe after a good one, with `SEAL_B` high between them, restores it. -/
theorem Device.probe_restores (s : Device) (once : 1 ≤ s.land.sealGood) (other : s.land.sealSt ≠ .ok)
    (room : s.land.fifo.length < 8) :
    s.probe false true = { s with land := { s.land with
      probeIn := 0, sealFail := 0, sealGood := 2, sealSt := .ok
      fifo := s.land.fifo ++ [⟨.sealOk, s.land.tick, !s.trusted⟩] } } := by
  have twice : s.probe false true =
      Device.setSeal { s with land := { s.land with probeIn := 0, sealFail := 0, sealGood := 2 } } .ok := by
    simp [Device.probe, Nat.one_le_iff_ne_zero.mp once]
  rw [twice]
  exact Device.setSeal_room _ .ok .sealOk rfl other room

/-! ## The commands -/

section
variable {dt : Nat} {s : State} {d : Device} (hd : d = s.dev.elapse dt)
include hd

theorem sealProbe_due (high between : Bool) (watching : d.watching = true) (enabled : d.land.sealEn = true)
    (due : d.land.sealPeriod ≤ d.land.probeIn) :
    exec (.sealProbe dt high between) s = .next { s with dev := d.probe high between } := by
  simp [exec, execSealProbe, ← hd, watching, enabled, due]

theorem caseMagChange_stable (pin : CaseMag) (high : Bool) (watching : d.watching = true)
    (stable : d.land.pinAt pin + 33 ≤ d.land.osc) :
    exec (.caseMagChange dt pin high) s =
      .next { s with dev := Device.setCaseMag { d with land := d.land.notePin pin } pin high } := by
  simp [exec, execCaseMagChange, ← hd, watching, Landing.pinStable, stable]

theorem casePin_changes (high : Bool) (watching : d.watching = true) (stable : d.land.caseAt + 33 ≤ d.land.osc)
    (change : d.land.caseOpen ≠ high) :
    exec (.caseMagChange dt .casePin high) s = .next { s with
      dev := Device.tamperIn { d with land := { d.land with caseAt := d.land.osc, caseOpen := high } }
        (if high then .caseOpen else .caseClosed) } := by
  rw [caseMagChange_stable hd .casePin high watching stable]
  simp [Device.setCaseMag, Landing.notePin, change]

theorem magPin_changes (high : Bool) (watching : d.watching = true) (stable : d.land.magAt + 33 ≤ d.land.osc)
    (change : d.land.mag ≠ high) :
    exec (.caseMagChange dt .magPin high) s = .next { s with
      dev := Device.tamperIn { d with land := { d.land with magAt := d.land.osc, mag := high } }
        (if high then .magOn else .magOff) } := by
  rw [caseMagChange_stable hd .magPin high watching stable]
  simp [Device.setCaseMag, Landing.notePin, change]

theorem caseMagChange_soon (pin : CaseMag) (high : Bool) (soon : d.land.osc < d.land.pinAt pin + 33) :
    exec (.caseMagChange dt pin high) s = .next { s with dev := d } := by
  simp [exec, execCaseMagChange, ← hd, Landing.pinStable, soon]

end

theorem Device.watching_landed (d : Device) (live : d.land.supply ≠ .lost) (out : d.power.st ≠ .ship)
    (primary : d.secondary = false) : d.watching = true := by
  simp [Device.watching, Device.landed, live, out, primary]

theorem setAt_of_getElem? {α : Type} {l : List α} {i : Nat} {x : α} (f : α → α) (h : l[i]? = some x) :
    setAt l i f = l.set i (f x) := by
  simp [setAt, h]

end Sys2Proof.Machine

namespace Sys2Proof
open Machine

/-- Settles O22: each input's change is one entry of the FIFO, made where there is room. -/
theorem sealCaseAndMagnetAreWatched : Obligations.SealCaseAndMagnetAreWatched := by
  intro dt s d hd live out primary
  have watching : d.watching = true := d.watching_landed live out primary
  refine ⟨fun room => ⟨fun enabled due => ⟨fun b none => ?_, fun b once other => ?_, fun once other => ?_⟩,
      fun enabled other late => ?_, fun h change stable => ?_, fun h change stable => ?_⟩,
    fun stable => ?_, fun stable => ?_, fun h soon => caseMagChange_soon hd .casePin h soon,
    fun h soon => caseMagChange_soon hd .magPin h soon, fun early => ?_, fun h change stable full rest => ?_⟩
  · rw [sealProbe_due hd true b watching enabled due, d.probe_fails_once b none]
  · rw [sealProbe_due hd true b watching enabled due, d.probe_opens b once other room]
  · rw [sealProbe_due hd false true watching enabled due, d.probe_restores once other room]
  · have run : exec (.sealShortDetect dt) s = .next { s with dev := d.setSeal .short } := by
      simp [exec, execSealShortDetect, ← hd, watching, enabled, Landing.shortDue, late]
    rw [run, d.setSeal_room .short .sealShort rfl other room]
  · rw [casePin_changes hd h watching stable change, Device.tamperIn_room]
    · rfl
    · exact room
  · rw [magPin_changes hd h watching stable change, Device.tamperIn_room]
    · rfl
    · exact room
  · rw [caseMagChange_stable hd .casePin _ watching stable]
    simp [Device.setCaseMag, Landing.notePin]
  · rw [caseMagChange_stable hd .magPin _ watching stable]
    simp [Device.setCaseMag, Landing.notePin]
  · simp [exec, execSealShortDetect, ← hd, Landing.shortDue, early]
  · rw [casePin_changes hd h watching stable change, Device.tamperIn_full]
    · rfl
    · exact full
    · exact rest

/-- Settles O24: a pulse is counted where its input is enabled and both levels can have been stable. -/
theorem pulseInputsCount : Obligations.PulseInputsCount := by
  intro dt n s d hd live out primary input db at_ hdb hat
  have watching : d.watching = true := d.watching_landed live out primary
  have ready : d.land.plsReady n = decide (at_ + 2 * max 3 db ≤ d.land.osc) := by
    simp [Landing.plsReady, List.getD_eq_getElem?_getD, hdb, hat]
  refine ⟨fun enabled due c hc => ?_, fun soon => ?_, fun off => ?_⟩
  · have counted : d.land.countPulse n = { d.land with
        plsCount := d.land.plsCount.set n ((c + 1) % 2 ^ 48), plsAt := d.land.plsAt.set n d.land.osc } := by
      rw [Landing.countPulse, setAt_of_getElem? _ hc, setAt_of_getElem? _ hat]
      rfl
    simp [exec, execPulseInCount, ← hd, watching, input, enabled, ready, due, counted]
  · simp [exec, execPulseInCount, ← hd, ready, Nat.not_le.mpr soon]
  · simp [exec, execPulseInCount, ← hd, off]

end Sys2Proof

/-! SUPPORT. The Power Manager: the event of a voltage, the pin RESET_N, and SHIP (R37, R40, R477, R478, R481). -/

namespace Sys2Proof.Machine

/-! ## An event in the journal (R290) -/

theorem Device.journal_frame (s : Device) (c a b : Nat) :
    s.journal c a b = { s with
      jnl := (s.journal c a b).jnl, toll := (s.journal c a b).toll, store := (s.journal c a b).store } := by
  unfold Device.journal Device.journalAt Device.journalWith Device.commit
  split
  · rfl
  · split <;> rfl

theorem Device.journal_head (s : Device) (c a b : Nat) (primary : s.secondary = false) :
    (s.journal c a b).jnl.entries.head? = some ⟨s.land.tick, c, !s.trusted, wrapU 32 a, wrapU 32 b⟩ := by
  simp [Device.journal, Device.journalAt, Device.journalWith, primary, Journal.add]

/-! ## VHOLD (R481) -/

/-- A measurement that raises `vhold_low` or clears it, with its event `code`. -/
def Device.vholdMarked (s : Device) (mv code : Nat) (low : Bool) : Device :=
  (Device.degrade { s with power := { s.power with vholdMv := mv, vholdAt := s.land.osc, vholdLow := low } }
    fun d => { d with vhold := low }).journal code mv 0

theorem Device.vholdIs_falls (s : Device) (mv : Nat) (low : mv < 4000) (was : s.power.vholdLow = false) :
    s.vholdIs mv = s.vholdMarked mv 0x904 true := by
  have fits : min mv 65535 = mv := by omega
  simp [Device.vholdIs, Device.vholdMarked, fits, low, was]

theorem Device.vholdIs_recovers (s : Device) (mv : Nat) (fits : mv ≤ 65535) (high : 4300 ≤ mv) (was : s.power.vholdLow = true) :
    s.vholdIs mv = s.vholdMarked mv 0x905 false := by
  simp [Device.vholdIs, Device.vholdMarked, fits, high, was]

/-- Between the two thresholds the value alone is kept. -/
theorem Device.vholdIs_stays (s : Device) (mv : Nat) (fits : mv ≤ 65535) (high : 4000 ≤ mv)
    (still : s.power.vholdLow = false ∨ mv < 4300) :
    s.vholdIs mv = { s with power := { s.power with vholdMv := mv, vholdAt := s.land.osc } } := by
  have notLow : ¬ mv < 4000 := by omega
  have notHigh : ¬ (4300 ≤ mv ∧ s.power.vholdLow = true) := by
    rcases still with was | low
    · simp [was]
    · omega
  simp [Device.vholdIs, notLow, notHigh, fits]

theorem Device.vholdMarked_power (s : Device) (mv code : Nat) (low : Bool) :
    (s.vholdMarked mv code low).power = { s.power with
      vholdMv := mv, vholdAt := s.land.osc, vholdLow := low, deg := { s.power.deg with vhold := low } } := by
  rw [Device.vholdMarked, Device.journal_power]
  rfl

theorem Device.vholdMarked_head (s : Device) (mv code : Nat) (low : Bool) (fits : mv ≤ 65535) (primary : s.secondary = false) :
    (s.vholdMarked mv code low).jnl.entries.head? = some ⟨s.land.tick, code, !s.trusted, mv, 0⟩ := by
  have word : wrapU 32 mv = mv := Nat.mod_eq_of_lt (by omega)
  rw [Device.vholdMarked, Device.journal_head, word]
  · rfl
  · exact primary

theorem Device.vholdMarked_frame (s : Device) (mv code : Nat) (low : Bool) (t : Device) (ht : t = s.vholdMarked mv code low) :
    t = { s with power := t.power, jnl := t.jnl, bill := t.bill, toll := t.toll, store := t.store } := by
  subst ht
  rw [Device.vholdMarked, Device.journal_frame]
  rfl

theorem vholdMeasure_due {dt : Nat} {s : State} {d : Device} (hd : d = s.dev.elapse dt) (mv : Nat) (up : d.up = true)
    (due : d.power.vholdAt + 64 * 32768 ≤ d.land.osc) :
    exec (.vholdMeasure dt mv) s = .next { s with dev := d.vholdIs mv } := by
  simp only [Nat.reduceMul] at due
  simp [exec, execVholdMeasure, ← hd, up, due]

/-! ## What a hold-up commit gives up at once (R374, R482, R484) -/

theorem Radio.dropReasm_reasm (r : Radio) : r.dropReasm.reasm = none := by
  unfold Radio.dropReasm
  split
  · rfl
  · assumption

theorem Radio.dropReasm_fcntTx (r : Radio) : r.dropReasm.fcntTx = r.fcntTx := by
  unfold Radio.dropReasm
  split <;> rfl

theorem Radio.dropReasm_joinOpen (r : Radio) : r.dropReasm.joinOpen = r.joinOpen := by
  unfold Radio.dropReasm
  split <;> rfl

theorem Radio.cutShort_fcntTx (r : Radio) (e : Exchange) : (r.cutShort e).fcntTx = r.fcntTx := by
  unfold Radio.cutShort
  split <;> rfl

theorem Radio.lockout_joinOpen (r : Radio) : r.lockout.joinOpen = false :=
  Radio.dropReasm_joinOpen _

theorem Radio.lockout_fcntTx (r : Radio) : r.lockout.fcntTx = r.fcntTx := by
  refine (Radio.dropReasm_fcntTx _).trans ?_
  dsimp only
  split
  · exact Radio.cutShort_fcntTx ..
  · rfl

/-- Nothing is left open for a disable of the Ferryman to close. -/
theorem Radio.lockout_closed (r : Radio) : r.lockout.closeWindows = r.lockout := by
  have shut : r.lockout.children.map (fun c => { c with windowOpen := false, listenTo := none }) = r.lockout.children := by
    simp [Radio.lockout, Radio.holdUp]
  rw [Radio.closeWindows, shut, ← r.lockout_joinOpen]

theorem Radio.lockout_windows (r : Radio) : ∀ c ∈ r.lockout.children, c.windowOpen = false := by
  simp [Radio.lockout, Radio.holdUp]

/-- In service everything named is given up; before t0 there is nothing. -/
theorem Device.holdBegin_started (s : Device) (ship : Bool) (started : s.started = true) :
    s.holdBegin ship = { s with
      power := s.power.note s.abandoned (if ship then 0 else s.disp.runMask)
      disp := if ship then s.disp.dropPending else s.disp.lockout
      radio := s.radio.lockout, haw := { s.haw with job := none }
      tr := (s.resetFunc .transit).tr, temp := (s.resetFunc .converter).temp } :=
  if_pos started

theorem Device.holdBegin_idle (s : Device) (ship : Bool) (idle : s.started = false) : s.holdBegin ship = s :=
  if_neg (Bool.eq_false_iff.mp idle)

theorem Device.holdBegin_givesUp (s : Device) (ship : Bool) (started : s.started = true) : GivesUp s (s.holdBegin ship) := by
  rw [s.holdBegin_started ship started]
  exact ⟨rfl, Radio.dropReasm_reasm _, s.radio.lockout_joinOpen, s.radio.lockout_windows, s.radio.lockout_fcntTx, rfl, rfl, rfl⟩

/-! ## RESET_N (R40, R48) -/

theorem resetSeen_long {us : Nat} (long : 10 ≤ us) : resetSeen us = true := by
  simp [resetSeen, long]

theorem resetSeen_short {us : Nat} (short : us ≤ 1) : resetSeen us = false := by
  have below : ¬ 10 ≤ us := by omega
  have under : ¬ 1 < us := by omega
  simp [resetSeen, below, under]

/-- What a recognised reset notes. -/
def Power.resetBy (p : Power) (powered : Bool) (tick release : Nat) : Power :=
  { p with
    holdDue := p.holdDue || powered, shipping := false, coldDue := true, startCause := 2
    resetTick := tick, resetUntil := release }

theorem Device.resetPin_idle (s : Device) (us : Nat) (idle : s.started = false) :
    s.resetPin us = { s with
      power := s.power.resetBy s.powered s.land.tick (s.land.osc + us * 32768 / 1000000) } := by
  rw [Device.resetPin, Device.holdStart, (s.pinHeld us).holdBegin_idle false idle]
  rfl

theorem Device.resetPin_started (s : Device) (us : Nat) (started : s.started = true) :
    s.resetPin us = { s.holdBegin false with
      power := (s.power.note s.abandoned s.disp.runMask).resetBy s.powered s.land.tick
        (s.land.osc + us * 32768 / 1000000) } := by
  rw [Device.resetPin, Device.holdStart, (s.pinHeld us).holdBegin_started false started, s.holdBegin_started false started]
  rfl

theorem resetNLow_seen {dt us : Nat} {s : State} {d : Device} (hd : d = s.dev.elapse dt) (long : 10 ≤ us)
    (out : d.power.st ≠ .ship) :
    exec (.resetNLow dt us) s =
      .next { s with dev := if d.land.supply == .bat then d.resetPin us else d.pinHeld us } := by
  simp [exec, execResetNLow, ← hd, out, resetSeen_long long]

/-! ## Entry to SHIP (R29, R477) -/

/-- A disable lets nothing go where no window stands open. -/
theorem Device.disable_closed (s : Device) (k : Func) (closed : s.radio.closeWindows = s.radio) :
    s.disable k = { s with fn := s.fn.set k (s.fn.get k).disable } := by
  have never : (s.fn.get k).disable.st ≠ .on := by
    cases st : (s.fn.get k).st <;> simp [FuncState.disable, st]
  have shut : ({ s with fn := s.fn.set k (s.fn.get k).disable } : Device).stopping k =
      { s with fn := s.fn.set k (s.fn.get k).disable } := by
    cases k
    case ferryman => rw [Device.stopping, closed]
    all_goals rfl
  rw [Device.disable, Device.setFunc, if_neg (fun h => never h.2), shut, ite_self]

theorem foldl_disable_closed (l : List Func) (s : Device) (closed : s.radio.closeWindows = s.radio) :
    l.foldl Device.disable s = { s with fn := l.foldl (fun f k => f.set k (f.get k).disable) s.fn } := by
  induction l generalizing s with
  | nil => rfl
  | cons k l ih =>
    rw [List.foldl_cons, s.disable_closed k closed]
    exact ih _ closed

/-- Every function is disabled. -/
def Funcs.disabled (f : Funcs) : Funcs :=
  { transit := f.transit.disable, converter := f.converter.disable, ferryman := f.ferryman.disable
    wmbus := f.wmbus.disable, hawser := f.hawser.disable, display := f.display.disable
    optical := f.optical.disable, pulseOut := f.pulseOut.disable }

theorem Funcs.disabled_get (f : Funcs) (k : Func) : f.disabled.get k = (f.get k).disable := by
  cases k <;> rfl

theorem Device.disableAll_closed (s : Device) (closed : s.radio.closeWindows = s.radio) :
    s.disableAll = { s with fn := s.fn.disabled } :=
  foldl_disable_closed _ s closed

/-- The entry as it stands before it gives anything up: the mirrors written, the event entered. -/
def Device.shipNoted (s : Device) : Device := (s.mirrorPulses).mirrorBank0.journal 0x902 0 0

theorem Device.shipNoted_fields (s : Device) :
    s.shipNoted.power = s.power ∧ s.shipNoted.radio = s.radio ∧ s.shipNoted.haw = s.haw ∧ s.shipNoted.temp = s.temp ∧
      s.shipNoted.disp = s.disp ∧ s.shipNoted.fn = s.fn ∧ s.shipNoted.tr = s.mirrorBank0.tr ∧
      s.shipNoted.land = s.mirrorPulses.land := by
  simp [Device.shipNoted, Device.mirrorBank0, Device.mirrorPulses]

theorem Device.shipNoted_head (s : Device) (primary : s.secondary = false) :
    s.shipNoted.jnl.entries.head? = some ⟨s.land.tick, 0x902, !s.trusted, 0, 0⟩ :=
  Device.journal_head _ _ _ _ primary

theorem Device.shipNoted_started (s : Device) : s.shipNoted.started = s.started := by
  obtain ⟨power, -⟩ := s.shipNoted_fields
  rw [Device.started, Device.started, power]

theorem Device.shipNoted_abandoned (s : Device) : s.shipNoted.abandoned = s.abandoned := by
  obtain ⟨-, radio, -, -, disp, -, tr, -⟩ := s.shipNoted_fields
  rw [Device.abandoned, radio, disp, tr]
  rfl

theorem Device.shipEntry_eq (s : Device) :
    s.shipEntry = { (s.shipNoted.holdBegin true).disableAll with
      power := { (s.shipNoted.holdBegin true).disableAll.power with shipping := true, holdDue := true } } := by
  rw [Device.shipNoted, Device.shipEntry]

/-- The functions drain once the work of the service is given up. -/
theorem Device.shipEntry_begun (s : Device) (started : s.started = true) :
    s.shipEntry = { s.shipNoted.holdBegin true with
      fn := (s.shipNoted.holdBegin true).fn.disabled
      power := { (s.shipNoted.holdBegin true).power with shipping := true, holdDue := true } } := by
  have closed : (s.shipNoted.holdBegin true).radio.closeWindows = (s.shipNoted.holdBegin true).radio := by
    rw [s.shipNoted.holdBegin_started true (s.shipNoted_started.trans started)]
    exact Radio.lockout_closed _
  have drains : (s.shipNoted.holdBegin true).disableAll =
      { s.shipNoted.holdBegin true with fn := (s.shipNoted.holdBegin true).fn.disabled } :=
    Device.disableAll_closed _ closed
  rw [s.shipEntry_eq, drains]

theorem Device.shipEntry_givesUp (s : Device) (started : s.started = true) : GivesUp s s.shipEntry := by
  have givesUp := s.shipNoted.holdBegin_givesUp true (s.shipNoted_started.trans started)
  obtain ⟨-, radio, haw, temp, -⟩ := s.shipNoted_fields
  rw [s.shipEntry_begun started]
  unfold GivesUp at givesUp ⊢
  rw [radio, haw, temp] at givesUp
  exact givesUp

theorem Device.shipEntry_fields (s : Device) (started : s.started = true) :
    s.shipEntry.power =
        { s.power with shipping := true, holdDue := true, heldItems := s.power.heldItems + s.abandoned } ∧
      s.shipEntry.land = s.mirrorPulses.land ∧ s.shipEntry.tr.paths = s.mirrorBank0.tr.paths.map PathState.clear ∧
      s.shipEntry.fn = s.fn.disabled ∧ s.shipEntry.disp = s.disp.dropPending ∧ s.shipEntry.jnl = s.shipNoted.jnl := by
  obtain ⟨power, -, -, -, disp, fn, tr, land⟩ := s.shipNoted_fields
  rw [s.shipEntry_begun started, s.shipNoted.holdBegin_started true (s.shipNoted_started.trans started)]
  refine ⟨?_, land, ?_, congrArg Funcs.disabled fn, congrArg Display.dropPending disp, rfl⟩
  · dsimp only
    rw [power, s.shipNoted_abandoned]
    simp [Power.note]
  · show s.shipNoted.tr.paths.map PathState.clear = _
    rw [tr]

theorem Device.mayShip_of_lc (s : Device) (enabled : s.power.shipEn = true) (primary : s.secondary = false)
    (lc : s.sec.lc = .blank ∨ s.sec.lc = .manufacture ∨ s.sec.lc = .calibrate ∨ s.sec.lc = .scrapped ∨
      (s.sec.lc = .sealed ∧ s.registers.none = true)) : s.mayShip = true := by
  rcases lc with lc | lc | lc | lc | ⟨lc, none⟩
  case inr.inr.inr.inr => simp [Device.mayShip, enabled, primary, lc, none]
  all_goals simp [Device.mayShip, enabled, primary, lc]

theorem Device.mayShip_false (s : Device) (barred : s.power.shipEn = false ∨ s.secondary = true ∨ s.sec.lc = .service ∨
    (s.sec.lc = .sealed ∧ s.registers.none = false)) : s.mayShip = false := by
  rcases barred with off | secondary | lc | ⟨lc, billed⟩
  · simp [Device.mayShip, off]
  · simp [Device.mayShip, secondary]
  · simp [Device.mayShip, lc]
  · simp [Device.mayShip, lc, billed]

/-! ## The way out of SHIP (R305, R478) -/

/-- `t` is `s` but for what the tamper inputs write in the Landing (R330, R331). -/
def Device.Sensed (t s : Device) : Prop :=
  t = { s with land := { s.land with
    sealSt := t.land.sealSt, caseOpen := t.land.caseOpen, mag := t.land.mag, fifo := t.land.fifo, cnt := t.land.cnt
    queued := t.land.queued } }

theorem Device.Sensed.refl (s : Device) : s.Sensed s := rfl

theorem Device.Sensed.trans {a b c : Device} (h : a.Sensed b) (k : b.Sensed c) : a.Sensed c := by
  unfold Device.Sensed at *
  rw [h, k]

theorem Device.Sensed.asleep {t s : Device} (h : t.Sensed s) (asleep : s.awake = false) : t.awake = false := by
  rw [h]
  exact asleep

/-- A domain that is not awake leaves the event of a lost entry waiting. -/
theorem Device.tamperIn_sensed (s : Device) (k : TamperIn) (asleep : s.awake = false) : (s.tamperIn k).Sensed s := by
  unfold Device.tamperIn
  split
  · rfl
  · rw [Device.landEvent_waits]
    · rfl
    · exact Bool.and_eq_false_iff.mpr (.inr asleep)

theorem Device.Sensed.tamperIn {t s : Device} (h : t.Sensed s) (k : TamperIn) (asleep : s.awake = false) :
    (t.tamperIn k).Sensed s :=
  (t.tamperIn_sensed k (h.asleep asleep)).trans h

theorem Device.setSeal_sensed (s : Device) (v : SealState) (asleep : s.awake = false) : (s.setSeal v).Sensed s := by
  have changed : ({ s with land := { s.land with sealSt := v } } : Device).Sensed s := rfl
  unfold Device.setSeal
  split
  · exact .refl s
  · cases v
    case notMonitored => exact changed
    all_goals exact changed.tamperIn _ asleep

theorem Device.setCaseMag_sensed (s : Device) (pin : CaseMag) (high : Bool) (asleep : s.awake = false) :
    (s.setCaseMag pin high).Sensed s := by
  have caseChanged : ({ s with land := { s.land with caseOpen := high } } : Device).Sensed s := rfl
  have magChanged : ({ s with land := { s.land with mag := high } } : Device).Sensed s := rfl
  unfold Device.setCaseMag
  cases pin <;> dsimp only <;> split
  · exact .refl s
  · exact caseChanged.tamperIn _ asleep
  · exact .refl s
  · exact magChanged.tamperIn _ asleep

theorem Device.evalPins_sensed (s : Device) (p : PinLevels) (asleep : s.awake = false) : (s.evalPins p).Sensed s := by
  unfold Device.evalPins
  split
  · exact .refl s
  · extract_lets land s0 s1
    have afresh : s0.Sensed s := rfl
    have sealSeen : s1.Sensed s0 := by
      simp only [s1]
      split
      · split
        · exact s0.setSeal_sensed _ asleep
        · split
          · exact s0.setSeal_sensed _ asleep
          · exact .refl s0
      · exact .refl s0
    have caseSeen : (s1.setCaseMag .casePin p.caseHigh).Sensed s1 := s1.setCaseMag_sensed _ _ (sealSeen.asleep asleep)
    have magSeen := Device.setCaseMag_sensed (s1.setCaseMag .casePin p.caseHigh) .magPin p.magHigh
      (caseSeen.asleep (sealSeen.asleep asleep))
    exact magSeen.trans (caseSeen.trans (sealSeen.trans afresh))

/-- The Landing restarts in a device that is still without power. -/
theorem Device.landRestart_ship (s : Device) (pins : PinLevels) (asleep : s.awake = false) :
    ∃ (l : Landing) (p : PulseOut), s.landRestart pins 3 =
        { s with land := l, pulse := p, power := { s.power with landRestarted := true, resetUntil := 0 } } ∧
      l.tick = s.store.latestCommit ∧ l.oscStopped = true ∧ l.supply = .bat ∧ l.pwrEnMode = s.land.pwrEnMode := by
  unfold Device.landRestart
  extract_lets t l lost counters l1 events power s1
  have sensed : (s1.updateTimeNow.evalPins pins).Sensed s1.updateTimeNow := s1.updateTimeNow.evalPins_sensed pins asleep
  rw [sensed]
  exact ⟨_, _, rfl, rfl, rfl, rfl, rfl⟩

theorem about_long {t nominal : Nat} (long : 13 * nominal ≤ 10 * t) : about t nominal = true := by
  have above : ¬ 10 * t < 7 * nominal := by omega
  simp [about, above, long]

theorem about_short {t nominal : Nat} (short : 10 * t < 7 * nominal) : about t nominal = false :=
  if_pos short

end Sys2Proof.Machine

namespace Sys2Proof
open Machine

/-- Settles O27: a crossing of either threshold is one and the same marking, with its own event. -/
theorem externalSupplyAndHoldUpVoltage : Obligations.ExternalSupplyAndHoldUpVoltage := by
  intro dt s d hd
  refine ⟨?_, ?_, fun idle mv => ?_, fun up due mv fits => ⟨fun low was => ?_, fun high was => ?_, fun high still => ?_⟩⟩
  · rw [hd]
    rfl
  · rw [hd]
    rfl
  · have waits : (d.up && decide (d.power.vholdAt + 2097152 ≤ d.land.osc)) = false := by
      rcases idle with down | early
      · simp [down]
      · simpa using fun _ => early
    simp [exec, execVholdMeasure, ← hd, waits]
  · rw [vholdMeasure_due hd mv up due, d.vholdIs_falls mv low was]
    exact ⟨_, rfl, d.vholdMarked_power .., d.vholdMarked_head mv _ _ fits, d.vholdMarked_frame _ _ _ _ rfl⟩
  · rw [vholdMeasure_due hd mv up due, d.vholdIs_recovers mv fits high was]
    exact ⟨_, rfl, d.vholdMarked_power .., d.vholdMarked_head mv _ _ fits, d.vholdMarked_frame _ _ _ _ rfl⟩
  · rw [vholdMeasure_due hd mv up due, d.vholdIs_stays mv fits high still]
    exact ⟨_, rfl, rfl⟩

/-- Settles O28: RESET_N and the entry to SHIP give up the same work of the service, and the way out of SHIP is a restart of
the Landing in a device without power. -/
theorem resetPinAndShip : Obligations.ResetPinAndShip := by
  intro dt s d hd
  refine ⟨fun us long out p hp => ⟨fun bat idle => ?_, fun bat started => ?_, fun other => ?_⟩, fun us short => ?_,
    fun held w hw => ⟨fun long up enabled primary lc => ?_, fun barred => ?_⟩, fun cause pins ship seen => ?_,
    fun low high pins short => ?_⟩
  · rw [resetNLow_seen hd long out, bat, hp]
    exact congrArg (fun x : Device => Host.Outcome.next { s with dev := x }) (d.resetPin_idle us idle)
  · have run : exec (.resetNLow dt us) s = .next { s with dev := d.resetPin us } := by
      rw [resetNLow_seen hd long out, bat]
      rfl
    have givesUp := d.holdBegin_givesUp false started
    refine ⟨_, run, ?_⟩
    rw [d.resetPin_started us started, hp]
    rw [d.holdBegin_started false started] at givesUp ⊢
    refine ⟨givesUp, rfl, fun g mem => ?_, rfl, rfl⟩
    obtain ⟨g', -, rfl⟩ := List.mem_map.mp mem
    exact ⟨rfl, rfl⟩
  · have other : (d.land.supply == .bat) = false := by simpa using other
    rw [resetNLow_seen hd long out, other]
    rfl
  · simp [exec, execResetNLow, ← hd, resetSeen_short short]
  · have started : w.started = true := by
      obtain ⟨started, -⟩ := Bool.and_eq_true_iff.mp up
      exact started
    have run : exec (.shipEntry dt held) s = .next { s with dev := w.shipEntry } := by
      simp [exec, execShipEntry, ← hd, ← hw, up, long, w.mayShip_of_lc enabled primary lc]
    obtain ⟨power, land, paths, fn, disp, jnl⟩ := w.shipEntry_fields started
    refine ⟨_, run, w.shipEntry_givesUp started, power, ?_, ?_, fun k => ?_, disp, ?_⟩
    · rw [land]
      rfl
    · rw [paths]
      simp [Device.mirrorBank0, PathState.clear, Function.comp_def]
    · rw [fn, Funcs.disabled_get]
    · rw [jnl, w.shipNoted_head primary]
  · have stays : (w.up && decide (327680 ≤ held) && w.mayShip) = false := by
      rcases barred with short | down | barred
      · simp [short]
      · simp [down]
      · simp [w.mayShip_false barred]
    simp [exec, execShipEntry, ← hd, ← hw, stays]
  · have acts : exitSeen cause = true := by
      rcases seen with ⟨us, rfl, long⟩ | ⟨low, high, rfl, pressed, released⟩
      · exact resetSeen_long long
      · simp [exitSeen, about_long (t := high) (nominal := 100) (by omega),
          about_long (t := low) (nominal := 1000) (by omega)]
    obtain ⟨l, p, restarted, tick, stopped, bat, mode⟩ :=
      Device.landRestart_ship { d with power := { d.power with st := .unpowered } } pins rfl
    have run : exec (.shipExit dt cause pins) s = .next { s with
        dev := (Device.landRestart { d with power := { d.power with st := .unpowered } } pins 3).pwrUpdate.coldFor 3 } := by
      simp [exec, execShipExit, ← hd, ship, acts]
    refine ⟨_, run, ?_⟩
    rw [restarted]
    refine ⟨rfl, rfl, rfl, rfl, stopped, tick, ?_, rfl⟩
    simp [Device.coldFor, Device.pwrUpdate, Device.pwrLevel, Device.awake, bat, mode]
  · simp [exec, execShipExit, ← hd, exitSeen, about_short (t := low) (nominal := 1000) (by omega)]

end Sys2Proof

/-! SUPPORT. A measured resistance and the bands of the Skemond ladder (R58, R59). -/

namespace Sys2Proof.Machine

/-- Where at most one element of a list passes a test, the search finds every element that passes it. -/
theorem findIdx?_eq_some_iff_of_pairwise {α : Type} {p : α → Bool} {l : List α} {i : Nat}
    (apart : l.Pairwise fun a b => p a = true → ¬ p b = true) :
    l.findIdx? p = some i ↔ ∃ b, l[i]? = some b ∧ p b = true := by
  rw [List.findIdx?_eq_some_iff_getElem]
  constructor
  · rintro ⟨inside, found, -⟩
    exact ⟨l[i], List.getElem?_eq_getElem inside, found⟩
  · rintro ⟨b, at_i, found⟩
    obtain ⟨inside, rfl⟩ := List.getElem?_eq_some_iff.mp at_i
    exact ⟨inside, found, fun j before earlier =>
      List.pairwise_iff_getElem.mp apart j i (before.trans inside) inside before earlier found⟩

/-- The resistance of a ratio lies in a band, compared in 2^-20 of a tenth of an ohm. -/
def inBand (ratio : Nat) (b : Nat × Nat) : Bool :=
  b.1 * 2 ^ 20 ≤ 10 * strapOhm ratio && 10 * strapOhm ratio ≤ b.2 * 2 ^ 20

theorem inBand_iff (ratio : Nat) (b : Nat × Nat) :
    inBand ratio b = true ↔ b.1 * 2 ^ 20 ≤ 20000 * ratio ∧ 20000 * ratio ≤ b.2 * 2 ^ 20 := by
  have tenths : 10 * strapOhm ratio = 20000 * ratio := by
    unfold strapOhm
    omega
  simp only [inBand, tenths, Bool.and_eq_true, decide_eq_true_eq]

theorem strapCode_eq_findIdx? (ratio : Nat) : strapCode ratio = strapBands.findIdx? (inBand ratio) := rfl

/-- The bands ascend, with a gap after each (R58). -/
theorem strapBands_ascend : strapBands.Pairwise fun a b => a.2 < b.1 := by decide

theorem strapBands_disjoint (ratio : Nat) :
    strapBands.Pairwise fun a b => inBand ratio a = true → ¬ inBand ratio b = true := by
  refine strapBands_ascend.imp fun {a b} gap inA inB => ?_
  obtain ⟨-, belowTopOfA⟩ := (inBand_iff ratio a).mp inA
  obtain ⟨aboveFootOfB, -⟩ := (inBand_iff ratio b).mp inB
  omega

theorem strapCode_eq_some_iff (ratio c : Nat) :
    strapCode ratio = some c ↔ ∃ b, strapBands[c]? = some b ∧ inBand ratio b = true := by
  rw [strapCode_eq_findIdx?]
  exact findIdx?_eq_some_iff_of_pairwise (strapBands_disjoint ratio)

end Sys2Proof.Machine

namespace Sys2Proof
open Machine

/-- Settles O12: no two of the ascending bands meet, so the first band that contains a resistance is the only one. -/
theorem strapBandsDecode : Obligations.StrapBandsDecode := by
  intro k c
  rw [strapCode_eq_some_iff]
  simp only [inBand_iff]
  rfl

end Sys2Proof

/-! SUPPORT. What a path-pair leaves in the entry of its path: grade, result, counts, parity (R79, R119, R129, R131, R147). -/

namespace Sys2Proof.Machine

/-- What a pair books once, at its end, is the same: result, health, parity, and whether a commit waits for the pair (R92,
R129, R147). -/
def PathState.Held (a b : PathState) : Prop :=
  a.res = b.res ∧ a.health = b.health ∧ a.tune.parity = b.tune.parity ∧ a.work.stale = b.work.stale

theorem PathState.Held.refl (a : PathState) : a.Held a := ⟨rfl, rfl, rfl, rfl⟩

theorem PathState.Held.trans {a b c : PathState} (h : a.Held b) (k : b.Held c) : a.Held c := by
  obtain ⟨res, health, parity, stale⟩ := h
  obtain ⟨res', health', parity', stale'⟩ := k
  exact ⟨res.trans res', health.trans health', parity.trans parity', stale.trans stale'⟩

theorem PathState.startSweep_held (s : PathState) : s.startSweep.Held s := ⟨rfl, rfl, rfl, rfl⟩

theorem PathState.adapt_held (s : PathState) (caps : List (List Int × Nat)) : (s.adapt caps).Held s := ⟨rfl, rfl, rfl, rfl⟩

theorem PathState.learn_held (s : PathState) (caps : List (List Int)) : (s.learn caps).Held s := by
  unfold PathState.learn
  dsimp only
  split <;> exact ⟨rfl, rfl, rfl, rfl⟩

theorem PathState.track_held (s : PathState) (p : PathP) (num : Int) (den : Nat) : (s.track p num den).Held s := by
  unfold PathState.track
  split
  · extract_lets
    split
    · exact PathState.startSweep_held _
    · exact ⟨rfl, rfl, rfl, rfl⟩
  · exact .refl s

theorem PathState.sweepShot_held (s : PathState) (p : PathP) (peak : Nat) (clipped : Bool) :
    (s.sweepShot p peak clipped).1.Held s := by
  unfold PathState.sweepShot
  dsimp only
  split
  · exact ⟨rfl, rfl, rfl, rfl⟩
  · split <;> exact ⟨rfl, rfl, rfl, rfl⟩

theorem PathState.place_held (s : PathState) (c : PairCtx) (armedAll : Bool) (armMean2 : Int) (delivered : Bool) (t2 : Int) :
    (s.place c armedAll armMean2 delivered t2).Held s := by
  unfold PathState.place
  dsimp only
  split <;> exact ⟨rfl, rfl, rfl, rfl⟩

theorem PathState.rhoRun_held (s : PathState) (low : Bool) : (s.rhoRun low).1.Held s := by
  unfold PathState.rhoRun
  extract_lets n
  split <;> exact ⟨rfl, rfl, rfl, rfl⟩

/-- A fired pair flips the parity (R79). -/
theorem PathState.gainAfter_turns (s : PathState) (p : PathP) (armed : Bool) (peak : Nat) (clipped : Bool) :
    (s.gainAfter p armed peak clipped).tune.parity = !s.tune.parity ∧ (s.gainAfter p armed peak clipped).res = s.res ∧
      (s.gainAfter p armed peak clipped).health = s.health ∧ (s.gainAfter p armed peak clipped).work = s.work ∧
      (s.gainAfter p armed peak clipped).tpl = s.tpl := by
  unfold PathState.gainAfter
  dsimp only
  split <;> exact ⟨rfl, rfl, rfl, rfl, rfl⟩

/-- A coarse overflow and a sweep are causes of VOID (R99, R129). -/
theorem plainCauses_ne_nil (ud du : Recv) (echo overflow elec sweep learned : Bool)
    (cause : overflow = true ∨ sweep = true) : plainCauses ud du echo overflow elec sweep learned ≠ [] := by
  obtain rfl | rfl := cause <;> simp [plainCauses]

/-- A pair that completes books one grade: the entry shows the grade's result, and overflow and sweep are VOID
(R99, R129, R131). -/
theorem pairDone_books (c : PairCtx) (s : PathState) (cap : PairCapture) (elec : Bool) :
    ∃ (q : PathState) (g : Grade) (cause : Nat) (x : Times) (d : Diag),
      (pairDone c s cap elec).s = q.book c g s.work.sweeping cause ∧ q.res = resultOf c g cause x d ∧
        q.health = s.health ∧ q.tune.parity = (!s.tune.parity) ∧ q.work.stale = s.work.stale ∧
        (cap.overflow = true ∨ s.work.sweeping = true → g = .void) := by
  unfold pairDone
  extract_lets t w sweep pDrv ra rb echo onA ud du armedAll clipped peak armMean2 f causes g cause good snrOk low s1 s2
    num den s3 r s4 q
  have learned : s2.Held s1 := by
    unfold s2
    split
    · exact s1.adapt_held _
    · split
      · exact s1.learn_held _
      · exact .refl s1
  have tracked : r.1.Held s3 := by
    unfold r
    split
    · exact s3.sweepShot_held ..
    · split
      · exact s3.track_held ..
      · exact .refl s3
  have placed : s4.Held r.1 := r.1.place_held ..
  have ran : q.1.Held s4 := by
    unfold q
    split
    · exact s4.rhoRun_held _
    · exact .refl s4
  obtain ⟨parity, res, health, work, -⟩ := s2.gainAfter_turns c.p (ud.armed || du.armed) peak clipped
  obtain ⟨resL, healthL, parityL, staleL⟩ := learned
  obtain ⟨resQ, healthQ, parityQ, staleQ⟩ := ran.trans (placed.trans tracked)
  refine ⟨q.1, g, cause, f.x, f.diag, rfl, ?_, ?_, ?_, ?_, fun voids => ?_⟩
  · rw [resQ, res, resL]
  · rw [healthQ, health, healthL]
  · rw [parityQ, parity, parityL]
  · rw [staleQ, work, staleL]
  · have some_cause : causes ≠ [] := by
      unfold causes
      simp [plainCauses_ne_nil ud du echo cap.overflow elec sweep s.tpl.learned voids]
    exact if_pos some_cause

/-- A graded pair counts once, and its runs follow the grade (R119, R145, R147). -/
theorem PathState.book_health (s : PathState) (c : PairCtx) (g : Grade) (sweep : Bool) (cause : Nat) :
    (s.book c g sweep cause).health.pairs = satInc s.health.pairs ∧
      (g = .void → (s.book c g sweep cause).health.voidPairs = satInc s.health.voidPairs ∧
        (sweep = false → (s.book c g sweep cause).health.voidRun = satAdd 16 s.health.voidRun 1)) ∧
      (g ≠ .void → sweep = false → (s.book c g sweep cause).health.voidRun = 0) := by
  refine ⟨rfl, ?_, ?_⟩
  · rintro rfl
    exact ⟨rfl, fun still => by simp [PathState.book, still]⟩
  · intro graded still
    simp [PathState.book, still, graded]

/-- The entry of a VOID pair shows no times, that of another no cause (R129, R131). -/
theorem resultOf_shows (c : PairCtx) (g : Grade) (cause : Nat) (x : Times) (d : Diag) :
    (resultOf c g cause x d).grade = g ∧ (resultOf c g cause x d).cycleSeq = c.seq % 2 ^ 16 ∧
      (g = .void → (resultOf c g cause x d).tUd = 0 ∧ (resultOf c g cause x d).tDu = 0 ∧
        (resultOf c g cause x d).dt = 0 ∧ (resultOf c g cause x d).sos = 0) ∧
      (g ≠ .void → (resultOf c g cause x d).voidCause = 0) := by
  refine ⟨rfl, rfl, ?_, fun graded => ?_⟩
  · rintro rfl
    exact ⟨rfl, rfl, rfl, rfl⟩
  · simp [resultOf, graded]

/-- What the entry `y` shows once a pair, no probe, has been graded on the entry `x` in cycle `seq` (R129, R131, R147). -/
structure PathState.Graded (y x : PathState) (seq : Nat) (overflow : Bool) : Prop where
  cycleSeq : y.res.cycleSeq = seq % 2 ^ 16
  overflow : overflow = true → y.res.grade = .void
  void : y.res.grade = .void → y.res.tUd = 0 ∧ y.res.tDu = 0 ∧ y.res.dt = 0 ∧ y.res.sos = 0 ∧
    y.health.voidPairs = satInc x.health.voidPairs ∧
    (x.work.sweeping = false → y.health.voidRun = satAdd 16 x.health.voidRun 1)
  delivered : y.res.grade ≠ .void → y.health.voidRun = 0 ∧ y.res.voidCause = 0

theorem pairDone_graded (c : PairCtx) (x : PathState) (cap : PairCapture) (elec : Bool) :
    (pairDone c x cap elec).s.Graded x c.seq cap.overflow := by
  obtain ⟨q, g, cause, times, diag, books, shown, health, -, -, voids⟩ := pairDone_books c x cap elec
  obtain ⟨-, counted, cleared⟩ := q.book_health c g x.work.sweeping cause
  obtain ⟨grade, seq, noTimes, noCause⟩ := resultOf_shows c g cause times diag
  have res : (pairDone c x cap elec).s.res = resultOf c g cause times diag := by rw [books, ← shown]; rfl
  rw [health] at counted
  constructor
  · rw [res, seq]
  · intro coarse
    rw [res, grade, voids (.inl coarse)]
  · intro void
    rw [res, grade] at void
    rw [res, books]
    obtain ⟨tUd, tDu, dt, sos⟩ := noTimes void
    exact ⟨tUd, tDu, dt, sos, counted void⟩
  · intro graded
    rw [res, grade] at graded
    have still : x.work.sweeping = false := by
      by_contra sweeping
      exact graded (voids (.inr (by simpa using sweeping)))
    rw [res, books]
    exact ⟨cleared graded still, noCause graded⟩

/-- A fired pair, whatever its grade (R79, R147). -/
structure PathState.Fired (y x : PathState) : Prop where
  parity : y.tune.parity = !x.tune.parity
  pairs : y.health.pairs = satInc x.health.pairs
  stale : y.work.stale = x.work.stale

theorem pairDone_fired (c : PairCtx) (x : PathState) (cap : PairCapture) (elec : Bool) :
    (pairDone c x cap elec).s.Fired x := by
  obtain ⟨q, g, cause, -, -, books, -, health, parity, stale, -⟩ := pairDone_books c x cap elec
  obtain ⟨pairs, -, -⟩ := q.book_health c g x.work.sweeping cause
  rw [health] at pairs
  rw [books]
  exact ⟨parity, pairs, stale⟩

/-- A probe is a pair fired; result and template stay (R138). -/
theorem PathState.probed_fired (x : PathState) (p : PathP) (armed : Bool) (peak : Nat) (clipped : Bool) :
    (x.probed p armed peak clipped).Fired x ∧ (x.probed p armed peak clipped).res = x.res ∧
      (x.probed p armed peak clipped).tpl = x.tpl := by
  unfold PathState.probed
  dsimp only
  obtain ⟨parity, res, health, work, tpl⟩ := PathState.gainAfter_turns { x with
    health := { x.health with pairs := satInc x.health.pairs }
    tune := { x.tune with
      gain := if armed then 120 else x.tune.gain
      level := if armed then p.driveMax else x.tune.level } } p armed peak clipped
  exact ⟨⟨parity, congrArg PathHealth.pairs health, congrArg PathWork.stale work⟩, res, tpl⟩

end Sys2Proof.Machine

/-! SUPPORT. What the Hawser's own exchanges write, and the path that a cycle fires next (R113, R393, R400). -/

namespace Sys2Proof.Machine

/-- `t` is `s` but for what an exchange on the Hawser writes: its own state, the power state and `PWR_EN` (R325, R393,
R474). The role stays. -/
def Device.Wired (t s : Device) : Prop :=
  t = { s with haw := t.haw, power := { s.power with st := t.power.st }, land := { s.land with pwrEn := t.land.pwrEn } } ∧
    t.haw.role = s.haw.role

theorem Device.Wired.refl (s : Device) : s.Wired s := ⟨rfl, rfl⟩

theorem Device.Wired.trans {a b c : Device} (h : a.Wired b) (k : b.Wired c) : a.Wired c := by
  obtain ⟨ab, roleA⟩ := h
  obtain ⟨bc, roleB⟩ := k
  refine ⟨?_, roleA.trans roleB⟩
  rw [ab, bc]

section
variable {t s : Device}

theorem Device.Wired.tr (h : t.Wired s) : t.tr = s.tr := (congrArg Device.tr h.1).trans rfl
theorem Device.Wired.conf (h : t.Wired s) : t.conf = s.conf := (congrArg Device.conf h.1).trans rfl
theorem Device.Wired.flow (h : t.Wired s) : t.flow = s.flow := (congrArg Device.flow h.1).trans rfl
theorem Device.Wired.toll (h : t.Wired s) : t.toll = s.toll := (congrArg Device.toll h.1).trans rfl
theorem Device.Wired.temp (h : t.Wired s) : t.temp = s.temp := (congrArg Device.temp h.1).trans rfl
theorem Device.Wired.sec (h : t.Wired s) : t.sec = s.sec := (congrArg Device.sec h.1).trans rfl
theorem Device.Wired.refusals (h : t.Wired s) : t.refusals = s.refusals := (congrArg Device.refusals h.1).trans rfl
theorem Device.Wired.land (h : t.Wired s) : t.land = { s.land with pwrEn := t.land.pwrEn } :=
  (congrArg Device.land h.1).trans rfl

end

theorem Device.toRun_wired (s : Device) : s.toRun.Wired s := ⟨rfl, rfl⟩

theorem Device.hwSend_wired (s : Device) (dst typ : Nat) (b : Bytes) : (s.hwSend dst typ b).Wired s := ⟨rfl, rfl⟩

theorem Device.hwAsk_wired (s : Device) (dst typ : Nat) (b : Bytes) : (s.hwAsk dst typ b).Wired s := ⟨rfl, rfl⟩

theorem Device.hwShelve_wired (s : Device) : s.hwShelve.Wired s := by
  unfold Device.hwShelve
  split
  · exact .refl s
  · split
    · exact ⟨rfl, rfl⟩
    · split <;> exact ⟨rfl, rfl⟩

theorem Device.loopAsk_wired (s : Device) (r : LoopRun) : (s.loopAsk r).Wired s := by
  unfold Device.loopAsk
  split <;> exact ⟨rfl, rfl⟩

theorem Device.loopPump_wired (s : Device) : s.loopPump.Wired s := by
  unfold Device.loopPump
  split
  · exact .refl s
  · split
    · split
      · exact s.loopAsk_wired _
      · exact ⟨rfl, rfl⟩
    · split
      · exact (Device.loopAsk_wired _ _).trans ⟨rfl, rfl⟩
      · exact ⟨rfl, rfl⟩

theorem Device.hwPump_wired (s : Device) : s.hwPump.Wired s := by
  unfold Device.hwPump
  split
  · exact .refl s
  · split
    · exact (Device.hwAsk_wired ..).trans ⟨rfl, rfl⟩
    · split
      · exact (Device.hwAsk_wired ..).trans ⟨rfl, rfl⟩
      · exact (Device.loopPump_wired _).trans ⟨rfl, rfl⟩

theorem Device.hwGap_wired (s : Device) : s.hwGap.Wired s := by
  unfold Device.hwGap
  dsimp only
  split
  · exact (Device.hwPump_wired _).trans ⟨rfl, rfl⟩
  · exact s.hwPump_wired

theorem Device.fireRemote_wired (s : Device) (i : Nat) : (s.fireRemote i).Wired s := by
  have asked (k : Nat) (b : Bytes) : (s.hwShelve.hwAsk k 4 b).Wired s := (Device.hwAsk_wired ..).trans s.hwShelve_wired
  unfold Device.fireRemote
  dsimp only
  split
  · exact .refl s
  · split
    · exact (Device.hwSend_wired ..).trans (asked ..)
    · exact asked ..

/-! ## Firing (R92, R113) -/

/-- What a cycle has of path i once it is in flight (R92). -/
def Cycle.fly (c : Cycle) (i : Nat) (key : Option PathP × Nat × Option PathCal) : Cycle :=
  { c with inFlight := some i, probe := c.probePath == some i, key := some key }

theorem Device.launch_wired (s : Device) (i : Nat) :
    (s.launch i).Wired { s with tr := { s.tr with cyc := s.tr.cyc.fly i (s.conf.pathKey i) } } :=
  (Device.fireRemote_wired _ i).trans (Device.toRun_wired _)

/-- What firing the next path leaves of a cycle: the first waiting path is in flight, or the cycle is complete (R113). -/
def Cycle.next (c : Cycle) (conf : Conf) : Cycle :=
  match c.toFire with
  | [] => { c with complete := true }
  | i :: is => { c with toFire := is }.fly i (conf.pathKey i)

theorem Cycle.next_nil {c : Cycle} (conf : Conf) (empty : c.toFire = []) : c.next conf = { c with complete := true } := by
  simp [Cycle.next, empty]

theorem Cycle.next_cons {c : Cycle} {i : Nat} {is : List Nat} (conf : Conf) (waits : c.toFire = i :: is) :
    c.next conf = { c with toFire := is }.fly i (conf.pathKey i) := by
  simp [Cycle.next, waits]

theorem Device.fireNext_wired (s : Device) :
    s.fireNext.Wired { s with tr := { s.tr with cyc := s.tr.cyc.next s.conf } } := by
  unfold Device.fireNext
  split
  next empty =>
    rw [Cycle.next_nil _ empty]
    exact .refl _
  next waits =>
    rw [Cycle.next_cons _ waits]
    exact Device.launch_wired _ _

/-- Number, start and shot timer of a cycle stay as it fires (R113, R179). -/
theorem Cycle.next_frame (c : Cycle) (conf : Conf) :
    (c.next conf).seq = c.seq ∧ (c.next conf).running = c.running ∧ (c.next conf).startOsc = c.startOsc ∧
      (c.next conf).shotIn = c.shotIn := by
  unfold Cycle.next
  split <;> exact ⟨rfl, rfl, rfl, rfl⟩

/-! ## A failed check of the reference (R105) -/

theorem Device.enterFallback_tr (s : Device) : s.enterFallback.tr = { s.tr with tb := { s.tr.tb with
    refinActive := false, fallback := true, lossCount := satInc s.tr.tb.lossCount, passRun := 0 } } := by
  simp [Device.enterFallback]

theorem Device.refFailed_tr (s : Device) : ∃ b : TimeBase, s.refFailed.tr = { s.tr with tb := b } ∧
    b.failCount = satInc s.tr.tb.failCount ∧ b.failRun = satAdd 8 s.tr.tb.failRun 1 := by
  unfold Device.refFailed
  dsimp only
  split
  · exact ⟨_, Device.enterFallback_tr _, rfl, rfl⟩
  · exact ⟨_, rfl, rfl, rfl⟩

theorem Device.refFailed_frame (s : Device) : s.refFailed.land = s.land ∧ s.refFailed.conf = s.conf ∧
    s.refFailed.flow = s.flow ∧ s.refFailed.toll.led = s.toll.led := by
  unfold Device.refFailed
  dsimp only
  split
  · simp [Device.enterFallback]
  · exact ⟨rfl, rfl, rfl, rfl⟩

end Sys2Proof.Machine

/-! SUPPORT. A path-pair of this device ends: the entry of its path, the counts, and the path that follows (R92, R113, R131,
R138). -/

namespace Sys2Proof.Machine

/-! ## What the classifier and the journal note of a pair -/

/-- Of the Transit Engine `t` and `s` differ in the cycle's status only, and beyond it no configuration, billed register,
function, key or clock differs. -/
def Device.Noted (t s : Device) : Prop := t.tr = { s.tr with cs := t.tr.cs } ∧ t.Calm s

theorem Device.Noted.refl (s : Device) : s.Noted s := ⟨rfl, .refl s⟩

theorem Device.Noted.trans {a b c : Device} (h : a.Noted b) (k : b.Noted c) : a.Noted c := by
  obtain ⟨ab, calmA⟩ := h
  obtain ⟨bc, calmB⟩ := k
  refine ⟨?_, calmA.trans calmB⟩
  rw [ab, bc]

theorem noted_ite {c : Prop} [Decidable c] {a b x : Device} (h : a.Noted x) (k : b.Noted x) :
    (if c then a else b).Noted x := by
  split <;> assumption

theorem Device.withCs_noted (s : Device) (cs : CycleStatus) : ({ s with tr := { s.tr with cs := cs } } : Device).Noted s :=
  ⟨rfl, .refl s⟩

theorem Device.journal_noted (s : Device) (c a b : Nat) : (s.journal c a b).Noted s :=
  ⟨by simp, s.journal_calm c a b⟩

theorem Device.tamper_noted (s : Device) (k : Nat) : (s.tamper k).Noted s := by
  refine ⟨?_, s.tamper_calm k⟩
  have tr : (s.tamper k).tr = s.tr := (congrArg Device.tr (s.tamper_booked k)).trans rfl
  rw [tr]

theorem Device.wPriceStep_noted (s : Device) : s.wPriceStep.Noted s := noted_ite ⟨rfl, .refl s⟩ (.refl s)

theorem Device.adopt_noted (s : Device) (m : Medium) (frac : Nat) : (s.adopt m frac).Noted s := by
  unfold Device.adopt
  dsimp only
  refine (Device.wPriceStep_noted _).trans (noted_ite ?_ ((Device.journal_noted ..).trans ?_))
  all_goals exact (Device.journal_noted ..).trans (s.withCs_noted _)

theorem Device.emptyOn_noted (s : Device) : s.emptyOn.Noted s := by
  unfold Device.emptyOn
  exact (Device.tamper_noted ..).trans ((Device.journal_noted ..).trans ((Device.withCs_noted _ _).trans
    (noted_ite (.refl s) (s.adopt_noted ..))))

theorem Device.probeEnd_noted (s : Device) (good : Bool) : (s.probeEnd good).Noted s := by
  unfold Device.probeEnd
  exact noted_ite (noted_ite ((Device.emptyOn_noted _).trans (s.withCs_noted _)) (s.withCs_noted _)) (s.withCs_noted _)

theorem Device.pairSeen_noted (s : Device) (i : Nat) : (s.pairSeen i).Noted s := by
  unfold Device.pairSeen
  exact noted_ite (noted_ite ((Device.journal_noted ..).trans (s.withCs_noted _)) (s.withCs_noted _)) (.refl s)

/-! ## The entry of the path -/

/-- `t` is `s` once a pair of path i has been measured: its entry is `y`, no other path's entry differs, the pairs since
calibration advance, and the cycle stands where it stood (R96, R131). -/
structure Device.PairTaken (t s : Device) (i : Nat) (y : PathState) : Prop where
  paths : t.tr.paths = s.tr.paths.set i y
  span : t.tr.tdc.pairsSpan = s.tr.tdc.pairsSpan + 1
  full : t.tr.tdc.pairsFull = s.tr.tdc.pairsFull + 1
  cyc : t.tr.cyc = s.tr.cyc
  calm : t.Calm s

theorem Device.PairTaken.noted {u t s : Device} {i : Nat} {y : PathState} (h : t.PairTaken s i y) (n : u.Noted t) :
    u.PairTaken s i y := by
  obtain ⟨tr, calm⟩ := n
  refine ⟨?_, ?_, ?_, ?_, calm.trans h.calm⟩
  · rw [tr]; exact h.paths
  · rw [tr]; exact h.span
  · rw [tr]; exact h.full
  · rw [tr]; exact h.cyc

theorem Device.notePorts_ports (s : Device) (p : PathP) (no : Nat) (cap : PairCapture) :
    ∃ ports, (s.notePorts p no cap).1 = { s with tr := { s.tr with ports := ports } } := by
  unfold Device.notePorts
  dsimp only
  split <;> split <;> exact ⟨_, rfl⟩

theorem Device.pathAt_of_getElem? {s : Device} {i : Nat} {x : PathState} (at_i : s.tr.paths[i]? = some x) : s.pathAt i = x := by
  simp [Device.pathAt, at_i]

theorem Device.setPath_counted {s : Device} {i : Nat} {x : PathState} (p : PathP) (no : Nat) (cap : PairCapture)
    (overflow : Bool) (f : PathState → PathState) (at_i : s.tr.paths[i]? = some x) :
    ((Device.countPair (s.notePorts p no cap).1 overflow).setPath i f).PairTaken s i (f x) := by
  obtain ⟨ports, noted⟩ := s.notePorts_ports p no cap
  rw [noted]
  exact ⟨setAt_of_getElem? f at_i, rfl, rfl, rfl, .refl s⟩

theorem Device.ownPair_taken {s : Device} {i : Nat} {x : PathState} (cap : PairCapture) (at_i : s.tr.paths[i]? = some x) :
    (s.ownPair i cap).PairTaken s i (pairDone (s.pairCtx i) x cap (s.notePorts (s.pairCtx i).p 0 cap).2).s := by
  unfold Device.ownPair
  rw [Device.pathAt_of_getElem? at_i]
  extract_lets c n r s1
  have seen : s1.PairTaken s i r.s :=
    (Device.setPath_counted c.p 0 cap cap.overflow (fun _ => r.s) at_i).noted (Device.pairSeen_noted _ i)
  exact seen.noted (noted_ite (.refl s1) (s1.journal_noted ..))

theorem Device.probePair_taken {s : Device} {i : Nat} {x : PathState} (cap : PairCapture) (at_i : s.tr.paths[i]? = some x) :
    ∃ armed peak clipped, (s.probePair i cap).PairTaken s i (x.probed (s.pairCtx i).p armed peak clipped) := by
  unfold Device.probePair
  extract_lets c x n o ra rb onA ud du sos s1
  have probed : s1.PairTaken s i _ := Device.setPath_counted c.p 0 cap cap.overflow _ at_i
  exact ⟨_, _, _, probed.noted (s1.probeEnd_noted _)⟩

/-- The pair in flight on path i is measured: a probe, or an ordinary pair (R115, R138). -/
def Device.measured (s : Device) (i : Nat) (cap : PairCapture) : Device :=
  if s.tr.cyc.probe then s.probePair i cap else s.ownPair i cap

theorem Device.measured_taken {s : Device} {i : Nat} {x : PathState} (cap : PairCapture) (at_i : s.tr.paths[i]? = some x) :
    ∃ y : PathState, (s.measured i cap).PairTaken s i y ∧ y.Fired x ∧
      (s.tr.cyc.probe = true → y.res = x.res ∧ y.tpl = x.tpl) ∧
      (s.tr.cyc.probe = false → y.Graded x s.tr.cyc.seq cap.overflow) := by
  unfold Device.measured
  cases probe : s.tr.cyc.probe with
  | true =>
    obtain ⟨armed, peak, clipped, taken⟩ := Device.probePair_taken cap at_i
    obtain ⟨fired, result⟩ := x.probed_fired (s.pairCtx i).p armed peak clipped
    exact ⟨_, taken, fired, fun _ => result, nofun⟩
  | false =>
    exact ⟨_, Device.ownPair_taken cap at_i, pairDone_fired .., nofun, fun _ => pairDone_graded ..⟩

/-! ## What follows the pair (R92, R113) -/

/-- A cycle with nothing in flight. -/
def Cycle.idle (c : Cycle) : Cycle := { c with inFlight := none, probe := false, extPair := false, key := none }

theorem Device.landPair_fresh {s : Device} {i : Nat} {y : PathState} (at_i : s.tr.paths[i]? = some y)
    (fresh : y.work.stale = false) : s.landPair i = { s with tr := { s.tr with cyc := s.tr.cyc.idle } } := by
  have entry : Device.pathAt { s with tr := { s.tr with cyc := s.tr.cyc.idle } } i = y := Device.pathAt_of_getElem? at_i
  have stays : ¬ (Device.pathAt { s with tr := { s.tr with cyc := s.tr.cyc.idle } } i).work.stale = true := by
    simp only [entry, fresh, Bool.false_eq_true, not_false_iff]
  exact if_neg stays

theorem Device.afterPair_internal {s : Device} {i : Nat} {y : PathState} (flight : s.tr.cyc.inFlight = some i)
    (at_i : s.tr.paths[i]? = some y) (fresh : y.work.stale = false) (internal : s.conf.shot.external = false)
    (on : s.on .transit = true) :
    s.afterPair.tr = { s.tr with cyc := s.tr.cyc.idle.next s.conf } ∧ s.afterPair.Calm s := by
  have ends : s.endPair = (s.landPair i).fireNext := by
    simp [Device.endPair, flight, internal, on]
  unfold Device.afterPair
  refine ⟨?_, ?_⟩
  · rw [(Device.hwGap_wired _).tr, ends, (Device.fireNext_wired _).tr, Device.landPair_fresh at_i fresh]
  · rw [ends]
    exact (Device.hwGap_calm _).trans ((Device.fireNext_calm _).trans (Device.landPair_calm _ _))

theorem pathPairDone_measures {dt : Nat} {cap : PairCapture} {s : State} {d : Device} {i : Nat} (hd : d = s.dev.elapse dt)
    (primary : d.secondary = false) (flight : d.tr.cyc.inFlight = some i)
    (up : ((d.flightKey i).1.getD {}).devUp = 0) (down : ((d.flightKey i).1.getD {}).devDown = 0) :
    exec (.pathPairDone dt cap) s = .next { s with dev := (d.measured i cap).afterPair } := by
  have here : ((d.flightKey i).1.getD {}).isLocal = true := by simp [PathP.isLocal, up, down]
  simp only [exec, execPathPairDone, ← hd, primary, flight, here]
  rfl

/-! ## REF_IN_LOSS (R104) -/

theorem PathState.refLost_entry (x : PathState) (c : PairCtx) (v : Nat) :
    (x.refLost c v).res = lostResult v c.seq ∧ (x.refLost c v).health.voidPairs = satInc x.health.voidPairs ∧
      (x.refLost c v).work.stale = x.work.stale := by
  let turned : PathState := { x with tune := { x.tune with parity := !x.tune.parity }, res := lostResult v c.seq }
  obtain ⟨res, health, -, stale⟩ := turned.place_held c false 0 false 0
  exact ⟨res, congrArg (fun h : PathHealth => satInc h.voidPairs) health, stale⟩

/-- The device once the pair in flight on path i is voided, its entry being `y`, and the cycle is complete (R104). -/
def Device.voided (s : Device) (i : Nat) (y : PathState) : Device :=
  { s with
    free := s.free + 3
    tr := { s.tr with
      paths := s.tr.paths.set i y
      tdc := { s.tr.tdc with pairsSpan := s.tr.tdc.pairsSpan + 1, pairsFull := s.tr.tdc.pairsFull + 1 }
      cyc := { s.tr.cyc.idle with toFire := [], fired := [], complete := true }
      ext := { s.tr.ext with nextPath := 0 } } }

/-- A loss of the reference in flight of an ordinary pair voids it and counts as a failed check (R104, R105). -/
theorem Device.refLoss_eq {s : Device} {i : Nat} {x : PathState} (at_i : s.tr.paths[i]? = some x)
    (pair : s.tr.cyc.probe = false) (fresh : x.work.stale = false) :
    s.refLoss i = (s.voided i (x.refLost (s.pairCtx i) s.draw.1)).refFailed := by
  obtain ⟨-, -, stale⟩ := x.refLost_entry (s.pairCtx i) s.draw.1
  have inside : i < s.tr.paths.length := (List.getElem?_eq_some_iff.mp at_i).1
  have entry : s.draw.2.setPath i (fun p => p.refLost (s.pairCtx i) s.draw.1) = { s.draw.2 with
      tr := { s.tr with paths := s.tr.paths.set i (x.refLost (s.pairCtx i) s.draw.1) } } := by
    simp [Device.setPath, setAt_of_getElem? _ at_i]
  unfold Device.refLoss
  simp only [pair, Bool.false_eq_true, if_false, entry]
  rw [Device.landPair_fresh (y := x.refLost (s.pairCtx i) s.draw.1) (by simp [Device.countPair, inside]) (stale.trans fresh)]
  rfl

end Sys2Proof.Machine

namespace Sys2Proof
open Machine

/-- Settles O42: a pair writes the entry of its own path alone, with a result of one grade, and the cycle goes on from what
waits to be fired. -/
theorem pathPairsAreGradedAndBooked : Obligations.PathPairsAreGradedAndBooked := by
  intro dt cap s d hd primary
  refine ⟨fun i x flight at_i up down internal on fresh => ?_, fun nothing => ?_, fun i x active flight at_i pair fresh => ?_,
    fun idle => ?_⟩
  · obtain ⟨y, taken, fired, probed, graded⟩ := Device.measured_taken cap at_i
    obtain ⟨conf, led, flow, -, -, -, keys, tick, -, fn, -⟩ := taken.calm
    have inside : i < d.tr.paths.length := (List.getElem?_eq_some_iff.mp at_i).1
    have entry : (d.measured i cap).tr.paths[i]? = some y := by simp [taken.paths, inside]
    obtain ⟨tr, calm⟩ := Device.afterPair_internal (s := d.measured i cap) (by rw [taken.cyc, flight]) entry
      (fired.stale.trans fresh) (by rw [conf, internal]) (by rw [Device.on, fn]; exact on)
    obtain ⟨conf', led', flow', -, -, -, keys', tick', -⟩ := calm
    rw [taken.cyc] at tr
    refine ⟨_, y, pathPairDone_measures hd primary flight up down, ?_, fired.parity, fired.pairs, fun j other => ?_, ?_, ?_,
      fun k ks waits => ?_, fun empty => ?_, probed, fun ordinary => ?_, led'.trans led, conf'.trans conf, flow'.trans flow,
      tick'.trans tick, keys'.trans keys⟩
    · rw [tr]; exact entry
    · rw [tr]
      simp [taken.paths, List.getElem?_set_ne (Ne.symm other)]
    · rw [tr]; exact taken.span
    · rw [tr]; exact taken.full
    · rw [tr, Cycle.next_cons _ (c := d.tr.cyc.idle) waits]
      exact ⟨rfl, rfl⟩
    · rw [tr, Cycle.next_nil _ (c := d.tr.cyc.idle) empty]
      exact ⟨rfl, rfl⟩
    · obtain ⟨cycleSeq, overflow, void, delivered⟩ := graded ordinary
      exact ⟨cycleSeq, overflow, void, delivered⟩
  · simp [exec, execPathPairDone, ← hd, primary, nothing]
  · obtain ⟨res, counted, -⟩ := x.refLost_entry (d.pairCtx i) d.draw.1
    obtain ⟨b, tr, failCount, -⟩ := (d.voided i (x.refLost (d.pairCtx i) d.draw.1)).refFailed_tr
    obtain ⟨land, conf, flow, led⟩ := (d.voided i (x.refLost (d.pairCtx i) d.draw.1)).refFailed_frame
    have inside : i < d.tr.paths.length := (List.getElem?_eq_some_iff.mp at_i).1
    have run : exec (.refInLoss dt) s = .next { s with
        dev := (d.voided i (x.refLost (d.pairCtx i) d.draw.1)).refFailed } := by
      simp [exec, execRefInLoss, ← hd, active, flight, Device.refLoss_eq at_i pair fresh]
    refine ⟨_, x.refLost (d.pairCtx i) d.draw.1, run, ?_⟩
    rw [tr, res]
    refine ⟨by simp [Device.voided, inside], rfl, rfl, rfl, rfl, rfl, rfl, counted, fun j other => ?_, rfl, rfl, rfl,
      failCount, led, conf, flow, land⟩
    simp [Device.voided, List.getElem?_set_ne (Ne.symm other)]
  · obtain inactive | ⟨noPair, noJob⟩ := idle
    · simp [exec, execRefInLoss, ← hd, inactive]
    · simp [exec, execRefInLoss, ← hd, noPair, noJob]

end Sys2Proof

/-! SUPPORT. The start of a cycle and an accepted pulse: what the shot timer and `SHOT` bring about (R103, R113, R149, R150,
R179). -/

namespace Sys2Proof.Machine

/-! ## The shot timer (R179) -/

theorem Device.arm_alarms (s : Device) (i target : Nat) (elapsed : Bool) :
    ∃ a, s.arm i target elapsed = { s with land := { s.land with alarms := a } } := by
  unfold Device.arm
  split
  · exact ⟨_, rfl⟩
  · exact ⟨s.land.alarms, rfl⟩

theorem Device.armWake_alarms (s : Device) : ∃ a, s.armWake = { s with land := { s.land with alarms := a } } := by
  unfold Device.armWake
  split
  · split
    · exact s.arm_alarms ..
    · exact ⟨s.land.alarms, rfl⟩
  · exact ⟨s.land.alarms, rfl⟩

/-- The device with its shot timer restarted: its period, the run of brought-forward cycles, and alarms alone differ (R142,
R179, R394). -/
def Device.retimed (s : Device) (cs : CycleStatus) (a : List Alarm) : Device :=
  { s with
    tr := { s.tr with
      cyc := { s.tr.cyc with shotIn := some (shotPeriod s.conf.shot s.tr.cyc.level), broughtForward := false }, cs := cs }
    land := { s.land with alarms := a } }

theorem Device.restartShot_retimes (s : Device) : ∃ cs a, s.restartShot = s.retimed cs a := by
  obtain ⟨a, armed⟩ := Device.armWake_alarms { s with tr := { s.tr with
    cyc := { s.tr.cyc with shotIn := some (shotPeriod s.conf.shot s.tr.cyc.level), broughtForward := false }
    cs := if s.tr.cyc.broughtForward then { s.tr.cs with retryRun := satAdd 8 s.tr.cs.retryRun 1 } else s.tr.cs } }
  exact ⟨_, a, armed⟩

/-! ## The cycle opens (R97, R102, R113) -/

theorem Device.openCycle_health (s : Device) (i : Nat) : (s.openCycle.pathAt i).health = (s.pathAt i).health := by
  simp only [Device.pathAt, Device.openCycle, Device.takeSets, List.getD_eq_getElem?_getD, List.getElem?_map,
    List.getElem?_zipIdx]
  cases s.tr.paths[i]? <;> rfl

/-- A cycle that opens changes neither what is active nor what can be fired. -/
theorem Device.openCycle_firing (s : Device) : s.openCycle.activePaths.filter s.openCycle.fireable =
    s.activePaths.filter s.fireable := by
  have active : s.openCycle.activePaths = s.activePaths := by
    simp only [Device.activePaths, Device.openCycle_health]
    rfl
  have fireable : s.openCycle.fireable = s.fireable := rfl
  rw [active, fireable]

theorem Device.hwSilent_answered (s : Device) (heard : s.haw.role ≠ 1 ∨ s.on .hawser = true) : s.hwSilent = s := by
  refine if_neg fun ⟨role, off⟩ => ?_
  obtain other | on := heard
  · exact other role
  · simp [on] at off

theorem refPass_outside {ref : Option Nat} (out : ∀ n, ref = some n → n < 1534 ∨ 1538 < n) : refPass ref = false := by
  cases ref with
  | none => rfl
  | some n =>
    have := out n rfl
    simp only [refPass, decide_eq_false_iff_not]
    omega

/-- On the ring oscillator there is no check (R103). -/
theorem Device.refCheck_internal (s : Device) (ref : Option Nat) (internal : s.tr.tb.refinSel = false) :
    s.refCheck ref = (s, true) := by
  simp [Device.refCheck, internal]

/-- A check that fails, with no fallback to fall to, is counted, and the cycle does not run (R103, R105). -/
theorem Device.refCheck_fails (s : Device) (ref : Option Nat) (sel : s.tr.tb.refinSel = true) (locked : s.tr.tb.relock = false)
    (active : s.tr.tb.fallback = false) (barred : s.conf.system.refinFallbackEn = false) (fails : refPass ref = false) :
    s.refCheck ref = (s.refFailed, false) := by
  have stays : s.refFailed.tr.tb.fallback = false := by
    simp [Device.refFailed, barred, active]
  simp [Device.refCheck, sel, locked, fails, stays]

/-- A cycle on the ring oscillator fires what can be fired (R113). -/
theorem Device.beginCycle_fires (s : Device) (ref : Option Nat) (internal : s.tr.tb.refinSel = false)
    (heard : s.haw.role ≠ 1 ∨ s.on .hawser = true) :
    s.beginCycle ref = Device.fireNext { s.openCycle with tr := { s.openCycle.tr with
      cyc := { s.openCycle.tr.cyc with toFire := s.activePaths.filter s.fireable } } } := by
  have silent : s.openCycle.hwSilent = s.openCycle := s.openCycle.hwSilent_answered heard
  have check : s.openCycle.refCheck ref = (s.openCycle, true) := s.openCycle.refCheck_internal ref internal
  simp only [Device.beginCycle, silent, check, Device.openCycle_firing, if_true]

/-- A cycle whose check fails does not run (R105). -/
theorem Device.beginCycle_skips (s : Device) (ref : Option Nat) (heard : s.haw.role ≠ 1 ∨ s.on .hawser = true)
    (check : s.openCycle.refCheck ref = (s.openCycle.refFailed, false)) :
    s.beginCycle ref = s.openCycle.refFailed.extSkip := by
  have silent : s.openCycle.hwSilent = s.openCycle := s.openCycle.hwSilent_answered heard
  simp only [Device.beginCycle, silent, check, Device.extSkip, Bool.false_eq_true, if_false]

theorem Device.refFailed_skipped (s : Device) : ∃ b : TimeBase, s.refFailed.extSkip.tr = { s.tr with
      tb := b, cyc := { s.tr.cyc with running := false, probePath := none } } ∧
    b.failCount = satInc s.tr.tb.failCount ∧ b.failRun = satAdd 8 s.tr.tb.failRun 1 := by
  obtain ⟨b, tr, counts⟩ := s.refFailed_tr
  exact ⟨b, by simp only [Device.extSkip, tr], counts⟩

/-! ## The shot timer expires (R113) -/

section
variable {dt : Nat} {s : State} {d : Device} (ref : Option Nat)

theorem shotTimerExpiry_due (hd : d = (s.dev.elapse dt).woken 2) (toll : d.tolling = true)
    (internal : d.conf.shot.external = false) (out : d.tr.cyc.shotIn = some 0) :
    exec (.shotTimerExpiry dt ref) s = .next { s with dev := d.shotExpire ref } := by
  have due : d.shotDue = true := by simp [Device.shotDue, toll, internal, out]
  simp only [exec, execShotTimerExpiry, ← hd, due, if_true]

theorem shotTimerExpiry_idle (hd : d = (s.dev.elapse dt).woken 2)
    (idle : d.tolling = false ∨ d.conf.shot.external = true ∨ d.tr.cyc.shotIn ≠ some 0) :
    exec (.shotTimerExpiry dt ref) s = .next { s with dev := d } := by
  have due : d.shotDue = false := by
    obtain off | ext | runs := idle
    · simp [Device.shotDue, off]
    · simp [Device.shotDue, ext]
    · simp [Device.shotDue, runs]
  simp only [exec, execShotTimerExpiry, ← hd, due, Bool.false_eq_true, if_false]

end

theorem Device.tolling_primary {s : Device} (toll : s.tolling = true) : s.secondary = false := by
  simp only [Device.tolling, Bool.and_eq_true, Bool.not_eq_true'] at toll
  exact toll.2

theorem Device.shotExpire_begins (s : Device) (ref : Option Nat) (on : s.on .transit = true)
    (still : s.tr.cyc.running = false) : s.shotExpire ref = s.restartShot.beginCycle ref := by
  obtain ⟨cs, a, restarted⟩ := s.restartShot_retimes
  have free : (s.restartShot.on .transit && !s.restartShot.tr.cyc.running) = true := by
    rw [restarted]
    simp only [Bool.and_eq_true, Bool.not_eq_true']
    exact ⟨on, still⟩
  exact if_pos free

theorem Device.shotExpire_off (s : Device) (ref : Option Nat) (off : s.on .transit = false) :
    s.shotExpire ref = s.restartShot := by
  obtain ⟨cs, a, restarted⟩ := s.restartShot_retimes
  have busy : ¬ (s.restartShot.on .transit && !s.restartShot.tr.cyc.running) = true := by
    have off' : s.restartShot.on .transit = false := by rw [restarted]; exact off
    simp [off']
  exact if_neg busy

/-! ## Accepted pulses (R149, R150) -/

theorem Device.extPath_eq_some {s : Device} {i : Nat} {ps : List Nat} (paths : s.extPaths = ps)
    (pick : ps.find? (fun j => decide (s.tr.ext.nextPath ≤ j)) = some i ∨
      ps.find? (fun j => decide (s.tr.ext.nextPath ≤ j)) = none ∧ ps.head? = some i) : s.extPath = some i := by
  unfold Device.extPath
  rw [paths]
  obtain found | ⟨none, head⟩ := pick
  · simp only [found]
  · simp only [none, head]

theorem Device.extPath_some_of_idle {s : Device} (still : s.tr.cyc.running = false)
    (some_path : s.activePaths.filter s.fireable ≠ []) : ∃ i, s.extPath = some i := by
  have paths : s.extPaths = s.activePaths.filter s.fireable := by
    simp [Device.extPaths, still]
  obtain ⟨i, is, cons⟩ := List.exists_cons_of_ne_nil some_path
  unfold Device.extPath
  rw [paths]
  dsimp only
  split
  · exact ⟨_, rfl⟩
  · exact ⟨i, by rw [cons]; rfl⟩

/-- The token of an accepted pulse is gone, and it is counted (R150, R151). -/
def ExtShot.accept (e : ExtShot) : ExtShot := { e with tokens := e.tokens - 65536, accepted := satInc e.accepted }

/-- The pair that an accepted pulse fires on path i (R149). -/
theorem Device.extFire_wired (s : Device) (i : Nat) : ∃ n, (s.extFire i).Wired { s with tr := { s.tr with
    cyc := { s.tr.cyc with extPair := true }.fly i (s.conf.pathKey i), ext := { s.tr.ext with nextPath := n } } } :=
  ⟨_, Device.launch_wired _ i⟩

/-- The device once an accepted pulse has taken its token (R150). -/
def Device.paid (s : Device) : Device := { s with tr := { s.tr with ext := s.tr.ext.accept } }

theorem Device.extAccept_within (s : Device) (ref : Option Nat) (i : Nat) (path : s.extPath = some i)
    (running : s.tr.cyc.running = true) : s.extAccept ref = s.paid.extFire i := by
  have path' : s.paid.extPath = some i := path
  have running' : s.paid.tr.cyc.running = true := running
  unfold Device.extAccept
  change (match s.paid.extPath with | none => s.paid | some i => _) = _
  rw [path']
  exact if_pos running'

theorem Device.extAccept_begins (s : Device) (ref : Option Nat) (i : Nat) (path : s.extPath = some i)
    (still : s.tr.cyc.running = false) : s.extAccept ref =
      if (s.paid.barCycle.openCycle.refCheck ref).2 then (s.paid.barCycle.openCycle.refCheck ref).1.extFire i
      else (s.paid.barCycle.openCycle.refCheck ref).1.extSkip := by
  have path' : s.paid.extPath = some i := path
  have still' : ¬ s.paid.tr.cyc.running = true := by simp [Device.paid, still]
  unfold Device.extAccept
  change (match s.paid.extPath with | none => s.paid | some i => _) = _
  rw [path']
  exact if_neg still'

/-- An accepted pulse fires path i: within a cycle, or as one begins on the ring oscillator (R103, R149, R150). -/
theorem Device.extAccept_fires (s : Device) (ref : Option Nat) (i : Nat) (path : s.extPath = some i)
    (clear : s.tr.cyc.running = true ∨ s.tr.tb.refinSel = false) :
    (s.extAccept ref).tr.cyc.inFlight = some i ∧ (s.extAccept ref).tr.cyc.extPair = true ∧
      (s.extAccept ref).tr.ext.tokens = s.tr.ext.tokens - 65536 ∧
      (s.extAccept ref).tr.ext.accepted = satInc s.tr.ext.accepted ∧ (s.extAccept ref).refusals = s.refusals ∧
      (s.extAccept ref).toll = s.toll ∧ (s.extAccept ref).flow = s.flow ∧ (s.extAccept ref).conf = s.conf := by
  cases running : s.tr.cyc.running with
  | true =>
    obtain ⟨n, wired⟩ := s.paid.extFire_wired i
    rw [s.extAccept_within ref i path running, wired.tr, wired.refusals, wired.toll, wired.flow, wired.conf]
    exact ⟨rfl, rfl, rfl, rfl, rfl, rfl, rfl, rfl⟩
  | false =>
    have internal : s.tr.tb.refinSel = false := by simpa [running] using clear
    have fires : s.extAccept ref = s.paid.barCycle.openCycle.extFire i := by
      rw [s.extAccept_begins ref i path running, s.paid.barCycle.openCycle.refCheck_internal ref internal]
      rfl
    obtain ⟨n, wired⟩ := s.paid.barCycle.openCycle.extFire_wired i
    rw [fires, wired.tr, wired.refusals, wired.toll, wired.flow, wired.conf]
    exact ⟨rfl, rfl, rfl, rfl, rfl, rfl, rfl, rfl⟩

/-! ## The tests of an edge, in their order (R150) -/

section
variable (s : Device) (ref : Option Nat)

theorem Device.shotEdge_off (off : s.on .transit = false) : s.shotEdge ref = s.refuse 8 := by
  simp only [Device.shotEdge, off, Bool.not_false, if_true]

theorem Device.shotEdge_internal (on : s.on .transit = true) (internal : s.conf.shot.external = false) :
    s.shotEdge ref = s.extRefuse fun e => { e with refusedMode := satInc e.refusedMode } := by
  simp only [Device.shotEdge, on, internal, Bool.not_true, Bool.not_false, Bool.false_eq_true, if_false, if_true]

variable (on : s.on .transit = true) (ext : s.conf.shot.external = true)
include on ext

theorem Device.shotEdge_busy (busy : s.tr.cyc.inFlight.isSome = true) :
    s.shotEdge ref = s.extRefuse fun e => { e with refusedBusy := satInc e.refusedBusy } := by
  simp only [Device.shotEdge, on, ext, busy, Bool.not_true, Bool.false_eq_true, if_false, if_true]

variable (idle : s.tr.cyc.inFlight = none)
include idle

theorem Device.shotEdge_due (due : s.store.due.getD 0 false = true) :
    s.shotEdge ref = s.extRefuse fun e => { e with refusedBg := satInc e.refusedBg } := by
  simp only [Device.shotEdge, on, ext, idle, Device.bgHolds, due, Bool.not_true, Option.isSome_none, Bool.false_eq_true,
    if_false, if_true]

variable (quiet : s.store.due.getD 0 false = false)
include quiet

theorem Device.shotEdge_empty (empty : s.tr.ext.tokens < 65536) :
    s.shotEdge ref = s.extRefuse fun e => { e with refusedRate := satInc e.refusedRate } := by
  simp only [Device.shotEdge, on, ext, idle, Device.bgHolds, quiet, empty, Bool.not_true, Option.isSome_none,
    Bool.false_eq_true, if_false, if_true]

theorem Device.shotEdge_accepts (full : 65536 ≤ s.tr.ext.tokens) : s.shotEdge ref = s.extAccept ref := by
  simp only [Device.shotEdge, on, ext, idle, Device.bgHolds, quiet, Nat.not_lt.mpr full, Bool.not_true, Option.isSome_none,
    Bool.false_eq_true, if_false]

end

/-! ## What an accepted pulse brings about whose check fails (R103, R105) -/

/-- An accepted pulse whose check fails fires nothing, and the check is counted (R103, R105, R150). -/
theorem Device.extAccept_skips (s : Device) (ref : Option Nat) (i : Nat) (path : s.extPath = some i)
    (still : s.tr.cyc.running = false) (sel : s.tr.tb.refinSel = true) (locked : s.tr.tb.relock = false)
    (active : s.tr.tb.fallback = false) (barred : s.conf.system.refinFallbackEn = false) (fails : refPass ref = false) :
    (s.extAccept ref).tr.cyc.inFlight = s.tr.cyc.inFlight ∧ (s.extAccept ref).tr.ext = s.tr.ext.accept ∧
      (s.extAccept ref).tr.tb.failCount = satInc s.tr.tb.failCount ∧
      (s.extAccept ref).tr.tb.failRun = satAdd 8 s.tr.tb.failRun 1 := by
  have skips : s.extAccept ref = s.paid.barCycle.openCycle.refFailed.extSkip := by
    rw [s.extAccept_begins ref i path still, s.paid.barCycle.openCycle.refCheck_fails ref sel locked active barred fails]
    rfl
  obtain ⟨b, tr, failCount, failRun⟩ := s.paid.barCycle.openCycle.refFailed_skipped
  rw [skips, tr]
  exact ⟨rfl, rfl, failCount, failRun⟩

/-! ## The edge (R34, R150) -/

section
variable {dt : Nat} {s : State} {d : Device} (ref : Option Nat)

theorem shotRisingEdge_sampled (hd : d = (s.dev.elapse dt).woken 3)
    (awake : d.power.st = .nap ∨ d.power.st = .doze ∨ d.power.st = .run) (free : d.power.holdDue = false) :
    exec (.shotRisingEdge ⟨dt, ref⟩) s = .next { s with dev := d.shotEdge ref } := by
  simp only [exec, execShotRisingEdge, ← hd, free]
  obtain st | st | st := awake <;> rw [st] <;> rfl

theorem shotRisingEdge_unsampled (hd : d = (s.dev.elapse dt).woken 3)
    (asleep : d.power.st = .hibernate ∨ d.power.st = .ship ∨ d.power.st = .unpowered ∨ d.power.holdDue = true) :
    exec (.shotRisingEdge ⟨dt, ref⟩) s = .next { s with dev := d } := by
  simp only [exec, execShotRisingEdge, ← hd]
  obtain st | st | st | due := asleep
  · rw [st]; rfl
  · rw [st]; rfl
  · rw [st]; rfl
  · simp [due]

end

/-! ## What the timer's expiry leaves (R103, R105, R113) -/

theorem Device.openCycle_corr (s : Device) (primary : s.secondary = false) :
    s.openCycle.tr.tb.corrInForce = s.tr.tb.hfxCorr := by
  simp [Device.openCycle, Device.takeSets, primary]

/-- The device with its shot timer restarted and the cycle open, whose paths wait to be fired (R102, R113, R179). -/
def Device.opened (s : Device) (cs : CycleStatus) (a : List Alarm) : Device :=
  let o := (s.retimed cs a).openCycle
  { o with tr := { o.tr with cyc := { o.tr.cyc with toFire := s.activePaths.filter s.fireable } } }

/-- The shot timer begins a cycle on the ring oscillator, which fires (R113). -/
theorem Device.shotExpire_fires (s : Device) (ref : Option Nat) (on : s.on .transit = true)
    (still : s.tr.cyc.running = false) (ring : s.tr.tb.refinSel = false) (heard : s.haw.role ≠ 1 ∨ s.on .hawser = true) :
    ∃ cs a, (s.shotExpire ref).Wired { s.opened cs a with
      tr := { (s.opened cs a).tr with cyc := (s.opened cs a).tr.cyc.next s.conf } } := by
  obtain ⟨cs, a, restarted⟩ := s.restartShot_retimes
  rw [s.shotExpire_begins ref on still, restarted, (s.retimed cs a).beginCycle_fires ref ring heard]
  exact ⟨cs, a, Device.fireNext_wired _⟩

/-- The cycle that does not run, as its check of the reference fails (R103, R105). -/
theorem Device.shotExpire_skips (s : Device) (ref : Option Nat) (on : s.on .transit = true)
    (still : s.tr.cyc.running = false) (sel : s.tr.tb.refinSel = true) (locked : s.tr.tb.relock = false)
    (active : s.tr.tb.fallback = false) (barred : s.conf.system.refinFallbackEn = false)
    (heard : s.haw.role ≠ 1 ∨ s.on .hawser = true) (fails : refPass ref = false) :
    (s.shotExpire ref).tr.cyc.seq = s.tr.cyc.seq + 1 ∧ (s.shotExpire ref).tr.cyc.running = false ∧
      (s.shotExpire ref).tr.cyc.inFlight = s.tr.cyc.inFlight ∧
      (s.shotExpire ref).tr.tb.failCount = satInc s.tr.tb.failCount ∧
      (s.shotExpire ref).tr.tb.failRun = satAdd 8 s.tr.tb.failRun 1 := by
  obtain ⟨cs, a, restarted⟩ := s.restartShot_retimes
  have check := (s.retimed cs a).openCycle.refCheck_fails ref sel locked active barred fails
  obtain ⟨b, tr, failCount, failRun⟩ := (s.retimed cs a).openCycle.refFailed_skipped
  rw [s.shotExpire_begins ref on still, restarted, (s.retimed cs a).beginCycle_skips ref heard check, tr]
  exact ⟨rfl, rfl, rfl, failCount, failRun⟩

end Sys2Proof.Machine

namespace Sys2Proof
open Machine

/-- Settles O41: the timer's expiry opens one cycle, whose first path flies, and an edge meets the tests of R150 in turn. -/
theorem cyclesAndShotsAreAdmitted : Obligations.CyclesAndShotsAreAdmitted := by
  refine ⟨fun dt s d hd => ⟨fun toll internal out => ⟨fun ref on still ring heard => ?_,
      fun ref on still sel locked active barred heard outside => ?_, fun ref off => ?_⟩,
      fun ref idle => shotTimerExpiry_idle ref hd idle⟩,
    fun dt s d hd => ⟨fun ref awake free => ?_, fun ref asleep => shotRisingEdge_unsampled ref hd asleep⟩⟩
  · obtain ⟨cs, a, wired⟩ := d.shotExpire_fires ref on still ring heard
    obtain ⟨seq, running, startOsc, shotIn⟩ := (d.opened cs a).tr.cyc.next_frame d.conf
    refine ⟨_, shotTimerExpiry_due ref hd toll internal out, ?_⟩
    rw [wired.tr, wired.toll, wired.flow, wired.conf, wired.sec, wired.temp, wired.land]
    refine ⟨seq, running, startOsc, (d.retimed cs a).openCycle_corr (Device.tolling_primary toll), shotIn,
      fun i is paths => ?_, fun empty => ?_, rfl, rfl, rfl, rfl, rfl, rfl⟩
    · have next := Cycle.next_cons (c := (d.opened cs a).tr.cyc) d.conf paths
      exact ⟨congrArg Cycle.inFlight next, congrArg Cycle.toFire next⟩
    · have next := Cycle.next_nil (c := (d.opened cs a).tr.cyc) d.conf empty
      exact ⟨congrArg Cycle.complete next, (congrArg Cycle.inFlight next).trans rfl⟩
  · exact ⟨_, shotTimerExpiry_due ref hd toll internal out,
      d.shotExpire_skips ref on still sel locked active barred heard (refPass_outside outside)⟩
  · obtain ⟨cs, a, restarted⟩ := d.restartShot_retimes
    refine ⟨_, shotTimerExpiry_due ref hd toll internal out, ?_⟩
    rw [d.shotExpire_off ref off, restarted]
    exact ⟨rfl, rfl, rfl, rfl⟩
  · have run := shotRisingEdge_sampled ref hd awake free
    refine ⟨fun off => ?_, fun on => ⟨fun internal e he => ?_, fun ext => ⟨fun busy e he => ?_, fun idle =>
      ⟨fun due e he => ?_, fun quiet => ⟨fun empty e he => ?_, fun full clear ps i paths pick => ?_,
        fun full still sel locked active barred some_path outside => ?_⟩⟩⟩⟩⟩
    · rw [run, d.shotEdge_off ref off]
    · rw [run, d.shotEdge_internal ref on internal, he]; rfl
    · rw [run, d.shotEdge_busy ref on ext busy, he]; rfl
    · rw [run, d.shotEdge_due ref on ext idle due, he]; rfl
    · rw [run, d.shotEdge_empty ref on ext idle quiet empty, he]; rfl
    · have accepts : d.shotEdge ref = d.extAccept ref := d.shotEdge_accepts ref on ext idle quiet full
      have same : d.extPaths = ps := by
        rw [paths]
        refine List.filter_congr fun j _ => ?_
        cases d.tr.cyc.running <;> simp
      obtain ⟨inFlight, extPair, tokens, accepted, refusals, toll, flow, conf⟩ :=
        d.extAccept_fires ref i (Device.extPath_eq_some same pick) clear
      rw [accepts] at run
      exact ⟨_, run, inFlight, tokens, accepted, extPair, refusals, toll, flow, conf⟩
    · have accepts : d.shotEdge ref = d.extAccept ref := d.shotEdge_accepts ref on ext idle quiet full
      obtain ⟨i, path⟩ := Device.extPath_some_of_idle still some_path
      obtain ⟨inFlight, paid, failCount, failRun⟩ :=
        d.extAccept_skips ref i path still sel locked active barred (refPass_outside outside)
      rw [accepts] at run
      exact ⟨_, run, inFlight.trans idle, by rw [paid]; rfl, by rw [paid]; rfl, failCount, failRun⟩

end Sys2Proof

/-! SUPPORT. The ageing correction and the runs of the TDC calibration (R96 to R98, R101, R318). -/

namespace Sys2Proof.Machine

/-! ## The ageing correction (R101) -/

/-- The clamp binds exactly beyond 100 ppm (R101). -/
theorem clampCorr_binds (e : Int) : (e != clampCorr e) = decide (e < -109951163 ∨ 109951163 < e) := by
  rw [Bool.eq_iff_iff, bne_iff_ne, decide_eq_true_eq]
  unfold clampCorr corrMax
  omega

theorem Device.pushCorr_wired (s : Device) : s.pushCorr.Wired s := (Device.hwPump_wired _).trans ⟨rfl, rfl⟩

/-- The time base with the correction of `n` days, where the model gives `e` (R101). -/
def TimeBase.aged (b : TimeBase) (n : Nat) (e : Int) : TimeBase :=
  { b with hfxCorr := clampCorr e, ageDays := n % 2 ^ 16, corrHeld := false, corrClamped := e != clampCorr e }

/-- The correction taken into the time base, with the event of one that is clamped (R101). -/
def Device.aged (s : Device) (n : Nat) (e : Int) : Device :=
  let o : Device := { s with tr := { s.tr with tb := s.tr.tb.aged n e } }
  if e != clampCorr e then o.journal 0x102 (bitsOf 32 (clampCorr e)) n else o

theorem Device.aged_fields (s : Device) (n : Nat) (e : Int) :
    (s.aged n e).tr = { s.tr with tb := s.tr.tb.aged n e } ∧ (s.aged n e).land = s.land ∧ (s.aged n e).conf = s.conf ∧
      (s.aged n e).sec = s.sec ∧ (s.aged n e).toll.led = s.toll.led ∧ (s.aged n e).haw = s.haw := by
  unfold Device.aged
  dsimp only
  split
  · simp
  · exact ⟨rfl, rfl, rfl, rfl, rfl, rfl⟩

/-- While time is trusted the correction of the day is taken, and a primary pushes those of its secondaries (R101, R395). -/
theorem Device.ageRecompute_trusted (s : Device) (trusted : s.trusted = true) (primary : s.secondary = false) (n : Nat)
    (e : Int) (days : n = ageDays s.conf.calib.age s.land.tick) (eps : e = ageEps s.conf.calib.age n) :
    s.ageRecompute.Wired (s.aged n e) := by
  have recomputed : s.ageRecompute = if (s.aged n e).haw.role = 1 then (s.aged n e).pushCorr else s.aged n e := by
    rw [eps, days]
    simp only [Device.ageRecompute, primary, trusted, Bool.false_eq_true, if_false, if_true]
    rfl
  rw [recomputed]
  split
  · exact Device.pushCorr_wired _
  · exact .refl _

/-- While time is not trusted the last value is held (R101). -/
theorem Device.ageRecompute_untrusted (s : Device) (doubt : s.trusted = false) (primary : s.secondary = false) :
    s.ageRecompute = s.corrHold := by
  simp [Device.ageRecompute, Device.corrHold, doubt, primary]

theorem Device.corrHold_eq (s : Device) : s.corrHold = { s with
    tr := if s.secondary then s.tr else { s.tr with tb := { s.tr.tb with corrHeld := true } } } := by
  unfold Device.corrHold
  cases s.secondary <;> rfl

theorem Device.corrHold_primary (s : Device) (primary : s.secondary = false) :
    s.corrHold = { s with tr := { s.tr with tb := { s.tr.tb with corrHeld := true } } } :=
  if_neg (by simp [primary])

theorem Device.armMidnight_arms (s : Device) (primary : s.secondary = false) :
    s.armMidnight = s.arm 1 ((s.land.tick / 2831155200 + 1) * 2831155200) false := by
  simp only [Device.armMidnight, primary, Bool.false_eq_true, if_false, tpd]

section
variable {dt : Nat} {s : State} {d : Device}

theorem hfxCorrRecompute_runs (hd : d = (s.dev.elapse dt).woken 1) (up : d.up = true) (primary : d.secondary = false)
    (fired : d.fired 1 = true) :
    exec (.hfxCorrRecompute dt) s = .next { s with dev := d.ageRecompute.armMidnight } := by
  simp [exec, execHfxCorrRecompute, ← hd, up, primary, fired]

theorem hfxCorrRecompute_idle (hd : d = (s.dev.elapse dt).woken 1) (idle : d.secondary = true ∨ d.fired 1 = false) :
    exec (.hfxCorrRecompute dt) s = .next { s with dev := d } := by
  have stays : (d.up && !d.secondary && d.fired 1) = false := by
    obtain secondary | unfired := idle
    · simp [secondary]
    · simp [unfired]
  simp [exec, execHfxCorrRecompute, ← hd, stays]

end

/-! ## Triggers (R96) -/

theorem Tdc.trigger_full (t : Tdc) (temp : Int) (full : 2 ^ 20 ≤ t.pairsFull ∨ 2048 ≤ (temp - t.fullTemp).natAbs) :
    t.trigger temp = 2 := if_pos full

theorem Tdc.trigger_span (t : Tdc) (temp : Int) (few : t.pairsFull < 2 ^ 20) (near : (temp - t.fullTemp).natAbs < 2048)
    (span : 4096 ≤ t.pairsSpan ∨ 512 ≤ (temp - t.spanTemp).natAbs) : t.trigger temp = 1 :=
  (if_neg (by omega)).trans (if_pos span)

theorem Tdc.trigger_none (t : Tdc) (temp : Int) (few : t.pairsFull < 2 ^ 20) (near : (temp - t.fullTemp).natAbs < 2048)
    (fewSpan : t.pairsSpan < 4096) (nearSpan : (temp - t.spanTemp).natAbs < 512) : t.trigger temp = 0 :=
  (if_neg (by omega)).trans (if_neg (by omega))

/-! ## Steps (R96 to R98) -/

theorem spanOk_of {act : TdcSet} {raw : Nat} (low : 8192 ≤ raw) (high : raw ≤ 12287)
    (near : act.rawSpanRef = 0 ∨ 50 * ((raw : Int) - act.rawSpanRef).natAbs ≤ act.rawSpanRef) : spanOk act raw = true := by
  simp [spanOk, low, high, near]

theorem spanOk_not {act : TdcSet} {raw : Nat} (out : raw < 8192 ∨ 12287 < raw ∨ (act.rawSpanRef ≠ 0 ∧
    act.rawSpanRef < 50 * ((raw : Int) - act.rawSpanRef).natAbs)) : spanOk act raw = false := by
  simp only [spanOk, Bool.and_eq_false_iff, Bool.or_eq_false_iff, decide_eq_false_iff_not, beq_eq_false_iff_ne]
  omega

/-- A completed span run: its set waits as the shadow set, and its count begins afresh (R96, R97). -/
def Tdc.spanDone (t : Tdc) (temp : Int) : Tdc :=
  { t with due := 0, stepsDone := 0, hits := [], build := {}, shadow := t.build, pairsSpan := 0, spanTemp := temp
           shadowReady := true }

theorem Device.endCalRun_span (s : Device) :
    s.endCalRun false true = { s with tr := { s.tr with tdc := s.tr.tdc.spanDone s.land.dieTemp } } := rfl

/-- A rejected run stays due, and its third in a row is a fault (R98). -/
def Tdc.rejected (t : Tdc) (full : Bool) : Tdc :=
  { t with due := if full then 2 else 1, stepsDone := 0, hits := [], build := {}, failRun := satAdd 7 t.failRun 1
           fault := t.fault || decide (3 ≤ satAdd 7 t.failRun 1) }

theorem Device.endCalRun_rejected (s : Device) (full : Bool) :
    (s.endCalRun full false).tr = { s.tr with tdc := s.tr.tdc.rejected full } := by
  simp only [Device.endCalRun, Bool.false_eq_true, if_false, Tdc.rejected]
  split
  next third =>
    obtain ⟨run, -⟩ := third
    simp only [Device.journal_tr, Device.degrade_tr, run, decide_true, Bool.or_true]
  next other =>
    have stays : (s.tr.tdc.fault || decide (3 ≤ satAdd 7 s.tr.tdc.failRun 1)) = s.tr.tdc.fault := by
      cases fault : s.tr.tdc.fault with
      | true => rfl
      | false =>
        rw [Bool.false_or, decide_eq_false_iff_not]
        exact fun run => other ⟨run, fault⟩
    rw [stays]

/-- The first step of a run: an acceptable span enters the set that the run builds (R96, R98). -/
def Device.spanTaken (s : Device) (raw : Nat) : Device :=
  { s with tr := { s.tr with tdc := { s.tr.tdc with
    build := { s.tr.tdc.base with rawSpanNow := raw }, hits := [], stepsDone := 1 } } }

theorem Device.calStepRun_span (s : Device) (raw : Nat) (start : s.tr.tdc.stepsDone = 0)
    (ok : spanOk s.tr.tdc.act raw = true) :
    s.calStepRun (.span raw) = if s.tr.tdc.due == 2 then s.spanTaken raw else (s.spanTaken raw).endCalRun false true := by
  simp only [Device.calStepRun, start, ok, if_true]
  rfl

theorem Device.calStepRun_badSpan (s : Device) (raw : Nat) (start : s.tr.tdc.stepsDone = 0)
    (bad : spanOk s.tr.tdc.act raw = false) :
    s.calStepRun (.span raw) = s.endCalRun (s.tr.tdc.due == 2) false := by
  simp only [Device.calStepRun, start, bad, Bool.false_eq_true, if_true, if_false]

theorem Device.calStepRun_lastLoopback (s : Device) (a b : Nat) (full : s.tr.tdc.due = 2) (last : s.tr.tdc.stepsDone = 24) :
    (s.calStepRun (.loopback 7 a b)).tr.tdc = { s.tr.tdc with
      due := 0, stepsDone := 0, hits := [], build := {}, calCount := satInc s.tr.tdc.calCount, failRun := 0, fault := false
      pairsFull := 0, pairsSpan := 0, fullTemp := s.land.dieTemp, spanTemp := s.land.dieTemp, shadowReady := true
      shadow := { s.tr.tdc.build with
        delayA := s.tr.tdc.build.delayA.set 7 a, delayB := s.tr.tdc.build.delayB.set 7 b, calTick := s.land.tick
        calDieTemp := clampS 8 (openRound 39 s.land.dieTemp 256) } } := by
  have base : s.tr.tdc.base = s.tr.tdc.build := if_neg (by omega)
  simp [Device.calStepRun, full, last, base, Device.endCalRun]

section
variable {dt : Nat} {s : State} {d : Device}

theorem tdcCalTrigger_due (hd : d = s.dev.elapse dt) (up : d.up = true) (on : d.on .transit = true) (temp : Int) (k : Nat)
    (trigger : d.tr.tdc.trigger temp = k) (some_run : k ≠ 0) :
    exec (.tdcCalTrigger dt temp) s = .next { s with
      dev := Device.calDue { d with land := { d.land with dieTemp := temp } } k } := by
  simp [exec, execTdcCalTrigger, ← hd, up, on, trigger, some_run]

theorem tdcCalStep_runs (hd : d = s.dev.elapse dt) (up : d.up = true) (on : d.on .transit = true)
    (idle : d.tr.cyc.inFlight = none) (job : d.haw.job = none) (gap : d.gapOf 14 = true ∨ d.store.due.getD 0 false = true)
    (due : d.tr.tdc.due ≠ 0) (x : CalStep) :
    exec (.tdcCalStep dt x) s = .next { s with dev := (d.calStepRun x).stepRan 0 } := by
  have room : d.calGap = true := by
    simp only [Device.calGap, idle, job, Option.isNone_none, Bool.and_self, Bool.true_and, Bool.or_eq_true]
    exact gap
  simp [exec, execTdcCalStep, ← hd, up, on, due, room]

end

end Sys2Proof.Machine

namespace Sys2Proof
open Machine

/-- Settles O43: the correction is the model's within its clamp, and every step of a run writes the set that the run builds. -/
theorem calibrationOfTimeRunsInSteps : Obligations.CalibrationOfTimeRunsInSteps := by
  refine ⟨fun dt s d hd up => ⟨fun trusted primary fired n e hn he => ?_, fun doubt primary fired bat => ?_, fun idle => ?_⟩,
    fun dt s d hd up => ⟨fun on td => ⟨fun full => ?_, fun few near => ⟨fun span => ?_, fun fewSpan nearSpan => ?_⟩⟩,
      fun on idle job gap => ⟨fun raw start low high near => ⟨fun due => ?_, fun due => ?_⟩, fun raw start due out => ?_,
        fun a b due last => ?_⟩⟩⟩
  · have wired := d.ageRecompute_trusted trusted primary n e hn (hn ▸ he)
    obtain ⟨tr, land, conf, sec, led, haw⟩ := d.aged_fields n e
    have primary' : d.ageRecompute.secondary = false := by
      rw [← primary, Device.secondary, wired.2, haw]; rfl
    have tick : d.ageRecompute.land.tick = d.land.tick := by rw [wired.land, land]
    have run := hfxCorrRecompute_runs hd up primary fired
    rw [Device.armMidnight_arms _ primary', tick] at run
    refine ⟨_, run, ?_, fun bat => ?_, ?_, ?_, ?_, ?_⟩
    · rw [Device.arm_tr, wired.tr, tr, ← clampCorr_binds]
      rfl
    · have writable : d.ageRecompute.writable = true := by
        rw [Device.writable, wired.land, land, bat]; rfl
      rw [Device.arm_land _ _ _ _ writable, wired.land, land]; rfl
    · rw [Device.arm_land_tick, tick]
    · rw [Device.arm_conf, wired.conf, conf]
    · rw [Device.arm_sec, wired.sec, sec]
    · rw [Device.arm_toll, wired.toll, led]
  · have held := d.corrHold_primary primary
    have primary' : d.corrHold.secondary = false := by rw [held]; exact primary
    have writable : d.corrHold.writable = true := by rw [held, Device.writable, bat]; rfl
    rw [hfxCorrRecompute_runs hd up primary fired, d.ageRecompute_untrusted doubt primary,
      Device.armMidnight_arms _ primary', Device.arm, if_pos writable, held]
  · exact hfxCorrRecompute_idle hd idle
  · exact tdcCalTrigger_due hd up on td 2 (d.tr.tdc.trigger_full td full) (by decide)
  · exact tdcCalTrigger_due hd up on td 1 (d.tr.tdc.trigger_span td few near span) (by decide)
  · simp [exec, execTdcCalTrigger, ← hd, d.tr.tdc.trigger_none td few near fewSpan nearSpan]
  · refine ⟨_, tdcCalStep_runs hd up on idle job gap (by omega) _, ?_⟩
    rw [d.calStepRun_span raw start (spanOk_of low high near), due, if_neg (by decide), Device.endCalRun_span]
    exact ⟨rfl, rfl, rfl, rfl, rfl, rfl, rfl⟩
  · refine ⟨_, tdcCalStep_runs hd up on idle job gap (by omega) _, ?_⟩
    rw [d.calStepRun_span raw start (spanOk_of low high near), due, if_pos (by decide)]
    exact ⟨rfl, rfl, due, rfl, rfl, rfl, rfl⟩
  · refine ⟨_, tdcCalStep_runs hd up on idle job gap due _, ?_⟩
    rw [d.calStepRun_badSpan raw start (spanOk_not out), Device.stepRan_tr, Device.endCalRun_rejected]
    refine ⟨rfl, rfl, ?_, rfl, rfl, rfl, fun early => ?_, fun third => ?_⟩
    · simp [Tdc.rejected]
    · have short : ¬ 3 ≤ satAdd 7 d.tr.tdc.failRun 1 := by unfold satAdd; omega
      simp [Tdc.rejected, short]
    · simp [Tdc.rejected, third]
  · refine ⟨_, tdcCalStep_runs hd up on idle job gap (by omega) _, ?_⟩
    rw [Device.stepRan_tr, d.calStepRun_lastLoopback a b due last]
    exact ⟨rfl, rfl, rfl, rfl, rfl, rfl, rfl, rfl, rfl, rfl⟩

end Sys2Proof

/-! SUPPORT. The stop of LFX: the event that it leaves, and what time does to a stopped Landing (R101, R303, R331, R464). -/

namespace Sys2Proof.Machine

/-! ## Landing events in the journal (R331, R464) -/

theorem Device.tamperWith_booked (s : Device) (k t : Nat) (u : Bool) : (s.tamperWith k t u).Booked s := by
  unfold Device.tamperWith
  split
  · split
    · exact .refl s
    · dsimp only
      split
      · exact (Device.commit_booked _).trans rfl
      · exact (Device.journalWith_booked ..).trans rfl
  · exact .refl s

theorem booked_ite {c : Prop} [Decidable c] {a b x : Device} (h : a.Booked x) (k : b.Booked x) :
    (if c then a else b).Booked x := by
  split <;> assumption

theorem Device.journalLand_booked (s : Device) (e : LandEvent) : (s.journalLand e).Booked s := by
  have noted : (s.journalWith e.tick e.untrusted e.code e.arg0 e.arg1).Booked s := s.journalWith_booked ..
  have counted (k : Nat) := (Device.tamperWith_booked (s.journalWith e.tick e.untrusted e.code e.arg0 e.arg1) k e.tick
    e.untrusted).trans noted
  exact booked_ite (counted 8) (booked_ite (counted 6) (booked_ite (counted 7) noted))

theorem foldl_journalLand_booked (l : List LandEvent) (s : Device) : (l.foldl Device.journalLand s).Booked s := by
  induction l generalizing s with
  | nil => exact .refl s
  | cons e l ih => exact (ih _).trans (s.journalLand_booked e)

/-- A count of tamper enters at most one event (R465). -/
theorem Device.tamperWith_jnl (s : Device) (k t : Nat) (u : Bool) :
    (s.tamperWith k t u).jnl = s.jnl ∨ ∃ e, (s.tamperWith k t u).jnl = s.jnl.add e := by
  unfold Device.tamperWith
  split
  · split
    · exact .inl rfl
    · dsimp only
      split
      · exact .inl (by simp)
      · unfold Device.journalWith
        split
        · exact .inl rfl
        · exact .inr ⟨_, Device.commit_jnl _⟩
  · exact .inl rfl

/-- An event stays in the journal of 2048 as the next one enters (R290). -/
theorem Journal.mem_add_add (j : Journal) (e x : JEntry) : e ∈ ((j.add e).add x).entries := by
  simp [Journal.add]

/-- A stop of LFX on a device that is no secondary stands in the journal, and counts as tamper (R331, R464). -/
theorem Device.journalLand_stop (s : Device) (t : Nat) (primary : s.secondary = false) :
    (⟨t, 0x403, true, 1, 0⟩ : JEntry) ∈ (s.journalLand ⟨0x403, t, 1, 0, true⟩).jnl.entries := by
  have entered : (s.journalWith t true 0x403 1 0).jnl = s.jnl.add ⟨t, 0x403, true, 1, 0⟩ := by
    simp [Device.journalWith, primary, wrapU]
  change _ ∈ ((s.journalWith t true 0x403 1 0).tamperWith 7 t true).jnl.entries
  obtain same | ⟨e, more⟩ := Device.tamperWith_jnl (s.journalWith t true 0x403 1 0) 7 t true
  · rw [same, entered]
    simp [Journal.add]
  · rw [more, entered]
    exact Journal.mem_add_add ..

/-! ## LFX_STOP and LFX_RESTART (R303) -/

theorem Device.elapse_stopped (s : Device) (n : Nat) (stopped : s.land.lfxRunning = false) :
    s.elapse n = { s with store := (s.elapse n).store } := by
  have still : s.ticking = false := by simp [Device.ticking, stopped]
  simp [Device.elapse, still]

theorem Device.landed_of {d : Device} (live : d.land.supply ≠ .lost) (out : d.power.st ≠ .ship) : d.landed = true := by
  simp [Device.landed, live, out]

/-- The Landing that has stopped, with the event of its stop waiting, and the ageing correction held (R101, R303, R331). -/
def Device.stopQueued (d : Device) : Device :=
  { d with
    tr := if d.secondary then d.tr else { d.tr with tb := { d.tr.tb with corrHeld := true } }
    land := { d.land with
      lfxRunning := false, oscStopped := true, queued := d.land.queued ++ [⟨0x403, d.land.tick, 1, 0, true⟩] } }

theorem lfxStop_queues {dt : Nat} {s : State} {d : Device} (hd : d = s.dev.elapse dt) (live : d.land.supply ≠ .lost)
    (out : d.power.st ≠ .ship) (runs : d.land.lfxRunning = true) :
    exec (.lfxStop dt) s = .next { s with
      dev := if d.up && d.awake then d.stopQueued.flushEvents else d.stopQueued } := by
  have acts : (d.landed && d.land.lfxRunning) = true := by rw [Device.landed_of live out, runs]; rfl
  simp only [exec, execLfxStop, ← hd, acts, if_true, Device.corrHold_eq]
  rfl

/-- In a domain that is up and awake the events that wait are journalled at once, that of the stop last (R331). -/
theorem Device.stopQueued_flushed (d : Device) (primary : d.secondary = false) :
    d.stopQueued.flushEvents.Booked { d with
      tr := { d.tr with tb := { d.tr.tb with corrHeld := true } }
      land := { d.land with lfxRunning := false, oscStopped := true, queued := [] } } ∧
    (⟨d.land.tick, 0x403, true, 1, 0⟩ : JEntry) ∈ d.stopQueued.flushEvents.jnl.entries := by
  have held : d.stopQueued.tr = { d.tr with tb := { d.tr.tb with corrHeld := true } } :=
    if_neg (by simp [primary])
  have flushed : d.stopQueued.flushEvents = (d.land.queued.foldl Device.journalLand { d with
      tr := { d.tr with tb := { d.tr.tb with corrHeld := true } }
      land := { d.land with lfxRunning := false, oscStopped := true, queued := [] } }).journalLand
        ⟨0x403, d.land.tick, 1, 0, true⟩ := by
    unfold Device.flushEvents
    rw [held]
    exact List.foldl_append
  have before := foldl_journalLand_booked d.land.queued { d with
    tr := { d.tr with tb := { d.tr.tb with corrHeld := true } }
    land := { d.land with lfxRunning := false, oscStopped := true, queued := [] } }
  rw [flushed]
  refine ⟨(Device.journalLand_booked ..).trans before, Device.journalLand_stop _ _ ?_⟩
  unfold Device.Booked at before
  rw [before]
  exact primary

end Sys2Proof.Machine

namespace Sys2Proof
open Machine

/-- Settles O16: the stop writes the Landing's flags and its event, and a device whose LFX stands lets no time pass. -/
theorem lfxStopHoldsTheCount : Obligations.LfxStopHoldsTheCount := by
  intro dt s d hd live out
  refine ⟨fun runs asleep => ?_, fun runs up awake primary => ?_, ?_⟩
  · rw [lfxStop_queues hd live out runs, asleep]
    rfl
  · obtain ⟨booked, entered⟩ := d.stopQueued_flushed primary
    have tr := (congrArg Device.tr booked).trans rfl
    have run := lfxStop_queues hd live out runs
    rw [up, awake] at run
    refine ⟨_, run, ?_, entered, ?_, booked.land, fun n => Device.elapse_stopped _ n ?_⟩
    · exact congrArg Landing.queued booked.land
    · exact congrArg (fun x : Transit => x.tb.corrHeld) tr
    · exact congrArg Landing.lfxRunning booked.land
  · simp [exec, execLfxRestart, ← hd, Device.landed_of live out]

end Sys2Proof

/-! SUPPORT. A correction slot: the cycle that it counts twice or not at all (R151, R299, R319). -/

namespace Sys2Proof.Machine

theorem Landing.elapse_prev (l : Landing) {n : Nat} (later : 1 ≤ n) :
    (l.elapse n).prev = min (l.tick + (n - 1)) tickMax := by
  have moved : n ≠ 0 := by omega
  unfold Landing.elapse
  rw [if_neg moved]
  rfl

theorem Device.elapse_land_ticking (d : Device) (n : Nat) (runs : d.ticking = true) :
    (d.elapse n).land = d.land.elapse n := by
  simp [Device.elapse, runs]

/-- `prev` is the count one oscillator cycle earlier, where a skip returns to (R299). -/
theorem Device.elapse_prev (d : Device) {n : Nat} (runs : d.ticking = true) (range : d.land.tick ≤ tickMax) (later : 1 ≤ n) :
    (d.elapse n).land.prev = (d.elapse (n - 1)).land.tick := by
  rw [d.elapse_land_ticking _ runs, d.elapse_land_ticking _ runs, Landing.elapse_prev _ later, Landing.elapse_tick _ _ range]

theorem Device.correct_add (d : Device) (owed : 0 < d.land.corrOwed) :
    d.correct = { d with
      tr := { d.tr with ext := d.tr.ext.refill (d.conf.g.shot.getD {}) 1 }
      land := Landing.fireAlarms { d.land with
        corrAt := d.land.osc, corrOwed := d.land.corrOwed - 1, tick := min (d.land.tick + 1) tickMax } } := by
  simp [Device.correct, Device.correctTokens, Landing.correct, owed]

theorem Device.correct_skip (d : Device) (owed : d.land.corrOwed < 0) :
    d.correct = { d with
      tr := { d.tr with ext := d.tr.ext.unfill }
      land := { d.land with
        corrAt := d.land.osc, corrOwed := d.land.corrOwed + 1, tick := d.land.prev
        alarms := d.land.alarms.map Alarm.unreach } } := by
  have skips : ¬ 0 < d.land.corrOwed := by omega
  simp [Device.correct, Device.correctTokens, Landing.correct, owed, skips]

theorem Device.correct_none (d : Device) (even : d.land.corrOwed = 0) :
    d.correct = { d with land := { d.land with corrAt := d.land.osc } } := by
  simp [Device.correct, Device.correctTokens, Landing.correct, even]

theorem correctionApply_slot {dt : Nat} {s : State} {d : Device} (hd : d = s.dev.elapse dt) (runs : d.ticking = true)
    (slot : (d.land.osc - d.land.divAt) % 256 = 0) (unserved : d.land.osc ≠ d.land.corrAt) :
    exec (.correctionApply dt) s = .next { s with dev := d.correct } := by
  simp [exec, execCorrectionApply, ← hd, runs, Landing.correctionDue, slot, unserved]

theorem correctionApply_between {dt : Nat} {s : State} {d : Device} (hd : d = s.dev.elapse dt)
    (between : (d.land.osc - d.land.divAt) % 256 ≠ 0) : exec (.correctionApply dt) s = .next { s with dev := d } := by
  simp [exec, execCorrectionApply, ← hd, Landing.correctionDue, between]

end Sys2Proof.Machine

namespace Sys2Proof
open Machine

/-- Settles O17, by the three signs of `corr_owed` at a slot. -/
theorem correctionSlotMovesTheCountByOne : Obligations.CorrectionSlotMovesTheCountByOne := by
  intro dt s d hd
  refine ⟨fun runs slot unserved => ?_, correctionApply_between hd, fun runs range later => ?_⟩
  · rw [correctionApply_slot hd runs slot unserved]
    refine ⟨fun owed => ⟨d.tr.ext.refill (d.conf.g.shot.getD {}) 1, ?_, rfl, ?_⟩, fun owed => ?_, fun even => ?_⟩
    · rw [d.correct_add owed]; rfl
    · simp [ExtShot.refill, ExtShot.level]
    · rw [d.correct_skip owed]; rfl
    · rw [d.correct_none even]
  · rw [hd]
    exact s.dev.elapse_prev runs range later

end Sys2Proof

/-! SUPPORT. How deep in the journal an event stands once later ones have been entered (R290, R331, R464). -/

namespace Sys2Proof.Machine

/-- A new entry moves those that stand in the journal down by one place (R290). -/
theorem Journal.latest_add {j : Journal} {x : JEntry} {n : Nat} (e : JEntry) (stands : x ∈ j.entries.take n)
    (room : n + 1 ≤ 2048) : x ∈ (j.add e).entries.take (n + 1) := by
  rw [Journal.add, List.take_take, Nat.min_eq_left room, List.take_succ_cons]
  exact List.mem_cons_of_mem e stands

theorem Device.tamperWith_latest (s : Device) (k t : Nat) (u : Bool) {x : JEntry} {n : Nat} (stands : x ∈ s.jnl.entries.take n)
    (room : n + 1 ≤ 2048) : x ∈ (s.tamperWith k t u).jnl.entries.take (n + 1) := by
  obtain same | ⟨e, more⟩ := s.tamperWith_jnl k t u
  · rw [same]
    exact (List.take_sublist_take_left (Nat.le_succ n)).mem stands
  · rw [more]
    exact Journal.latest_add e stands room

/-- An event's entry (R290, R331). -/
def LandEvent.entry (e : LandEvent) : JEntry := ⟨e.tick, e.code, e.untrusted, wrapU 32 e.arg0, wrapU 32 e.arg1⟩

theorem Device.journalWith_jnl (s : Device) (t : Nat) (u : Bool) (c a b : Nat) (primary : s.secondary = false) :
    (s.journalWith t u c a b).jnl = s.jnl.add ⟨t, c, u, wrapU 32 a, wrapU 32 b⟩ := by
  simp [Device.journalWith, primary]

/-- Of an event at most the entry of the tamper that it counts is newer than its own (R464). -/
theorem Device.journalLand_latest (s : Device) (e : LandEvent) (primary : s.secondary = false) {x : JEntry} {n : Nat}
    (stands : x ∈ (s.jnl.add e.entry).entries.take n) (room : n + 1 ≤ 2048) :
    x ∈ (s.journalLand e).jnl.entries.take (n + 1) := by
  have entered : x ∈ (s.journalWith e.tick e.untrusted e.code e.arg0 e.arg1).jnl.entries.take n := by
    rw [s.journalWith_jnl _ _ _ _ _ primary]
    exact stands
  have counted (k : Nat) := Device.tamperWith_latest _ k e.tick e.untrusted entered room
  unfold Device.journalLand
  dsimp only
  split
  · exact counted 8
  split
  · exact counted 6
  split
  · exact counted 7
  · exact (List.take_sublist_take_left (Nat.le_succ n)).mem entered

theorem Device.journalLand_enters (s : Device) (e : LandEvent) (primary : s.secondary = false) :
    e.entry ∈ (s.journalLand e).jnl.entries.take 2 :=
  s.journalLand_latest e primary (by simp [Journal.add]) (by decide)

theorem Device.journalLand_keeps (s : Device) (e : LandEvent) (primary : s.secondary = false) {x : JEntry} {n : Nat}
    (stands : x ∈ s.jnl.entries.take n) (room : n + 2 ≤ 2048) : x ∈ (s.journalLand e).jnl.entries.take (n + 2) :=
  s.journalLand_latest e primary (Journal.latest_add e.entry stands (by omega)) room

theorem Device.Booked.secondary {t s : Device} (h : t.Booked s) : t.secondary = s.secondary := by
  unfold Device.Booked at h; exact (congrArg Device.secondary h).trans rfl

theorem foldl_journalLand_keeps (l : List LandEvent) (s : Device) (primary : s.secondary = false) {x : JEntry} {n : Nat}
    (stands : x ∈ s.jnl.entries.take n) (room : n + 2 * l.length ≤ 2048) :
    x ∈ (l.foldl Device.journalLand s).jnl.entries.take (n + 2 * l.length) := by
  induction l generalizing s n with
  | nil => exact stands
  | cons e l ih =>
    rw [List.length_cons] at room ⊢
    have next := ih (s.journalLand e) ((s.journalLand_booked e).secondary.trans primary)
      (s.journalLand_keeps e primary stands (by omega)) (by omega)
    rwa [show n + 2 * (l.length + 1) = n + 2 + 2 * l.length by omega]

/-- Each of at most 1024 events entered one after the other stands in the journal of 2048 (R290, R331). -/
theorem foldl_journalLand_enters (l : List LandEvent) (s : Device) (primary : s.secondary = false) (few : l.length ≤ 1024)
    (e : LandEvent) (waits : e ∈ l) : e.entry ∈ (l.foldl Device.journalLand s).jnl.entries := by
  induction l generalizing s with
  | nil => exact absurd waits List.not_mem_nil
  | cons a l ih =>
    rw [List.length_cons] at few
    have primary' := (s.journalLand_booked a).secondary.trans primary
    rcases List.mem_cons.mp waits with rfl | later
    · exact List.mem_of_mem_take (foldl_journalLand_keeps l _ primary' (s.journalLand_enters e primary) (by omega))
    · exact ih _ primary' (by omega) later

theorem Device.flushEvents_booked (s : Device) :
    s.flushEvents.Booked { s with land := { s.land with queued := [] } } :=
  foldl_journalLand_booked ..

theorem Device.flushEvents_enters (s : Device) (primary : s.secondary = false) (few : s.land.queued.length ≤ 1024)
    (e : LandEvent) (waits : e ∈ s.land.queued) : e.entry ∈ s.flushEvents.jnl.entries :=
  foldl_journalLand_enters s.land.queued { s with land := { s.land with queued := [] } } primary few e waits

/-! ## The wake (R472, R474) -/

/-- The device that source `n` has brought to DOZE, its events still waiting (R125, R325, R394, R472, R474). -/
def Device.roused (d : Device) (n : Nat) : Device :=
  { d with
    power := { d.power with st := .doze, wakes := min (d.power.wakes + 1) (2 ^ 32 - 1), wakeSrc := n }
    land := { d.land with pwrEn := d.land.supply == .bat && (d.land.pwrEnMode == 1 || d.land.pwrEnMode == 2) }
    haw := if n = 6 then { d.haw with wakeReq := false, lastFrame := d.land.osc, attending := true } else d.haw
    opt := if n = 4 ∨ (n = 5 ∧ d.power.st = .hibernate) then { d.opt with active := true, lastChar := d.land.osc } else d.opt
    tr := if d.power.st = .hibernate then d.reloadBank0.tr else d.tr }

theorem Device.pwrLevel_doze {d : Device} (doze : d.power.st = .doze) :
    d.pwrLevel = (d.land.supply == .bat && (d.land.pwrEnMode == 1 || d.land.pwrEnMode == 2)) := by
  have powered : (PState.doze != .ship) = true := rfl
  simp [Device.pwrLevel, Device.awake, doze, powered]

/-- The wake takes a latched match, and no other source touches the Hawser (R394). -/
theorem Device.attend_haw_of_match (d : Device) (n : Nat) :
    { (if n = 6 then d.attend.haw else d.haw) with wakeReq := d.haw.wakeReq && n != 6 } =
      if n = 6 then { d.haw with wakeReq := false, lastFrame := d.land.osc, attending := true } else d.haw := by
  by_cases taken : n = 6
  · simp [taken, Device.attend]
  · have other : (n != 6) = true := bne_iff_ne.mpr taken
    simp [taken, other]

theorem Device.wakeUp_eq (d : Device) (n : Nat) :
    d.wakeUp n (d.power.st == .hibernate) = (d.roused n).flushEvents := by
  refine congrArg Device.flushEvents ?_
  rw [Device.pwrUpdate, Device.pwrLevel_doze rfl, Device.roused, ← d.attend_haw_of_match n]
  by_cases hib : d.power.st = .hibernate
  · simp [hib, Device.reloadBank0, Device.attend, satInc, satAdd, maxU]
  · simp [hib, satInc, satAdd, maxU]

/-- The source `n` acts in the state in which the device sleeps (R474). -/
def Device.Sources (d : Device) (n : Nat) : Prop :=
  (n = 1 ∧ d.land.alarms.any (·.fired) = true) ∨ n = 5 ∨ (n = 7 ∧ d.land.fifo ≠ []) ∨
    (n = 8 ∧ d.sec.trstHigh = true ∧ d.sec.lc ≠ .sealed) ∨
    (d.power.st = .nap ∧ ((n = 2 ∧ d.tr.cyc.shotIn = some 0) ∨ n = 3 ∨ n = 4 ∨ (n = 6 ∧ d.haw.wakeReq = true)))

theorem Device.wakes_of_sources {d : Device} {n : Nat} (source : d.Sources n) :
    d.wakes n (d.power.st == .hibernate) = true := by
  rcases source with ⟨rfl, fired⟩ | rfl | ⟨rfl, full⟩ | ⟨rfl, high, unsealed⟩ | ⟨nap, ⟨rfl, timer⟩ | rfl | rfl | ⟨rfl, latched⟩⟩
  · exact fired
  · rfl
  · simpa [Device.wakes] using full
  · simp [Device.wakes, high, unsealed]
  · simp [Device.wakes, nap, timer]
  · simp [Device.wakes, nap]
  · simp [Device.wakes, nap]
  · simp [Device.wakes, nap, latched]

theorem Device.woken_of_sources {d : Device} {n : Nat} (up : d.up = true) (sleeps : d.power.st = .nap ∨ d.power.st = .hibernate)
    (source : d.Sources n) : d.woken n = (d.roused n).flushEvents := by
  have asleep : (d.power.st == .hibernate || d.power.st == .nap) = true := by
    rcases sleeps with nap | hib
    · rw [nap]; rfl
    · rw [hib]; rfl
  rw [← d.wakeUp_eq n]
  simp [Device.woken, up, asleep, Device.wakes_of_sources source]

/-- The shot timer, SHOT, OPT_RX and the Hawser match do nothing in HIBERNATE (R474). -/
theorem Device.woken_deaf {d : Device} {n : Nat} (hib : d.power.st = .hibernate) (deaf : n = 2 ∨ n = 3 ∨ n = 4 ∨ n = 6) :
    d.woken n = d := by
  rcases deaf with rfl | rfl | rfl | rfl <;> simp [Device.woken, Device.wakes, hib]

theorem Device.woken_awake {d : Device} (n : Nat) (awake : d.power.st = .doze ∨ d.power.st = .run) : d.woken n = d := by
  rcases awake with doze | run
  · simp [Device.woken, doze]
  · simp [Device.woken, run]

theorem Device.roused_secondary (d : Device) (n : Nat) : (d.roused n).secondary = d.secondary := by
  unfold Device.roused Device.secondary
  dsimp only
  split <;> rfl

end Sys2Proof.Machine

namespace Sys2Proof
open Machine

/-- Settles O33: a source that acts rouses the device, and entering the waiting events writes the record books only. -/
theorem wakesBringDoze : Obligations.WakesBringDoze := by
  intro dt n s d hd up
  have run : exec (.wake dt n) s = .next { s with dev := d.woken n } := by rw [hd]; rfl
  refine ⟨fun sleeps source => ⟨d.woken n, run, ?_⟩, fun hib deaf => ?_, fun awake => ?_, run⟩
  · rw [Device.woken_of_sources up sleeps source]
    have booked := (d.roused n).flushEvents_booked
    have life := (d.roused n).flushEvents_life
    have keys := (d.roused n).flushEvents_kept.1
    have enters := (d.roused n).flushEvents_enters
    unfold Device.Booked at booked
    refine ⟨(congrArg Device.power booked).trans rfl, (congrArg Device.land booked).trans rfl, fun primary few e waits => ?_,
      (congrArg Device.haw booked).trans rfl, (congrArg Device.opt booked).trans rfl, fun nap => ?_,
      (congrArg Device.conf booked).trans rfl, (congrArg Device.fn booked).trans rfl, congrArg Prod.fst life, keys⟩
    · exact enters ((d.roused_secondary n).trans primary) few e waits
    · have sameTr : (d.roused n).tr = d.tr := if_neg (by simp [nap])
      exact (congrArg Device.tr booked).trans sameTr
  · rw [run, Device.woken_deaf hib deaf]
  · rw [run, Device.woken_awake n awake]

end Sys2Proof

/-! SUPPORT. The pulse outputs (R181). -/

namespace Sys2Proof.Machine

theorem Device.pulsing_of_live {d : Device} (live : d.land.supply ≠ .lost) (out : d.power.st ≠ .ship)
    (running : d.land.lfxRunning = true) {i : Nat} (output : i < 2) : d.pulsing i = true := by
  simp [Device.pulsing, Device.landed_of live out, running, output]

theorem PulseCh.ready_of_owed {c : PulseCh} (owed : 0 < c.owed) (free : c.phase = .idle ∨ c.phase = .gap ∧ c.remain = 0) :
    c.ready = true := by
  rcases free with idle | ⟨gap, passed⟩
  · simp [PulseCh.ready, idle, owed]
  · simp [PulseCh.ready, gap, passed, owed]

section
variable {dt i : Nat} {s : State} {d : Device} (hd : d = s.dev.elapse dt)
include hd

theorem pulseOutStart_begins (works : d.pulsing i = true) (on : d.on .pulseOut = true) (ready : (d.pulse.ch i).ready = true) :
    exec (.pulseOutStart dt i) s =
      .next { s with dev := { d with pulse := d.pulse.setCh i ((d.pulse.ch i).start d.pulse.width) } } := by
  simp [exec, execPulseOutStart, ← hd, works, on, ready]

theorem pulseOutRelease_ends (works : d.pulsing i = true) (low : (d.pulse.ch i).phase = .low)
    (passed : (d.pulse.ch i).remain = 0) :
    exec (.pulseOutRelease dt i) s =
      .next { s with dev := { d with pulse := d.pulse.setCh i ((d.pulse.ch i).release d.pulse.gap) } } := by
  simp [exec, execPulseOutRelease, ← hd, works, low, passed]

theorem pulseOutRelease_waits (early : 0 < (d.pulse.ch i).remain) :
    exec (.pulseOutRelease dt i) s = .next { s with dev := d } := by
  simp [exec, execPulseOutRelease, ← hd, Nat.ne_of_gt early]

end

end Sys2Proof.Machine

namespace Sys2Proof
open Machine

/-- Settles O25: each output starts, and is released, where its channel allows it. -/
theorem pulseOutputsEmitWhatIsOwed : Obligations.PulseOutputsEmitWhatIsOwed := by
  intro dt s d hd live out running
  have works0 : d.pulsing 0 = true := Device.pulsing_of_live live out running (by decide)
  have works1 : d.pulsing 1 = true := Device.pulsing_of_live live out running (by decide)
  refine ⟨fun on owed free => ?_, fun on owed free => ?_, fun low passed => ?_, fun low passed => ?_, fun early => ?_,
    fun early => ?_⟩
  · exact pulseOutStart_begins hd works0 on (PulseCh.ready_of_owed owed free)
  · exact pulseOutStart_begins hd works1 on (PulseCh.ready_of_owed owed free)
  · exact pulseOutRelease_ends hd works0 low passed
  · exact pulseOutRelease_ends hd works1 low passed
  · exact pulseOutRelease_waits hd (i := 0) early
  · exact pulseOutRelease_waits hd (i := 1) early

end Sys2Proof

/-! SUPPORT. The supply back at BAT, and a Landing that restarts (R305, R322, R324). -/

namespace Sys2Proof.Machine

/-! ## The tamper inputs with room in their FIFO (R330) -/

/-- `t` is `s` but for the states of seal, case and magnet, and at most `n` more entries in the FIFO. -/
structure Device.Entered (t s : Device) (n : Nat) : Prop where
  rest : t = { s with land := { s.land with
    sealSt := t.land.sealSt, caseOpen := t.land.caseOpen, mag := t.land.mag, fifo := t.land.fifo } }
  fifo : t.land.fifo.length ≤ s.land.fifo.length + n

theorem Device.Entered.refl (s : Device) (n : Nat) : s.Entered s n := ⟨rfl, Nat.le_add_right ..⟩

theorem Device.Entered.trans {a b c : Device} {m n : Nat} (h : a.Entered b m) (k : b.Entered c n) : a.Entered c (n + m) := by
  have one := h.fifo
  have two := k.fifo
  exact ⟨by rw [h.rest, k.rest], by omega⟩

theorem Device.Entered.tamperIn {t s : Device} {n : Nat} (h : t.Entered s n) (k : TamperIn) (room : t.land.fifo.length < 8) :
    (t.tamperIn k).Entered s (n + 1) := by
  refine .trans ?_ h
  rw [t.tamperIn_room k room]
  exact ⟨rfl, by simp⟩

theorem Device.setSeal_entered (s : Device) (v : SealState) (room : s.land.fifo.length < 8) : (s.setSeal v).Entered s 1 := by
  have changed : ({ s with land := { s.land with sealSt := v } } : Device).Entered s 0 := ⟨rfl, Nat.le_refl _⟩
  unfold Device.setSeal
  split
  · exact .refl s 1
  · cases v
    case notMonitored => exact ⟨rfl, Nat.le_succ _⟩
    all_goals exact changed.tamperIn _ room

theorem Device.setCaseMag_entered (s : Device) (pin : CaseMag) (high : Bool) (room : s.land.fifo.length < 8) :
    (s.setCaseMag pin high).Entered s 1 := by
  have caseChanged : ({ s with land := { s.land with caseOpen := high } } : Device).Entered s 0 := ⟨rfl, Nat.le_refl _⟩
  have magChanged : ({ s with land := { s.land with mag := high } } : Device).Entered s 0 := ⟨rfl, Nat.le_refl _⟩
  unfold Device.setCaseMag
  cases pin <;> dsimp only <;> split
  · exact .refl s 1
  · exact caseChanged.tamperIn _ room
  · exact .refl s 1
  · exact magChanged.tamperIn _ room

/-- The inputs evaluated afresh make one entry each. -/
theorem Device.evalPins_entered (s : Device) (p : PinLevels) (room : s.land.fifo.length ≤ 5) : (s.evalPins p).Entered s 3 := by
  unfold Device.evalPins
  split
  · exact .refl s 3
  · extract_lets land s0 s1
    have afresh : s0.Entered s 0 := ⟨rfl, Nat.le_refl _⟩
    have sealSeen : s1.Entered s0 1 := by
      have room0 : s0.land.fifo.length < 8 := Nat.lt_of_le_of_lt room (by decide)
      simp only [s1]
      split
      · split
        · exact s0.setSeal_entered _ room0
        · split
          · exact s0.setSeal_entered _ room0
          · exact .refl s0 1
      · exact .refl s0 1
    have one := sealSeen.trans afresh
    have room1 := one.fifo
    have two := (s1.setCaseMag_entered .casePin p.caseHigh (by omega)).trans one
    have room2 := two.fifo
    exact (Device.setCaseMag_entered _ .magPin p.magHigh (by omega)).trans two

/-! ## The return to BAT (R305, R322, R324) -/

/-- The Landing after LOST: its restart counted, the pulses of enabled inputs lost, and what the cold start journals
(R324, R327). -/
def Landing.restartLost (l : Landing) (t : Nat) : Landing :=
  { l.restart t with
    plsLost := l.plsLost ||| l.plsEn
    cnt := { l.cntMirror with lostCount := satInc l.cntMirror.lostCount }
    queued := [⟨0x406, t, t % 2 ^ 32, t / 2 ^ 32, true⟩, ⟨0x403, t, 2, 0, true⟩] ++
      (if l.plsEn = 0 then [] else [⟨0x407, t, l.plsEn, 0, true⟩]) }

/-- The restart empties the FIFO, so that evaluating the inputs writes their states and the FIFO only. -/
theorem Device.landRestart_lost (s : Device) (pins : PinLevels) :
    (s.landRestart pins 2).Entered { s with
      land := { s.land.restartLost s.store.latestCommit with cal := timeNow s.bill.calActive s.store.latestCommit }
      pulse := s.pulse.lose, power := { s.power with landRestarted := true, resetUntil := 0 } } 3 := by
  have events : (if s.land.plsEn != 0 then [(⟨0x407, s.store.latestCommit, s.land.plsEn, 0, true⟩ : LandEvent)] else []) =
      if s.land.plsEn = 0 then [] else [⟨0x407, s.store.latestCommit, s.land.plsEn, 0, true⟩] := by
    by_cases none : s.land.plsEn = 0 <;> simp [none]
  have start : s.landRestart pins 2 = Device.evalPins { s with
      land := { s.land.restartLost s.store.latestCommit with cal := timeNow s.bill.calActive s.store.latestCommit }
      pulse := s.pulse.lose, power := { s.power with landRestarted := true, resetUntil := 0 } } pins := by
    unfold Device.landRestart Landing.restartLost
    rw [← events]
    rfl
  rw [start]
  exact Device.evalPins_entered _ pins (Nat.zero_le 5)

theorem supplyBat_returns {dt : Nat} {s : State} {d : Device} (hd : d = s.dev.elapse dt) (out : d.power.st ≠ .ship)
    (pins : PinLevels) : exec (.supplyBat dt pins) s = .next { s with dev := d.supplyBack pins } := by
  simp [exec, execSupplyBat, ← hd, out]

/-- `PWR_EN` where the supply is BAT and the device is out of SHIP (R325). -/
theorem Device.pwrUpdate_bat (s : Device) (bat : s.land.supply = .bat) (out : s.power.st ≠ .ship) :
    s.pwrUpdate = { s with land := { s.land with
      pwrEn := s.land.pwrEnMode == 1 || (s.land.pwrEnMode == 2 && s.awake) } } := by
  simp [Device.pwrUpdate, Device.pwrLevel, bat, out]

/-- From LOST: the restarted Landing, with the states of the inputs evaluated afresh and `PWR_EN` as its mode gives. -/
theorem Device.supplyBack_lost (s : Device) (pins : PinLevels) (lost : s.land.supply = .lost) (out : s.power.st ≠ .ship) :
    ∃ l : Landing, s.supplyBack pins = { s with
        land := l, pulse := s.pulse.lose
        power := { s.power with landRestarted := true, coldDue := true, startCause := 1, resetUntil := 0 } } ∧
      l = { s.land.restartLost s.store.latestCommit with
        cal := l.cal, sealSt := l.sealSt, caseOpen := l.caseOpen, mag := l.mag, fifo := l.fifo
        pwrEn := s.land.pwrEnMode == 1 || (s.land.pwrEnMode == 2 && s.awake) } := by
  have back : s.supplyBack pins = (s.landRestart pins 2).pwrUpdate.coldFor 1 := by rw [Device.supplyBack, lost]
  have restarted := (s.landRestart_lost pins).rest
  have bat : (s.landRestart pins 2).land.supply = .bat := by rw [restarted]; rfl
  have still : (s.landRestart pins 2).power.st ≠ .ship := by rw [restarted]; exact out
  rw [back, Device.pwrUpdate_bat _ bat still, restarted]
  exact ⟨_, rfl, rfl⟩

end Sys2Proof.Machine

namespace Sys2Proof
open Machine

/-- Settles O15: BAT_LOCK and BKP go on with the Landing as it was, LOST with a restarted one. -/
theorem supplyReturns : Obligations.SupplyReturns := by
  intro dt pins s d hd out
  have run := supplyBat_returns hd out pins
  refine ⟨fun lock => ?_, fun bkp => ?_, fun lost => ?_⟩
  · have back : d.supplyBack pins = (Device.pwrUpdate { d with land := d.land.unlock }).coldFor 1 := by
      rw [Device.supplyBack, lock]
    rw [run, back, Device.pwrUpdate_bat { d with land := d.land.unlock } rfl out]
    rfl
  · have back : d.supplyBack pins = (Device.pwrUpdate { d with land := d.land.leaveBkp }).coldFor 1 := by
      rw [Device.supplyBack, bkp]
    rw [run, back, Device.pwrUpdate_bat { d with land := d.land.leaveBkp } rfl out, ← d.untrusted_land]
    rfl
  · obtain ⟨l, back, land⟩ := d.supplyBack_lost pins lost out
    refine ⟨_, run, ?_⟩
    rw [back, land]
    exact ⟨rfl, rfl, rfl, rfl, rfl, rfl, rfl, rfl, rfl, rfl, rfl, rfl, rfl⟩

end Sys2Proof

/-! SUPPORT. What admitting an increment writes beside the Capstan, and what it does to the Capstan's count (R174, R176,
R223). -/

namespace Sys2Proof.Machine

/-- `t` is `s` but for what pricing, pulses, marks, events, retirement and classifier write. Configuration, flow, Capstan,
self-test and volume ledger are the same; of the cycle only the shot level may differ (R179). -/
structure Device.Posted (t s : Device) : Prop where
  rest : t = { s with
    tr := { t.tr with cyc := { s.tr.cyc with level := t.tr.cyc.level } }
    pulse := t.pulse, temp := t.temp, toll := t.toll, bill := t.bill, jnl := t.jnl, land := t.land, haw := t.haw
    sec := t.sec, power := t.power, store := t.store }
  vol : t.toll.led.vol = s.toll.led.vol

theorem Device.Posted.refl (s : Device) : s.Posted s := ⟨rfl, rfl⟩

theorem Device.Posted.trans {a b c : Device} (h : a.Posted b) (k : b.Posted c) : a.Posted c :=
  ⟨by rw [h.rest, k.rest], h.vol.trans k.vol⟩

theorem Device.Posted.of_ite {p : Prop} [Decidable p] {a b s : Device} (h : a.Posted s) (k : b.Posted s) :
    (if p then a else b).Posted s := by
  split <;> assumption

theorem foldl_posted {α : Type} (f : Device → α → Device) (h : ∀ s a, (f s a).Posted s) (l : List α) (s : Device) :
    (l.foldl f s).Posted s := by
  induction l generalizing s with
  | nil => exact .refl s
  | cons a l ih => exact (ih _).trans (h s a)

section
variable {t s : Device} (h : t.Posted s)
include h

theorem Device.Posted.conf : t.conf = s.conf := by rw [h.rest]
theorem Device.Posted.flow : t.flow = s.flow := by rw [h.rest]
theorem Device.Posted.cap : t.cap = s.cap := by rw [h.rest]
theorem Device.Posted.st : t.st = s.st := by rw [h.rest]
theorem Device.Posted.running : t.tr.cyc.running = s.tr.cyc.running := by rw [h.rest]
theorem Device.Posted.complete : t.tr.cyc.complete = s.tr.cyc.complete := by rw [h.rest]

end

/-! ## Events and owed pulses -/

theorem Device.Booked.posted {t s : Device} (h : t.Booked s) : t.Posted s := by
  have led : t.toll.led = s.toll.led := by rw [h]
  exact ⟨by rw [h], by rw [led]⟩

theorem Device.commit_posted (s : Device) : s.commit.Posted s := s.commit_booked.posted

theorem Device.journal_posted (s : Device) (c a b : Nat) : (s.journal c a b).Posted s := (s.journal_booked c a b).posted

theorem Device.tamper_posted (s : Device) (k : Nat) : (s.tamper k).Posted s := (s.tamper_booked k).posted

theorem Device.degrade_posted (s : Device) (f : Degraded → Degraded) : (s.degrade f).Posted s := ⟨rfl, rfl⟩

theorem Device.owe_posted (s : Device) (i n : Nat) : (s.owe i n).Posted s := by
  unfold Device.owe
  exact .of_ite ((Device.journal_posted ..).trans ⟨rfl, rfl⟩) ⟨rfl, rfl⟩

theorem Device.oweMode_posted (s : Device) (m n : Nat) : (s.oweMode m n).Posted s := by
  unfold Device.oweMode
  extract_lets s1
  have first : s1.Posted s := .of_ite (s.owe_posted ..) (.refl s)
  exact .of_ite ((s1.owe_posted ..).trans first) first

/-! ## Pricing (R232 to R240) -/

theorem Device.creditRise_posted (s : Device) (d : Side) (l : SideLedger) (rise : Nat) : (s.creditRise d l rise).Posted s :=
  (Device.oweMode_posted ..).trans ⟨rfl, Ledgers.setSide_vol ..⟩

theorem Device.routeBilled_posted (s : Device) (d : Side) (num : Int) : (s.routeBilled d num).Posted s := by
  unfold Device.routeBilled
  exact .of_ite ⟨rfl, Ledgers.setSide_vol ..⟩ (s.creditRise_posted ..)

theorem Device.routeEst_posted (s : Device) (d : Side) (num : Int) : (s.routeEst d num).Posted s :=
  ⟨rfl, (s.routeEst_billed d num).1⟩

theorem Device.routeEnergy_posted (s : Device) (inc : Int) (q : Option Int) : (s.routeEnergy inc q).Posted s := by
  have unpriced (x : Device) : x.unpriced.Posted x := ⟨rfl, rfl⟩
  unfold Device.routeEnergy
  refine .of_ite (.of_ite ?_ ?_) (.refl s)
  · split
    · exact (unpriced _).trans (s.routeEst_posted ..)
    · exact unpriced s
  · split
    · exact unpriced s
    · split
      · exact unpriced s
      · exact (Device.routeBilled_posted ..).trans ⟨rfl, rfl⟩

theorem Device.routeGas_posted (s : Device) (ib : Int) (cv : Nat) (billed : Bool) : (s.routeGas ib cv billed).Posted s := by
  unfold Device.routeGas
  exact .of_ite (.of_ite ⟨rfl, rfl⟩ ((Device.creditRise_posted ..).trans ⟨rfl, rfl⟩)) ⟨rfl, rfl⟩

theorem Device.convert_posted (s : Device) (inc : Int) (billed : Bool) : (s.convert inc billed).Posted s := by
  unfold Device.convert
  extract_lets c und l x ib rm l1 l2 _ _ s1
  have led : s1.Posted s := by
    refine ⟨rfl, ?_⟩
    show l2.vol = s.toll.led.vol
    simp only [l2, l1]
    split <;> rfl
  exact .of_ite (.of_ite ((s1.routeGas_posted ..).trans led) (.of_ite ((s1.routeGas_posted ..).trans led) led)) (.refl s)

theorem Device.powerRule_posted (s : Device) : s.powerRule.Posted s := by
  unfold Device.powerRule
  exact .of_ite ⟨rfl, rfl⟩ (.refl s)

/-- The volume ledger takes the increment, and a rise of the reverse volume may count REVERSE_FLOW (R173, R464). -/
theorem Device.addVolume_posted (s : Device) (inc : Int) : (s.addVolume inc).Posted { s with
    toll := { s.toll with led := { s.toll.led with vol := s.toll.led.vol.add inc } } } := by
  unfold Device.addVolume
  dsimp only
  exact .of_ite (.of_ite ((Device.tamper_posted ..).trans ⟨rfl, rfl⟩) ⟨rfl, rfl⟩) ⟨rfl, rfl⟩

/-! ## The Capstan (R174 to R176) -/

/-- Turns and phase after an increment (R174). -/
def Capstan.advance (c : Capstan) (inc : Int) : Capstan :=
  { c with
    turns := c.turns + ((c.phase : Int) + 20 * inc) / ((c.qTurnN * 2 ^ 32 : Nat) : Int)
    phase := (((c.phase : Int) + 20 * inc) % ((c.qTurnN * 2 ^ 32 : Nat) : Int)).toNat }

/-- Turns and phase together make up what has flowed. -/
theorem Capstan.advance_sum (c : Capstan) (inc : Int) (set : c.qTurnN ≠ 0) (p : Int) (hp : p = c.qTurnN * 2 ^ 32) :
    p * (c.advance inc).turns + (c.advance inc).phase = p * c.turns + c.phase + 20 * inc ∧
      ((c.advance inc).phase : Int) < p := by
  have scale : ((c.qTurnN * 2 ^ 32 : Nat) : Int) = p := by rw [hp]; push_cast; rfl
  have positive : 0 < p := by omega
  simp only [Capstan.advance, scale]
  have whole := Int.mul_ediv_add_emod (c.phase + 20 * inc) p
  have low := Int.emod_nonneg (c.phase + 20 * inc) (Int.ne_of_gt positive)
  have high := Int.emod_lt_of_pos (c.phase + 20 * inc) positive
  rw [Int.toNat_of_nonneg low, Int.mul_add]
  exact ⟨by omega, high⟩

theorem Device.Posted.withCap {t s : Device} (h : t.Posted s) (c : Capstan) :
    ({ t with cap := c } : Device).Posted { s with cap := c } :=
  ⟨by rw [h.rest], h.vol⟩

/-- `t` is `s` posted, with the Capstan at `c` but for the turns counted for the next sample and the reverse turns. -/
structure Device.Turned (t s : Device) (c : Capstan) : Prop where
  posted : t.Posted { s with cap := t.cap }
  cap : t.cap = { c with tempTurns := t.cap.tempTurns, revTurns := t.cap.revTurns }

theorem Device.Posted.turned {t s : Device} (h : t.Posted s) : t.Turned s s.cap := by
  have cap := h.cap
  exact ⟨by rw [cap]; exact h, by rw [cap]⟩

theorem Device.Turned.trans {a b s : Device} {c : Capstan} (h : a.Turned b b.cap) (k : b.Turned s c) : a.Turned s c :=
  ⟨h.posted.trans (k.posted.withCap a.cap), by rw [h.cap, k.cap]⟩

theorem Device.fallDue_turned (s : Device) : s.fallDue.Turned s s.cap := by
  unfold Device.fallDue Device.arm
  dsimp only
  repeat' split
  all_goals exact ⟨⟨rfl, rfl⟩, rfl⟩

theorem Device.arm_posted (s : Device) (i t : Nat) (e : Bool) : (s.arm i t e).Posted s := by
  unfold Device.arm
  exact .of_ite ⟨rfl, rfl⟩ (.refl s)

theorem Device.tempRule_turned (s : Device) : s.tempRule.Turned s s.cap := by
  unfold Device.tempRule
  dsimp only
  split
  · split
    · exact s.fallDue_turned
    · exact (s.arm_posted ..).turned
  · exact (Posted.refl s).turned

theorem Device.turnMark_posted (s : Device) (h : Nat) : (s.turnMark h).Posted s := by
  unfold Device.turnMark
  extract_lets n s1
  have pulsed : s1.Posted s := .of_ite (s.oweMode_posted 1 1) (.refl s)
  exact .of_ite ((s1.journal_posted ..).trans pulsed) pulsed

theorem Device.turnMarks_posted (s : Device) (a k : Nat) : (s.turnMarks a k).Posted s := by
  induction k with
  | zero => exact .refl s
  | succ k ih => exact (Device.turnMark_posted ..).trans ih

theorem Device.rateRise_posted (s : Device) (q : Option Int) : (s.rateRise q).Posted s := by
  unfold Device.rateRise
  split
  · exact .refl s
  · exact .of_ite (.refl s) ⟨rfl, rfl⟩

theorem Device.turnsUp_turned (s : Device) (new : Nat) (q : Option Int) :
    (s.turnsUp new q).Turned s { s.cap with hwm := new } := by
  unfold Device.turnsUp
  extract_lets old _ s1
  have raised : s1.Turned s { s.cap with hwm := new } := ⟨⟨rfl, rfl⟩, rfl⟩
  have marked := (s1.turnMarks_posted old (new - old)).turned.trans raised
  exact (Device.rateRise_posted ..).turned.trans ((Device.tempRule_turned _).trans marked)

theorem Device.turnsDown_turned (s : Device) (n : Nat) : (s.turnsDown n).Turned s s.cap := by
  unfold Device.turnsDown
  extract_lets a b np m _ s1
  have reversed : s1.Turned s s.cap := ⟨⟨rfl, rfl⟩, rfl⟩
  exact (s1.oweMode_posted 3 m).turned.trans reversed

/-- The Capstan after an increment, with its highest turn count. -/
def Capstan.taken (c : Capstan) (inc : Int) : Capstan :=
  { c.advance inc with
    hwm := if c.hwm < (c.advance inc).turns then ((c.advance inc).turns.toNat : Int) else c.hwm }

theorem Capstan.taken_of_rise {c : Capstan} {inc : Int} (rises : c.hwm < (c.advance inc).turns) :
    c.taken inc = { c.advance inc with hwm := ((c.advance inc).turns.toNat : Int) } := by
  rw [Capstan.taken, if_pos rises]

theorem Capstan.taken_of_le {c : Capstan} {inc : Int} (level : ¬ c.hwm < (c.advance inc).turns) :
    c.taken inc = c.advance inc := by
  rw [Capstan.taken, if_neg level]
  rfl

/-- The highest turn count follows the turns (R174). -/
theorem Capstan.taken_hwm (c : Capstan) (inc : Int) (positive : 0 ≤ c.hwm) :
    (c.taken inc).hwm = max c.hwm (c.advance inc).turns := by
  by_cases rises : c.hwm < (c.advance inc).turns
  · rw [Capstan.taken_of_rise rises, max_eq_right (by omega)]
    exact Int.toNat_of_nonneg (by omega)
  · rw [Capstan.taken_of_le rises, max_eq_left (by omega)]
    rfl

theorem Device.turn_turned (s : Device) (inc : Int) (q : Option Int) (set : s.cap.qTurnN ≠ 0) :
    (s.turn inc q).Turned s (s.cap.taken inc) := by
  unfold Device.turn
  rw [if_neg set]
  extract_lets p x d turns _ s1
  have stands : s1.cap = s.cap.advance inc := rfl
  split
  next rises =>
    obtain ⟨posted, cap⟩ := s1.turnsUp_turned turns.toNat q
    rw [Capstan.taken_of_rise rises]
    exact ⟨posted, cap⟩
  next level =>
    rw [Capstan.taken_of_le level, ← stands]
    split
    · obtain ⟨posted, cap⟩ := s1.turnsDown_turned d.natAbs
      exact ⟨posted, cap⟩
    · exact ⟨⟨rfl, rfl⟩, rfl⟩

theorem Device.turn_still (s : Device) (inc : Int) (q : Option Int) (unset : s.cap.qTurnN = 0) : s.turn inc q = s :=
  if_pos unset

theorem Device.turn_posted (s : Device) (inc : Int) (q : Option Int) :
    (s.turn inc q).Posted { s with cap := (s.turn inc q).cap } := by
  by_cases unset : s.cap.qTurnN = 0
  · rw [s.turn_still inc q unset]
    exact .refl s
  · exact (s.turn_turned inc q unset).posted

/-! ## The increment admitted (R223) -/

/-- An admitted increment reaches the volume ledger and turns a Capstan that stands where the device's does; nothing else
beside its pricing is written. -/
theorem Device.admitInc_posted (s : Device) (inc : Int) (q : Option Int) (free : s.st.legalHold = false) :
    ∃ x : Device, x.cap = s.cap ∧ (s.admitInc inc q).Posted { s with
      cap := (x.turn inc q).cap
      toll := { s.toll with led := { s.toll.led with vol := s.toll.led.vol.add inc } } } := by
  unfold Device.admitInc
  rw [free]
  extract_lets same l _ _ s0 s1 _ _ _ s2
  have added := s0.addVolume_posted inc
  have turned := ((s0.addVolume inc).turn_posted inc q).trans (added.withCap ((s0.addVolume inc).turn inc q).cap)
  have priced : s1.Posted ((s0.addVolume inc).turn inc q) := (Device.convert_posted ..).trans (Device.routeEnergy_posted ..)
  have held : s2.Posted s1 := ⟨rfl, rfl⟩
  have ended : (if same then s2.powerRule else s2).Posted s2 := .of_ite s2.powerRule_posted (.refl s2)
  refine ⟨s0.addVolume inc, added.cap, (Device.commit_posted _).trans (ended.trans (held.trans (priced.trans ?_)))⟩
  exact turned.trans ⟨rfl, rfl⟩

theorem Device.admitInc_held (s : Device) (inc : Int) (q : Option Int) (hold : s.st.legalHold = true) :
    s.admitInc inc q = s :=
  if_pos hold

end Sys2Proof.Machine

namespace Sys2Proof
open Machine

/-- Settles O45: what pricing writes leaves volume and Capstan where the ledger's addition and the turn have put them. -/
theorem admittedIncrementsReachTheLedgers : Obligations.AdmittedIncrementsReachTheLedgers := by
  rintro s t inc q rfl
  refine ⟨fun free => ?_, fun hold => s.admitInc_held inc q hold⟩
  obtain ⟨x, same, admitted⟩ := s.admitInc_posted inc q free
  obtain ⟨keys, -⟩ := s.admitInc_kept inc q
  obtain ⟨-, -, -, -, -, tick, -⟩ := s.admitInc_same inc q
  have cap : (s.admitInc inc q).cap = (x.turn inc q).cap := admitted.cap
  refine ⟨admitted.vol, admitted.conf, tick, admitted.flow, keys, fun set p hp => ?_, fun unset => ?_⟩
  · obtain ⟨sum, low⟩ := s.cap.advance_sum inc set p hp
    have turned := (x.turn_turned inc q (same ▸ set)).cap
    rw [same] at turned
    rw [cap, turned]
    exact ⟨sum, low, s.cap.taken_hwm inc⟩
  · rw [cap, x.turn_still inc q (same ▸ unset), same]

end Sys2Proof

/-! SUPPORT. The end of a measurement cycle: what retirement and classifier leave alone, and the flow that a cycle yields (R133,
R145, R163, R169). -/

namespace Sys2Proof.Machine

/-! ## Retirement (R145, R146) -/

theorem Device.retirePath_posted (s : Device) (i cause : Nat) : (s.retirePath i cause).Posted s :=
  (Device.journal_posted ..).trans ⟨rfl, rfl⟩

theorem Device.retirePort_posted (s : Device) (q : Nat × Nat) (electrical : Bool) : (s.retirePort q electrical).Posted s := by
  have marked : (s.markPort q).Posted s := by
    unfold Device.markPort
    exact .of_ite ⟨rfl, rfl⟩ ⟨rfl, rfl⟩
  have told (a : Nat) := ((s.markPort q).journal_posted 0x10B q.2 a).trans marked
  unfold Device.retirePort
  exact .of_ite ((Device.tamper_posted ..).trans (told _)) (told _)

theorem Device.retire_posted (s : Device) : s.retire.Posted s := by
  have faulty (act : List Nat) (x : Device) (q : Nat × Nat) : (Device.retireFaulty act x q).Posted x := by
    unfold Device.retireFaulty
    exact .of_ite (x.retirePort_posted ..) (.refl x)
  have shared (act meets : List Nat) (x : Device) (q : Nat × Nat) : (Device.retireShared act meets x q).Posted x := by
    unfold Device.retireShared
    exact .of_ite (x.retirePort_posted ..) (.refl x)
  have user (x : Device) (i : Nat) : (x.retireUser i).Posted x := .of_ite (x.retirePath_posted ..) (.refl x)
  have alone (x : Device) (i : Nat) : (x.retireAlone i).Posted x := .of_ite (.refl x) (x.retirePath_posted ..)
  unfold Device.retire
  extract_lets act meets ports s0 s1
  have first : s0.Posted s := (foldl_posted _ (shared act meets) ..).trans (foldl_posted _ (faulty act) ..)
  have second : s1.Posted s := (foldl_posted _ alone ..).trans ((foldl_posted _ user ..).trans first)
  exact .of_ite ((s1.degrade_posted _).trans second) second

/-! ## The classifier (R132 to R140) -/

theorem Device.withCs_posted (s : Device) (cs : CycleStatus) : ({ s with tr := { s.tr with cs := cs } } : Device).Posted s :=
  ⟨rfl, rfl⟩

theorem Device.wPriceStep_posted (s : Device) : s.wPriceStep.Posted s := .of_ite ⟨rfl, rfl⟩ (.refl s)

theorem Device.adopt_posted (s : Device) (m : Medium) (frac : Nat) : (s.adopt m frac).Posted s := by
  unfold Device.adopt
  dsimp only
  refine (Device.wPriceStep_posted _).trans (.of_ite ?_ ((Device.journal_posted ..).trans ?_))
  all_goals exact (Device.journal_posted ..).trans (s.withCs_posted _)

theorem Device.candidate_posted (s : Device) (m : Medium) (frac : Nat) : (s.candidate m frac).Posted s := by
  unfold Device.candidate
  dsimp only
  exact .of_ite (.of_ite ((Device.wPriceStep_posted _).trans (s.withCs_posted _)) (s.withCs_posted _))
    (.of_ite ((Device.adopt_posted ..).trans (s.withCs_posted _)) (s.withCs_posted _))

theorem Device.nuStep_posted (s : Device) : s.nuStep.Posted s := ⟨rfl, rfl⟩

theorem Device.classifyWith_posted (s : Device) (c : Nat) : (s.classifyWith c).Posted s := by
  have taken (cs : CycleStatus) (m : Medium) (frac : Nat) :
      (Device.candidate { s with tr := { s.tr with cs := cs } } m frac).Posted s :=
    (Device.candidate_posted ..).trans (s.withCs_posted cs)
  unfold Device.classifyWith
  dsimp only
  refine .of_ite (.of_ite ?_ (.of_ite (.refl s) (.of_ite (.refl s) ?_))) (.of_ite (.refl s) ?_)
  · exact (Device.nuStep_posted _).trans (taken ..)
  · exact (Device.nuStep_posted _).trans (taken ..)
  · exact .trans ⟨rfl, rfl⟩ (taken ..)

theorem sosPaths_posted (ref : Nat) (l : List Nat) (s : Device) : (sosPaths ref l s).Posted s := by
  induction l generalizing s with
  | nil => exact .refl s
  | cons i l ih =>
    have set (f : PathState → PathState) : (s.setPath i f).Posted s := ⟨rfl, rfl⟩
    unfold sosPaths
    exact .of_ite ((ih _).trans (.of_ite ((Device.journal_posted ..).trans (set _)) (set _))) (ih s)

theorem Device.sosCheck_posted (s : Device) : s.sosCheck.Posted s := by
  unfold Device.sosCheck
  split
  · exact .refl s
  · exact (Device.degrade_posted ..).trans ((Device.withCs_posted ..).trans (sosPaths_posted ..))

theorem Device.classify_posted (s : Device) : s.classify.Posted s := by
  unfold Device.classify
  extract_lets cs _ s1 s3
  have checked : s3.Posted s := s1.sosCheck_posted.trans (s.withCs_posted _)
  split
  · exact (s3.classifyWith_posted _).trans checked
  · exact checked

/-! ## Reconstruction (R163) -/

/-- Reconstruction writes FLOW_NOW, and not the flow in force. -/
theorem Device.reconstruct_flow (s : Device) : ∃ f : FlowNow, s.reconstruct.1 = { s with flow := f } ∧ f.qf = s.flow.qf := by
  have weighed (x : Device) (fc : FlowCal) (si : Nat) (w : WeightSet) :
      ∃ f : FlowNow, (x.reconstructWith fc si w).1 = { x with flow := f } ∧ f.qf = x.flow.qf := by
    unfold Device.reconstructWith
    dsimp only
    split <;> exact ⟨_, rfl, rfl⟩
  unfold Device.reconstruct
  extract_lets d _ s1
  split
  · exact ⟨_, rfl, rfl⟩
  · split
    · exact ⟨_, rfl, rfl⟩
    · split
      · exact weighed s1 ..
      · exact ⟨_, rfl, rfl⟩

/-! ## The flow that a cycle yields (R169) -/

/-- A cycle has yielded the flow `q`, which leaves the volume ledger at `v`. -/
structure Device.Yielded (t s : Device) (q : Int) (v : VolLedger) : Prop where
  conf : t.conf = s.conf
  flow : t.flow.qf = some q
  vol : t.toll.led.vol = v
  complete : t.tr.cyc.complete = s.tr.cyc.complete
  running : t.tr.cyc.running = s.tr.cyc.running

theorem Device.Yielded.laned {a t s : Device} {q : Int} {v : VolLedger} (h : t.Yielded s q v) (lane : a.Laned t) :
    a.Yielded s q v := by
  have flow : a.flow = t.flow := by rw [lane.rest]
  have tr : a.tr = t.tr := by rw [lane.rest]
  obtain ⟨conf, vol⟩ := lane.volume
  exact ⟨conf.trans h.conf, by rw [flow, h.flow], vol.trans h.vol, by rw [tr, h.complete], by rw [tr, h.running]⟩

/-- The volume ledger once a cycle has yielded flow at tick `t`: the increment at the flow that was in force, over the span
since t_prev. -/
def VolLedger.yielded (v : VolLedger) (qf : Option Int) (t : Nat) : VolLedger :=
  match qf with
  | some q => v.closed q (t - v.tPrev) t
  | none => { v with tPrev := t }

theorem VolLedger.yielded_tPrev (v : VolLedger) (qf : Option Int) (t : Nat) : (v.yielded qf t).tPrev = t := by
  cases qf <;> rfl

theorem Device.endFlowFault_stands (s : Device) (t : Nat) :
    (s.endFlowFault t).SameVolume s ∧ (s.endFlowFault t).tr.cyc = s.tr.cyc := by
  have lane := s.bringUp_laned t
  have cyc : (s.bringUp t).tr.cyc = s.tr.cyc := by rw [lane.rest]
  unfold Device.endFlowFault
  split
  · exact ⟨lane.volume, cyc⟩
  · exact ⟨.refl s, rfl⟩

/-- The increment at the flow that was in force goes to the ledger before the new flow is in force. -/
theorem Device.yieldFlow_yielded (s : Device) (q : Int) (free : s.st.legalHold = false) :
    (s.yieldFlow q).Yielded s q (s.toll.led.vol.yielded s.flow.qf s.land.tick) := by
  unfold Device.yieldFlow
  extract_lets t s1 s2 _ _ _ _ s3
  have accrued : s1.conf = s.conf ∧ { s1.toll.led.vol with tPrev := t } = s.toll.led.vol.yielded s.flow.qf s.land.tick ∧
      s1.tr.cyc.complete = s.tr.cyc.complete ∧ s1.tr.cyc.running = s.tr.cyc.running := by
    simp only [s1]
    split
    next qf flow =>
      let f := s.formIncrement qf (t - s.toll.led.vol.tPrev)
      obtain ⟨_, _, posted⟩ := f.1.admitInc_posted f.2 (some q) free
      refine ⟨posted.conf, ?_, posted.complete, posted.running⟩
      rw [posted.vol, flow]
      rfl
    next flow =>
      obtain ⟨⟨conf, vol⟩, cyc⟩ := s.endFlowFault_stands t
      rw [conf, vol, cyc, flow]
      exact ⟨rfl, rfl, rfl, rfl⟩
  obtain ⟨conf, vol, complete, running⟩ := accrued
  have forced : s3.Yielded s1 q { s1.toll.led.vol with tPrev := t } := ⟨rfl, rfl, rfl, rfl, rfl⟩
  have taken := forced.laned (a := s3.armGap) (s3.arm_laned ..)
  exact ⟨taken.conf.trans conf, taken.flow, taken.vol.trans vol, taken.complete.trans complete, taken.running.trans running⟩

theorem Device.flowStep_yielded {s c : Device} {q : Int} (free : s.st.legalHold = false) (live : s.live = true)
    (yields : s.reconstruct = (c, some q)) :
    s.flowStep.Yielded s q (s.toll.led.vol.yielded s.flow.qf s.land.tick) := by
  obtain ⟨f, written, qf⟩ := s.reconstruct_flow
  obtain rfl : c = { s with flow := f } := by rw [← written, yields]
  obtain ⟨conf, flow, ledger, closed, idle⟩ := Device.yieldFlow_yielded { s with flow := f } q free
  rw [Device.flowStep, if_pos live, yields, ← qf]
  exact ⟨conf, flow, ledger, closed, idle⟩

/-! ## The end of the cycle -/

/-- The device when its cycle is over, its retirements are made and its medium is classified (R133, R145). -/
def Device.reviewed (s : Device) : Device :=
  ({ s with tr := { s.tr with cyc := { s.tr.cyc with complete := false, running := false } } } : Device).retire.classify

theorem Device.reviewed_posted (s : Device) : s.reviewed.Posted { s with
    tr := { s.tr with cyc := { s.tr.cyc with complete := false, running := false } } } :=
  (Device.classify_posted _).trans (Device.retire_posted _)

theorem Device.reviewed_tick (s : Device) : s.reviewed.land.tick = s.land.tick := by
  simp [Device.reviewed]

theorem Device.endCycle_yielded {s c : Device} {q : Int} (free : s.st.legalHold = false) (live : s.reviewed.live = true)
    (yields : s.reviewed.reconstruct = (c, some q)) :
    s.endCycle.Yielded s.reviewed q (s.toll.led.vol.yielded s.flow.qf s.land.tick) := by
  have posted := s.reviewed_posted
  have holds : s.reviewed.st.legalHold = false := by rw [posted.st]; exact free
  have yielded := (Device.flowStep_yielded holds live yields).laned (Device.recond_laned _)
  rw [posted.vol, posted.flow, s.reviewed_tick] at yielded
  exact yielded

/-! ## Increments in a row (R169) -/

/-- What increments and remainder have taken up so far is what has flowed so far. -/
theorem foldl_incOf_sum (l : List (Int × Nat)) (a : Int × Nat) (low : a.2 < 225) :
    let run := l.foldl (fun (a : Int × Nat) x => (a.1 + (incOf x.1 x.2 a.2).1, (incOf x.1 x.2 a.2).2)) a
    225 * run.1 + run.2 = 225 * a.1 + a.2 + (l.map fun x => x.1 * (x.2 : Int) * 32).sum ∧ run.2 < 225 := by
  induction l generalizing a with
  | nil => exact ⟨by simp, low⟩
  | cons x l ih =>
    obtain ⟨sum, rem⟩ := VolLedger.closed_sum { incRem := a.2 } x.1 x.2 0
    simp only [VolLedger.closed, VolLedger.add] at sum rem
    obtain ⟨total, last⟩ := ih (a.1 + (incOf x.1 x.2 a.2).1, (incOf x.1 x.2 a.2).2) rem
    refine ⟨?_, last⟩
    simp only [List.foldl_cons, List.map_cons, List.sum_cons]
    omega

end Sys2Proof.Machine

namespace Sys2Proof
open Machine

/-- Settles O44: one increment takes what flowed since t_prev, and remainders carried from one to the next leave the floor of
the whole. -/
theorem incrementsTelescope : Obligations.IncrementsTelescope := by
  refine ⟨fun dt s d b hd toll complete hb free a c q ha live yields => ?_, fun l r low => ?_⟩
  · have taken : a = b.reviewed := ha _ rfl
    have lane : b.Laned d := hb ▸ d.boundaryFirst_laned
    have tick : b.land.tick = d.land.tick := by rw [hb]; simp
    have run : exec (.admitIncrement dt) s = .next { s with dev := b.endCycle } := by
      simp [exec, execAdmitIncrement, ← hd, Device.admitDue, complete, toll, hb]
    rw [taken] at live yields
    have posted := b.reviewed_posted
    obtain ⟨conf, flow, vol, closed, idle⟩ := Device.endCycle_yielded free live yields
    refine ⟨_, run, flow, ?_, closed.trans posted.complete, idle.trans posted.running,
      conf.trans (posted.conf.trans lane.volume.1), by simp [tick], fun qf force => ?_, fun none => ?_⟩
    · rw [vol, VolLedger.yielded_tPrev, tick]
    · rw [vol, force, ← tick]
      exact b.toll.led.vol.closed_sum qf _ _
    · rw [vol, none]
      exact ⟨rfl, rfl⟩
  · obtain ⟨total, last⟩ := foldl_incOf_sum l (0, r) low
    refine ⟨?_, last⟩
    omega

end Sys2Proof

/-! SUPPORT. What billed energy does to a side's ledger: the high-water mark, the tariff ledgers and their registers (R233,
R234). -/

namespace Sys2Proof.Machine

/-! ## Quotient and floors -/

theorem quot_sum (num : Int) (rem : Nat) {div : Nat} (pos : 0 < div) :
    div * (quot num rem div).1 + (quot num rem div).2 = num + rem ∧ (quot num rem div).2 < div := by
  have low := Int.emod_nonneg (num + rem) (show (div : Int) ≠ 0 by omega)
  have high := Int.emod_lt_of_pos (num + rem) (show (0 : Int) < div by omega)
  have whole := Int.mul_ediv_add_emod (num + rem) div
  simp only [quot]
  omega

theorem sum_set_add (l : List Nat) (i r : Nat) (h : i < l.length) : (l.set i (l.getD i 0 + r)).sum = l.sum + r := by
  induction l generalizing i with
  | nil => simp at h
  | cons x l ih =>
    cases i with
    | zero => simp only [List.set_cons_zero, List.getD_cons_zero, List.sum_cons]; omega
    | succ i =>
      have rest := ih i (Nat.lt_of_succ_lt_succ h)
      simp only [List.set_cons_succ, List.getD_cons_succ, List.sum_cons]
      omega

/-- Each entry's residue lies below `u`. -/
theorem sum_floors (l : List Nat) {u : Nat} (pos : 0 < u) :
    u * (l.map (· / u)).sum ≤ l.sum ∧ l.sum + l.length ≤ u * ((l.map (· / u)).sum + l.length) := by
  induction l with
  | nil => simp
  | cons x l ih =>
    have whole := Nat.div_add_mod x u
    have low := Nat.mod_lt x pos
    simp only [List.map_cons, List.sum_cons, List.length_cons, Nat.mul_add, Nat.mul_one] at ih ⊢
    omega

/-- Eight floors fall short of the floor of the sum by at most 7. -/
theorem sum_floors_eight {l : List Nat} {u : Nat} (pos : 0 < u) (eight : l.length = 8) :
    (l.map (· / u)).sum ≤ l.sum / u ∧ l.sum / u ≤ (l.map (· / u)).sum + 7 := by
  obtain ⟨below, above⟩ := sum_floors l pos
  rw [eight] at above
  refine ⟨(Nat.le_div_iff_mul_le pos).2 (by rwa [Nat.mul_comm]), Nat.le_of_lt_succ ((Nat.div_lt_iff_lt_mul pos).2 ?_)⟩
  rw [Nat.mul_comm]
  exact Nat.lt_of_lt_of_le (by omega) above

theorem SideLedger.total_eq_sum (l : SideLedger) : l.total = l.reg.sum := List.sum_eq_foldl.symm

theorem energyUnit_pos (mj : Bool) : 0 < energyUnit mj := by
  cases mj <;> decide

/-! ## The sides -/

theorem Ledgers.side_setSide (l : Ledgers) (d : Side) (v : SideLedger) : (l.setSide d v).side d = v := by
  cases d <;> rfl

theorem Ledgers.side_setSide_other (l : Ledgers) {d o : Side} (v : SideLedger) (other : o ≠ d) :
    (l.setSide d v).side o = l.side o := by
  match d, o, other with
  | .heat, .cool, _ => rfl
  | .cool, .heat, _ => rfl

/-! ## The post (R233) -/

/-- The side's numbers take the energy; its mark rises to the net where that lies above, by what is left to credit. -/
theorem SideLedger.post_marks (l : SideLedger) (dE : Int) :
    (l.post dE).1.net = l.net + dE ∧ (l.post dE).1.hwm = max l.hwm (l.net + dE) ∧
      (l.post dE).1.hwm = l.hwm + (l.post dE).2 := by
  unfold SideLedger.post
  dsimp only
  split
  · dsimp only; omega
  · dsimp only; omega

theorem SideLedger.post_tariffs (l : SideLedger) (dE : Int) :
    (l.post dE).1.rem = l.rem ∧ (l.post dE).1.tar = l.tar ∧ (l.post dE).1.reg = l.reg := by
  unfold SideLedger.post
  dsimp only
  split <;> exact ⟨rfl, rfl, rfl⟩

/-! ## The credit (R234) -/

/-- Each of the eight tariff registers is the floor of its ledger. -/
structure SideLedger.Floored (l : SideLedger) (u : Nat) : Prop where
  eight : l.tar.length = 8
  floors : l.reg = l.tar.map (· / u)

theorem SideLedger.Floored.credit {l : SideLedger} {u : Nat} (h : l.Floored u) (k rise : Nat) :
    (l.credit k u rise).Floored u :=
  ⟨by simp [SideLedger.credit, h.eight], by simp [SideLedger.credit, h.floors, List.map_set]⟩

theorem SideLedger.Floored.credit_zero {l : SideLedger} {u : Nat} (h : l.Floored u) (k : Nat) : l.credit k u 0 = l := by
  have tar : l.tar.set (k - 1) (l.tar.getD (k - 1) 0) = l.tar := by
    by_cases inside : k - 1 < l.tar.length
    · simp [inside]
    · exact List.set_eq_of_length_le (by omega)
  have reg : l.reg.set (k - 1) (l.tar.getD (k - 1) 0 / u) = l.reg := by
    rw [h.floors, ← List.map_set (f := (· / u)), tar]
  simp only [SideLedger.credit, Nat.add_zero, tar, reg]

theorem SideLedger.credit_sum (l : SideLedger) {k : Nat} (u rise : Nat) (h : k - 1 < l.tar.length) :
    (l.credit k u rise).tar.sum = l.tar.sum + rise :=
  sum_set_add l.tar (k - 1) rise h

theorem SideLedger.credit_other (l : SideLedger) {k i : Nat} (u rise : Nat) (h : k - 1 ≠ i) :
    (l.credit k u rise).tar[i]? = l.tar[i]? :=
  List.getElem?_set_ne h

/-! ## Billed energy (R233) -/

/-- A side's ledger once the numerator is posted, and the rise of its mark. -/
def SideLedger.posted (l : SideLedger) (num : Int) : SideLedger × Nat :=
  SideLedger.post { l with rem := (quot num l.rem energyDiv).2 } (quot num l.rem energyDiv).1

/-- The posted ledger with the rise credited to tariff `k`. -/
def SideLedger.billed (l : SideLedger) (k u : Nat) (num : Int) : SideLedger := (l.posted num).1.credit k u (l.posted num).2

theorem SideLedger.posted_tar (l : SideLedger) (num : Int) : (l.posted num).1.tar = l.tar :=
  (SideLedger.post_tariffs ..).2.1

theorem SideLedger.Floored.posted {l : SideLedger} {u : Nat} (h : l.Floored u) (num : Int) : (l.posted num).1.Floored u := by
  have reg : (l.posted num).1.reg = l.reg := (SideLedger.post_tariffs ..).2.2
  exact ⟨by rw [l.posted_tar, h.eight], by rw [reg, l.posted_tar, h.floors]⟩

theorem SideLedger.billed_hwm (l : SideLedger) (k u : Nat) (num : Int) :
    (l.billed k u num).hwm = max l.hwm (l.billed k u num).net := by
  have net : (l.billed k u num).net = l.net + (quot num l.rem energyDiv).1 := (SideLedger.post_marks ..).1
  rw [net]
  exact (SideLedger.post_marks ..).2.1

/-- The energy taken and the new remainder together make up the numerator (R221). -/
theorem SideLedger.billed_net (l : SideLedger) (k u : Nat) (num : Int) :
    energyDiv * ((l.billed k u num).net - l.net) + (l.billed k u num).rem = num + l.rem ∧
      (l.billed k u num).rem < energyDiv := by
  have whole := quot_sum num l.rem (show 0 < energyDiv by decide)
  have net : (l.billed k u num).net = l.net + (quot num l.rem energyDiv).1 := (SideLedger.post_marks ..).1
  have rem : (l.billed k u num).rem = (quot num l.rem energyDiv).2 := (SideLedger.post_tariffs ..).1
  rw [net, rem, add_sub_cancel_left]
  exact whole

theorem SideLedger.billed_other (l : SideLedger) {k i : Nat} (u : Nat) (num : Int) (h : k - 1 ≠ i) :
    (l.billed k u num).tar[i]? = l.tar[i]? := by
  rw [SideLedger.billed, SideLedger.credit_other _ _ _ h, l.posted_tar]

/-- The tariff registers are floors, and the eight ledgers sum to the high-water mark. -/
structure SideLedger.Balanced (l : SideLedger) (u : Nat) : Prop extends l.Floored u where
  sum : (l.tar.sum : Int) = l.hwm

/-- The mark rises by what the credit adds to one of the eight ledgers. -/
theorem SideLedger.Balanced.billed {l : SideLedger} {u k : Nat} (h : l.Balanced u) (first : 1 ≤ k) (last : k ≤ 8)
    (num : Int) : (l.billed k u num).Balanced u where
  toFloored := (h.toFloored.posted num).credit ..
  sum := by
    have inside : k - 1 < (l.posted num).1.tar.length := by rw [l.posted_tar, h.eight]; omega
    have rise : (l.posted num).1.hwm = l.hwm + (l.posted num).2 := (SideLedger.post_marks ..).2.2
    calc ((l.billed k u num).tar.sum : Int)
      _ = l.tar.sum + (l.posted num).2 := by
        rw [SideLedger.billed, SideLedger.credit_sum _ _ _ inside, l.posted_tar, Int.natCast_add]
      _ = (l.billed k u num).hwm := by rw [h.sum, ← rise]; rfl

theorem SideLedger.Balanced.total {l : SideLedger} {u : Nat} (h : l.Balanced u) (pos : 0 < u) :
    (l.total : Int) ≤ l.hwm / u ∧ l.hwm / u - 7 ≤ (l.total : Int) := by
  obtain ⟨below, above⟩ := sum_floors_eight pos h.eight
  rw [← h.sum, l.total_eq_sum, h.floors, ← Int.natCast_div]
  omega

/-! ## The routing (R233) -/

theorem Device.creditRise_led (s : Device) (d : Side) (l : SideLedger) (rise : Nat) : ∃ acc,
    (s.creditRise d l rise).toll.led = { s.toll.led.setSide d (l.credit s.bill.now.tariff (energyUnit s.toll.unitMJ) rise) with
      pulseAcc := acc } := by
  obtain ⟨-, led, -⟩ := Device.oweMode_calm ..
  exact ⟨_, led⟩

/-- Of the ledgers only this side and the energy that no pulse has counted yet are written; without a rise the credit is
of nothing. -/
theorem Device.routeBilled_led (s : Device) (d : Side) (num : Int)
    (h : (s.toll.led.side d).Floored (energyUnit s.toll.unitMJ)) : ∃ acc,
    (s.routeBilled d num).toll.led =
      { s.toll.led.setSide d ((s.toll.led.side d).billed s.bill.now.tariff (energyUnit s.toll.unitMJ) num) with
        pulseAcc := acc } := by
  by_cases still : ((s.toll.led.side d).posted num).2 = 0
  · have run : (s.routeBilled d num).toll.led = s.toll.led.setSide d ((s.toll.led.side d).posted num).1 :=
      congrArg (fun t : Device => t.toll.led) (if_pos still)
    have same : (s.toll.led.side d).billed s.bill.now.tariff (energyUnit s.toll.unitMJ) num =
        ((s.toll.led.side d).posted num).1 := by
      rw [SideLedger.billed, still]
      exact (h.posted num).credit_zero _
    rw [run, same]
    exact ⟨_, rfl⟩
  · have run : s.routeBilled d num = s.creditRise d ((s.toll.led.side d).posted num).1 ((s.toll.led.side d).posted num).2 :=
      if_neg still
    rw [run]
    exact s.creditRise_led ..

section
variable {s : Device} {d : Side} (h : (s.toll.led.side d).Floored (energyUnit s.toll.unitMJ)) (num : Int)
include h

theorem Device.routeBilled_side : (s.routeBilled d num).toll.led.side d =
    (s.toll.led.side d).billed s.bill.now.tariff (energyUnit s.toll.unitMJ) num := by
  obtain ⟨acc, led⟩ := s.routeBilled_led d num h
  rw [led]
  exact Ledgers.side_setSide ..

theorem Device.routeBilled_side_other {o : Side} (other : o ≠ d) :
    (s.routeBilled d num).toll.led.side o = s.toll.led.side o := by
  obtain ⟨acc, led⟩ := s.routeBilled_led d num h
  rw [led]
  exact Ledgers.side_setSide_other _ _ other

end

end Sys2Proof.Machine

namespace Sys2Proof
open Machine

/-- Settles O46: what the credit adds to the ledger of the tariff in force is the rise of the high-water mark. -/
theorem tariffRegistersSumToTheTotal : Obligations.TariffRegistersSumToTheTotal := by
  rintro s sd num u l t hu rfl rfl first last eight floors sum
  obtain rfl : u = energyUnit s.toll.unitMJ := hu
  have before : (s.toll.led.side sd).Balanced (energyUnit s.toll.unitMJ) := ⟨⟨eight, floors⟩, sum⟩
  have after := before.billed first last num
  obtain ⟨net, rem⟩ := (s.toll.led.side sd).billed_net s.bill.now.tariff (energyUnit s.toll.unitMJ) num
  obtain ⟨below, above⟩ := after.total (energyUnit_pos _)
  rw [Device.routeBilled_side before.toFloored]
  exact ⟨after.eight, after.floors, after.sum, SideLedger.billed_hwm .., net, rem,
    fun k other => SideLedger.billed_other _ _ _ (by omega), SideLedger.total_eq_sum _, below, above,
    fun o => Device.routeBilled_side_other before.toFloored num⟩

end Sys2Proof

/-! SUPPORT. The start of service: what t0 leaves of the power state, the clock and the records (R284, R479). -/

namespace Sys2Proof.Machine

/-! ## Estimates and conditions write the Tollhouse only (R242, R243) -/

theorem Device.routeEstEnergy_toll (s : Device) (inc : Int) :
    s.routeEstEnergy inc = { s with toll := (s.routeEstEnergy inc).toll } := by
  unfold Device.routeEstEnergy
  split
  · split
    · split <;> rfl
    · split
      · rfl
      · split <;> rfl
  · rfl

theorem Device.convert_est_toll (s : Device) (inc : Int) :
    s.convert inc false = { s with toll := (s.convert inc false).toll } := by
  unfold Device.convert
  simp only [Bool.false_and, Bool.false_eq_true, if_false]
  split
  · split
    · rfl
    · split <;> rfl
  · rfl

theorem Device.accrueEst_toll (s : Device) (t : Nat) : s.accrueEst t = { s with toll := (s.accrueEst t).toll } := by
  unfold Device.accrueEst
  dsimp only
  split
  · split
    · rfl
    · rw [Device.convert_est_toll, Device.routeEstEnergy_toll]
  · rfl

theorem Device.recond_toll (s : Device) : s.recond = { s with toll := s.recond.toll } := by
  have edge : s.safeEdge = { s with toll := s.safeEdge.toll } := by
    unfold Device.safeEdge
    split
    · rfl
    · exact s.accrueEst_toll _
  unfold Device.recond
  dsimp only
  split
  · rw [edge]
  · rfl

@[simp] theorem Device.recond_power (s : Device) : s.recond.power = s.power := by rw [s.recond_toll]

/-! ## The Tollhouse at t0 (R171, R245, R284) -/

theorem Device.Laned.power {t s : Device} (h : t.Laned s) : t.power = s.power := by rw [h.rest]

theorem power_ite {c : Prop} [Decidable c] {a b x : Device} (h : a.power = x.power) (k : b.power = x.power) :
    (if c then a else b).power = x.power := by
  split <;> assumption

theorem holdDue_ite {c : Prop} [Decidable c] {a b x : Device} (h : a.power.holdDue = x.power.holdDue)
    (k : b.power.holdDue = x.power.holdDue) : (if c then a else b).power.holdDue = x.power.holdDue := by
  split <;> assumption

theorem Device.gapEntry_laned (s : Device) (t0 hours : Nat) : (s.gapEntry t0 hours).Laned s :=
  (Device.journal_laned ..).trans (s.stage_laned _)

theorem Device.transactionT0_laned (s : Device) : s.transactionT0.Laned s := by
  unfold Device.transactionT0
  extract_lets t0 d y _ s0 hours s1
  have begun : s1.Laned s := .of_ite (fun _ => (s0.gapEntry_laned ..).trans (s.withBill_laned _)) fun _ => s.withBill_laned _
  exact (s1.transaction_laned _).trans begun

theorem Device.endFlowFault_power (s : Device) (t : Nat) : (s.endFlowFault t).power = s.power := by
  unfold Device.endFlowFault
  split
  · exact (s.bringUp_laned t).power
  · rfl

theorem Device.startMetering_power (s : Device) : s.startMetering.power = s.power :=
  (Device.arm_power ..).trans (s.endFlowFault_power _)

theorem Device.tollStart_power (s : Device) : s.tollStart.power = s.power := by
  unfold Device.tollStart
  extract_lets t0 _ _ _ s1 s2
  have ended : s2.power = s.power := (Device.endFlowFault_power ..).trans s1.transactionT0_laned.power
  exact power_ite (s2.startMetering_power.trans ended) ended

/-! ## The functions at t0 (R73, R415, R423, R358) -/

theorem Device.applyFunctions_power (s : Device) : s.applyFunctions.power = s.power := by
  have step (l : List Func) (x : Device) : (l.foldl Device.wantStep x).power = x.power := by
    induction l generalizing x with
    | nil => rfl
    | cons f l ih =>
      have wants : (x.wantStep f).power = x.power := by
        unfold Device.wantStep Device.want Device.enable Device.disable
        split <;> exact Device.setFunc_power ..
      exact (ih _).trans wants
  exact step allFuncs s

theorem Device.initShot_power (s : Device) : s.initShot.power = s.power := rfl

theorem Device.armWake_power (s : Device) : s.armWake.power = s.power := by
  unfold Device.armWake
  split
  · split
    · exact Device.arm_power ..
    · rfl
  · rfl

theorem Device.armRefresh_power (s : Device) : s.armRefresh.power = s.power := s.armRefresh_laned.power

/-- The display's tables may raise or clear a cause of the degraded flag. -/
theorem Device.displayTables_holdDue (s : Device) : s.displayTables.power.holdDue = s.power.holdDue := by
  unfold Device.displayTables
  dsimp only [Device.degrade]
  split
  · rfl
  · rw [Device.journal_power]

theorem Device.displayStart_holdDue (s : Device) : s.displayStart.power.holdDue = s.power.holdDue := by
  unfold Device.displayStart
  extract_lets s1 run _ s2
  have armed : s2.power.holdDue = s.power.holdDue := by
    rw [Device.armRefresh_power]
    exact s.displayTables_holdDue
  split <;> exact armed

theorem Device.fallDue_holdDue (s : Device) : s.fallDue.power.holdDue = s.power.holdDue := by
  unfold Device.fallDue
  split
  · extract_lets ks _ _ s1 s2
    have armed : s2.power = s.power := Device.arm_power s1 ..
    have sent : ((s2.hwBurst 7).hwSend 7 0x08 []).power.holdDue = s2.power.holdDue := rfl
    split
    · rw [sent, armed]
    · rw [armed]
  · rfl

theorem Device.startContacts_power (s : Device) : s.startContacts.power = s.power := by
  unfold Device.startContacts
  dsimp only
  split
  · split <;> exact Device.arm_power ..
  · rfl

theorem Device.wmStart_power (s : Device) : s.wmStart.power = s.power := by
  unfold Device.wmStart
  split
  · exact Device.arm_power ..
  · rfl

theorem Device.armWindows_power (s : Device) : s.armWindows.power = s.power := by
  unfold Device.armWindows
  dsimp only
  split
  · split
    · exact Device.disarm_power ..
    · rfl
  · exact Device.arm_power ..

theorem Device.planRadio_power (s : Device) : s.planRadio.power = s.power := by
  unfold Device.planRadio
  extract_lets s1 s2
  have contacts : s1.power = s.power := power_ite (s.disarm_power 6) s.startContacts_power
  have telegrams : s2.power = s1.power := power_ite (s1.disarm_power 9) s1.wmStart_power
  exact (s2.armWindows_power.trans telegrams).trans contacts

theorem Device.functionsStart_holdDue (s : Device) : s.functionsStart.power.holdDue = s.power.holdDue := by
  unfold Device.functionsStart
  extract_lets s0 s1 s2 s3
  have applied : s0.power = s.power := s.applyFunctions_power
  have timed : s1.power = s0.power := power_ite rfl (s0.initShot.armWake_power.trans s0.initShot_power)
  have shown : s2.power.holdDue = s1.power.holdDue := by
    clear_value s1
    exact holdDue_ite s1.displayStart_holdDue rfl
  have sampled : s3.power.holdDue = s2.power.holdDue := by
    clear_value s2
    exact holdDue_ite rfl s2.fallDue_holdDue
  rw [s3.planRadio_power, sampled, shown, timed, applied]

/-! ## Service begins (R479) -/

/-- The device at t0, before its blocks begin. -/
def Device.atT0 (s : Device) (mv : Nat) : Device :=
  { s with power := { s.power with phase := .running, vholdMv := min mv 0xFFFF, vholdAt := s.land.osc } }

theorem Device.serviceStart_eq (s : Device) (mv : Nat) :
    s.serviceStart mv = (Device.functionsStart
      (if (s.atT0 mv).tolling then (s.atT0 mv).tollStart else s.atT0 mv)).flushEvents.recond :=
  rfl

theorem Device.flushEvents_power (s : Device) : s.flushEvents.power = s.power := by
  have booked := s.flushEvents_booked
  unfold Device.Booked at booked
  exact (congrArg Device.power booked).trans rfl

theorem Device.serviceStart_holdDue (s : Device) (mv : Nat) : (s.serviceStart mv).power.holdDue = s.power.holdDue := by
  have tolls := power_ite (c := (s.atT0 mv).tolling = true) (s.atT0 mv).tollStart_power rfl
  rw [s.serviceStart_eq mv, Device.recond_power, Device.flushEvents_power, Device.functionsStart_holdDue, tolls]
  rfl

theorem Device.serviceStart_same (s : Device) (mv : Nat) : (s.serviceStart mv).Same (s.atT0 mv) := by
  have tolls := same_ite (c := (s.atT0 mv).tolling = true) (s.atT0 mv).tollStart_same (.refl _)
  rw [s.serviceStart_eq mv]
  exact (Device.recond_same _).trans ((Device.flushEvents_same _).trans ((Device.functionsStart_same _).trans tolls))

theorem Device.serviceStart_up (s : Device) (mv : Nat) (free : s.power.holdDue = false) : (s.serviceStart mv).up = true := by
  obtain ⟨running, -⟩ := s.serviceStart_same mv
  rw [Device.up, Device.started, s.serviceStart_holdDue mv, free, running]
  rfl

theorem Device.Same.trusted {t s : Device} (h : t.Same s) : t.trusted = s.trusted := by
  obtain ⟨-, -, -, -, -, -, -, stopped, never, -⟩ := h
  rw [Device.trusted, Device.trusted, stopped, never]

theorem Security.lc_of_life {x y : Security} (h : x.life = y.life) : x.lc = y.lc := congrArg Prod.fst h

theorem meteringStart_begins {dt mv : Nat} {s : State} {d : Device} (hd : d = s.dev.elapse dt)
    (waits : d.power.phase = .vholdWait) (free : d.power.holdDue = false) (synced : d.syncIdle = true) (full : 4400 ≤ mv) :
    exec (.meteringStart dt mv) s = .next { s with dev := d.serviceStart mv } := by
  simp [exec, execMeteringStart, ← hd, waits, free, synced, full]

theorem meteringStart_waits {dt mv : Nat} {s : State} {d : Device} (hd : d = s.dev.elapse dt)
    (early : mv < 4400 ∨ d.power.phase ≠ .vholdWait) : exec (.meteringStart dt mv) s = .next { s with dev := d } := by
  have stays : (d.power.phase == .vholdWait && !d.power.holdDue && decide (4400 ≤ mv) && d.syncIdle) = false := by
    rcases early with low | elsewhere
    · simp [Nat.not_le.mpr low]
    · simp [elsewhere]
  simp [exec, execMeteringStart, ← hd, stays]

end Sys2Proof.Machine

namespace Sys2Proof
open Machine

/-- Settles O31: at t0 nothing makes a hold-up commit due, and clock, life cycle and records are left as they are. -/
theorem meteringStartsAtFullHoldUpVoltage : Obligations.MeteringStartsAtFullHoldUpVoltage := by
  intro dt mv s d hd
  refine ⟨fun waits free synced full => ?_, meteringStart_waits hd⟩
  have same := d.serviceStart_same mv
  have trusted := same.trusted
  obtain ⟨-, -, -, -, -, tick, -⟩ := same
  obtain ⟨keys, -, calib, expert, groups, -⟩ := d.serviceStart_kept mv
  have lc := Security.lc_of_life (d.serviceStart_life mv)
  exact ⟨_, meteringStart_begins hd waits free synced full, d.serviceStart_up mv free, tick, trusted, lc, keys, groups,
    calib, expert⟩

end Sys2Proof

/-! SUPPORT. What each step of a boundary transaction writes of billing (R260, R263, R269 to R281, R287). -/

namespace Sys2Proof.Machine

/-! ## What the steps keep -/

/-- The calendar in force, the latest transaction, and the running period with its scheduled end and the snapshots are the
same. -/
structure Bill.Standing (a b : Bill) : Prop where
  cal : a.calActive = b.calActive
  last : a.lastTick = b.lastTick
  seq : a.st.seqLast = b.st.seqLast
  start : a.st.tStart = b.st.tStart
  sched : a.st.schedLast = b.st.schedLast
  snaps : a.snaps = b.snaps

theorem Bill.Standing.refl (b : Bill) : b.Standing b := ⟨rfl, rfl, rfl, rfl, rfl, rfl⟩

theorem Bill.Standing.trans {a b c : Bill} (h : a.Standing b) (k : b.Standing c) : a.Standing c :=
  ⟨h.cal.trans k.cal, h.last.trans k.last, h.seq.trans k.seq, h.start.trans k.start, h.sched.trans k.sched,
    h.snaps.trans k.snaps⟩

theorem standing_ite {p : Prop} [Decidable p] {a b x : Device} (h : a.bill.Standing x.bill) (k : b.bill.Standing x.bill) :
    (if p then a else b).bill.Standing x.bill := by
  split <;> assumption

/-- Trust as last handled, and what the running sub-interval and the running hour hold, are the same. -/
structure Bill.Running (a b : Bill) : Prop where
  trusted : a.trusted = b.trusted
  subStart : a.dem.tSubStart = b.dem.tSubStart
  accE : a.dem.accE = b.dem.accE
  accV : a.dem.accV = b.dem.accV
  hourStart : a.hour.tStart = b.hour.tStart

theorem Bill.Running.refl (b : Bill) : b.Running b := ⟨rfl, rfl, rfl, rfl, rfl⟩

theorem Bill.Running.trans {a b c : Bill} (h : a.Running b) (k : b.Running c) : a.Running c :=
  ⟨h.trusted.trans k.trusted, h.subStart.trans k.subStart, h.accE.trans k.accE, h.accV.trans k.accV,
    h.hourStart.trans k.hourStart⟩

theorem running_ite {p : Prop} [Decidable p] {a b x : Device} (h : a.bill.Running x.bill) (k : b.bill.Running x.bill) :
    (if p then a else b).bill.Running x.bill := by
  split <;> assumption

/-! ## Steps 1 and 2: counters and trust (R242, R260) -/

theorem Device.bringUp_bill (s : Device) (t : Nat) : (s.bringUp t).bill = s.bill := by
  unfold Device.bringUp
  rw [s.accrueEst_toll t]

theorem Device.trustStep_trusted (s : Device) : s.trustStep.bill.trusted = s.trusted := by
  unfold Device.trustStep
  split
  · exact Eq.symm ‹_›
  · have off : s.trusted = false := Bool.eq_false_iff.mpr ‹_›
    rw [off]
    split
    · rw [Device.journal_bill]
    · rfl

theorem Device.trustStep_standing (s : Device) : s.trustStep.bill.Standing s.bill := by
  have marked : ({ s.bill.markUntrusted with trusted := false } : Bill).Standing s.bill := ⟨rfl, rfl, rfl, rfl, rfl, rfl⟩
  unfold Device.trustStep
  refine standing_ite ⟨rfl, rfl, rfl, rfl, rfl, rfl⟩ (standing_ite ?_ marked)
  rw [Device.journal_bill]
  exact marked

theorem Device.trustStep_ends (s : Device) :
    s.trustStep.bill.dem.nextEnd = s.bill.dem.nextEnd ∧ s.trustStep.bill.hour.nextEnd = s.bill.hour.nextEnd := by
  unfold Device.trustStep
  split
  · exact ⟨rfl, rfl⟩
  · dsimp only
    split
    · rw [Device.journal_bill]
      exact ⟨rfl, rfl⟩
    · exact ⟨rfl, rfl⟩

/-! ## Steps 3 and 4: sub-interval and hour (R275 to R279, R287) -/

/-- An entry is staged, or its loss counted (R289). -/
theorem Device.stage_bill (s : Device) (e : Staged) :
    (s.stage e).bill = { s.bill with
      staged := (s.stage e).bill.staged, lostJournalled := (s.stage e).bill.lostJournalled
      hourCount := (s.stage e).bill.hourCount, logLost := (s.stage e).bill.logLost } := by
  unfold Device.stage
  dsimp only
  split
  · rfl
  · split
    · rfl
    · rw [Device.journal_bill]

/-- The end of a sub-interval forms values and maxima (R277 to R279). -/
theorem Device.endSub_bill (s : Device) (t : Nat) (k : EndKind) :
    (s.endSub t k).bill = { s.bill with
      dem := (s.endSub t k).bill.dem, max := (s.endSub t k).bill.max, dayMaxP := (s.endSub t k).bill.dayMaxP
      hour := { s.bill.hour with pMax := (s.endSub t k).bill.hour.pMax } } := by
  unfold Device.endSub
  dsimp only
  split
  · split <;> rfl
  · split
    · split <;> rfl
    · rfl

/-- Step 3: a sub-interval whose end has come closes, and the next begins. -/
def Device.subStep (s : Device) (t : Nat) : Device :=
  if s.bill.dem.nextEnd ≤ t then (s.endSub t .boundary).beginSub t
  else { s with bill := { s.bill with dem := { s.bill.dem with
    nextEnd := (nextAligned s.bill.calActive (subLen s.bill.dem.demLen s.bill.dem.demSub) t).toNat } } }

/-- Step 4: an hourly entry whose end has come closes, and the next begins. -/
def Device.hourStep (s : Device) (t : Nat) : Device :=
  if s.bill.hour.nextEnd ≤ t then (s.endHour t .boundary).beginHour t
  else { s with bill := { s.bill with hour := { s.bill.hour with
    nextEnd := (nextAligned s.bill.calActive hourLen t).toNat } } }

theorem Device.closeStep_eq (s : Device) (t : Nat) : s.closeStep t {} = (s.subStep t).hourStep t := rfl

theorem Device.subStep_standing (s : Device) (t : Nat) : (s.subStep t).bill.Standing s.bill := by
  unfold Device.subStep
  refine standing_ite ?_ ⟨rfl, rfl, rfl, rfl, rfl, rfl⟩
  unfold Device.beginSub
  dsimp only
  rw [s.endSub_bill]
  exact ⟨rfl, rfl, rfl, rfl, rfl, rfl⟩

theorem Device.subStep_keeps (s : Device) (t : Nat) :
    (s.subStep t).bill.trusted = s.bill.trusted ∧ (s.subStep t).bill.hour.nextEnd = s.bill.hour.nextEnd := by
  unfold Device.subStep
  split
  · unfold Device.beginSub
    dsimp only
    rw [s.endSub_bill]
    exact ⟨rfl, rfl⟩
  · exact ⟨rfl, rfl⟩

/-- A sub-interval whose end has come begins afresh at the tick (R275). -/
theorem Device.subStep_begins (s : Device) (t : Nat) (ends : s.bill.dem.nextEnd ≤ t) :
    (s.subStep t).bill.dem.tSubStart = t ∧ (s.subStep t).bill.dem.accE = 0 ∧ (s.subStep t).bill.dem.accV = 0 := by
  rw [Device.subStep, if_pos ends]
  exact ⟨rfl, rfl, rfl⟩

/-- The hour's step writes neither the running period nor the running sub-interval. -/
theorem Device.hourStep_bill (s : Device) (t : Nat) :
    (s.hourStep t).bill.Standing s.bill ∧ (s.hourStep t).bill.trusted = s.bill.trusted ∧
      (s.hourStep t).bill.dem.tSubStart = s.bill.dem.tSubStart ∧ (s.hourStep t).bill.dem.accE = s.bill.dem.accE ∧
      (s.hourStep t).bill.dem.accV = s.bill.dem.accV := by
  unfold Device.hourStep
  split
  · unfold Device.beginHour Device.endHour
    dsimp only
    rw [s.stage_bill]
    exact ⟨⟨rfl, rfl, rfl, rfl, rfl, rfl⟩, rfl, rfl, rfl, rfl⟩
  · exact ⟨⟨rfl, rfl, rfl, rfl, rfl, rfl⟩, rfl, rfl, rfl, rfl⟩

/-- An hour whose end has come begins afresh at the tick (R287). -/
theorem Device.hourStep_begins (s : Device) (t : Nat) (ends : s.bill.hour.nextEnd ≤ t) :
    (s.hourStep t).bill.hour.tStart = t := by
  rw [Device.hourStep, if_pos ends]
  rfl

/-! ## Steps 5 and 6: daily boundary and billing end (R268 to R274) -/

theorem Device.seedSched_standing (s : Device) (t : Nat) (seeded : s.bill.st.schedLast ≠ 0) :
    (s.seedSched t).bill.Standing s.bill := by
  unfold Device.seedSched
  exact standing_ite ⟨rfl, rfl, rfl, rfl, if_neg seeded, rfl⟩ (.refl _)

theorem Device.seedSched_running (s : Device) (t : Nat) : (s.seedSched t).bill.Running s.bill := by
  unfold Device.seedSched
  exact running_ite ⟨rfl, rfl, rfl, rfl, rfl⟩ (.refl _)

/-- A daily boundary writes the day's entry and fields only (R274). -/
theorem Device.crossDay_bill (s : Device) (t n : Nat) (last localDay : Int) (late : Bool) :
    (s.crossDay t n last localDay late).bill.Standing s.bill ∧ (s.crossDay t n last localDay late).bill.Running s.bill := by
  unfold Device.crossDay
  extract_lets c e s1 _ _ s2
  have written : s2.bill.Standing s.bill ∧ s2.bill.Running s.bill := by
    have staged : s1.bill.Standing s.bill ∧ s1.bill.Running s.bill := by
      unfold s1
      rw [s.stage_bill]
      exact ⟨⟨rfl, rfl, rfl, rfl, rfl, rfl⟩, rfl, rfl, rfl, rfl, rfl⟩
    have stands : s2.bill.Standing s1.bill := ⟨rfl, rfl, rfl, rfl, rfl, rfl⟩
    have running : s2.bill.Running s1.bill := ⟨rfl, rfl, rfl, rfl, rfl⟩
    exact ⟨stands.trans staged.1, running.trans staged.2⟩
  split
  · rw [Device.journal_bill]
    exact written
  · exact written

/-- A billing end advances the number and puts the period's snapshot in front (R272, R273). -/
theorem Device.crossBill_advances (s : Device) (t n : Nat) (last : Int) (late : Bool) :
    (s.crossBill t n last late).bill.st.seqLast = (s.bill.st.seqLast + 1) % 2 ^ 32 ∧
      ((s.crossBill t n last late).bill.snaps.head?.map fun b => (b.seq, b.tStart, b.tEnd)) =
        some ((s.bill.st.seqLast + 1) % 2 ^ 32, s.bill.st.tStart, t) := by
  unfold Device.crossBill
  dsimp only
  split
  all_goals
    rw [Device.journal_bill]
    exact ⟨rfl, rfl⟩

theorem Device.crossBill_running (s : Device) (t n : Nat) (last : Int) (late : Bool) :
    (s.crossBill t n last late).bill.Running s.bill := by
  unfold Device.crossBill
  dsimp only
  split
  all_goals
    rw [Device.journal_bill]
    exact ⟨rfl, rfl, rfl, rfl, rfl⟩

/-- Step 5: the daily boundary, in trusted time. -/
def Device.dayStep (s : Device) (t : Nat) (late : Bool) : Device :=
  let d := dayEndsIn s.bill.calActive
    ((if late then s.bill.st.daySchedLast else max s.bill.st.daySchedLast s.bill.lastTick : Nat) : Int) t
  if 0 < d.1 then s.crossDay t d.1 d.2.1 d.2.2 late else s

/-- Step 6: the billing end, in trusted time. -/
def Device.billStep (s : Device) (t : Nat) (late : Bool) : Device :=
  let b := billEndsIn s.bill.calActive
    ((if late then s.bill.st.schedLast else max s.bill.st.schedLast s.bill.lastTick : Nat) : Int) t
  if 0 < b.1 then s.crossBill t b.1 b.2 late else s

theorem Device.dayStep_bill (s : Device) (t : Nat) (late : Bool) :
    (s.dayStep t late).bill.Standing s.bill ∧ (s.dayStep t late).bill.Running s.bill := by
  unfold Device.dayStep
  extract_lets d
  obtain ⟨stands, running⟩ := s.crossDay_bill t d.1 d.2.1 d.2.2 late
  exact ⟨standing_ite stands (.refl _), running_ite running (.refl _)⟩

/-- In trusted time both steps are made; a daily boundary leaves the calendar by which the billing end is sought. -/
theorem Device.crossEnds_trusted (s : Device) (t : Nat) (late : Bool) (trusted : s.trusted = true) :
    s.crossEnds t late = (s.dayStep t late).billStep t late := by
  have cal : (s.dayStep t late).bill.calActive = s.bill.calActive := (s.dayStep_bill t late).1.cal
  have last : (s.dayStep t late).bill.lastTick = s.bill.lastTick := (s.dayStep_bill t late).1.last
  rw [Device.crossEnds, if_pos trusted, Device.billStep, cal, last]
  rfl

theorem Device.crossEnds_running (s : Device) (t : Nat) (late : Bool) : (s.crossEnds t late).bill.Running s.bill := by
  by_cases trusted : s.trusted = true
  · have billed : ((s.dayStep t late).billStep t late).bill.Running (s.dayStep t late).bill := by
      unfold Device.billStep
      exact running_ite (Device.crossBill_running ..) (.refl _)
    rw [s.crossEnds_trusted t late trusted]
    exact billed.trans (s.dayStep_bill t late).2
  · rw [Device.crossEnds, if_neg trusted]
    exact .refl _

/-! ## Steps 7 and 8: calendar and tariff (R263, R266, R281) -/

/-- The number of the period and the snapshots are not the calendar's to write, nor what runs. -/
theorem Device.activate_bill (s : Device) (t : Nat) (p : Calendar) :
    (s.activate t p).bill.st.seqLast = s.bill.st.seqLast ∧ (s.activate t p).bill.snaps = s.bill.snaps ∧
      (s.activate t p).bill.Running s.bill := by
  have armed (x : Device) : x.armRefresh.bill = x.bill := by
    unfold Device.armRefresh
    dsimp only
    split
    · exact x.disarm_bill 5
    · exact Device.arm_bill ..
  have realigned (x : Device) : x.realignRefresh.bill = x.bill := by
    unfold Device.realignRefresh
    split
    · exact armed x
    · rfl
  unfold Device.activate
  dsimp only
  rw [realigned, Device.journal_bill]
  exact ⟨rfl, rfl, rfl, rfl, rfl, rfl, rfl⟩

theorem Device.calStep_bill (s : Device) (t : Nat) :
    (s.calStep t).bill.st.seqLast = s.bill.st.seqLast ∧ (s.calStep t).bill.snaps = s.bill.snaps ∧
      (s.calStep t).bill.Running s.bill := by
  unfold Device.calStep
  split
  · exact ⟨rfl, rfl, .refl _⟩
  · split
    · exact s.activate_bill ..
    · split
      · rw [Device.journal_bill]
        exact ⟨rfl, rfl, rfl, rfl, rfl, rfl, rfl⟩
      · exact ⟨rfl, rfl, .refl _⟩

/-- The schedule follows the calendar; number, snapshots and what runs stay (R293). -/
theorem Device.tariffStep_bill (s : Device) (t : Nat) :
    (s.tariffStep t).bill.st.seqLast = s.bill.st.seqLast ∧ (s.tariffStep t).bill.snaps = s.bill.snaps ∧
      (s.tariffStep t).bill.Running s.bill ∧ (s.tariffStep t).bill.calActive = s.bill.calActive := by
  refine ⟨?_, rfl, ⟨rfl, rfl, rfl, rfl, rfl⟩, rfl⟩
  show (s.schedule t).seqLast = s.bill.st.seqLast
  unfold Device.schedule
  dsimp only
  split <;> rfl

/-- The tariff is that of the calendar in force, its default in untrusted time (R260, R263). -/
theorem Device.tariffStep_tariff (s : Device) (t : Nat) :
    (s.tariffStep t).bill.now.tariff =
      if s.trusted then (evalTariff s.bill.calActive t).tariff else s.bill.calActive.tariffDefault := by
  show (s.tariffAt t s.draw.1).tariff = _
  unfold Device.tariffAt
  dsimp only
  split <;> rfl

/-! ## The transaction as a whole (R281) -/

/-- Steps 1 to 4 of a boundary transaction. -/
def Device.entriesClosed (s : Device) : Device :=
  (((s.loadShadow 0).bringUp s.land.tick).trustStep).closeStep s.land.tick {}

/-- Time has become trusted since it was last handled. -/
def Device.trustReturns (s : Device) : Bool := s.trusted && !s.bill.trusted

/-- Steps 5 and 6 begin with the scheduled ends that trust seeds (R271). -/
def Device.endsSeeded (s : Device) : Device :=
  if s.trustReturns then s.entriesClosed.seedSched s.land.tick else s.entriesClosed

/-- Steps 1 to 6. -/
def Device.endsCrossed (s : Device) : Device := s.endsSeeded.crossEnds s.land.tick s.trustReturns

theorem Device.transaction_bill (s : Device) :
    (s.transaction {}).bill =
      { ((s.endsCrossed.calStep s.land.tick).tariffStep s.land.tick).bill with lastTick := s.land.tick } := by
  have armed (x : Device) : x.armBoundary.bill = x.bill := by
    unfold Device.armBoundary
    dsimp only
    split
    · exact x.disarm_bill 0
    · exact Device.arm_bill ..
  unfold Device.transaction
  extract_lets t became s1 s2 s3 s4 s5 s6
  have tariff : s4 = (s.endsCrossed.calStep t).tariffStep t := by
    simp only [s4, s3, s2, became, Bool.or_false]
    rfl
  have told : s5.bill = s4.bill := by
    unfold s5
    split
    · exact Device.journal_bill ..
    · rfl
  rw [Device.commit_bill, armed]
  show ({ s5.bill with lastTick := t } : Bill) = _
  rw [told, tariff]

section
variable (s : Device)

/-- The first four steps leave the running period; they note the trust of the tick. -/
theorem Device.entriesClosed_bill :
    s.entriesClosed.bill.Standing s.bill ∧ s.entriesClosed.bill.trusted = s.trusted := by
  have opened : ((s.loadShadow 0).bringUp s.land.tick).bill = s.bill := Device.bringUp_bill ..
  have trust := Device.trustStep_trusted ((s.loadShadow 0).bringUp s.land.tick)
  have trustStands := Device.trustStep_standing ((s.loadShadow 0).bringUp s.land.tick)
  rw [opened] at trustStands
  have same : ((s.loadShadow 0).bringUp s.land.tick).trusted = s.trusted :=
    Device.Same.trusted ((Device.bringUp_same ..).trans (Device.loadShadow_same ..))
  generalize h : ((s.loadShadow 0).bringUp s.land.tick).trustStep = x at trust trustStands
  obtain ⟨hourStands, hourTrust, -⟩ := (x.subStep s.land.tick).hourStep_bill s.land.tick
  obtain ⟨subTrust, -⟩ := x.subStep_keeps s.land.tick
  rw [Device.entriesClosed, h, Device.closeStep_eq]
  exact ⟨hourStands.trans ((x.subStep_standing _).trans trustStands), hourTrust.trans (subTrust.trans (trust.trans same))⟩

/-- Entries whose end has come begin afresh at the tick. -/
theorem Device.entriesClosed_begins :
    (s.bill.dem.nextEnd ≤ s.land.tick → s.entriesClosed.bill.dem.tSubStart = s.land.tick ∧
      s.entriesClosed.bill.dem.accE = 0 ∧ s.entriesClosed.bill.dem.accV = 0) ∧
    (s.bill.hour.nextEnd ≤ s.land.tick → s.entriesClosed.bill.hour.tStart = s.land.tick) := by
  have opened : ((s.loadShadow 0).bringUp s.land.tick).bill = s.bill := Device.bringUp_bill ..
  obtain ⟨subEnd, hourEnd⟩ := Device.trustStep_ends ((s.loadShadow 0).bringUp s.land.tick)
  rw [opened] at subEnd hourEnd
  generalize h : ((s.loadShadow 0).bringUp s.land.tick).trustStep = x at subEnd hourEnd
  obtain ⟨-, -, start, accE, accV⟩ := (x.subStep s.land.tick).hourStep_bill s.land.tick
  obtain ⟨-, later⟩ := x.subStep_keeps s.land.tick
  rw [Device.entriesClosed, h, Device.closeStep_eq]
  refine ⟨fun ends => ?_, fun ends => Device.hourStep_begins _ _ (by rw [later, hourEnd]; exact ends)⟩
  rw [start, accE, accV]
  exact x.subStep_begins _ (by rw [subEnd]; exact ends)

theorem Device.endsSeeded_running : s.endsSeeded.bill.Running s.entriesClosed.bill :=
  running_ite (Device.seedSched_running ..) (.refl _)

theorem Device.endsSeeded_standing (seeded : s.bill.st.schedLast ≠ 0) : s.endsSeeded.bill.Standing s.bill := by
  have closed := s.entriesClosed_bill.1
  have same : s.endsSeeded.bill.Standing s.entriesClosed.bill :=
    standing_ite (Device.seedSched_standing _ _ (by rw [closed.sched]; exact seeded)) (.refl _)
  exact same.trans closed

theorem Device.endsSeeded_trusted : s.endsSeeded.trusted = s.trusted := by
  have closed : s.entriesClosed.Same s :=
    (Device.closeStep_same ..).trans ((Device.trustStep_same _).trans ((Device.bringUp_same ..).trans (s.loadShadow_same 0)))
  exact Device.Same.trusted (same_ite ((Device.seedSched_same ..).trans closed) closed)

/-- What the transaction leaves running is what its fourth step has left. -/
theorem Device.transaction_running : (s.transaction {}).bill.Running s.entriesClosed.bill := by
  obtain ⟨-, -, cal⟩ := s.endsCrossed.calStep_bill s.land.tick
  obtain ⟨-, -, tariff, -⟩ := (s.endsCrossed.calStep s.land.tick).tariffStep_bill s.land.tick
  have crossed : s.endsCrossed.bill.Running s.entriesClosed.bill :=
    (Device.crossEnds_running ..).trans s.endsSeeded_running
  have stepped := tariff.trans (cal.trans crossed)
  rw [s.transaction_bill]
  exact ⟨stepped.trusted, stepped.subStart, stepped.accE, stepped.accV, stepped.hourStart⟩

/-- Number and snapshots are those that the crossing of the ends has left. -/
theorem Device.transaction_period :
    (s.transaction {}).bill.st.seqLast = s.endsCrossed.bill.st.seqLast ∧
      (s.transaction {}).bill.snaps = s.endsCrossed.bill.snaps := by
  obtain ⟨calSeq, calSnaps, -⟩ := s.endsCrossed.calStep_bill s.land.tick
  obtain ⟨seq, snaps, -⟩ := (s.endsCrossed.calStep s.land.tick).tariffStep_bill s.land.tick
  rw [s.transaction_bill]
  exact ⟨seq.trans calSeq, snaps.trans calSnaps⟩

/-- The ends of billing periods in the span that trusted time lets the transaction cross, and the latest (R269, R270). -/
def Device.endsDue : Nat × Int :=
  billEndsIn s.bill.calActive
    ((if s.bill.trusted then max s.bill.st.schedLast s.bill.lastTick else s.bill.st.schedLast : Nat) : Int) s.land.tick

/-- In trusted time the billing end is sought by the calendar and the schedule that the transaction has found. -/
theorem Device.endsCrossed_trusted (trusted : s.trusted = true) (seeded : s.bill.st.schedLast ≠ 0) :
    ∃ x : Device, x.bill.Standing s.bill ∧ s.endsCrossed =
      if 0 < s.endsDue.1 then x.crossBill s.land.tick s.endsDue.1 s.endsDue.2 s.trustReturns else x := by
  have due : s.endsSeeded.trusted = true := s.endsSeeded_trusted.trans trusted
  have stands := (s.endsSeeded.dayStep_bill s.land.tick s.trustReturns).1.trans (s.endsSeeded_standing seeded)
  have returns : s.trustReturns = !s.bill.trusted := by simp [Device.trustReturns, trusted]
  have span : (if s.trustReturns then s.bill.st.schedLast else max s.bill.st.schedLast s.bill.lastTick) =
      if s.bill.trusted then max s.bill.st.schedLast s.bill.lastTick else s.bill.st.schedLast := by
    rw [returns]
    cases s.bill.trusted <;> rfl
  refine ⟨s.endsSeeded.dayStep s.land.tick s.trustReturns, stands, ?_⟩
  rw [Device.endsCrossed, Device.crossEnds_trusted _ _ _ due, Device.billStep, stands.cal, stands.sched, stands.last, span]
  rfl

/-- Ends crossed advance the number by one, and the period's snapshot comes to the front; with none, both stay. -/
theorem Device.transaction_ends (trusted : s.trusted = true) (seeded : s.bill.st.schedLast ≠ 0) :
    (0 < s.endsDue.1 → (s.transaction {}).bill.st.seqLast = (s.bill.st.seqLast + 1) % 2 ^ 32 ∧
      ((s.transaction {}).bill.snaps.head?.map fun b => (b.seq, b.tStart, b.tEnd)) =
        some ((s.bill.st.seqLast + 1) % 2 ^ 32, s.bill.st.tStart, s.land.tick)) ∧
    (s.endsDue.1 = 0 → (s.transaction {}).bill.st.seqLast = s.bill.st.seqLast ∧
      (s.transaction {}).bill.snaps = s.bill.snaps) := by
  obtain ⟨seq, snaps⟩ := s.transaction_period
  obtain ⟨x, stands, crossed⟩ := s.endsCrossed_trusted trusted seeded
  rw [seq, snaps, crossed]
  refine ⟨fun due => ?_, fun idle => ?_⟩
  · rw [if_pos due, ← stands.seq, ← stands.start]
    exact x.crossBill_advances ..
  · rw [if_neg (by omega)]
    exact ⟨stands.seq, stands.snaps⟩

theorem Device.transaction_tariff :
    (s.transaction {}).bill.now.tariff =
      if s.trusted then (evalTariff (s.transaction {}).bill.calActive s.land.tick).tariff
      else (s.transaction {}).bill.calActive.tariffDefault := by
  obtain ⟨-, -, -, cal⟩ := (s.endsCrossed.calStep s.land.tick).tariffStep_bill s.land.tick
  have trusted : (s.endsCrossed.calStep s.land.tick).trusted = s.trusted :=
    (Device.Same.trusted ((Device.calStep_same ..).trans (Device.crossEnds_same ..))).trans s.endsSeeded_trusted
  rw [s.transaction_bill]
  dsimp only
  rw [Device.tariffStep_tariff, trusted, cal]

/-- The commit that ends the transaction brings the time counters to its tick (R242). -/
theorem Device.transaction_tCond (tolls : s.tolling = true) : (s.transaction {}).toll.ft.tCond = s.land.tick := by
  obtain ⟨x, ended⟩ : ∃ x : Device, s.transaction {} = x.commit := ⟨_, rfl⟩
  have tick : x.land.tick = s.land.tick := by
    have same : (s.transaction {}).land.tick = s.land.tick := by simp
    rwa [ended, Device.commit_land] at same
  have still : x.tolling = true := by
    have same : (s.transaction {}).tolling = s.tolling := by
      rw [(s.transaction_laned {}).rest]
      rfl
    rw [ended, tolls] at same
    rw [← same]
    simp [Device.tolling, Device.up, Device.started, Device.secondary]
  rw [ended, Device.commit, if_pos still]
  exact tick

end

theorem Device.boundaryFirst_due {s : Device} (tolls : s.tolling = true)
    (due : s.fired 0 = true ∨ s.bill.trusted ≠ s.trusted) : s.boundaryFirst = s.transaction {} := by
  have pending : s.boundaryDue = true := by
    rcases due with fired | changed
    · simp [Device.boundaryDue, tolls, fired]
    · simp [Device.boundaryDue, tolls, changed]
  exact if_pos pending

theorem Device.boundaryFirst_idle {s : Device}
    (idle : s.tolling = false ∨ (s.fired 0 = false ∧ s.bill.trusted = s.trusted)) : s.boundaryFirst = s := by
  have still : s.boundaryDue = false := by
    rcases idle with off | ⟨quiet, handled⟩
    · simp [Device.boundaryDue, off]
    · simp [Device.boundaryDue, quiet, handled]
  exact if_neg (Bool.eq_false_iff.mp still)

end Sys2Proof.Machine

namespace Sys2Proof
open Machine

/-- Settles O49: each step of the transaction writes its own part of billing, so that what the statement says of a part is
what its own step does. -/
theorem boundariesCloseOnOneTick : Obligations.BoundariesCloseOnOneTick := by
  intro dt s d hd
  have run : exec (.boundaryTransaction dt) s = .next { s with dev := d.boundaryFirst } := by rw [hd]; rfl
  refine ⟨fun tolls due => ⟨d.transaction {}, ?_, ?_⟩, fun idle => ?_⟩
  · rw [run, Device.boundaryFirst_due tolls due]
  · have lane := d.transaction_laned {}
    have running := d.transaction_running
    obtain ⟨sub, hour⟩ := d.entriesClosed_begins
    have last : (d.transaction {}).bill.lastTick = d.land.tick := by rw [d.transaction_bill]
    have conf : (d.transaction {}).conf = d.conf := by rw [lane.rest]
    have keys : (d.transaction {}).sec.keys = d.sec.keys := by rw [lane.rest]
    refine ⟨last, running.trusted.trans d.entriesClosed_bill.2, d.transaction_tCond tolls, fun ends => ?_, fun ends => ?_,
      fun trusted seeded last hlast => ?_, d.transaction_tariff, lane.billed.1, conf, by simp, keys⟩
    · rw [running.subStart, running.accE, running.accV]
      exact sub ends
    · rw [running.hourStart]
      exact hour ends
    · rw [hlast]
      exact d.transaction_ends trusted seeded
  · rw [run, Device.boundaryFirst_idle idle]

end Sys2Proof

/-! SUPPORT. The supply on its way down (R316, R322, R323, R324, R482). -/

namespace Sys2Proof.Machine

/-! ## Lockout (R316, R323) -/

/-- The Landing as SUPPLY_LOCKOUT leaves it: `PWR_EN` low, a set that waits discarded with its event. -/
def Device.lockedOut (s : Device) : Landing :=
  { s.land with
    supply := .batLock, pwrEn := false, pendSet := none
    queued := s.land.queued ++ (if s.land.pendSet = none then []
      else [⟨0x409, s.land.tick, s.land.cnt.stepSeq, 0, !s.trusted⟩]) }

theorem Device.discardSet_lockedOut (s : Device) :
    Device.discardSet { s with land := { s.land with supply := .batLock, pwrEn := false } } =
      { s with land := s.lockedOut } := by
  cases set : s.land.pendSet with
  | none => simp [Device.discardSet, Device.lockedOut, set]
  | some p => simp [Device.discardSet, Device.lockedOut, set, Landing.untrusted, Device.trusted]

section
variable {dt : Nat} {s : State} {d : Device} (hd : d = s.dev.elapse dt)
include hd

theorem supplyLockout_starts (out : d.power.st ≠ .ship) (bat : d.land.supply = .bat) :
    exec (.supplyLockout dt) s = .next { s with dev := Device.holdStart { d with land := d.lockedOut } } := by
  have landed : d.landed = true := Device.landed_of (by rw [bat]; decide) out
  simp [exec, execSupplyLockout, ← hd, landed, bat, d.discardSet_lockedOut]

theorem supplyBkp_enters (out : d.power.st ≠ .ship) (lock : d.land.supply = .batLock) :
    exec (.supplyBkp dt) s = .next { s with dev := { d with land := { d.land with
      supply := .bkp, bkpSince := d.land.tick
      cnt := { d.land.cnt with bkpCount := satInc d.land.cnt.bkpCount }
      queued := d.land.queued ++ [⟨0x404, d.land.tick, 0, 0, !d.trusted⟩] } } } := by
  have landed : d.landed = true := Device.landed_of (by rw [lock]; decide) out
  simp [exec, execSupplyBkp, ← hd, landed, lock, d.untrusted_land]

theorem landingLost_stops (out : d.power.st ≠ .ship) (bkp : d.land.supply = .bkp) :
    exec (.landingLost dt) s =
      .next { s with dev := { d with land := { d.land with supply := .lost, lfxRunning := false } } } := by
  have landed : d.landed = true := Device.landed_of (by rw [bkp]; decide) out
  simp [exec, execLandingLost, ← hd, landed, bkp]

end

/-- Before t0 a hold-up commit falls due, and nothing is given up. -/
theorem Device.holdStart_idle (s : Device) (idle : s.started = false) :
    s.holdStart = { s with power := { s.power with holdDue := s.power.holdDue || s.powered, shipping := false } } := by
  rw [Device.holdStart, s.holdBegin_idle false idle]

/-- In service the commit falls due with what `holdBegin` gives up noted. -/
theorem Device.holdStart_started (s : Device) (started : s.started = true) :
    s.holdStart = { s.holdBegin false with
      power := { s.power with
        holdDue := s.power.holdDue || s.powered, shipping := false
        heldItems := s.power.heldItems + s.abandoned, heldRegions := s.power.heldRegions ||| s.disp.runMask } } := by
  rw [Device.holdStart, s.holdBegin_started false started]
  rfl

/-- Nothing counts where the Landing has no supply (R324). -/
theorem Device.elapse_lost (s : Device) (lost : s.land.supply = .lost) (n : Nat) : (s.elapse n).land = s.land := by
  have still : s.ticking = false := by simp [Device.ticking, lost]
  simp [Device.elapse, still]

end Sys2Proof.Machine

namespace Sys2Proof
open Machine

/-- Settles O14: lockout gives up the work of the service as every hold-up commit does, and the switches below write the
Landing only. -/
theorem supplyFallsInOrder : Obligations.SupplyFallsInOrder := by
  intro dt s d hd out
  refine ⟨fun bat l hl => ?_, fun lock => supplyBkp_enters hd out lock, fun bkp => ?_⟩
  · have run := supplyLockout_starts hd out bat
    have locked : d.lockedOut = l := hl.symm
    rw [run, locked]
    refine ⟨fun idle => ?_, fun started => ⟨_, rfl, ?_⟩⟩
    · rw [Device.holdStart_idle { d with land := l } idle]
      rfl
    · have givesUp := Device.holdBegin_givesUp { d with land := l } false started
      rw [Device.holdStart_started { d with land := l } started]
      rw [Device.holdBegin_started { d with land := l } false started] at givesUp ⊢
      refine ⟨givesUp, rfl, fun g mem => ?_, rfl, rfl, rfl⟩
      obtain ⟨g', -, rfl⟩ := List.mem_map.mp mem
      exact ⟨rfl, rfl⟩
  · exact ⟨_, landingLost_stops hd out bkp, rfl, rfl, rfl, rfl, fun n => Device.elapse_lost _ rfl n⟩

end Sys2Proof

/-! SUPPORT. The Store in the background: steps due, the scrub, objects lost with a word, the flash rings (R493 to R509). -/

namespace Sys2Proof.Machine

/-! ## Steps that fall due (R509) -/

section
variable {dt : Nat} {s : State} {d : Device} (hd : d = s.dev.elapse dt) (up : d.up = true)
include hd up

theorem bgStepDue_marks (u : BgUnit) {r : Nat} (ready : d.store.readySince.getD (bgUnitNo u) none = some r)
    (waited : 4 * (d.bgPeriod (bgUnitNo u)).1 ≤ (d.land.osc - r) * (d.bgPeriod (bgUnitNo u)).2)
    (fresh : d.store.due.getD (bgUnitNo u) false = false) :
    exec (.bgStepDue dt u) s = .next { s with dev := { d with store := { d.store with
      due := setAt d.store.due (bgUnitNo u) fun _ => true, bgDue := setAt d.store.bgDue (bgUnitNo u) satInc } } } := by
  have overdue : d.bgWaited (bgUnitNo u) = true := by
    simp only [Device.bgWaited, ready, decide_eq_true_eq]
    exact waited
  have acts : (d.up && d.bgWaited (bgUnitNo u) && !d.store.due.getD (bgUnitNo u) false) = true := by
    rw [up, overdue, fresh]
    rfl
  simp only [exec, execBgStepDue, ← hd, acts, if_true]

theorem bgStepDue_waits (u : BgUnit)
    (early : d.store.readySince.getD (bgUnitNo u) none = none ∨ d.store.due.getD (bgUnitNo u) false = true ∨
      ∃ r, d.store.readySince.getD (bgUnitNo u) none = some r ∧
        (d.land.osc - r) * (d.bgPeriod (bgUnitNo u)).2 < 4 * (d.bgPeriod (bgUnitNo u)).1) :
    exec (.bgStepDue dt u) s = .next { s with dev := d } := by
  have rests : (d.up && d.bgWaited (bgUnitNo u) && !d.store.due.getD (bgUnitNo u) false) = false := by
    rcases early with unready | marked | ⟨r, ready, short⟩
    · have still : d.bgWaited (bgUnitNo u) = false := by simp only [Device.bgWaited, unready]
      rw [still, up]
      rfl
    · rw [marked]
      exact Bool.and_false _
    · have still : d.bgWaited (bgUnitNo u) = false := by
        simp only [Device.bgWaited, ready, decide_eq_false_iff_not, Nat.not_le]
        exact short
      rw [still, up]
      rfl
  simp only [exec, execBgStepDue, ← hd, rests, Bool.false_eq_true, if_false]

end

/-! ## What an event writes of the Store (R290, R498) -/

theorem Store.commit_eq (x : Store) (t : Nat) :
    x.commit t = { x with
      txnOpen := (x.commit t).txnOpen, txnSeq := (x.commit t).txnSeq, txnWrites := (x.commit t).txnWrites
      ring := (x.commit t).ring, txnCommits := (x.commit t).txnCommits } := by
  simp only [Store.commit]

/-- An event writes the commit journal's counts and its ring. -/
theorem Device.journal_store (s : Device) (c a b : Nat) :
    (s.journal c a b).store = { s.store with
      txnOpen := (s.journal c a b).store.txnOpen, txnSeq := (s.journal c a b).store.txnSeq
      txnWrites := (s.journal c a b).store.txnWrites, ring := (s.journal c a b).store.ring
      txnCommits := (s.journal c a b).store.txnCommits } := by
  unfold Device.journal Device.journalAt Device.journalWith
  split
  · rfl
  · rw [Device.commit_store]
    exact Store.commit_eq ..

/-! ## The pass of the scrub (R497) -/

/-- A scrub step has read up to `n` words of the pass. -/
def Device.scrubbed (t : Device) (n : Nat) : Device :=
  { t.stepRan 3 with store := { (t.stepRan 3).store with scrubRead := n } }

theorem Device.scrubStep_reads (s : Device) {x : ScrubFinding} {t : Device} {n : Nat} (e : Bool)
    (due : s.scrubDue (s.store.scrubRead + scrubSize x) = true) (found : s.scrubFound x = (t, n)) :
    s.scrubStep x e = (t.scrubbed (s.store.scrubRead + n)).passEnds e := by
  simp only [Device.scrubStep, due, if_true, found]
  rfl

theorem Device.passEnds_goesOn (s : Device) (e : Bool) (rest : e = false ∨ s.store.scrubRead ≠ 65536) :
    s.passEnds e = s := by
  refine if_neg ?_
  rcases rest with rfl | more
  · simp
  · simp [framWords, more]

theorem Device.passEnds_last (s : Device) (all : s.store.scrubRead = 65536) :
    s.passEnds true = { s with store := { s.store with
      scrubPasses := satInc s.store.scrubPasses, scrubTick := s.land.tick, scrubRead := 0 } } :=
  if_pos (by simp [framWords, all])

theorem wordClean_of_good {w : WordAt} (good : ∃ v, w.read = .good v) : wordClean w = true := by
  obtain ⟨v, read⟩ := good
  simp [wordClean, read]

/-- Words without an error are read, and the step goes on after them. -/
theorem singlesGo_clean (l r : List (Nat × WordAt)) (s : Device) (n : Nat) (clean : ∀ x ∈ l, ∃ v, x.2.read = .good v) :
    singlesGo (l ++ r) s n = singlesGo r s (n + l.length) := by
  induction l generalizing n with
  | nil => rfl
  | cons x l ih =>
    have good : wordClean x.2 = true := wordClean_of_good (clean x List.mem_cons_self)
    have rest := ih (n + 1) fun y mem => clean y (List.mem_cons_of_mem x mem)
    rw [List.cons_append, singlesGo, if_pos good, rest, List.length_cons]
    congr 1
    omega

/-- The first word that is not clean ends the step. -/
theorem singlesGo_stops (o : Nat) (w : WordAt) (l rs : List (Nat × WordAt)) (s : Device)
    (clean : ∀ x ∈ l, ∃ v, x.2.read = .good v) (bad : wordClean w = false) :
    singlesGo (l ++ (o, w) :: rs) s 0 = (s.readSingle o w, l.length + 1) := by
  rw [singlesGo_clean l _ s 0 clean, singlesGo, if_neg (Bool.eq_false_iff.mp bad), Nat.zero_add]

/-- Copies of which one has another value end the step. -/
theorem triplesGo_stops (o : Nat) (a b c : WordAt) (l : List (Nat × WordAt × WordAt × WordAt)) (s : Device)
    (differ : a.read ≠ b.read) : triplesGo ((o, a, b, c) :: l) s 0 = (s.readTriple o a b c, 3) := by
  rw [triplesGo, if_neg (by simp [differ])]

section
variable {dt : Nat} {s : State} {d : Device} (hd : d = s.dev.elapse dt) (up : d.up = true)
include hd up

theorem scrubStep_reads {x : ScrubFinding} {t : Device} {n : Nat} (e : Bool)
    (due : d.scrubDue (d.store.scrubRead + scrubSize x) = true) (found : d.scrubFound x = (t, n)) :
    exec (.scrubStep dt x e) s = .next { s with dev := (t.scrubbed (d.store.scrubRead + n)).passEnds e } := by
  simp only [exec, execScrubStep, ← hd, up, if_true, d.scrubStep_reads e due found]

theorem scrubStep_early {x : ScrubFinding} (e : Bool) (early : d.scrubDue (d.store.scrubRead + scrubSize x) = false) :
    exec (.scrubStep dt x e) s = .next { s with dev := d } := by
  simp only [exec, execScrubStep, ← hd, up, Device.scrubStep, early, Bool.false_eq_true, if_true, if_false]

end

/-! ## What the loss of an object leaves (R495) -/

/-- Billed registers, the role in the cascade and the count of uncorrectable words are the same. -/
structure Device.Spared (t s : Device) : Prop where
  billed : t.SameBilled s
  role : t.haw.role = s.haw.role
  count : t.store.framUncorrectable = s.store.framUncorrectable

theorem Device.Spared.refl (s : Device) : s.Spared s := ⟨⟨rfl, rfl, rfl⟩, rfl, rfl⟩

theorem Device.Spared.trans {a b c : Device} (h : a.Spared b) (k : b.Spared c) : a.Spared c :=
  ⟨h.billed.trans k.billed, h.role.trans k.role, h.count.trans k.count⟩

theorem spared_ite {p : Prop} [Decidable p] {a b s : Device} (h : a.Spared s) (k : b.Spared s) :
    (if p then a else b).Spared s := by
  split <;> assumption

/-- The calendar lane writes neither billed registers nor the Hawser. -/
theorem Device.Laned.spared {t s : Device} (h : t.Laned s) (count : t.store.framUncorrectable = s.store.framUncorrectable) :
    t.Spared s :=
  ⟨h.billed, by rw [h.rest], count⟩

theorem Device.journal_spared (s : Device) (c a b : Nat) : (s.journal c a b).Spared s :=
  (s.journal_laned c a b).spared (by rw [s.journal_store])

theorem Device.arm_spared (s : Device) (i t : Nat) (e : Bool) : (s.arm i t e).Spared s :=
  (s.arm_laned i t e).spared (by rw [Device.arm_store])

theorem Device.disarm_spared (s : Device) (i : Nat) : (s.disarm i).Spared s :=
  (s.disarm_laned i).spared (by rw [Device.disarm_store])

theorem Device.degrade_spared (s : Device) (f : Degraded → Degraded) : (s.degrade f).Spared s := ⟨⟨rfl, rfl, rfl⟩, rfl, rfl⟩

theorem Device.recond_spared (s : Device) : s.recond.Spared s :=
  s.recond_laned.spared (by rw [s.recond_toll])

theorem Device.setFunc_spared (s : Device) (k : Func) (v : FuncState) : (s.setFunc k v).Spared s := by
  have toll := s.setFunc_toll k v
  have role : (s.setFunc k v).haw.role = s.haw.role := by
    unfold Device.setFunc
    dsimp only
    split
    · cases k <;> rfl
    · split
      · cases k <;> rfl
      · rfl
  exact ⟨⟨by rw [toll], by rw [toll], by rw [toll]⟩, role, by rw [Device.setFunc_store]⟩

theorem Device.applyFunctions_spared (s : Device) : s.applyFunctions.Spared s := by
  have step (l : List Func) (x : Device) : (l.foldl Device.wantStep x).Spared x := by
    induction l generalizing x with
    | nil => exact .refl x
    | cons f l ih =>
      have wants : (x.wantStep f).Spared x := spared_ite (x.setFunc_spared ..) (x.setFunc_spared ..)
      exact (ih _).trans wants
  exact step allFuncs s

theorem Device.displayTables_spared (s : Device) : s.displayTables.Spared s := by
  unfold Device.displayTables
  extract_lets p s1
  have tabled : s1.Spared s := ⟨⟨rfl, rfl, rfl⟩, rfl, rfl⟩
  exact (Device.degrade_spared ..).trans (spared_ite tabled ((s1.journal_spared ..).trans tabled))

theorem Device.tablesGone_spared (s : Device) : s.tablesGone.Spared s :=
  spared_ite (spared_ite ⟨⟨rfl, rfl, rfl⟩, rfl, rfl⟩ s.displayTables_spared) (.refl s)

theorem Device.calibTest_spared (s : Device) : s.calibTest.Spared s := by
  unfold Device.calibTest
  extract_lets c _ s1
  have tested : s1.Spared s := ⟨⟨rfl, rfl, rfl⟩, rfl, rfl⟩
  exact spared_ite ((s1.journal_spared ..).trans tested) tested

theorem Device.realignRefresh_spared (s : Device) : s.realignRefresh.Spared s :=
  spared_ite (spared_ite (s.disarm_spared _) (s.arm_spared ..)) (.refl s)

theorem Device.armBoundary_spared (s : Device) : s.armBoundary.Spared s := by
  unfold Device.armBoundary
  dsimp only
  split
  · exact s.disarm_spared _
  · exact s.arm_spared ..

theorem Device.builtInCalendar_spared (s : Device) : s.builtInCalendar.Spared s := by
  unfold Device.builtInCalendar
  extract_lets t d _ _ s1 s2 _
  have began : s1.updateTimeNow.Spared s := ⟨⟨rfl, rfl, rfl⟩, rfl, rfl⟩
  have realigned : s2.Spared s := s1.updateTimeNow.realignRefresh_spared.trans began
  have tariff (b : Bill) : (Device.tariffStep { s2 with bill := b } t).Spared s2 := ⟨⟨rfl, rfl, rfl⟩, rfl, rfl⟩
  exact spared_ite ((Device.armBoundary_spared _).trans ((tariff _).trans realigned)) realigned

theorem Device.reseed_spared (s : Device) : s.reseed.Spared s := by
  unfold Device.reseed
  extract_lets s1 _ s2
  have seeded : s1.Spared s := spared_ite ⟨⟨rfl, rfl, rfl⟩, rfl, rfl⟩ (.refl s)
  have scheduled : s2.Spared s1 := ⟨⟨rfl, rfl, rfl⟩, rfl, rfl⟩
  have done := scheduled.trans seeded
  exact spared_ite (spared_ite done (s2.armBoundary_spared.trans done)) done

/-- Volume and billed energy stand in three copies, and are no object of one (R494, R495). -/
theorem Device.lostLegal_spared (s : Device) (obj : Nat) : (s.lostLegal obj).Spared s := by
  unfold Device.lostLegal
  dsimp only
  split
  case h_8 => exact (Device.reseed_spared _).trans ⟨⟨rfl, rfl, rfl⟩, rfl, rfl⟩
  all_goals exact ⟨⟨rfl, rfl, rfl⟩, rfl, rfl⟩

theorem Device.lostConfig_spared (s : Device) (obj : Nat) : (s.lostConfig obj).Spared s := by
  unfold Device.lostConfig
  split
  case h_1 => exact s.builtInCalendar_spared
  case h_4 =>
    extract_lets _ s1
    have gone : s1.Spared s := (Device.tablesGone_spared _).trans ⟨⟨rfl, rfl, rfl⟩, rfl, rfl⟩
    have judged := s1.calibTest.applyFunctions.recond_spared.trans
      (s1.calibTest.applyFunctions_spared.trans s1.calibTest_spared)
    exact spared_ite (judged.trans gone) gone
  all_goals exact ⟨⟨rfl, rfl, rfl⟩, rfl, rfl⟩

theorem Device.lostLearned_spared (s : Device) (obj : Nat) : (s.lostLearned obj).Spared s := by
  unfold Device.lostLearned
  split
  case h_8 => exact (Device.disarm_spared ..).trans ⟨⟨rfl, rfl, rfl⟩, rfl, rfl⟩
  all_goals exact ⟨⟨rfl, rfl, rfl⟩, rfl, rfl⟩

/-- Only the object that holds the counts of errors takes them with it (R458, R510). -/
theorem Device.lostTelemetry_spares (s : Device) (obj : Nat) :
    (s.lostTelemetry obj).SameBilled s ∧ (s.lostTelemetry obj).haw.role = s.haw.role ∧
      (obj ≠ 0x0EF0 → (s.lostTelemetry obj).store.framUncorrectable = s.store.framUncorrectable) := by
  unfold Device.lostTelemetry
  split
  case h_14 => exact ⟨⟨rfl, rfl, rfl⟩, rfl, fun other => absurd rfl other⟩
  all_goals exact ⟨⟨rfl, rfl, rfl⟩, rfl, fun _ => rfl⟩

/-- The object as its class leaves it. -/
def Device.objectLost (s : Device) (obj : Nat) : Device :=
  (((s.lostLegal obj).lostConfig obj).lostLearned obj).lostTelemetry obj

/-- The loss noted, before its event. -/
def Device.lossNoted (s : Device) (obj : Nat) : Device :=
  Device.degrade { s.objectLost obj with store := { (s.objectLost obj).store with
    framUncorrectable := satInc (s.objectLost obj).store.framUncorrectable } } fun d => { d with fram := true }

theorem Device.framLost_eq (s : Device) (word obj : Nat) : s.framLost word obj = (s.lossNoted obj).journal 0xA07 word obj := rfl

theorem Device.objectLost_spares (s : Device) (obj : Nat) :
    (s.objectLost obj).SameBilled s ∧ (s.objectLost obj).haw.role = s.haw.role ∧
      (obj ≠ 0x0EF0 → (s.objectLost obj).store.framUncorrectable = s.store.framUncorrectable) := by
  have before : ((s.lostLegal obj).lostConfig obj |>.lostLearned obj).Spared s :=
    (Device.lostLearned_spared ..).trans ((Device.lostConfig_spared ..).trans (s.lostLegal_spared obj))
  obtain ⟨billed, role, count⟩ := Device.lostTelemetry_spares ((s.lostLegal obj).lostConfig obj |>.lostLearned obj) obj
  exact ⟨billed.trans before.billed, role.trans before.role, fun other => (count other).trans before.count⟩

theorem Device.objectLost_same (s : Device) (obj : Nat) : (s.objectLost obj).Same s :=
  (Device.lostTelemetry_same ..).trans ((Device.lostLearned_same ..).trans ((Device.lostConfig_same ..).trans
    (s.lostLegal_same obj)))

/-- A double-bit error of a single copy: what is counted, raised and journalled, and what it leaves (R495). -/
theorem Device.framLost_counts (s : Device) (w o : Nat) :
    (s.framLost w o).power.deg.fram = true ∧
      (o ≠ 0x0EF0 → (s.framLost w o).store.framUncorrectable = satInc s.store.framUncorrectable) ∧
      (s.secondary = false → (s.framLost w o).jnl.entries.head? =
        some ⟨s.land.tick, 0xA07, !s.trusted, w % 2 ^ 32, o % 2 ^ 32⟩) ∧ (s.framLost w o).SameBilled s := by
  obtain ⟨billed, role, count⟩ := s.objectLost_spares o
  have same := s.objectLost_same o
  have trusted := same.trusted
  obtain ⟨-, -, -, -, -, tick, -⟩ := same
  rw [s.framLost_eq w o]
  refine ⟨?_, fun other => ?_, fun primary => ?_, ?_⟩
  · rw [Device.journal_power]
    rfl
  · rw [Device.journal_store, ← count other]
    rfl
  · have primary' : (s.lossNoted o).secondary = false := by
      rw [← primary, Device.secondary, Device.secondary, ← role]
      rfl
    rw [Device.journal_head _ _ _ _ primary', ← tick, ← trusted]
    rfl
  · exact ((Device.journal_laned ..).billed).trans billed

/-! ## Words in three copies (R494, R496) -/

theorem Device.scrubbed_journal (s : Device) (x : Store) (c a b n : Nat) {t : Device}
    (ht : t = (Device.journal { s with store := x } c a b).scrubbed n) :
    t = { s with jnl := t.jnl, store := t.store, toll := { s.toll with ft := t.toll.ft } } := by
  have written : Device.journal { s with store := x } c a b = { s with
      jnl := (Device.journal { s with store := x } c a b).jnl
      store := (Device.journal { s with store := x } c a b).store
      toll := { s.toll with ft := (Device.journal { s with store := x } c a b).toll.ft } } := by
    unfold Device.journal Device.journalAt Device.journalWith Device.commit
    split
    · rfl
    · split <;> rfl
  rw [ht, written]
  rfl

/-- Of three copies the second alone disagrees: it is rewritten from the others. -/
theorem Device.readTriple_repairs (s : Device) (o a b c : Nat) {v u : Nat} (differ : u ≠ v) :
    s.readTriple o ⟨a, .good v⟩ ⟨b, .good u⟩ ⟨c, .good v⟩ =
      Device.journal { s with store := { s.store with copyRepairs := satInc s.store.copyRepairs } } 0xA08 b 1 := by
  simp [Device.readTriple, vote, readValue, Device.repairCopy, Device.corrects, differ]

/-- Copies of which no two agree are given up (R496, R518). -/
theorem Device.readTriple_splits (s : Device) (o a b c : Nat) {v w : Nat} {x : WordRead} (differ : v ≠ w)
    (third : x = .double ∨ ∃ u, x = .good u ∧ u ≠ v ∧ u ≠ w) :
    s.readTriple o ⟨a, .good v⟩ ⟨b, .good w⟩ ⟨c, x⟩ = s.legalEnter 3 o := by
  rcases third with rfl | ⟨u, rfl, notFirst, notSecond⟩
  · simp [Device.readTriple, vote, readValue, Device.corrects, differ]
  · simp [Device.readTriple, vote, readValue, Device.corrects, differ, notFirst.symm, notSecond.symm]

/-- What LEGAL_HOLD tells of a cause that has begun leaves registers, configuration and Landing (R518). -/
theorem Device.holdTold_spares (s : Device) (cause arg : Nat) (held : Bool) {t : Device}
    (ht : t = if held then s.recond.journal 0xA01 cause arg else (s.recond.journal 0xA01 cause arg).tamper 23) :
    t.st = s.st ∧ t.SameBilled s ∧ t.conf = s.conf ∧ t.land = s.land := by
  have entered := s.recond.journal_booked 0xA01 cause arg
  have counted : t.Booked s.recond := by
    rw [ht]
    split
    · exact entered
    · exact (Device.tamper_booked _ 23).trans entered
  have booked : t = { s.recond with
    sec := t.sec, jnl := t.jnl, toll := { s.recond.toll with ft := t.toll.ft }, store := t.store } := counted
  have billed : t.SameBilled s.recond := by
    rw [booked]
    exact ⟨rfl, rfl, rfl⟩
  refine ⟨?_, billed.trans s.recond_laned.billed, ?_, ?_⟩
  all_goals rw [booked, s.recond_toll]

/-- A vote that fails is the cause of its bit (R496, R518). -/
theorem Device.legalEnter_vote (s : Device) (arg : Nat) :
    (s.legalEnter 3 arg).st = { s.st with holdVote := true } ∧ (s.legalEnter 3 arg).SameBilled s ∧
      (s.legalEnter 3 arg).conf = s.conf ∧ (s.legalEnter 3 arg).land = s.land := by
  by_cases held : { s.st with holdVote := true } = s.st
  · have stays : s.legalEnter 3 arg = s := if_pos held
    rw [stays]
    exact ⟨held.symm, ⟨rfl, rfl, rfl⟩, rfl, rfl⟩
  · exact Device.holdTold_spares { s with st := { s.st with holdVote := true } } _ arg s.st.legalHold (if_neg held)

/-! ## What a scrub step does with what it finds (R494 to R497) -/

section
variable {dt : Nat} {s : State} {d : Device} (hd : d = s.dev.elapse dt) (up : d.up = true)
include hd up

/-- With every word clean the step only reads, and at the end of the pass counts it. -/
theorem scrubStep_clean {l : List (Nat × WordAt)} (clean : ∀ x ∈ l, ∃ v, x.2.read = .good v)
    (due : d.scrubDue (d.store.scrubRead + l.length) = true) (e : Bool) :
    exec (.scrubStep dt (.singles l) e) s =
      .next { s with dev := (d.scrubbed (d.store.scrubRead + l.length)).passEnds e } := by
  have found : d.scrubFound (.singles l) = (d, l.length) := by
    have all := singlesGo_clean l [] d 0 clean
    rw [List.append_nil, Nat.zero_add] at all
    exact all
  exact scrubStep_reads hd up e due found

/-- The first word of a single copy that is not clean ends the step. -/
theorem scrubStep_stops {l rs : List (Nat × WordAt)} {o : Nat} {w : WordAt} (clean : ∀ x ∈ l, ∃ v, x.2.read = .good v)
    (bad : wordClean w = false) (due : d.scrubDue (d.store.scrubRead + (l ++ (o, w) :: rs).length) = true) :
    exec (.scrubStep dt (.singles (l ++ (o, w) :: rs)) false) s =
      .next { s with dev := (d.readSingle o w).scrubbed (d.store.scrubRead + l.length + 1) } := by
  rw [scrubStep_reads hd up (x := .singles _) false due (singlesGo_stops o w l rs d clean bad),
    Device.passEnds_goesOn _ _ (.inl rfl), Nat.add_assoc]

/-- A word whose first two copies differ ends the step. -/
theorem scrubStep_compares {l : List (Nat × WordAt × WordAt × WordAt)} {o : Nat} {a b c : WordAt} (differ : a.read ≠ b.read)
    (due : d.scrubDue (d.store.scrubRead + 3 * (l.length + 1)) = true) :
    exec (.scrubStep dt (.triples ((o, a, b, c) :: l)) false) s =
      .next { s with dev := (d.readTriple o a b c).scrubbed (d.store.scrubRead + 3) } := by
  rw [scrubStep_reads hd up (x := .triples ((o, a, b, c) :: l)) false due (triplesGo_stops o a b c l d differ),
    Device.passEnds_goesOn _ _ (.inl rfl)]

end

/-- A step that has run writes the Store only (R509). -/
theorem Device.stepRan_frame {t s : Device} (h : t = { s with store := t.store }) (u : Nat) :
    t.stepRan u = { s with store := (t.stepRan u).store } := by
  rw [h]
  rfl

/-! ## The rings of the flash (R504, R505) -/

/-- The write positions of the rings are the same. -/
def Store.SamePos (y x : Store) : Prop := y.hourPos = x.hourPos ∧ y.dayPos = x.dayPos

theorem Store.SamePos.trans {a b c : Store} (h : a.SamePos b) (k : b.SamePos c) : a.SamePos c :=
  ⟨h.1.trans k.1, h.2.trans k.2⟩

theorem Store.takeErased_pos (x : Store) {r : Store × (Nat × Nat)} (taken : x.takeErased = some r) : r.1.SamePos x := by
  unfold Store.takeErased at taken
  split at taken
  · obtain rfl := Option.some.inj taken
    exact ⟨rfl, rfl⟩
  · split at taken
    · obtain rfl := Option.some.inj taken
      exact ⟨rfl, rfl⟩
    · exact absurd taken (by simp)

theorem Store.enter_pos (x : Store) (daily : Bool) (l : Nat) : (x.enter daily l).SamePos x := by
  unfold Store.enter
  split
  · extract_lets y
    have same : y.SamePos x := ⟨rfl, rfl⟩
    split
    · next r taken => exact .trans (b := r.1) ⟨rfl, rfl⟩ ((y.takeErased_pos taken).trans same)
    · cases daily <;> exact ⟨rfl, rfl⟩
  · exact ⟨rfl, rfl⟩

theorem Store.enterIf_pos (x : Store) (p : Prop) [Decidable p] (daily : Bool) (l : Nat) :
    (if p then x.enter daily l else x).SamePos x := by
  split
  · exact x.enter_pos daily l
  · exact ⟨rfl, rfl⟩

/-- A sector that is full returns the one that it replaced; rings and positions stay. -/
theorem Store.leaveIf_rings (x : Store) (p : Prop) [Decidable p] (l : Nat) :
    (if p then x.leave l else x).SamePos x ∧ (if p then x.leave l else x).hourRing = x.hourRing ∧
      (if p then x.leave l else x).dayRing = x.dayRing := by
  split <;> exact ⟨⟨rfl, rfl⟩, rfl, rfl⟩

/-- An hourly entry goes to the write position of its ring, which advances. -/
theorem Store.put_hour (x : Store) (b : Bytes) :
    (x.put false b).hourPos = x.hourPos + 1 ∧ (x.put false b).hourRing.head? = some (x.hourPos % 131400, b) ∧
      (x.put false b).dayPos = x.dayPos := by
  unfold Store.put
  extract_lets pos slot l y z
  obtain ⟨-, day⟩ := x.enterIf_pos (slot % perSector false = 0) false l
  obtain ⟨⟨hour, dayLeft⟩, ring, -⟩ := z.leaveIf_rings (slot % perSector false + 1 = perSector false ∨ slot + 1 = ringCap false) l
  exact ⟨hour, by rw [ring]; rfl, dayLeft.trans day⟩

/-- A daily entry goes to the write position of its ring, which advances. -/
theorem Store.put_day (x : Store) (b : Bytes) :
    (x.put true b).dayPos = x.dayPos + 1 ∧ (x.put true b).dayRing.head? = some (x.dayPos % 400, b) ∧
      (x.put true b).hourPos = x.hourPos := by
  unfold Store.put
  extract_lets pos slot l y z
  obtain ⟨hour, -⟩ := x.enterIf_pos (slot % perSector true = 0) true l
  obtain ⟨⟨hourLeft, day⟩, -, ring⟩ := z.leaveIf_rings (slot % perSector true + 1 = perSector true ∨ slot + 1 = ringCap true) l
  exact ⟨day, by rw [ring]; rfl, hourLeft.trans hour⟩

theorem Store.pass_pos (x : Store) : x.pass.dayPos = x.dayPos + 1 ∧ x.pass.hourPos = x.hourPos := by
  unfold Store.pass
  extract_lets slot l y z
  obtain ⟨hour, -⟩ := x.enterIf_pos (slot % perSector true = 0) true l
  obtain ⟨⟨hourLeft, day⟩, -⟩ := z.leaveIf_rings (slot % perSector true + 1 = perSector true ∨ slot + 1 = ringCap true) l
  exact ⟨day, hourLeft.trans hour⟩

theorem Store.passes_pos (x : Store) (k : Nat) :
    (Nat.repeat Store.pass k x).dayPos = x.dayPos + k ∧ (Nat.repeat Store.pass k x).hourPos = x.hourPos := by
  induction k with
  | zero => exact ⟨rfl, rfl⟩
  | succ k ih =>
    obtain ⟨day, hour⟩ := (Nat.repeat Store.pass k x).pass_pos
    obtain ⟨dayBefore, hourBefore⟩ := ih
    exact ⟨day.trans (by rw [dayBefore, Nat.add_assoc]), hour.trans hourBefore⟩

/-- The write position comes to the slot of an entry that it has not passed (R274). -/
theorem Store.seek_pos (x : Store) {n : Nat} (ahead : x.dayPos < n) :
    (x.seek n).dayPos = n - 1 ∧ (x.seek n).hourPos = x.hourPos := by
  obtain ⟨day, hour⟩ := x.passes_pos (n - 1 - x.dayPos)
  exact ⟨day.trans (by omega), hour⟩

/-- A warning of few spares leaves rings, staged entries, registers, configuration and Landing. -/
theorem Device.spareCheck_keeps (s : Device) :
    s.spareCheck.bill.staged = s.bill.staged ∧ s.spareCheck.store.SamePos s.store ∧
      s.spareCheck.store.hourRing = s.store.hourRing ∧ s.spareCheck.store.dayRing = s.store.dayRing ∧
      s.spareCheck.toll.led = s.toll.led ∧ s.spareCheck.conf = s.conf ∧ s.spareCheck.land = s.land := by
  unfold Device.spareCheck
  split
  · dsimp only
    rw [Device.journal_bill, Device.journal_store, Device.journal_led, Device.journal_conf, Device.journal_land]
    exact ⟨rfl, ⟨rfl, rfl⟩, rfl, rfl, rfl, rfl, rfl⟩
  · exact ⟨rfl, ⟨rfl, rfl⟩, rfl, rfl, rfl, rfl, rfl⟩

/-- An entry whose compare passes is out of the staging area, and the store is that of its write. -/
theorem Device.copyStaged_hour (s : Device) (h : HourEntry) (r : List Staged) (cs : List Bool) :
    s.copyStaged (.hour h) r (true :: cs) = Device.spareCheck { s with
      store := { s.store.put false h.bytes with compareFails := 0 }
      bill := { s.bill with hourCount := wrapU 32 s.bill.hourCount, staged := r } } := rfl

theorem Staged.later_zero (e : Staged) : e.later 0 = e := by
  cases e <;> rfl

theorem Device.copyStaged_day (s : Device) (n : Nat) (e : DaySnap) (r : List Staged) (cs : List Bool) :
    s.copyStaged (.day n e) r (true :: cs) = Device.spareCheck { s with
      store := { (s.store.seek n).put true e.bytes with compareFails := 0 }
      bill := { s.bill with st := { s.bill.st with dayCount := wrapU 32 s.bill.st.dayCount }, staged := r } } := by
  have same : r.map (Staged.later 0) = r := by
    rw [funext Staged.later_zero]
    exact List.map_id' r
  conv => rhs; rw [← same]
  rfl

section
variable {dt : Nat} {s : State} {d : Device} (hd : d = s.dev.elapse dt) (up : d.up = true)
include hd up

theorem flashCopy_moves {e : Staged} {r : List Staged} (cs : List Bool) (oldest : d.bill.staged = e :: r) :
    exec (.flashCopy dt cs) s = .next { s with dev := (d.copyStaged e r cs).stepRan 4 } := by
  simp only [exec, execFlashCopy, ← hd, up, if_true, oldest]

/-- An hourly entry comes to the write position of its ring. -/
theorem flashCopy_hour {h : HourEntry} {r : List Staged} (cs : List Bool) (oldest : d.bill.staged = .hour h :: r) :
    ∃ t : Device, exec (.flashCopy dt (true :: cs)) s = .next { s with dev := t } ∧ t.bill.staged = r ∧
      t.store.hourPos = d.store.hourPos + 1 ∧ t.store.hourRing.head? = some (d.store.hourPos % 131400, h.bytes) ∧
      t.store.dayPos = d.store.dayPos ∧ t.toll.led = d.toll.led ∧ t.conf = d.conf ∧ t.land = d.land := by
  obtain ⟨staged, ⟨hour, day⟩, ring, -, led, conf, land⟩ := Device.spareCheck_keeps { d with
    store := { d.store.put false h.bytes with compareFails := 0 }
    bill := { d.bill with hourCount := wrapU 32 d.bill.hourCount, staged := r } }
  rw [← d.copyStaged_hour h r cs] at staged hour day ring led conf land
  obtain ⟨advanced, entry, still⟩ := d.store.put_hour h.bytes
  refine ⟨_, flashCopy_moves hd up _ oldest, ?_⟩
  generalize d.copyStaged (.hour h) r (true :: cs) = t at *
  exact ⟨staged, hour.trans advanced, (congrArg List.head? ring).trans entry, day.trans still, led, conf, land⟩

/-- A daily entry comes to the slot of its number, which the ring has not passed. -/
theorem flashCopy_day {n : Nat} {e : DaySnap} {r : List Staged} (cs : List Bool) (oldest : d.bill.staged = .day n e :: r)
    (ahead : d.store.dayPos < n) :
    ∃ t : Device, exec (.flashCopy dt (true :: cs)) s = .next { s with dev := t } ∧ t.bill.staged = r ∧
      t.store.dayPos = n ∧ t.store.dayRing.head? = some ((n - 1) % 400, e.bytes) ∧
      t.store.hourPos = d.store.hourPos ∧ t.toll.led = d.toll.led ∧ t.conf = d.conf ∧ t.land = d.land := by
  obtain ⟨staged, ⟨hour, day⟩, -, ring, led, conf, land⟩ := Device.spareCheck_keeps { d with
    store := { (d.store.seek n).put true e.bytes with compareFails := 0 }
    bill := { d.bill with st := { d.bill.st with dayCount := wrapU 32 d.bill.st.dayCount }, staged := r } }
  rw [← d.copyStaged_day n e r cs] at staged hour day ring led conf land
  obtain ⟨advanced, entry, still⟩ := (d.store.seek n).put_day e.bytes
  obtain ⟨slot, same⟩ := d.store.seek_pos ahead
  rw [slot] at advanced entry
  refine ⟨_, flashCopy_moves hd up _ oldest, ?_⟩
  generalize d.copyStaged (.day n e) r (true :: cs) = t at *
  exact ⟨staged, (day.trans advanced).trans (by omega), (congrArg List.head? ring).trans entry,
    (hour.trans still).trans same, led, conf, land⟩

theorem flashCopy_rests (cs : List Bool) (empty : d.bill.staged = []) (sound : d.store.badSectors = []) :
    exec (.flashCopy dt cs) s = .next { s with dev := d } := by
  simp only [exec, execFlashCopy, ← hd, up, if_true, empty, sound]

/-- A returned sector of the pool that verifies is erased, its count advanced (R504). -/
theorem flashErase_pool {p : Nat × Nat} {ps : List (Nat × Nat)} (vs : List Bool) (returned : d.store.poolDirty = p :: ps) :
    ∃ t : Device, exec (.flashErase dt (true :: vs)) s = .next { s with dev := t } ∧ t.store.poolDirty = ps ∧
      t.store.poolErased = d.store.poolErased ++ [(p.1, p.2 + 1)] ∧
      t.store.flashErases = satInc d.store.flashErases ∧ t = { d with store := t.store } := by
  have run : exec (.flashErase dt (true :: vs)) s = .next { s with dev := (d.erasePool p ps (true :: vs)).stepRan 4 } := by
    simp only [exec, execFlashErase, ← hd, up, if_true, returned]
  exact ⟨_, run, rfl, rfl, rfl, rfl⟩

/-- With none returned, the first ring sector that awaits erase is freed where it verifies (R500, R504). -/
theorem flashErase_ring {l : Nat} {ls : List Nat} (vs : List Bool) (empty : d.store.poolDirty = [])
    (awaits : d.store.ringErase = l :: ls) :
    ∃ t : Device, exec (.flashErase dt (true :: vs)) s = .next { s with dev := t } ∧ t.store.ringErase = ls ∧
      t.store.ringUsed = d.store.ringUsed.filter (· != l) ∧ t.store.flashErases = satInc d.store.flashErases ∧
      t = { d with store := t.store } := by
  have run : exec (.flashErase dt (true :: vs)) s = .next { s with dev := (d.eraseRing l ls (true :: vs)).stepRan 4 } := by
    simp only [exec, execFlashErase, ← hd, up, if_true, empty, awaits]
  exact ⟨_, run, rfl, rfl, rfl, Device.stepRan_frame rfl 4⟩

theorem flashErase_rests (vs : List Bool) (empty : d.store.poolDirty = []) (clean : d.store.ringErase = []) :
    exec (.flashErase dt vs) s = .next { s with dev := d } := by
  simp only [exec, execFlashErase, ← hd, up, if_true, empty, clean]

end

end Sys2Proof.Machine

namespace Sys2Proof
open Machine

/-- Settles O50: a scrub step ends at the first word that needs a rewrite, and an entry of a ring moves its write position. -/
theorem storeWorksInBackground : Obligations.StoreWorksInBackground := by
  intro dt s d hd up
  refine ⟨fun u k n m hk hp => ?_, fun q room hq hroom => ?_, fun h r cs oldest => flashCopy_hour hd up cs oldest,
    fun n e r cs oldest ahead => flashCopy_day hd up cs oldest ahead, flashCopy_rests hd up,
    fun p ps vs returned => flashErase_pool hd up vs returned, fun l ls vs empty awaits => flashErase_ring hd up vs empty awaits,
    flashErase_rests hd up⟩
  · obtain ⟨rfl, rfl⟩ := Prod.mk.inj hp
    subst hk
    exact ⟨fun r ready waited fresh => bgStepDue_marks hd up u ready waited fresh, bgStepDue_waits hd up u⟩
  · have due (n : Nat) : d.scrubDue (d.store.scrubRead + n) = true ↔ room n := by
      rw [hroom]
      exact decide_eq_true_iff
    have early (n : Nat) (no : ¬ room n) : d.scrubDue (d.store.scrubRead + n) = false :=
      Bool.eq_false_iff.mpr fun yes => no ((due n).mp yes)
    refine ⟨fun l e no => scrubStep_early hd up e (early l.length no),
      fun l e no => scrubStep_early hd up e (early (3 * l.length) no), fun l r clean fits => ?_,
      fun o a b c v u l differ fits => ?_, fun o a b c v w l x differ third fits => ?_⟩
    · refine ⟨fun hr => ?_, fun o w v rs hr => ?_, fun o w rs hr => ?_⟩
      · rw [hr, List.append_nil] at fits
        have clean := scrubStep_clean hd up clean ((due _).mpr fits)
        refine ⟨fun e rest => ?_, fun last => ?_⟩
        · rw [clean, Device.passEnds_goesOn _ _ rest, hq]
          rfl
        · rw [clean, Device.passEnds_last _ last, hq]
          rfl
      · subst hr
        rw [scrubStep_stops hd up clean rfl ((due _).mpr fits), hq]
        rfl
      · subst hr
        obtain ⟨raised, count, told, vol, heat, cool⟩ := d.framLost_counts w o
        have lc := Security.lc_of_life (d.framLost_life w o)
        obtain ⟨-, -, -, -, -, tick, -⟩ := d.framLost_same w o
        exact ⟨_, scrubStep_stops hd up clean rfl ((due _).mpr fits), rfl, raised, count, told, vol, heat, cool, lc, tick⟩
    · refine ⟨_, scrubStep_compares hd up (by simpa using differ.symm) ((due _).mpr fits), ?_⟩
      rw [d.readTriple_repairs o a b c differ]
      refine ⟨?_, rfl, fun primary => Device.journal_head _ _ _ _ primary, d.scrubbed_journal _ _ _ _ _ rfl⟩
      show (Device.journal _ _ _ _).store.copyRepairs = _
      rw [Device.journal_store]
    · refine ⟨_, scrubStep_compares hd up (by simpa using differ) ((due _).mpr fits), ?_⟩
      rw [d.readTriple_splits o a b c differ third]
      obtain ⟨held, ⟨vol, heat, cool⟩, conf, land⟩ := d.legalEnter_vote o
      generalize d.legalEnter 3 o = t at *
      exact ⟨held, vol, heat, cool, conf, land⟩

end Sys2Proof

/-! SUPPORT. Trim and compensation: what they take from their accumulators and owe to the count (R301, R302). -/

namespace Sys2Proof.Machine

theorem Landing.elapse_trimAcc (l : Landing) (n : Nat) :
    (l.elapse n).trimAcc = l.trimAcc + l.lf.trimN.natAbs * n := by
  unfold Landing.elapse
  split
  · next none => rw [none, Nat.mul_zero, Nat.add_zero]
  · rfl

/-- A correction is owed in the sign of `lf_trim_n`. -/
theorem Landing.trim_eq (l : Landing) :
    l.trim = { l with trimAcc := l.trimAcc - l.lf.window, corrOwed := l.corrOwed + l.lf.trimN.sign } := by
  rcases lt_trichotomy l.lf.trimN 0 with neg | zero | pos
  · simp [Landing.trim, neg, Int.not_lt.mpr neg.le, Int.sign_eq_neg_one_of_neg neg, Int.sub_eq_add_neg]
  · simp [Landing.trim, zero]
  · simp [Landing.trim, pos, Int.sign_eq_one_of_pos pos]

theorem Landing.trim_iterate (l : Landing) (i : Nat) :
    Landing.trim^[i] l = { l with
      trimAcc := l.trimAcc - i * l.lf.window, corrOwed := l.corrOwed + i * l.lf.trimN.sign } := by
  induction i with
  | zero => simp
  | succ i ih =>
    rw [Function.iterate_succ_apply', ih, Landing.trim_eq]
    simp only [Nat.sub_sub, Nat.cast_succ, add_mul, one_mul, add_assoc]

theorem clampS16 {v : Int} (low : -32768 ≤ v) (high : v ≤ 32767) : clampS 16 v = v := by
  simp only [clampS]
  omega

section
variable {dt : Nat} {s : State} {d : Device} (hd : d = s.dev.elapse dt)
include hd

theorem trimCorrection_due (runs : d.ticking = true) (full : d.land.lf.window ≤ d.land.trimAcc) :
    exec (.trimCorrection dt) s = .next { s with dev := { d with land := d.land.trim } } := by
  simp [exec, execTrimCorrection, ← hd, runs, full]

theorem tempCompensation_slot (td : Int) (runs : d.ticking = true) (slot : (d.land.osc - d.land.divAt) % 2097152 = 0)
    (unserved : d.land.osc ≠ d.land.compAt) :
    exec (.tempCompensation dt td) s = .next { s with dev := { d with land := d.land.compensate td } } := by
  simp [exec, execTempCompensation, ← hd, runs, slot, unserved]

end

end Sys2Proof.Machine

namespace Sys2Proof
open Machine

/-- Settles O18: at its slot each command is one operation on the Landing. -/
theorem trimAndCompensationOweCorrections : Obligations.TrimAndCompensationOweCorrections := by
  intro dt s d hd runs
  refine ⟨fun full => trimCorrection_due hd runs full, fun td low high slot unserved x hx => ?_⟩
  rw [tempCompensation_slot hd td runs slot unserved, hx, Landing.compensate, clampS16 low high]

/-- Settles O19: the window adds |n| W to the accumulator, and each correction takes W from it. -/
theorem trimFallsExactlyNTimesInAWindow : Obligations.TrimFallsExactlyNTimesInAWindow := by
  intro l w hw _
  have acc : w.trimAcc = l.trimAcc + l.lf.trimN.natAbs * w.lf.window := by
    rw [hw, Landing.elapse_trimAcc, Landing.elapse_lf, LfCal.window]
  have lf : w.lf = l.lf := by rw [hw, Landing.elapse_lf]
  have owed : w.corrOwed = l.corrOwed := by rw [hw, Landing.elapse_corrOwed]
  refine ⟨fun i early => ?_, ?_, ?_⟩
  · have left : (i + 1) * w.lf.window ≤ l.lf.trimN.natAbs * w.lf.window := Nat.mul_le_mul_right _ early
    rw [Nat.succ_mul] at left
    rw [Landing.trim_iterate, ← LfCal.window, ← lf]
    simp only [acc]
    omega
  · rw [Landing.trim_iterate]
    simp only [acc, Nat.add_sub_cancel]
  · rw [Landing.trim_iterate]
    simp only [owed, lf, mul_comm, Int.sign_mul_natAbs]

end Sys2Proof

/-! SUPPORT. The tick count, the fields of TIME_NOW that follow it, and the sum of a day's small steps (R298, R308, R315). -/

namespace Sys2Proof.Machine

theorem Device.ticking_of {d : Device} (runs : d.land.lfxRunning = true) (live : d.land.supply ≠ .lost)
    (out : d.power.st ≠ .ship) : d.ticking = true := by
  simp [Device.ticking, runs, live, out]

theorem Device.not_ticking_of {d : Device} (still : d.land.lfxRunning = false ∨ d.land.supply = .lost ∨ d.power.st = .ship) :
    d.ticking = false := by
  rcases still with stopped | lost | ship
  · simp [Device.ticking, stopped]
  · simp [Device.ticking, lost]
  · simp [Device.ticking, ship]

theorem Device.elapse_still (d : Device) (n : Nat) (still : d.ticking = false) :
    d.elapse n = { d with store := { d.store with txnOpen := false, txnMask := 0, readySince := d.readyTimes } } := by
  simp [Device.elapse, still]

theorem Device.elapse_tick (d : Device) (n : Nat) (runs : d.ticking = true) (range : d.land.tick ≤ tickMax) :
    (d.elapse n).land.tick = min (d.land.tick + n) tickMax := by
  rw [d.elapse_land_ticking n runs, Landing.elapse_tick _ _ range]

section
variable {dt : Nat} {s : State} {d : Device} (hd : d = s.dev.elapse dt)
include hd

theorem timeNowUpdate_counting (runs : d.ticking = true) :
    exec (.timeNowUpdate dt) s = .next { s with dev := { d with
      land := { d.land with cal := timeNow d.bill.calActive d.land.tick } } } := by
  simp [exec, execTimeNowUpdate, ← hd, runs, Device.updateTimeNow]

theorem timeNowUpdate_still (still : d.ticking = false) : exec (.timeNowUpdate dt) s = .next { s with dev := d } := by
  simp [exec, execTimeNowUpdate, ← hd, still]

theorem adjDayReset_midnight (runs : d.ticking = true) (first : d.land.tick % tpd < tps) :
    exec (.adjDayReset dt) s = .next { s with dev := { d with land := { d.land with adjDay := 0 } } } := by
  simp [exec, execAdjDayReset, ← hd, runs, first]

theorem adjDayReset_later (later : tps ≤ d.land.tick % tpd) : exec (.adjDayReset dt) s = .next { s with dev := d } := by
  simp [exec, execAdjDayReset, ← hd, later]

theorem adjDayReset_still (still : d.ticking = false) : exec (.adjDayReset dt) s = .next { s with dev := d } := by
  simp [exec, execAdjDayReset, ← hd, still]

end

/-- Local time in seconds is the tick count's second moved by the offset. -/
theorem localAt_seconds (c : Calendar) (t : Int) : localAt c t / 32768 = t / 32768 + offsetAt c t * 60 := by
  rw [localAt, show (tpm : Int) = 60 * 32768 from rfl, ← mul_assoc, Int.add_mul_ediv_right _ _ (by decide)]

/-- The fields of TIME_NOW in seconds of local time (R308). -/
theorem timeNow_local (c : Calendar) (t : Nat) (l : Int) (hl : l = (t : Int) / 32768 + (timeNow c t).offset * 60) :
    ((timeNow c t).wday : Int) = (l / 86400 + 5) % 7 ∧ ((timeNow c t).minute : Int) = l % 86400 / 60 ∧
      ((timeNow c t).second : Int) = l % 60 ∧
      (⟨(timeNow c t).year, (timeNow c t).month, (timeNow c t).day⟩ : Date) = dateOfDay (l / 86400) := by
  have seconds : l = localAt c t / 32768 := by rw [localAt_seconds]; exact hl
  have day : localAt c t / tpd = l / 86400 := by
    rw [seconds, Int.ediv_ediv_of_nonneg (by decide)]
    rfl
  have secondOfDay : localAt c t % tpd / tps = l % 86400 := by
    rw [seconds]
    simp only [tpd, tps]
    omega
  refine ⟨?_, ?_, ?_, ?_⟩
  · simp only [timeNow, weekday, day]
    omega
  · simp only [timeNow, secondOfDay]
    omega
  · simp only [timeNow, secondOfDay]
    omega
  · simp only [timeNow, day]

/-- The fields of TIME_NOW that need no local time (R298, R308). -/
theorem timeNow_utc (c : Calendar) (t : Nat) :
    (timeNow c t).utcDay = t / 32768 / 86400 ∧ (timeNow c t).utcSec = t / 32768 % 86400 ∧
      (timeNow c t).utcWday = (t / 32768 / 86400 + 5) % 7 := by
  have day : t / tpd = t / 32768 / 86400 := by rw [Nat.div_div_eq_div_mul]; rfl
  refine ⟨day, ?_, ?_⟩
  · simp only [timeNow, tpd, tps]
    omega
  · simp only [timeNow, weekday, day]
    omega

theorem offsetAt_eq (c : Calendar) (t : Int) :
    offsetAt c t = if dstAt c t then c.tzStd + c.dstDelta else c.tzStd := by
  unfold offsetAt
  split
  · rfl
  · exact add_zero _

end Sys2Proof.Machine

namespace Sys2Proof
open Machine

/-- Settles O20: the fields are those of the tick in seconds, in UTC and moved by the offset. -/
theorem calendarFieldsAndAdjDay : Obligations.CalendarFieldsAndAdjDay := by
  refine ⟨fun dt s d hd => ⟨timeNowUpdate_counting hd, adjDayReset_midnight hd, fun _ later => adjDayReset_later hd later,
    fun still => ⟨timeNowUpdate_still hd still, adjDayReset_still hd still⟩⟩, fun c t f l hf hl => ?_⟩
  subst hf
  obtain ⟨day, sec, wday⟩ := timeNow_utc c t
  exact ⟨day, sec, wday, rfl, offsetAt_eq c t, timeNow_local c t l hl⟩

/-- Settles O3: the count and what follows it while the Landing counts, and a Landing that stands still. -/
theorem idleStepAndTimePassing : Obligations.IdleStepAndTimePassing := by
  refine ⟨fun d n runs live out range => ?_, fun s dt t l runs live out range ht hl => ?_,
    fun d n still => d.elapse_still n (Device.not_ticking_of still), fun s empty => ?_⟩
  · have ticks := Device.ticking_of runs live out
    exact ⟨d.elapse_tick n ticks range, by rw [d.elapse_land_ticking n ticks, Landing.elapse_osc]⟩
  · have ticks := Device.ticking_of runs live out
    have counts : (s.dev.elapse dt).ticking = true := (s.dev.elapse_ticking dt).trans ticks
    have tick : t = (s.dev.elapse dt).land.tick := ht.trans (s.dev.elapse_tick dt ticks range).symm
    rw [hl, tick]
    refine ⟨?_, ?_⟩
    · rw [← Device.elapse_bill s.dev dt]
      exact timeNowUpdate_counting rfl counts
    · by_cases first : (s.dev.elapse dt).land.tick % 2831155200 < 32768
      · rw [if_pos first]
        exact adjDayReset_midnight rfl counts first
      · rw [if_neg first]
        exact adjDayReset_later rfl (Nat.not_lt.mp first)
  · simp [step, empty, State.idle]

end Sys2Proof

/-! SUPPORT. What the controller counts of the tamper FIFO (R330, R463 to R465). -/

namespace Sys2Proof.Machine

/-- A count writes the entry of its kind: the number of occurrences and the tick of the last (R465). -/
theorem Device.tamperWith_counts (s : Device) (k t : Nat) (u : Bool) (counted : s.sec.lc.counted = true) {e : Tamper}
    (entry : s.sec.tamper[k]? = some e) :
    ∃ x : Tamper, (s.tamperWith k t u).sec.tamper = s.sec.tamper.set k x ∧ x.count = satInc e.count ∧ x.tLast = t := by
  refine ⟨if e.quiet t then e.count1 t else { e.count1 t with journalled := some t }, ?_, ?_, ?_⟩
  · simp only [Device.tamperWith, counted, entry, if_true]
    split <;> simp
  · split <;> rfl
  · split <;> rfl

theorem Device.tamperWith_uncounted (s : Device) (k t : Nat) (u : Bool) (uncounted : s.sec.lc.counted = false) :
    s.tamperWith k t u = s := by
  simp [Device.tamperWith, uncounted]

/-- A kind other than the one counted keeps its entry. -/
theorem Device.tamperWith_other (s : Device) (k t : Nat) (u : Bool) {j : Nat} (other : j ≠ k) :
    (s.tamperWith k t u).sec.tamper[j]? = s.sec.tamper[j]? := by
  unfold Device.tamperWith
  split
  · split
    · rfl
    · dsimp only
      split <;> simp [List.getElem?_set_ne (Ne.symm other)]
  · rfl

theorem Device.serveTamper_booked (s : Device) (e : TamperEvt) : (s.serveTamper e).Booked s := by
  unfold Device.serveTamper
  split
  · exact s.tamperWith_booked ..
  · exact .refl s

theorem Device.serveTamper_lc (s : Device) (e : TamperEvt) : (s.serveTamper e).sec.lc = s.sec.lc :=
  congrArg Prod.fst (s.serveTamper_life e)

theorem Device.serveTamper_other (s : Device) (e : TamperEvt) {j : Nat} (other : e.kind.kind ≠ some j) :
    (s.serveTamper e).sec.tamper[j]? = s.sec.tamper[j]? := by
  unfold Device.serveTamper
  split
  · next k kind => exact s.tamperWith_other _ _ _ fun same => other (same ▸ kind)
  · rfl

theorem Device.serveTamper_counts (s : Device) (e : TamperEvt) {k : Nat} (kind : e.kind.kind = some k)
    (counted : s.sec.lc.counted = true) {x : Tamper} (entry : s.sec.tamper[k]? = some x) :
    ∃ y : Tamper, (s.serveTamper e).sec.tamper[k]? = some y ∧ y.count = satInc x.count ∧ y.tLast = e.tick := by
  obtain ⟨y, written, count, last⟩ := s.tamperWith_counts k e.tick e.untrusted counted entry
  have within : k < s.sec.tamper.length := (List.getElem?_eq_some_iff.mp entry).1
  refine ⟨y, ?_, count, last⟩
  simp only [Device.serveTamper, kind, written]
  exact List.getElem?_set_self within

theorem Device.serveTamper_uncounted (s : Device) (e : TamperEvt) (uncounted : s.sec.lc.counted = false) :
    s.serveTamper e = s := by
  unfold Device.serveTamper
  split
  · exact s.tamperWith_uncounted _ _ _ uncounted
  · rfl

theorem satInc_of_lt {a : Nat} (room : a + 1 < 2 ^ 32) : satInc a = a + 1 := by
  simp only [satInc, satAdd, maxU]
  omega

/-! ## The FIFO as a whole -/

theorem foldl_serveTamper_booked (l : List TamperEvt) (s : Device) : (l.foldl Device.serveTamper s).Booked s := by
  induction l generalizing s with
  | nil => exact .refl s
  | cons e l ih => exact (ih _).trans (s.serveTamper_booked e)

theorem foldl_serveTamper_uncounted (l : List TamperEvt) (s : Device) (uncounted : s.sec.lc.counted = false) :
    l.foldl Device.serveTamper s = s := by
  induction l with
  | nil => rfl
  | cons e l ih => rw [List.foldl_cons, s.serveTamper_uncounted e uncounted, ih]

/-- A kind that no entry of the FIFO counts keeps its entry of the ledger. -/
theorem foldl_serveTamper_other (l : List TamperEvt) (s : Device) {j : Nat} (none : ∀ e ∈ l, e.kind.kind ≠ some j) :
    (l.foldl Device.serveTamper s).sec.tamper[j]? = s.sec.tamper[j]? := by
  induction l generalizing s with
  | nil => rfl
  | cons e l ih =>
    obtain ⟨first, rest⟩ := List.forall_mem_cons.mp none
    exact (ih _ rest).trans (s.serveTamper_other e first)

/-- A kind advances by the number of its entries, and its `t_last` is the tick of the last of them. -/
theorem foldl_serveTamper_counts (l : List TamperEvt) (s : Device) (f : TamperIn) (k : Nat)
    (kind : ∀ x : TamperIn, x.kind = some k ↔ x = f) (counted : s.sec.lc.counted = true) {x : Tamper}
    (entry : s.sec.tamper[k]? = some x) (room : x.count + l.length < 2 ^ 32) :
    ∃ y : Tamper, (l.foldl Device.serveTamper s).sec.tamper[k]? = some y ∧
      y.count = x.count + (l.filter (·.kind == f)).length ∧
      y.tLast = ((l.filter (·.kind == f)).getLast?.map (·.tick)).getD x.tLast := by
  induction l generalizing s x with
  | nil => exact ⟨x, entry, rfl, rfl⟩
  | cons e l ih =>
    rw [List.length_cons] at room
    have counted' : (s.serveTamper e).sec.lc.counted = true := by rwa [s.serveTamper_lc e]
    by_cases same : e.kind = f
    · obtain ⟨y, entry', count, last⟩ := s.serveTamper_counts e ((kind _).mpr same) counted entry
      rw [satInc_of_lt (by omega)] at count
      obtain ⟨z, final, zCount, zLast⟩ := ih (s.serveTamper e) counted' entry' (by omega)
      refine ⟨z, final, ?_, ?_⟩
      · rw [zCount, count, List.filter_cons_of_pos (by simpa using same), List.length_cons]
        omega
      · rw [zLast, last, List.filter_cons_of_pos (by simpa using same), List.getLast?_cons]
        cases (l.filter (·.kind == f)).getLast? <;> rfl
    · have kept : (s.serveTamper e).sec.tamper[k]? = some x :=
        (s.serveTamper_other e fun h => same ((kind _).mp h)).trans entry
      rw [List.filter_cons_of_neg (by simpa using same)]
      exact ih (s.serveTamper e) counted' kept (by omega)

theorem TamperIn.kind_lt {x : TamperIn} {k : Nat} (h : x.kind = some k) : k < 4 := by
  have small : ∀ k' ∈ x.kind, k' < 4 := by cases x <;> decide
  exact small k h

/-- The four kinds that the FIFO counts, each from one change (R464). -/
theorem TamperIn.kind_iff {f : TamperIn} {k : Nat}
    (pair : (f, k) ∈ [(TamperIn.sealOpen, 0), (.sealShort, 1), (.caseOpen, 2), (.magOn, 3)]) (x : TamperIn) :
    x.kind = some k ↔ x = f := by
  simp only [List.mem_cons, Prod.mk.injEq, List.not_mem_nil, or_false] at pair
  rcases pair with ⟨rfl, rfl⟩ | ⟨rfl, rfl⟩ | ⟨rfl, rfl⟩ | ⟨rfl, rfl⟩ <;> cases x <;> decide

theorem tamperFifoService_serves {dt : Nat} {s : State} {d : Device} (hd : d = (s.dev.elapse dt).woken 7)
    (up : d.up = true) (bat : d.land.supply = .bat) :
    exec (.tamperFifoService dt) s = .next { s with
      dev := d.land.fifo.foldl Device.serveTamper { d with land := { d.land with fifo := [] } } } := by
  simp [exec, execTamperFifoService, ← hd, up, Device.writable, bat]

end Sys2Proof.Machine

namespace Sys2Proof
open Machine

/-- Settles O23, by induction on the entries of the FIFO. -/
theorem tamperFifoIsCounted : Obligations.TamperFifoIsCounted := by
  intro dt s d hd up bat
  have run := tamperFifoService_serves hd up bat
  refine ⟨fun counted whole f k pair room => ⟨_, run, ?_, ?_⟩, fun uncounted => ?_⟩
  · exact (foldl_serveTamper_booked d.land.fifo _).land
  · have small : k < d.sec.tamper.length := by
      have := TamperIn.kind_lt ((TamperIn.kind_iff pair f).mpr rfl)
      omega
    have entry : d.sec.tamper[k]? = some (d.sec.tamper.getD k {}) := by
      rw [List.getElem?_eq_getElem small, List.getD_eq_getElem _ _ small]
    obtain ⟨y, final, count, last⟩ := foldl_serveTamper_counts d.land.fifo { d with land := { d.land with fifo := [] } } f k
      (TamperIn.kind_iff pair) counted entry room
    have tally : (d.land.fifo.foldl Device.serveTamper { d with land := { d.land with fifo := [] } }).sec.tamper.getD k {} =
        y := by
      rw [List.getD_eq_getElem?_getD, final, Option.getD_some]
    rw [tally]
    refine ⟨count, fun e he => ?_, fun j big => ?_⟩
    · rw [last, he]
      rfl
    · exact foldl_serveTamper_other _ _ fun e _ kind => absurd (TamperIn.kind_lt kind) (Nat.not_lt.mpr big)
  · rw [run, foldl_serveTamper_uncounted]
    exact uncounted

end Sys2Proof

/-! SUPPORT. Entry to a deeper power state, and PWR_EN ahead of a wake (R325, R471, R473, R475). -/

namespace Sys2Proof.Machine

/-! ## Entry (R473, R475) -/

/-- Bank 0 is retained: in DOZE, and in NAP while a path has learned (R473). -/
def Device.KeepsBank0 (s : Device) (p : PState) : Prop := p = .doze ∨ (p = .nap ∧ ∃ x ∈ s.tr.paths, x.tpl.learned = true)

/-- Bank 2 is retained: in DOZE, and in NAP in the role PARENT (R473). -/
def Device.KeepsBank2 (s : Device) (p : PState) : Prop := p = .doze ∨ (p = .nap ∧ s.radio.role = 2)

theorem bitAt_banks (a b : Bool) : bitAt (bitVal a 0 + bitVal b 2) 0 = a ∧ bitAt (bitVal a 0 + bitVal b 2) 2 = b := by
  cases a <;> cases b <;> decide

theorem Device.banksKept_bank0 (s : Device) : bitAt s.banksKept 0 = true ↔ ∃ x ∈ s.tr.paths, x.tpl.learned = true := by
  rw [Device.banksKept, (bitAt_banks _ _).1, List.any_eq_true]

theorem Device.banksKept_bank2 (s : Device) : bitAt s.banksKept 2 = true ↔ s.radio.role = 2 := by
  rw [Device.banksKept, (bitAt_banks _ _).2, beq_iff_eq]

/-- The states in which the switched domain rests. -/
def PState.Rests (p : PState) : Prop := p = .doze ∨ p = .nap ∨ p = .hibernate

theorem Device.sleepEffects_frame (s : Device) (p : PState) :
    s.sleepEffects p = { s with
      power := (s.sleepEffects p).power
      sec := { s.sec with tap := (s.sleepEffects p).sec.tap }
      land := { s.land with pwrEn := (s.sleepEffects p).land.pwrEn }
      tr := (s.sleepEffects p).tr, radio := (s.sleepEffects p).radio } := by
  cases p
  case nap =>
    cases learned : bitAt s.banksKept 0 <;> simp [Device.sleepEffects, learned, Device.pwrUpdate, Device.mirrorBank0]
  all_goals simp [Device.sleepEffects, Device.pwrUpdate, Device.mirrorBank0]

theorem Device.sleepEffects_power (s : Device) (p : PState) :
    (s.sleepEffects p).power = { s.power with banks := (s.sleepEffects p).power.banks } := by
  cases p
  case nap =>
    cases learned : bitAt s.banksKept 0 <;> simp [Device.sleepEffects, learned, Device.pwrUpdate, Device.mirrorBank0]
  all_goals simp [Device.sleepEffects, Device.pwrUpdate, Device.mirrorBank0]

theorem Device.sleepEffects_tap (s : Device) (p : PState) (asleep : p = .nap ∨ p = .hibernate) :
    (s.sleepEffects p).sec.tap = .closed := by
  simp [Device.sleepEffects, asleep, Device.pwrUpdate]

theorem Device.sleepEffects_tr (s : Device) {p : PState} (rests : p.Rests) :
    (s.KeepsBank0 p → (s.sleepEffects p).tr = s.tr) ∧
      (¬ s.KeepsBank0 p → (s.sleepEffects p).tr = s.mirrorBank0.tr) := by
  unfold Device.KeepsBank0
  rcases rests with rfl | rfl | rfl
  · simp [Device.sleepEffects]
  · rw [← s.banksKept_bank0]
    cases kept : bitAt s.banksKept 0 <;> simp [Device.sleepEffects, kept, Device.pwrUpdate]
  · simp [Device.sleepEffects, Device.pwrUpdate]

theorem Device.sleepEffects_radio (s : Device) {p : PState} (rests : p.Rests) :
    (s.KeepsBank2 p → (s.sleepEffects p).radio = s.radio) ∧
      (¬ s.KeepsBank2 p → (s.sleepEffects p).radio = { s.radio with digests := [] }) := by
  have sameRadio : s.mirrorBank0.radio = s.radio := rfl
  unfold Device.KeepsBank2
  rcases rests with rfl | rfl | rfl
  · simp [Device.sleepEffects]
  · rw [← s.banksKept_bank2]
    cases kept : bitAt s.banksKept 2 <;>
      simp [Device.sleepEffects, kept, Device.pwrUpdate, sameRadio, apply_ite Device.radio]
  · simp [Device.sleepEffects, Device.pwrUpdate, sameRadio]

/-- What is deeper than a state in which the domain is clocked is a state of rest. -/
theorem PState.rests_of_deeper {d : Device} {p : PState} (target : p = d.restTarget) (deeper : d.power.st.depth < p.depth) :
    p.Rests := by
  unfold Device.restTarget at target
  rw [target] at deeper ⊢
  split at deeper
  · exact absurd deeper (Nat.not_lt_zero _)
  · split_ifs
    · exact .inl rfl
    · exact .inr (.inr rfl)
    · exact .inr (.inl rfl)

/-- The device as it enters `p`, before what the entry takes from it. -/
def Device.entering (s : Device) (p : PState) (n : Nat) : Device :=
  { s with power := { s.power with st := p, rest := p.depth, edgeLost := satAdd 32 s.power.edgeLost n } }

theorem powerStateEntry_rests {dt n : Nat} {s : State} {d : Device} (hd : d = s.dev.elapse dt) (up : d.up = true)
    (awake : d.awake = true) : exec (.powerStateEntry dt n false) s = .next { s with dev := d.rest n } := by
  simp [exec, execPowerStateEntry, ← hd, up, awake]

/-! ## PWR_EN (R325) -/

/-- An armed alarm, or in NAP the shot timer, falls due within the lead (R325). -/
def Device.DueAhead (d : Device) : Prop :=
  (∃ a ∈ d.land.alarms, a.armed = true ∧ a.fired = false ∧ a.target ≤ d.land.tick + d.land.pwrEnLead) ∨
    (d.power.st = .nap ∧ ∃ n, d.tr.cyc.shotIn = some n ∧ n ≤ d.land.pwrEnLead)

theorem Landing.alarmWithin_iff (l : Landing) (n : Nat) :
    l.alarmWithin n = true ↔ ∃ a ∈ l.alarms, a.armed = true ∧ a.fired = false ∧ a.target ≤ l.tick + n := by
  simp [Landing.alarmWithin, and_assoc]

theorem Device.wakeAhead_iff (d : Device) (asleep : d.power.st = .nap ∨ d.power.st = .hibernate) :
    d.wakeAhead = true ↔ d.DueAhead := by
  rw [Device.wakeAhead, Bool.or_eq_true, Landing.alarmWithin_iff, Device.DueAhead]
  refine or_congr_right ?_
  rcases asleep with nap | hib
  · cases timer : d.tr.cyc.shotIn <;> simp [nap]
  · simp [hib]

section
variable {dt : Nat} {s : State} {d : Device} (hd : d = s.dev.elapse dt)
include hd

theorem pwrEnLead_raises (bat : d.land.supply = .bat) (asleep : d.power.st = .nap ∨ d.power.st = .hibernate)
    (mode : d.land.pwrEnMode = 2) (ahead : d.DueAhead) :
    exec (.pwrEnLead dt) s = .next { s with dev := { d with land := { d.land with pwrEn := true } } } := by
  have due := (d.wakeAhead_iff asleep).mpr ahead
  simp [exec, execPwrEnLead, ← hd, bat, asleep, mode, due]

theorem pwrEnLead_idle (idle : d.land.supply ≠ .bat ∨ d.land.pwrEnMode ≠ 2 ∨
    (d.power.st ≠ .nap ∧ d.power.st ≠ .hibernate) ∨ ¬ d.DueAhead) :
    exec (.pwrEnLead dt) s = .next { s with dev := d } := by
  by_cases asleep : d.power.st = .nap ∨ d.power.st = .hibernate
  · have quiet : d.land.supply ≠ .bat ∨ d.land.pwrEnMode ≠ 2 ∨ d.wakeAhead = false := by
      rcases idle with locked | mode | ⟨notNap, notHib⟩ | none
      · exact .inl locked
      · exact .inr (.inl mode)
      · exact absurd asleep (not_or.mpr ⟨notNap, notHib⟩)
      · exact .inr (.inr (Bool.eq_false_iff.mpr fun due => none ((d.wakeAhead_iff asleep).mp due)))
    rcases quiet with locked | mode | none
    · simp [exec, execPwrEnLead, ← hd, locked]
    · simp [exec, execPwrEnLead, ← hd, mode]
    · simp [exec, execPwrEnLead, ← hd, none]
  · obtain ⟨notNap, notHib⟩ := not_or.mp asleep
    simp [exec, execPwrEnLead, ← hd, notNap, notHib]

end

end Sys2Proof.Machine

namespace Sys2Proof
open Machine

/-- Settles O32: what an entry writes is what `sleepEffects` takes in each state of rest. -/
theorem restIsAsDeepAsTheHoldersAllow : Obligations.RestIsAsDeepAsTheHoldersAllow := by
  intro dt s d hd
  refine ⟨fun n p up awake hp => ⟨fun deeper => ?_, fun shallow => ?_⟩, fun n => ?_, fun ahead hAhead => ⟨?_, ?_⟩⟩
  · have rests := PState.rests_of_deeper hp deeper
    have entered : d.rest n = (d.entering p n).sleepEffects p := by
      rw [hp] at deeper ⊢
      exact if_pos deeper
    have power := (d.entering p n).sleepEffects_power p
    refine ⟨d.rest n, powerStateEntry_rests hd up awake, ?_⟩
    rw [entered]
    refine ⟨?_, ?_, ?_, (d.entering p n).sleepEffects_tap p, fun kept0 kept2 h0 h2 => ?_, ?_⟩
    · exact congrArg Power.st power
    · exact congrArg Power.rest power
    · exact congrArg Power.edgeLost power
    · obtain ⟨tr, mirrored⟩ := (d.entering p n).sleepEffects_tr rests
      obtain ⟨radio, lost⟩ := (d.entering p n).sleepEffects_radio rests
      subst h0 h2
      exact ⟨tr, radio, mirrored, lost⟩
    · exact (d.entering p n).sleepEffects_frame p
  · rw [powerStateEntry_rests hd up awake, Device.rest, Device.restTarget, ← hp, if_neg (Nat.not_lt.mpr shallow)]
  · simp [exec, execPowerStateEntry, ← hd]
  · subst hAhead
    exact pwrEnLead_raises hd
  · subst hAhead
    exact pwrEnLead_idle hd

end Sys2Proof

/-! SUPPORT. A time set: what its class writes, and what the events and the transaction that follow it leave (R312 to R317). -/

namespace Sys2Proof.Machine

/-- The set that waits, and what the sets applied have counted (R315, R316, R333). -/
def Landing.sets (l : Landing) : Option PendSet × LandCounters × Nat := (l.pendSet, l.cnt, l.adjDay)

theorem sets_ite {c : Prop} [Decidable c] {a b x : Device} (h : a.land.sets = x.land.sets) (k : b.land.sets = x.land.sets) :
    (if c then a else b).land.sets = x.land.sets := by
  split <;> assumption

section
variable (s : Device)

/-! ## Shared operations -/

theorem Device.Booked.sets {t s : Device} (h : t.Booked s) : t.land.sets = s.land.sets := by rw [h.land]

theorem Device.Wired.sets {t s : Device} (h : t.Wired s) : t.land.sets = s.land.sets := by rw [h.land]; rfl

@[simp] theorem Device.loadShadow_sets (i : Nat) : (s.loadShadow i).land.sets = s.land.sets := rfl

@[simp] theorem Device.arm_sets (i t : Nat) (e : Bool) : (s.arm i t e).land.sets = s.land.sets := by
  unfold Device.arm
  split <;> rfl

@[simp] theorem Device.disarm_sets (i : Nat) : (s.disarm i).land.sets = s.land.sets := by
  unfold Device.disarm
  split <;> rfl

theorem Device.landEvent_sets (c a b : Nat) : (s.landEvent c a b).land.sets = s.land.sets := by
  unfold Device.landEvent
  exact sets_ite ((Device.flushEvents_booked _).sets.trans rfl) rfl

/-! ## The steps of a transaction (R281) -/

@[simp] theorem Device.bringUp_sets (t : Nat) : (s.bringUp t).land.sets = s.land.sets := by
  unfold Device.bringUp
  rw [s.accrueEst_toll t]

@[simp] theorem Device.stage_sets (e : Staged) : (s.stage e).land.sets = s.land.sets := by
  unfold Device.stage
  dsimp only
  split
  · rfl
  · split
    · rfl
    · exact (Device.journal_booked ..).sets

@[simp] theorem Device.trustStep_sets : s.trustStep.land.sets = s.land.sets := by
  unfold Device.trustStep
  exact sets_ite rfl (sets_ite (Device.journal_booked ..).sets rfl)

@[simp] theorem Device.endSub_sets (t : Nat) (k : EndKind) : (s.endSub t k).land.sets = s.land.sets := by
  have formed (a : Device) (e accE accV : Nat) (short bad : Bool) :
      (a.formValue t e accE accV short bad k).land.sets = a.land.sets := by
    simp only [Device.formValue]
  unfold Device.endSub
  dsimp only
  split
  · exact sets_ite rfl (formed ..)
  · exact sets_ite (sets_ite (formed ..) rfl) rfl

@[simp] theorem Device.beginSub_sets (t : Nat) : (s.beginSub t).land.sets = s.land.sets := rfl

@[simp] theorem Device.endHour_sets (t : Nat) (k : EndKind) : (s.endHour t k).land.sets = s.land.sets :=
  s.stage_sets _

@[simp] theorem Device.beginHour_sets (t : Nat) : (s.beginHour t).land.sets = s.land.sets := rfl

@[simp] theorem Device.closeStep_sets (t : Nat) (x : TxnCtx) : (s.closeStep t x).land.sets = s.land.sets := by
  unfold Device.closeStep
  refine sets_ite (by simp) ?_
  extract_lets _ _ s1
  have sub : s1.land.sets = s.land.sets := sets_ite (by simp) rfl
  exact sets_ite (by simp [sub]) sub

@[simp] theorem Device.crossDay_sets (t n : Nat) (last localDay : Int) (late : Bool) :
    (s.crossDay t n last localDay late).land.sets = s.land.sets := by
  unfold Device.crossDay
  exact sets_ite ((Device.journal_booked ..).sets.trans (s.stage_sets _)) (s.stage_sets _)

@[simp] theorem Device.crossBill_sets (t n : Nat) (last : Int) (late : Bool) :
    (s.crossBill t n last late).land.sets = s.land.sets := by
  unfold Device.crossBill
  exact sets_ite (Device.journal_booked ..).sets (Device.journal_booked ..).sets

@[simp] theorem Device.crossEnds_sets (t : Nat) (late : Bool) : (s.crossEnds t late).land.sets = s.land.sets := by
  unfold Device.crossEnds
  extract_lets c from1 d s1 b
  have day : s1.land.sets = s.land.sets := sets_ite (by simp) rfl
  exact sets_ite (sets_ite (by simp [day]) day) rfl

@[simp] theorem Device.seedSched_sets (t : Nat) : (s.seedSched t).land.sets = s.land.sets := by
  unfold Device.seedSched
  exact sets_ite rfl rfl

@[simp] theorem Device.splitMarks_sets (x : TxnCtx) : (s.splitMarks x).land.sets = s.land.sets := by
  unfold Device.splitMarks
  exact sets_ite ((Device.journal_booked ..).sets.trans (sets_ite rfl rfl)) rfl

@[simp] theorem Device.armRefresh_sets : s.armRefresh.land.sets = s.land.sets := by
  unfold Device.armRefresh
  exact sets_ite (by simp) (by simp)

@[simp] theorem Device.calStep_sets (t : Nat) : (s.calStep t).land.sets = s.land.sets := by
  have activated (p : Calendar) : (s.activate t p).land.sets = s.land.sets := by
    unfold Device.activate Device.realignRefresh
    exact sets_ite ((Device.armRefresh_sets _).trans (Device.journal_booked ..).sets) (Device.journal_booked ..).sets
  unfold Device.calStep
  split
  · rfl
  · exact sets_ite (activated _) (sets_ite (Device.journal_booked ..).sets rfl)

@[simp] theorem Device.tariffStep_sets (t : Nat) : (s.tariffStep t).land.sets = s.land.sets := rfl

@[simp] theorem Device.armBoundary_sets : s.armBoundary.land.sets = s.land.sets := by
  unfold Device.armBoundary
  dsimp only
  split <;> simp

theorem Device.transaction_sets (x : TxnCtx) : (s.transaction x).land.sets = s.land.sets := by
  unfold Device.transaction
  extract_lets t became s1 s2 s3 s4 s5 s6
  have trust : s1.land.sets = s.land.sets := by simp [s1]
  have closed : s2.land.sets = s.land.sets := sets_ite trust (by simp [trust])
  have crossed : s3.land.sets = s.land.sets := by
    have seeded : (if became then s2.seedSched t else s2).land.sets = s.land.sets := sets_ite (by simp [closed]) closed
    simp [s3, seeded]
  have tariff : s4.land.sets = s.land.sets := by simp [s4, crossed]
  have told : s5.land.sets = s.land.sets := sets_ite ((s4.journal_booked ..).sets.trans tariff) tariff
  have begun : s6.land.sets = s.land.sets := sets_ite (by simp [told]) told
  rw [Device.commit_land, Device.armBoundary_sets]
  exact begun

/-! ## What follows a set -/

theorem Device.classEvent_sets (k : SetClass) (sigma : Int) : (s.classEvent k sigma).land.sets = s.land.sets := by
  cases k
  case large => exact (Device.tamper_booked ..).sets.trans (s.landEvent_sets ..)
  case trusting => exact s.landEvent_sets ..
  all_goals rfl

theorem Device.stepTransaction_sets (k : SetClass) (sigma : Int) :
    (s.stepTransaction k sigma).land.sets = s.land.sets :=
  sets_ite (s.transaction_sets _) rfl

theorem Device.rearmMidnight_sets : s.rearmMidnight.land.sets = s.land.sets := by
  have midnight : s.armMidnight.land.sets = s.land.sets := sets_ite rfl (s.arm_sets ..)
  exact sets_ite midnight rfl

theorem Device.ageRecompute_sets : s.ageRecompute.land.sets = s.land.sets := by
  by_cases primary : s.secondary = false
  · by_cases trusted : s.trusted = true
    · rw [(s.ageRecompute_trusted trusted primary _ _ rfl rfl).sets, (s.aged_fields _ _).2.1]
    · rw [s.ageRecompute_untrusted (by simpa using trusted) primary, s.corrHold_eq]
  · rw [Device.ageRecompute, if_pos (by simpa using primary)]

end

/-! ## The set itself (R313 to R315) -/

/-- The step of the set `p`. -/
def Device.setStep (s : Device) (p : PendSet) : Int := (s.setTarget p : Int) - s.land.tick

/-- The Landing as the set `p` leaves it. -/
def Device.setLanding (s : Device) (p : PendSet) : Landing :=
  ((s.loadSet p (s.setTarget p) (s.setStep p)).applyClass (s.classOf p (s.setStep p)) (s.setStep p)).newDay s.land.tick
    (s.classOf p (s.setStep p)) (s.setStep p)

/-- The events, the transaction and the ageing correction that follow a set leave its count and its counters. -/
theorem Device.applySet_stands (s : Device) (p : PendSet) :
    (s.applySet p).Same { s with land := s.setLanding p } ∧ (s.applySet p).land.sets = (s.setLanding p).sets := by
  unfold Device.applySet
  extract_lets new sigma k l s1 s2 s3
  have follow : s3.Same s1 := (Device.rearmMidnight_same _).trans ((Device.stepTransaction_same ..).trans
    ((Device.classEvent_same ..).trans ((Device.updateTimeNow_same _).trans ((Device.shiftWorking_same ..).trans
      (s1.shiftOrigins_same _)))))
  have sets : s3.land.sets = s1.land.sets :=
    ((Device.rearmMidnight_sets _).trans ((Device.stepTransaction_sets ..).trans (Device.classEvent_sets ..))).trans rfl
  exact ⟨same_ite ((Device.ageRecompute_same _).trans follow) follow,
    sets_ite (x := s1) (s3.ageRecompute_sets.trans sets) sets⟩

section
variable {dt : Nat} {s : State} {d : Device} (hd : d = s.dev.elapse dt)
include hd

theorem timeSetApply_applies {p : PendSet} (waits : d.land.pendSet = some p) (runs : d.ticking = true)
    (bat : d.land.supply = .bat) (primary : d.secondary = false) :
    exec (.timeSetApply dt) s = .next { s with dev := d.applySet p } := by
  simp [exec, execTimeSetApply, ← hd, waits, runs, bat, primary]

theorem timeSetApply_idle (idle : d.land.pendSet = none ∨ d.land.supply ≠ .bat ∨ d.secondary = true) :
    exec (.timeSetApply dt) s = .next { s with dev := d } := by
  rcases idle with none | locked | secondary
  · simp [exec, execTimeSetApply, ← hd, none]
  · cases waits : d.land.pendSet <;> simp [exec, execTimeSetApply, ← hd, waits, locked]
  · cases waits : d.land.pendSet <;> simp [exec, execTimeSetApply, ← hd, waits, secondary]

end

theorem Device.loadSet_fields (s : Device) (p : PendSet) (new : Nat) (sigma : Int) :
    (s.loadSet p new sigma).tick = new ∧ (s.loadSet p new sigma).pendSet = none ∧
      (s.loadSet p new sigma).cnt = s.land.cnt ∧ (s.loadSet p new sigma).adjDay = s.land.adjDay ∧
      (s.loadSet p new sigma).oscStopped = s.land.oscStopped ∧ (s.loadSet p new sigma).neverSet = s.land.neverSet := by
  unfold Device.loadSet
  dsimp only
  split <;> exact ⟨rfl, rfl, rfl, rfl, rfl, rfl⟩

/-- Every set loads its target, is consumed and advances `step_seq` (R313, R316). -/
theorem Device.setLanding_fields (s : Device) (p : PendSet) :
    (s.setLanding p).tick = s.setTarget p ∧ (s.setLanding p).pendSet = none ∧
      (s.setLanding p).cnt.stepSeq = wrapU 32 (s.land.cnt.stepSeq + 1) := by
  obtain ⟨tick, none, cnt, -⟩ := s.loadSet_fields p (s.setTarget p) (s.setStep p)
  unfold Device.setLanding Landing.newDay
  cases s.classOf p (s.setStep p) <;> simp only [Landing.applyClass, tick, none, cnt, and_self]

/-- A set that finds time untrusted and is absolute ends the doubt, and counts neither as small nor as a step (R315). -/
theorem Device.setLanding_trusting (s : Device) (p : PendSet) (cls : s.classOf p (s.setStep p) = .trusting) :
    (s.setLanding p).oscStopped = false ∧ (s.setLanding p).neverSet = false ∧
      (s.setLanding p).cnt.stepCount = s.land.cnt.stepCount := by
  obtain ⟨-, -, cnt, -⟩ := s.loadSet_fields p (s.setTarget p) (s.setStep p)
  simp only [Device.setLanding, cls, Landing.newDay, Landing.applyClass, cnt, and_self]

/-- A small set leaves trust as it is, and is counted with its size within the UTC day (R315). -/
theorem Device.setLanding_small (s : Device) (p : PendSet) (cls : s.classOf p (s.setStep p) = .small) :
    (s.setLanding p).oscStopped = s.land.oscStopped ∧ (s.setLanding p).neverSet = s.land.neverSet ∧
      (s.setLanding p).cnt.adjCount = satInc s.land.cnt.adjCount ∧ (s.setLanding p).cnt.stepCount = s.land.cnt.stepCount ∧
      (s.setTarget p / tpd = s.land.tick / tpd → (s.setLanding p).adjDay = s.land.adjDay + (s.setStep p).natAbs) := by
  obtain ⟨tick, -, cnt, adjDay, stopped, never⟩ := s.loadSet_fields p (s.setTarget p) (s.setStep p)
  simp only [Device.setLanding, cls, Landing.newDay, Landing.applyClass, tick, cnt, adjDay, stopped, never, true_and]
  exact fun sameDay => if_neg (by rw [sameDay]; exact Nat.lt_irrefl _)

/-- A large set leaves trust as it is, and counts as a step (R315). -/
theorem Device.setLanding_large (s : Device) (p : PendSet) (cls : s.classOf p (s.setStep p) = .large) :
    (s.setLanding p).oscStopped = s.land.oscStopped ∧ (s.setLanding p).neverSet = s.land.neverSet ∧
      (s.setLanding p).cnt.stepCount = satInc s.land.cnt.stepCount ∧
      (s.setTarget p / tpd = s.land.tick / tpd → (s.setLanding p).adjDay = s.land.adjDay) := by
  obtain ⟨tick, -, cnt, adjDay, stopped, never⟩ := s.loadSet_fields p (s.setTarget p) (s.setStep p)
  simp only [Device.setLanding, cls, Landing.newDay, Landing.applyClass, tick, cnt, adjDay, stopped, never, true_and]
  exact fun sameDay => if_neg (by rw [sameDay]; exact Nat.lt_irrefl _)

/-- A trusted relative set within the count's range steps it by its delta (R313). -/
theorem Device.setStep_rel (s : Device) {delta : Int} (low : 0 ≤ (s.land.tick : Int) + delta)
    (high : (s.land.tick : Int) + delta ≤ 2 ^ 48 - 1) :
    (s.setTarget (.rel delta) : Int) = s.land.tick + delta ∧ s.setStep (.rel delta) = delta := by
  have target : (s.setTarget (.rel delta) : Int) = s.land.tick + delta := by
    simp only [Device.setTarget, addTick, tickMax]
    omega
  exact ⟨target, by rw [Device.setStep, target]; omega⟩

/-- The class of a trusted relative set (R315). -/
theorem Device.classOf_rel (s : Device) (delta sigma : Int) (trusted : s.trusted = true) :
    (s.land.adjDay + sigma.natAbs ≤ s.land.adjLimit * 32768 → s.classOf (.rel delta) sigma = .small) ∧
    (s.land.adjLimit * 32768 < s.land.adjDay + sigma.natAbs → s.classOf (.rel delta) sigma = .large) := by
  refine ⟨fun small => ?_, fun large => ?_⟩
  · have within : sigma.natAbs ≤ s.land.adjLimit * 32768 := by omega
    simp [Device.classOf, trusted, small, within]
  · simp [Device.classOf, trusted, large]

theorem Device.classOf_abs (s : Device) (target : Nat) (sigma : Int) (doubt : s.trusted = false) :
    s.classOf (.abs target) sigma = .trusting := by
  simp [Device.classOf, doubt, PendSet.absolute]

theorem Device.setTarget_abs (s : Device) (target : Nat) (doubt : s.trusted = false) :
    s.setTarget (.abs target) = min (target / 32768 * 32768) tickMax := by
  simp [Device.setTarget, Device.prescaler, doubt]

/-- What a device shows of the set that it has applied. -/
theorem Device.applySet_shows (s : Device) (p : PendSet) :
    (s.applySet p).land.tick = s.setTarget p ∧ (s.applySet p).land.pendSet = none ∧
      (s.applySet p).land.cnt = (s.setLanding p).cnt ∧ (s.applySet p).land.adjDay = (s.setLanding p).adjDay ∧
      (s.applySet p).land.cnt.stepSeq = (s.land.cnt.stepSeq + 1) % 2 ^ 32 ∧
      (s.applySet p).trusted = (!(s.setLanding p).oscStopped && !(s.setLanding p).neverSet) := by
  obtain ⟨same, sets⟩ := s.applySet_stands p
  obtain ⟨tick, none, seq⟩ := s.setLanding_fields p
  have trusted := same.trusted
  obtain ⟨-, -, -, -, -, sameTick, -⟩ := same
  have cnt : (s.applySet p).land.cnt = (s.setLanding p).cnt := congrArg (·.2.1) sets
  exact ⟨sameTick.trans tick, (congrArg (·.1) sets).trans none, cnt, congrArg (·.2.2) sets,
    (congrArg LandCounters.stepSeq cnt).trans seq, trusted⟩

end Sys2Proof.Machine

namespace Sys2Proof
open Machine

/-- Settles O21, by the class of the set. -/
theorem timeSetIsApplied : Obligations.TimeSetIsApplied := by
  intro dt s d hd
  refine ⟨fun runs bat primary => ⟨fun target waits doubt => ?_, fun delta waits trusted low high small => ?_,
    fun delta waits trusted low high large => ?_⟩, timeSetApply_idle hd⟩
  · obtain ⟨tick, none, cnt, -, seq, trust⟩ := d.applySet_shows (.abs target)
    obtain ⟨stopped, never, count⟩ := d.setLanding_trusting (.abs target) (d.classOf_abs _ _ doubt)
    refine ⟨_, timeSetApply_applies hd waits runs bat primary, none, ?_, ?_, seq, ?_⟩
    · rw [tick, d.setTarget_abs _ doubt, tickMax]
    · rw [trust, stopped, never]
      rfl
    · rw [cnt, count]
  · obtain ⟨tick, none, cnt, day, seq, trust⟩ := d.applySet_shows (.rel delta)
    obtain ⟨target, step⟩ := d.setStep_rel low high
    obtain ⟨stopped, never, adj, count, sum⟩ := d.setLanding_small (.rel delta)
      ((d.classOf_rel delta _ trusted).1 (by rwa [step]))
    refine ⟨_, timeSetApply_applies hd waits runs bat primary, none, ?_, ?_, seq, ?_, ?_, fun sameDay => ?_⟩
    · rw [tick, target]
    · rw [trust, stopped, never]
      exact trusted
    · rw [cnt, adj]
    · rw [cnt, count]
    · rw [day, sum, step]
      rw [← target] at sameDay
      exact_mod_cast sameDay
  · obtain ⟨tick, none, cnt, day, seq, trust⟩ := d.applySet_shows (.rel delta)
    obtain ⟨target, step⟩ := d.setStep_rel low high
    obtain ⟨stopped, never, count, sum⟩ := d.setLanding_large (.rel delta)
      ((d.classOf_rel delta _ trusted).2 (by rwa [step]))
    refine ⟨_, timeSetApply_applies hd waits runs bat primary, none, ?_, ?_, seq, ?_, fun sameDay => ?_⟩
    · rw [tick, target]
    · rw [trust, stopped, never]
      exact trusted
    · rw [cnt, count]
    · rw [day, sum]
      rw [← target] at sameDay
      exact_mod_cast sameDay

end Sys2Proof

/-! SUPPORT. The segment display: a region at a frame boundary, and what compositions and requests leave (R413, R418, R420, R421,
R423, R428). -/

namespace Sys2Proof

theorem getElem?_setAt_ne {α : Type} (l : List α) {i j : Nat} (f : α → α) (other : i ≠ j) : (setAt l i f)[j]? = l[j]? := by
  unfold setAt
  split
  · exact List.getElem?_set_ne other
  · rfl

end Sys2Proof

namespace Sys2Proof.Machine

/-! ## One region at a boundary (R413, R418) -/

/-- The region `r` goes on to the next frame of its waveform `w`. -/
def Display.advance (d : Display) (r : Nat) (w : Run) : Display :=
  { d with regions := setAt d.regions r fun g => { g with run := some { w with frame := w.frame + 1 } } }

/-- `e` is `d` but for image, counts of updates and the state of region `r`. -/
structure Display.StepOf (e d : Display) (r : Nat) : Prop where
  tables : e.tables = d.tables
  frameAt : e.frameAt = d.frameAt
  page : e.page = d.page
  others : ∀ j, r ≠ j → e.regions[j]? = d.regions[j]?

theorem Display.StepOf.refl (d : Display) (r : Nat) : d.StepOf d r := ⟨rfl, rfl, rfl, fun _ _ => rfl⟩

theorem Display.StepOf.trans {a b c : Display} {r : Nat} (h : a.StepOf b r) (k : b.StepOf c r) : a.StepOf c r :=
  ⟨h.tables.trans k.tables, h.frameAt.trans k.frameAt, h.page.trans k.page,
    fun j other => (h.others j other).trans (k.others j other)⟩

theorem stepOf_ite {c : Prop} [Decidable c] {a b d : Display} {r : Nat} (h : a.StepOf d r) (k : b.StepOf d r) :
    (if c then a else b).StepOf d r := by
  split <;> assumption

section
variable (d : Display) (r : Nat)

theorem Display.advance_step (w : Run) : (d.advance r w).StepOf d r :=
  ⟨rfl, rfl, rfl, fun _ other => getElem?_setAt_ne _ _ other⟩

theorem Display.settle_step : (d.settle r).StepOf d r :=
  ⟨rfl, rfl, rfl, fun _ other => getElem?_setAt_ne _ _ other⟩

theorem Display.start_step (temp : Int) (up : Update) : (d.start temp r up).StepOf d r := by
  unfold Display.start
  extract_lets b d1 n d2
  have started : d2.StepOf d r := ⟨rfl, rfl, rfl, fun _ other => getElem?_setAt_ne _ _ other⟩
  exact stepOf_ite ((d2.settle_step r).trans started) started

theorem Display.resume_step (x : Nat × Nat) : (d.resume r x).StepOf d r := by
  unfold Display.resume
  extract_lets n d1
  have resumed : d1.StepOf d r := ⟨rfl, rfl, rfl, fun _ other => getElem?_setAt_ne _ _ other⟩
  exact stepOf_ite ((d1.settle_step r).trans resumed) resumed

/-- A boundary touches the region it steps, and the image. -/
theorem Display.regionStep_step (on : Bool) (temp : Int) : (d.regionStep on temp r).StepOf d r := by
  unfold Display.regionStep
  extract_lets g d1 g1
  have shown : d1.StepOf d r := by
    unfold d1
    split
    · exact .refl d r
    · exact stepOf_ite (d.settle_step r) (d.advance_step r _)
  refine stepOf_ite shown ?_
  split
  · exact (d1.resume_step r _).trans shown
  · exact stepOf_ite ((d1.start_step r temp _).trans shown)
      (.trans (b := d1) ⟨rfl, rfl, rfl, fun _ other => getElem?_setAt_ne _ _ other⟩ shown)
  · exact shown

variable {d r} {g : Region} {w : Run}

/-- A region that has frames left goes on by one, whatever waits. -/
theorem Display.regionStep_runs (on : Bool) (temp : Int) (at_ : d.regions[r]? = some g) (runs : g.run = some w)
    (left : w.frame + 1 < w.len) : d.regionStep on temp r = d.advance r w := by
  have here : d.regions.getD r {} = g := by rw [List.getD_eq_getElem?_getD, at_, Option.getD_some]
  have next : ((d.advance r w).regions.getD r {}).run = some { w with frame := w.frame + 1 } := by
    rw [List.getD_eq_getElem?_getD, Display.advance, getElem?_setAt_self, at_]
    rfl
  unfold Display.regionStep
  simp only [here, runs, Nat.not_le.mpr left, if_false]
  exact if_pos (by rw [Option.isSome_iff_exists]; exact ⟨_, next⟩)

end

/-! ## A display on which no update waits -/

/-- No region has an update that waits or is to resume. -/
def Display.Quiet (d : Display) : Prop := ∀ k ∈ d.regions, k.next = none ∧ k.resume = none

theorem Display.Quiet.at {d : Display} (quiet : d.Quiet) (r : Nat) :
    (d.regions.getD r {}).next = none ∧ (d.regions.getD r {}).resume = none := by
  rw [List.getD_eq_getElem?_getD]
  cases at_ : d.regions[r]? with
  | none => exact ⟨rfl, rfl⟩
  | some g => exact quiet g (List.mem_of_getElem? at_)

/-- A region's waveform moves no update. -/
theorem Display.Quiet.of_set {d e : Display} (quiet : d.Quiet) {r : Nat} {f : Region → Region}
    (set : e.regions = setAt d.regions r f) (keeps : ∀ g, (f g).next = g.next ∧ (f g).resume = g.resume) : e.Quiet := by
  intro k mem
  rw [set] at mem
  obtain ⟨j, at_⟩ := List.mem_iff_getElem?.mp mem
  by_cases same : r = j
  · subst same
    rw [getElem?_setAt_self] at at_
    obtain ⟨g, was, rfl⟩ := Option.map_eq_some_iff.mp at_
    rw [(keeps g).1, (keeps g).2]
    exact quiet g (List.mem_of_getElem? was)
  · rw [getElem?_setAt_ne _ _ same] at at_
    exact quiet k (List.mem_of_getElem? at_)

/-- With nothing waiting a boundary steps a region or ends its waveform (R418). -/
theorem Display.regionStep_quiet {d : Display} (quiet : d.Quiet) (on : Bool) (temp : Int) (r : Nat) :
    d.regionStep on temp r = match (d.regions.getD r {}).run with
      | none => d
      | some w => if w.len ≤ w.frame + 1 then d.settle r else d.advance r w := by
  have idle (e : Display) (quiet : e.Quiet) :
      (if (e.regions.getD r {}).run.isSome then e
        else match (e.regions.getD r {}).resume, (e.regions.getD r {}).next with
          | some x, _ => e.resume r x
          | none, some up =>
            if on then e.start temp r up
            else { e with regions := setAt e.regions r fun g => { g with next := none } }
          | none, none => e) = e := by
    obtain ⟨next, resume⟩ := quiet.at r
    rw [next, resume]
    exact ite_self e
  unfold Display.regionStep
  extract_lets g d1 g1
  have quiet1 : d1.Quiet := by
    unfold d1
    split
    · exact quiet
    · split <;> exact quiet.of_set rfl fun _ => ⟨rfl, rfl⟩
  exact idle d1 quiet1

/-! ## The image (R418) -/

/-- Targets become the shown states of the segments of a list. -/
theorem getElem?_settleSeg (l : List Nat) (im : List (Nat × Nat)) (x : Nat) :
    (l.foldl settleSeg im)[x]? = if x ∈ l then im[x]?.map (fun y => (y.2, y.2)) else im[x]? := by
  induction l generalizing im with
  | nil => simp
  | cons a l ih =>
    rw [List.foldl_cons, ih]
    by_cases same : a = x
    · subst same
      simp [settleSeg, Function.comp_def]
    · rw [settleSeg, getElem?_setAt_ne _ _ same]
      simp [Ne.symm same]

/-- Each segment shows what it showed, or its target. -/
def Display.Settling (e d : Display) : Prop :=
  ∀ (x : Nat) (y : Nat × Nat), d.image[x]? = some y → e.image[x]? = some y ∨ e.image[x]? = some (y.2, y.2)

theorem Display.settle_image {d : Display} {r x : Nat} {y : Nat × Nat} (shown : d.image[x]? = some y) :
    (d.settle r).image[x]? = if x ∈ d.tables.segs r then some (y.2, y.2) else some y := by
  rw [Display.settle, getElem?_settleSeg, shown]
  rfl

theorem Display.Settling.trans {a b c : Display} (h : a.Settling b) (k : b.Settling c) : a.Settling c := by
  intro x y shown
  rcases k x y shown with same | settled
  · exact h x y same
  · exact .inr ((h x _ settled).elim id id)

theorem Display.regionStep_settles {d : Display} (quiet : d.Quiet) (on : Bool) (temp : Int) (r : Nat) :
    (d.regionStep on temp r).Quiet ∧ (d.regionStep on temp r).Settling d := by
  rw [Display.regionStep_quiet quiet]
  split
  · exact ⟨quiet, fun _ _ shown => .inl shown⟩
  · split
    · refine ⟨quiet.of_set rfl (fun _ => ⟨rfl, rfl⟩), fun x y shown => ?_⟩
      rw [Display.settle_image shown]
      split
      · exact .inr rfl
      · exact .inl rfl
    · exact ⟨quiet.of_set rfl (fun _ => ⟨rfl, rfl⟩), fun _ _ shown => .inl shown⟩

/-! ## All regions at a boundary -/

/-- The regions of a list step, one after the other. -/
def Display.stepAll (d : Display) (on : Bool) (temp : Int) (l : List Nat) : Display :=
  l.foldl (fun d r => Display.regionStep d on temp r) d

section
variable (on : Bool) (temp : Int)

theorem Display.stepAll_kept (l : List Nat) (d : Display) :
    (d.stepAll on temp l).tables = d.tables ∧ (d.stepAll on temp l).frameAt = d.frameAt ∧
      (d.stepAll on temp l).page = d.page ∧ ∀ j, j ∉ l → (d.stepAll on temp l).regions[j]? = d.regions[j]? := by
  induction l generalizing d with
  | nil => exact ⟨rfl, rfl, rfl, fun _ _ => rfl⟩
  | cons a l ih =>
    obtain ⟨tables, frameAt, page, others⟩ := ih (d.regionStep on temp a)
    have step := d.regionStep_step a on temp
    refine ⟨tables.trans step.tables, frameAt.trans step.frameAt, page.trans step.page, fun j out => ?_⟩
    rw [List.mem_cons, not_or] at out
    obtain ⟨first, rest⟩ := out
    exact (others j rest).trans (step.others j (Ne.symm first))

theorem Display.stepAll_settles (l : List Nat) (d : Display) (quiet : d.Quiet) :
    (d.stepAll on temp l).Quiet ∧ (d.stepAll on temp l).Settling d := by
  induction l generalizing d with
  | nil => exact ⟨quiet, fun _ _ shown => .inl shown⟩
  | cons a l ih =>
    obtain ⟨quiet', settles⟩ := d.regionStep_settles quiet on temp a
    obtain ⟨last, all⟩ := ih _ quiet'
    exact ⟨last, all.trans settles⟩

/-- A region of the list takes its own step between those of the regions before it and after it. -/
theorem Display.stepAll_split {l : List Nat} (once : l.Nodup) {r : Nat} (mem : r ∈ l) (d : Display) :
    ∃ a b, r ∉ a ∧ r ∉ b ∧ d.stepAll on temp l = ((d.stepAll on temp a).regionStep on temp r).stepAll on temp b := by
  obtain ⟨a, b, rfl⟩ := List.append_of_mem mem
  obtain ⟨-, tail, apart⟩ := List.nodup_append.mp once
  refine ⟨a, b, fun before => apart r before r List.mem_cons_self rfl, (List.nodup_cons.mp tail).1, ?_⟩
  simp [Display.stepAll]

variable {l : List Nat} (once : l.Nodup) {r : Nat} (mem : r ∈ l) {d : Display} {g : Region} {w : Run}
  (at_ : d.regions[r]? = some g) (runs : g.run = some w)
include once mem at_ runs

theorem Display.stepAll_runs (left : w.frame + 1 < w.len) :
    ((d.stepAll on temp l).regions[r]?).bind (·.run) = some { w with frame := w.frame + 1 } := by
  obtain ⟨a, b, outA, outB, split⟩ := Display.stepAll_split on temp once mem d
  have before : (d.stepAll on temp a).regions[r]? = some g := ((d.stepAll_kept on temp a).2.2.2 r outA).trans at_
  rw [split, (Display.stepAll_kept on temp b _).2.2.2 r outB, Display.regionStep_runs on temp before runs left,
    Display.advance, getElem?_setAt_self, before]
  rfl

theorem Display.stepAll_ends (quiet : d.Quiet) (last : w.len ≤ w.frame + 1) :
    ((d.stepAll on temp l).regions[r]?).bind (·.run) = none ∧
      ∀ x ∈ d.tables.segs r, ∀ y, d.image[x]? = some y → (d.stepAll on temp l).image[x]? = some (y.2, y.2) := by
  obtain ⟨a, b, outA, outB, split⟩ := Display.stepAll_split on temp once mem d
  obtain ⟨tables, -, -, others⟩ := d.stepAll_kept on temp a
  obtain ⟨quietA, settlesA⟩ := d.stepAll_settles on temp a quiet
  have before : (d.stepAll on temp a).regions[r]? = some g := (others r outA).trans at_
  have run : ((d.stepAll on temp a).regions.getD r {}).run = some w := by
    rw [List.getD_eq_getElem?_getD, before, Option.getD_some, runs]
  have step : (d.stepAll on temp a).regionStep on temp r = (d.stepAll on temp a).settle r := by
    rw [Display.regionStep_quiet quietA, run]
    exact if_pos last
  have quietR : ((d.stepAll on temp a).settle r).Quiet := quietA.of_set rfl fun _ => ⟨rfl, rfl⟩
  rw [split, step]
  refine ⟨?_, fun x segment y shown => ?_⟩
  · rw [(Display.stepAll_kept on temp b _).2.2.2 r outB, Display.settle, getElem?_setAt_self, before]
    rfl
  · have settled : ((d.stepAll on temp a).settle r).image[x]? = some (y.2, y.2) := by
      rcases settlesA x y shown with same | early
      · rw [Display.settle_image same, tables, if_pos segment]
      · rw [Display.settle_image early, tables, if_pos segment]
    exact ((Display.stepAll_settles on temp b _ quietR).2 x _ settled).elim id id

end

end Sys2Proof.Machine

/-! SUPPORT. Frame boundaries, compositions and requests of the display, over the device (R413 to R432). -/

namespace Sys2Proof.Machine

/-! ## What a composition leaves -/

/-- A composition leaves Tollhouse, clock and alarms, and the tick at which the page returns. -/
theorem Device.displayCompose_leaves (s : Device) (full : Bool) (n : Nat) :
    (s.displayCompose full n).toll = s.toll ∧ (s.displayCompose full n).land.tick = s.land.tick ∧
      (s.displayCompose full n).land.alarms = s.land.alarms ∧
      (s.displayCompose full n).disp.pageUntil = s.disp.pageUntil := by
  unfold Device.displayCompose
  dsimp only
  split <;> exact ⟨rfl, rfl, rfl, rfl⟩

theorem Device.armRefresh_leaves (s : Device) :
    s.armRefresh.disp = s.disp ∧ s.armRefresh.conf = s.conf ∧ s.armRefresh.toll = s.toll ∧
      s.armRefresh.refusals = s.refusals ∧ s.armRefresh.land.tick = s.land.tick := by
  unfold Device.armRefresh
  dsimp only
  split <;> simp

/-! ## A frame boundary (R413, R418, R420) -/

/-- What the display shows and when its next frame comes, the configuration, the billed registers, the refusals and the
Landing are the same. -/
structure Device.Shows (t s : Device) : Prop where
  regions : t.disp.regions = s.disp.regions
  image : t.disp.image = s.disp.image
  frameAt : t.disp.frameAt = s.disp.frameAt
  page : t.disp.page = s.disp.page
  conf : t.conf = s.conf
  led : t.toll.led = s.toll.led
  refusals : t.refusals = s.refusals
  land : t.land = s.land

theorem Device.Shows.refl (s : Device) : s.Shows s := ⟨rfl, rfl, rfl, rfl, rfl, rfl, rfl, rfl⟩

theorem Device.Shows.trans {a b c : Device} (h : a.Shows b) (k : b.Shows c) : a.Shows c :=
  ⟨h.regions.trans k.regions, h.image.trans k.image, h.frameAt.trans k.frameAt, h.page.trans k.page,
    h.conf.trans k.conf, h.led.trans k.led, h.refusals.trans k.refusals, h.land.trans k.land⟩

theorem shows_ite {c : Prop} [Decidable c] {a b x : Device} (h : a.Shows x) (k : b.Shows x) :
    (if c then a else b).Shows x := by
  split <;> assumption

/-- Entering an event or a commit shows nothing. -/
theorem Device.Booked.shows {t s : Device} (h : t.Booked s) : t.Shows s := by
  unfold Device.Booked at h
  rw [h]
  exact ⟨rfl, rfl, rfl, rfl, rfl, rfl, rfl, rfl⟩

theorem Device.degrade_shows (s : Device) (f : Degraded → Degraded) : (s.degrade f).Shows s :=
  ⟨rfl, rfl, rfl, rfl, rfl, rfl, rfl, rfl⟩

/-- New tables change no segment and no region. -/
theorem Device.displayTables_shows (s : Device) : s.displayTables.Shows s := by
  have picked : ({ s with disp := s.displayPick.1 } : Device).Shows s := by
    unfold Device.displayPick
    dsimp only
    split
    · exact ⟨rfl, rfl, rfl, rfl, rfl, rfl, rfl, rfl⟩
    · split <;> exact ⟨rfl, rfl, rfl, rfl, rfl, rfl, rfl, rfl⟩
  unfold Device.displayTables
  extract_lets p s1
  have told : (if p.2 = 0 then s1 else s1.journal 0x703 p.2 0).Shows s :=
    shows_ite picked ((s1.journal_booked ..).shows.trans picked)
  exact (Device.degrade_shows ..).trans told

theorem Device.displayRetable_shows (s : Device) : s.displayRetable.Shows s := by
  unfold Device.displayRetable
  exact shows_ite ⟨rfl, rfl, rfl, rfl, rfl, rfl, rfl, rfl⟩ s.displayTables_shows

/-- The timer set for the next boundary; it stops where nothing runs or waits (R413, R420). -/
def Display.timed (d : Display) : Display :=
  { d with timerRun := d.busy || d.regions.any (·.resume.isSome), frameAt := d.frameAt + 524 }

theorem Display.timed_fields (d : Display) : d.timed.regions = d.regions ∧ d.timed.image = d.image ∧
    d.timed.frameAt = d.frameAt + 524 ∧ d.timed.page = d.page :=
  ⟨rfl, rfl, rfl, rfl⟩

/-- The display with its eight regions stepped. -/
def Device.stepped (s : Device) : Display := s.disp.stepAll (s.on .display) s.land.dieTemp (List.range 8)

theorem Device.frameBoundary_shows (s : Device) : s.frameBoundary.Shows { s with disp := s.stepped.timed } := by
  unfold Device.frameBoundary
  extract_lets m d s0 s1 s2
  have stepped : ({ s with disp := s.stepped.timed } : Device) = s0 := by
    simp only [s0, d, Device.stepped, Display.stepAll, Display.timed, frameCycles]
  rw [stepped]
  clear_value m d
  have tables : s1.Shows s0 := shows_ite s0.displayRetable_shows (.refl s0)
  have booked : s2.Shows s0 := shows_ite tables (s1.commit_booked.shows.trans tables)
  exact shows_ite (x := s0) booked ((s2.journal_booked ..).shows.trans booked)

section
variable {dt : Nat} {s : State} {d : Device} (hd : d = s.dev.elapse dt)
include hd

theorem displayFrameBoundary_due (up : d.up = true) (timer : d.disp.timerRun = true) (due : d.disp.frameAt ≤ d.land.osc) :
    exec (.displayFrameBoundary dt) s = .next { s with dev := d.frameBoundary } := by
  simp [exec, execDisplayFrameBoundary, ← hd, Device.frameDue, up, timer, due]

theorem displayFrameBoundary_waits (waits : d.disp.timerRun = false ∨ d.land.osc < d.disp.frameAt) :
    exec (.displayFrameBoundary dt) s = .next { s with dev := d } := by
  rcases waits with stopped | early
  · simp [exec, execDisplayFrameBoundary, ← hd, Device.frameDue, stopped]
  · simp [exec, execDisplayFrameBoundary, ← hd, Device.frameDue, early]

/-! ## The page's return and the budget's windows (R421, R428) -/

theorem pageTimeout_returns {u : Nat} (tolls : d.tolling = true) (shown : d.disp.pageUntil = some u) (ended : u ≤ d.land.tick)
    (on : d.on .display = true) :
    exec (.pageTimeout dt) s = .next { s with dev := (d.showPage 0 0).displayCompose false 0 } := by
  simp [exec, execPageTimeout, ← hd, shown, tolls, ended, on]

theorem pageTimeout_off {u : Nat} (tolls : d.tolling = true) (shown : d.disp.pageUntil = some u) (ended : u ≤ d.land.tick)
    (off : d.on .display = false) :
    exec (.pageTimeout dt) s = .next { s with dev := { d with disp := { d.disp with pageUntil := none } } } := by
  simp [exec, execPageTimeout, ← hd, shown, tolls, ended, off]

theorem pageTimeout_early {u : Nat} (shown : d.disp.pageUntil = some u) (early : d.land.tick < u) :
    exec (.pageTimeout dt) s = .next { s with dev := d } := by
  simp [exec, execPageTimeout, ← hd, shown, early]

theorem pageTimeout_none (none : d.disp.pageUntil = none) : exec (.pageTimeout dt) s = .next { s with dev := d } := by
  simp [exec, execPageTimeout, ← hd, none]

theorem displayBudgetWindow_opens (tolls : d.tolling = true) {n : Nat} (hn : n = (d.land.tick - d.disp.budgetStart) / 117964800)
    (past : 0 < n) :
    exec (.displayBudgetWindow dt) s = .next { s with dev := { d with disp := { d.disp with
      budgetUsed := 0, budgetRefused := false, budgetStart := d.disp.budgetStart + n * 117964800 } } } := by
  simp only [exec, execDisplayBudgetWindow, ← hd, ← hn, tolls, past, decide_true, Bool.and_self, if_true]

theorem displayBudgetWindow_runs {n : Nat} (hn : n = (d.land.tick - d.disp.budgetStart) / 117964800) (within : n = 0) :
    exec (.displayBudgetWindow dt) s = .next { s with dev := d } := by
  simp [exec, execDisplayBudgetWindow, ← hd, ← hn, within]

end

/-! ## A press (R48, R421, R428) -/

/-- What an accepted press does: outside the safe preset it moves to the next page, and the page is composed. -/
def Device.pressed (x : Device) : Device :=
  (if x.conf.safePreset then x else x.showPage x.nextPage (x.conf.g.display.getD {}).pageTimeout).displayCompose false 1

theorem buttonPress_short {dt held : Nat} {s : State} (short : held < 656) :
    exec (.buttonPress dt held) s = .next { s with dev := s.dev.elapse dt } := by
  simp [exec, execButtonPress, Nat.not_le.mpr short]

section
variable {dt held : Nat} {s : State} {d : Device} (hd : d = (s.dev.elapse dt).woken 5)
include hd

theorem buttonPress_released (up : d.up = true) (debounced : 656 ≤ held) (soon : held < 98304) :
    exec (.buttonPress dt held) s = .next { s with dev := d.displayAdmit Device.pressed } := by
  simp only [exec, execButtonPress, debounced, soon, and_self, decide_true, if_true, ← hd, up, Bool.and_self]
  rfl

theorem buttonPress_long (long : 98304 ≤ held) : exec (.buttonPress dt held) s = .next { s with dev := d } := by
  have debounced : 656 ≤ held := by omega
  simp [exec, execButtonPress, debounced, long, ← hd]

end

theorem Device.displayAdmit_off (s : Device) (f : Device → Device) (off : s.on .display = false) :
    s.displayAdmit f = s.refuse 8 := by
  simp [Device.displayAdmit, off]

theorem Device.displayAdmit_accepts (s : Device) (f : Device → Device) (on : s.on .display = true)
    (left : s.disp.budgetUsed < (s.conf.g.display.getD {}).updCap) :
    s.displayAdmit f = f { s with disp := { s.disp with budgetUsed := s.disp.budgetUsed + 1 } } := by
  simp [Device.displayAdmit, on, left]

theorem Device.displayAdmit_refuses (s : Device) (f : Device → Device) (on : s.on .display = true)
    (spent : (s.conf.g.display.getD {}).updCap ≤ s.disp.budgetUsed) : s.displayAdmit f = s.budgetRefused := by
  simp [Device.displayAdmit, on, spent]

/-- The first refusal of a window is journalled; each one advances counter 5 (R421). -/
theorem Device.budgetRefused_leaves (s : Device) :
    s.budgetRefused.refusals = setAt s.refusals 5 satInc ∧ s.budgetRefused.disp = { s.disp with budgetRefused := true } ∧
      s.budgetRefused.conf = s.conf ∧ s.budgetRefused.toll.led = s.toll.led ∧ s.budgetRefused.land = s.land := by
  unfold Device.budgetRefused
  dsimp only
  split
  · next already => exact ⟨rfl, by rw [← already]; rfl, rfl, rfl, rfl⟩
  · simp

/-- Outside the safe preset a press moves to the next page (R428). -/
theorem Device.pressed_leaves (x : Device) (parameters : x.conf.safePreset = false) :
    x.pressed.disp.page = x.nextPage ∧ x.pressed.disp.budgetUsed = x.disp.budgetUsed ∧ x.pressed.refusals = x.refusals ∧
      x.pressed.conf = x.conf ∧ x.pressed.toll = x.toll ∧ x.pressed.land.tick = x.land.tick := by
  have moves : x.pressed =
      (x.showPage x.nextPage (x.conf.g.display.getD {}).pageTimeout).displayCompose false 1 := by
    simp [Device.pressed, parameters]
  generalize hy : x.showPage x.nextPage (x.conf.g.display.getD {}).pageTimeout = y at moves
  obtain ⟨page, used, refusals, -, conf⟩ := y.displayCompose_frame false 1
  obtain ⟨toll, tick, -⟩ := y.displayCompose_leaves false 1
  rw [moves, page, used, refusals, conf, toll, tick, ← hy]
  exact ⟨rfl, rfl, rfl, rfl, rfl, rfl⟩

/-! ## A refresh (R423) -/

section
variable {dt : Nat} {s : State} {d : Device} (hd : d = (s.dev.elapse dt).woken 1)
include hd

theorem displayRefresh_on (tolls : d.tolling = true) (fired : d.fired 5 = true) (on : d.on .display = true) :
    exec (.displayRefresh dt) s = .next { s with dev := d.armRefresh.displayCompose false 0 } := by
  simp [exec, execDisplayRefresh, ← hd, tolls, fired, on]

theorem displayRefresh_off (tolls : d.tolling = true) (fired : d.fired 5 = true) (off : d.on .display = false) :
    exec (.displayRefresh dt) s = .next { s with dev := d.armRefresh } := by
  simp [exec, execDisplayRefresh, ← hd, tolls, fired, off]

theorem displayRefresh_waits (waits : d.fired 5 = false) : exec (.displayRefresh dt) s = .next { s with dev := d } := by
  simp [exec, execDisplayRefresh, ← hd, waits]

end

theorem Device.tolling_up {d : Device} (tolls : d.tolling = true) : d.up = true :=
  (Bool.and_eq_true_iff.mp tolls).1

/-- The refresh of a driver that is ON composes the page it shows. -/
theorem Device.refreshed_leaves (d : Device) :
    (d.armRefresh.displayCompose false 0).disp.page = d.disp.page ∧
      (d.armRefresh.displayCompose false 0).disp.budgetUsed = d.disp.budgetUsed ∧
      (d.armRefresh.displayCompose false 0).land.alarms = d.armRefresh.land.alarms ∧
      (d.armRefresh.displayCompose false 0).conf = d.conf ∧ (d.armRefresh.displayCompose false 0).toll = d.toll ∧
      (d.armRefresh.displayCompose false 0).refusals = d.refusals ∧
      (d.armRefresh.displayCompose false 0).land.tick = d.land.tick := by
  obtain ⟨page, used, refusals, -, conf⟩ := d.armRefresh.displayCompose_frame false 0
  obtain ⟨toll, tick, alarms, -⟩ := d.armRefresh.displayCompose_leaves false 0
  obtain ⟨armedDisp, armedConf, armedToll, armedRefusals, armedTick⟩ := d.armRefresh_leaves
  exact ⟨page.trans (congrArg Display.page armedDisp), used.trans (congrArg Display.budgetUsed armedDisp), alarms,
    conf.trans armedConf, toll.trans armedToll, refusals.trans armedRefusals, tick.trans armedTick⟩

end Sys2Proof.Machine

namespace Sys2Proof
open Machine

/-- The regions of a display at a frame boundary (R413, R418). -/
theorem frameBoundary_regions (d : Device) (eight : d.disp.regions.length = 8) (r : Nat) (g : Region) (w : Run)
    (at_ : d.disp.regions[r]? = some g) (runs : g.run = some w) :
    (w.frame + 1 < w.len →
      ((d.frameBoundary.disp.regions[r]?).bind (·.run)) = some { w with frame := w.frame + 1 }) ∧
    (w.len ≤ w.frame + 1 → d.disp.Quiet →
      ((d.frameBoundary.disp.regions[r]?).bind (·.run)) = none ∧
      ∀ x ∈ d.disp.tables.segs r, ∀ y, d.disp.image[x]? = some y → d.frameBoundary.disp.image[x]? = some (y.2, y.2)) := by
  have shows := d.frameBoundary_shows
  have mem : r ∈ List.range 8 := by
    rw [List.mem_range, ← eight]
    exact (List.getElem?_eq_some_iff.mp at_).1
  obtain ⟨regions, image, -⟩ := d.stepped.timed_fields
  rw [shows.regions, shows.image, regions, image]
  exact ⟨Display.stepAll_runs _ _ List.nodup_range mem at_ runs,
    fun last quiet => Display.stepAll_ends _ _ List.nodup_range mem at_ runs quiet last⟩

/-- Settles O52: a boundary steps each region once; admission and composition write the display alone. -/
theorem displayShowsItsPages : Obligations.DisplayShowsItsPages := by
  refine ⟨fun dt s d hd tolls => ⟨fun fired => ⟨fun on => ?_, displayRefresh_off hd tolls fired⟩, displayRefresh_waits hd⟩,
    fun dt s d hd tolls => ⟨fun held debounced soon => ⟨fun off => ?_, fun on => ⟨fun left parameters => ?_, fun spent => ?_⟩⟩,
      fun held long => buttonPress_long hd long⟩,
    fun dt s d hd tolls => ⟨fun timer due eight => ?_, displayFrameBoundary_waits hd, fun held short => ?_,
      fun u shown => ⟨fun ended on => ?_, fun ended off => pageTimeout_off hd tolls shown ended off, pageTimeout_early hd shown⟩,
      pageTimeout_none hd, fun n hn => ⟨displayBudgetWindow_opens hd tolls hn, displayBudgetWindow_runs hd hn⟩⟩⟩
  · exact ⟨_, displayRefresh_on hd tolls fired on, d.refreshed_leaves⟩
  · rw [buttonPress_released hd (Device.tolling_up tolls) debounced soon, d.displayAdmit_off _ off]
  · have accepted := buttonPress_released hd (Device.tolling_up tolls) debounced soon
    rw [d.displayAdmit_accepts _ on left] at accepted
    exact ⟨_, accepted, Device.pressed_leaves _ parameters⟩
  · have refused := buttonPress_released hd (Device.tolling_up tolls) debounced soon
    rw [d.displayAdmit_refuses _ on spent] at refused
    exact ⟨_, refused, d.budgetRefused_leaves⟩
  · have shows := d.frameBoundary_shows
    obtain ⟨-, frameAt, page, -⟩ := d.disp.stepAll_kept (d.on .display) d.land.dieTemp (List.range 8)
    obtain ⟨-, -, steppedAt, steppedPage⟩ := d.stepped.timed_fields
    refine ⟨_, displayFrameBoundary_due hd (Device.tolling_up tolls) timer due, frameBoundary_regions d eight, ?_, ?_,
      shows.conf, shows.led, shows.refusals, shows.land⟩
    · exact shows.frameAt.trans (steppedAt.trans (congrArg (· + 524) frameAt))
    · exact shows.page.trans (steppedPage.trans page)
  · rw [buttonPress_short short, hd]
  · obtain ⟨page, used, -, -, conf⟩ := (d.showPage 0 0).displayCompose_frame false 0
    obtain ⟨toll, tick, -, until_⟩ := (d.showPage 0 0).displayCompose_leaves false 0
    exact ⟨_, pageTimeout_returns hd tolls shown ended on, page, until_, used, conf, toll, tick⟩

end Sys2Proof

/-! SUPPORT. What the schedules of the radio write beside the radio itself: alarms only (R345, R358, R365, R375). -/

namespace Sys2Proof.Machine

/-- `t` is `s` but for the radio and the alarms. -/
def Device.Planned (t s : Device) : Prop :=
  t = { s with radio := t.radio, land := t.land } ∧ t.land = { s.land with alarms := t.land.alarms }

theorem Device.Planned.refl (s : Device) : s.Planned s := ⟨rfl, rfl⟩

theorem Device.Planned.trans {a b c : Device} (h : a.Planned b) (k : b.Planned c) : a.Planned c := by
  obtain ⟨h1, h2⟩ := h
  obtain ⟨k1, k2⟩ := k
  refine ⟨?_, by rw [h2, k2]⟩
  rw [k1] at h1
  exact h1

theorem Device.Planned.tick {t s : Device} (h : t.Planned s) : t.land.tick = s.land.tick := by rw [h.2]

theorem Device.withRadio_planned (s : Device) (r : Radio) : ({ s with radio := r } : Device).Planned s := ⟨rfl, rfl⟩

theorem Device.arm_planned (s : Device) (i t : Nat) (e : Bool) : (s.arm i t e).Planned s := by
  unfold Device.arm
  split
  · exact ⟨rfl, rfl⟩
  · exact .refl s

theorem Device.disarm_planned (s : Device) (i : Nat) : (s.disarm i).Planned s := by
  unfold Device.disarm
  split
  · exact ⟨rfl, rfl⟩
  · exact .refl s

end Sys2Proof.Machine

/-! SUPPORT. What becomes of queued entries, of the join channel, of the budget windows and of a telegram (R345, R362, R366,
R370, R372, R375). -/

namespace Sys2Proof.Machine

/-! ## Expiries (R370, R372) -/

theorem Device.queueEntry_eq {d : Device} {k : Nat} {q : QEntry} (entry : d.radio.queue[k]? = some q) : d.queueEntry k = q := by
  simp [Device.queueEntry, List.getD_eq_getElem?_getD, entry]

/-- The entry that an expiry leaves, with its count and its event. -/
def Device.expired (d : Device) (k : Nat) (q : QEntry) (n code child id : Nat) : Device :=
  ((d.setEntry k q).count n).journal code child id

theorem Device.expired_leaves (d : Device) (k : Nat) (q : QEntry) (n code child id : Nat) :
    (d.expired k q n code child id).radio.queue = setAt d.radio.queue k (fun _ => q) ∧
      (d.expired k q n code child id).radio.counters = setAt d.radio.counters n satInc ∧
      (d.secondary = false → (d.expired k q n code child id).jnl.entries.head? =
        some ⟨d.land.tick, code, !d.trusted, child % 2 ^ 32, id % 2 ^ 32⟩) ∧
      (d.expired k q n code child id).conf = d.conf ∧ (d.expired k q n code child id).toll.led = d.toll.led ∧
      (d.expired k q n code child id).sec = d.sec ∧ (d.expired k q n code child id).land = d.land := by
  have booked := Device.journal_booked ((d.setEntry k q).count n) code child id
  refine ⟨congrArg Radio.queue booked.radio, congrArg Radio.counters booked.radio, ?_, Device.journal_conf .., Device.journal_led ..,
    Device.journal_sec .., booked.land⟩
  exact fun primary => Device.journal_head _ _ _ _ primary

section
variable {dt k : Nat} {s : State} {d : Device} (hd : d = (s.dev.elapse dt).woken 1) {q : QEntry}
  (entry : d.radio.queue[k]? = some q)
include hd entry

theorem dlExpired_expires (up : d.up = true) (note : k < 8) (queued : q.state = 1) (complete : q.reserved = false)
    (ended : q.tExpiry ≤ d.land.tick) :
    exec (.dlExpired dt k) s =
      .next { s with dev := d.expired k { q with state := 3, data := [] } 14 0x508 q.child q.id } := by
  simp [exec, execDlExpired, ← hd, Device.queueEntry_eq entry, up, note, queued, complete, ended, Device.expired]

theorem dlExpired_stays (stays : d.up = false ∨ 8 ≤ k ∨ q.state ≠ 1 ∨ q.reserved = true ∨ d.land.tick < q.tExpiry) :
    exec (.dlExpired dt k) s = .next { s with dev := d } := by
  simp only [exec, execDlExpired, ← hd, Device.queueEntry_eq entry]
  rw [if_neg]
  simp only [Bool.and_eq_true, decide_eq_true_eq, beq_iff_eq, Bool.not_eq_true']
  rintro ⟨⟨⟨⟨up, note⟩, queued⟩, complete⟩, ended⟩
  rcases stays with h | h | h | h | h
  · simp [up] at h
  · omega
  · exact h queued
  · simp [complete] at h
  · omega

theorem proxyExpired_ends {r : QEntry} (up : d.up = true) (low : 8 ≤ k) (high : k < 24) (ended : d.proxyOver k q = some r) :
    exec (.proxyExpired dt k) s = .next { s with dev := d.expired k r 16 0x509 q.child q.id } := by
  simp [exec, execProxyExpired, ← hd, Device.queueEntry_eq entry, up, low, high, ended, Device.expired]

theorem proxyExpired_stays (stays : d.up = false ∨ k < 8 ∨ 24 ≤ k ∨ d.proxyOver k q = none) :
    exec (.proxyExpired dt k) s = .next { s with dev := d } := by
  simp only [exec, execProxyExpired, ← hd, Device.queueEntry_eq entry]
  rcases stays with h | h | h | h
  · simp [h]
  · rw [if_neg (by simp; omega)]
  · rw [if_neg (by simp; omega)]
  · rw [h, ite_self]

end

theorem Device.proxyOver_unanswered (d : Device) (k : Nat) {q : QEntry} (queued : q.state = 1) :
    d.proxyOver k q = if q.tExpiry ≤ d.land.tick then some { q with state := 3, data := [] } else none := by
  simp [Device.proxyOver, queued]

theorem Device.proxyOver_answered (d : Device) {k : Nat} {q : QEntry} (low : 8 ≤ k) (done : q.state = 2) :
    d.proxyOver k q = if q.tAnswer + d.phyP.proxyHold * 32768 ≤ d.land.tick then some {} else none := by
  simp [Device.proxyOver, done, low, tps]

theorem Device.proxyOver_other (d : Device) (k : Nat) {q : QEntry} (other : q.state = 0 ∨ 3 ≤ q.state) :
    d.proxyOver k q = none := by
  have unqueued : q.state ≠ 1 := by omega
  have undone : q.state ≠ 2 := by omega
  simp [Device.proxyOver, unqueued, undone]

/-! ## The join channel and the budgets (R345, R362, R366, R428) -/

section
variable {dt : Nat} {s : State} {d : Device}

theorem buttonHoldJoin_opens (hd : d = (s.dev.elapse dt).woken 5) {n : Nat} (hn : n = getU d.radio.cfg 4 2) (up : d.up = true)
    (parent : d.radio.role = 2) (length : 0 < n) (on : d.on .ferryman = true) :
    exec (.buttonHoldJoin dt) s = .next { s with dev := { d with radio := { d.radio with
      joinOpen := true, joinUntil := d.land.tick + n * 32768 } } } := by
  simp [exec, execButtonHoldJoin, ← hd, Device.openJoin, up, parent, ← hn, length, on, tps]

theorem buttonHoldJoin_idle (hd : d = (s.dev.elapse dt).woken 5)
    (idle : d.up = false ∨ d.radio.role ≠ 2 ∨ getU d.radio.cfg 4 2 = 0 ∨ d.on .ferryman = false) :
    exec (.buttonHoldJoin dt) s = .next { s with dev := d } := by
  have idle' : d.up = false ∨ d.openJoin = d := idle.imp id fun closed => if_neg fun ⟨parent, length, on⟩ => by
    rcases closed with h | h | h
    · exact h parent
    · omega
    · simp [on] at h
  simp only [exec, execButtonHoldJoin, ← hd]
  rcases idle' with h | h
  · simp [h]
  · rw [h, ite_self]

variable (hd : d = s.dev.elapse dt)
include hd

theorem joinWindowClose_closes (isOpen : d.radio.joinOpen = true) (ended : d.radio.joinUntil ≤ d.land.tick) :
    exec (.joinWindowClose dt) s = .next { s with dev := { d with radio := { d.radio with joinOpen := false } } } := by
  simp [exec, execJoinWindowClose, ← hd, isOpen, ended]

theorem joinWindowClose_waits (waits : d.radio.joinOpen = false ∨ d.land.tick < d.radio.joinUntil) :
    exec (.joinWindowClose dt) s = .next { s with dev := d } := by
  simp only [exec, execJoinWindowClose, ← hd]
  rw [if_neg]
  simp only [Bool.and_eq_true, decide_eq_true_eq]
  rintro ⟨isOpen, ended⟩
  rcases waits with h | h
  · simp [isOpen] at h
  · omega

theorem txBudgetWindow_starts {n : Nat} (hn : n = (d.land.tick - d.radio.txWindow) / 117964800) (up : d.up = true) (ended : 0 < n) :
    exec (.txBudgetWindow dt) s = .next { s with dev := { d with radio := { d.radio with
      txUs := 0, wmbusUs := 0, budgetExhausted := false, budgetJournalled := false
      txWindow := d.radio.txWindow + n * 117964800 } } } := by
  simp only [exec, execTxBudgetWindow, ← hd, ← hn]
  rw [if_pos (by simp [up, ended])]

theorem txBudgetWindow_runs {n : Nat} (hn : n = (d.land.tick - d.radio.txWindow) / 117964800) (runs : d.up = false ∨ n = 0) :
    exec (.txBudgetWindow dt) s = .next { s with dev := d } := by
  simp only [exec, execTxBudgetWindow, ← hd, ← hn]
  rw [if_neg (by rcases runs with h | h <;> simp [h])]

theorem searchBudgetPeriod_starts {n : Nat} (hn : n = (d.land.tick - d.radio.searchPeriod) / 2831155200) (up : d.up = true)
    (ended : 0 < n) :
    exec (.searchBudgetPeriod dt) s = .next { s with dev := { d with radio := { d.radio with
      searchMs := 0, capJournalled := false, searchPeriod := d.radio.searchPeriod + n * 2831155200 } } } := by
  simp only [exec, execSearchBudgetPeriod, ← hd, tpd, ← hn]
  rw [if_pos (by simp [up, ended])]

theorem searchBudgetPeriod_runs {n : Nat} (hn : n = (d.land.tick - d.radio.searchPeriod) / 2831155200)
    (runs : d.up = false ∨ n = 0) : exec (.searchBudgetPeriod dt) s = .next { s with dev := d } := by
  simp only [exec, execSearchBudgetPeriod, ← hd, tpd, ← hn]
  rw [if_neg (by rcases runs with h | h <;> simp [h])]

end

/-! ## Telegrams (R375) -/

/-- The telegram's slot is planned anew, and nothing else of the radio changes. -/
theorem Device.wmNext_leaves (d : Device) :
    d.wmNext.Planned d ∧ d.wmNext.radio = { d.radio with
      wmbusCount := d.radio.wmbusCount + 1, wmbusNext := d.radio.wmbusNext + d.wmInterval } :=
  ⟨(Device.arm_planned ..).trans (d.withRadio_planned _), Device.arm_radio ..⟩

/-- A telegram on a free air within its budget: formed, kept and booked, and the next one planned (R344, R345, R375). -/
theorem Device.wmSend_sends (d : Device) (key : Bytes) {b : Bytes} (hb : b = d.wmTelegram key d.radio.accessNo)
    (free : d.wmFree (wmAirUs d.radio.wmbus b.length) = true)
    (budget : d.radio.wmbusUs + wmAirUs d.radio.wmbus b.length ≤ 3600000) :
    (d.wmSend key).Planned d ∧ (d.wmSend key).radio = { d.radio with
      accessNo := (d.radio.accessNo + 1) % 256, lastTelegram := b, counters := setAt d.radio.counters 17 satInc
      wmbusUs := d.radio.wmbusUs + wmAirUs d.radio.wmbus b.length
      wmbusCount := d.radio.wmbusCount + 1, wmbusNext := d.radio.wmbusNext + d.wmInterval } := by
  have within : ¬ 3600000 < d.radio.wmbusUs + wmAirUs d.radio.wmbus b.length := by omega
  unfold Device.wmSend
  simp only [← hb, free, Bool.not_true, Bool.false_eq_true, if_false, within]
  obtain ⟨planned, radio⟩ := Device.wmNext_leaves (Device.count { d with radio := { d.radio with
    accessNo := wrapU 8 (d.radio.accessNo + 1), lastTelegram := b
    wmbusUs := d.radio.wmbusUs + wmAirUs d.radio.wmbus b.length } } 17)
  exact ⟨planned.trans (d.withRadio_planned _), radio⟩

section
variable {dt : Nat} {s : State} {d : Device} (hd : d = (s.dev.elapse dt).woken 1)
include hd

theorem wmbusTelegram_sends (up : d.up = true) (on : d.on .wmbus = true) (fired : d.fired 9 = true) {key : Bytes}
    (keyed : d.sec.keys.wmbus = some key) (configured : d.radio.cfg ≠ []) :
    exec (.wmbusTelegram dt) s = .next { s with dev := (d.loadShadow 1).wmSend key } := by
  simp [exec, execWmbusTelegram, ← hd, up, on, fired, keyed, configured]

theorem wmbusTelegram_skips (up : d.up = true) (fired : d.fired 9 = true) (none : d.on .wmbus = false ∨ d.sec.keys.wmbus = none) :
    exec (.wmbusTelegram dt) s = .next { s with dev := d.wmNext } := by
  simp only [exec, execWmbusTelegram, ← hd, up, fired, Bool.and_self, if_true]
  rcases none with h | h
  · simp [h]
  · simp [h]

theorem wmbusTelegram_waits (waits : d.up = false ∨ d.fired 9 = false) :
    exec (.wmbusTelegram dt) s = .next { s with dev := d } := by
  simp only [exec, execWmbusTelegram, ← hd]
  rw [if_neg (by rcases waits with h | h <;> simp [h])]

end

end Sys2Proof.Machine

namespace Sys2Proof
open Machine

/-- Settles O58: an entry, a window, a period or a slot that is due has its one effect, and one that is not has none. -/
theorem queueBudgetsAndTelegrams : Obligations.QueueBudgetsAndTelegrams := by
  refine ⟨fun dt s d hd => ⟨fun k q entry => ⟨fun up note queued complete ended => ?_, dlExpired_stays hd entry,
      fun up low high r ended => ?_, fun stays => proxyExpired_stays hd entry ?_⟩,
      fun up on fired => ⟨fun key b keyed configured hb free budget => ?_, fun unkeyed => ?_⟩, fun up off fired => ?_,
      wmbusTelegram_waits hd⟩,
    fun dt s d hd n hn => ⟨fun up parent length on => ⟨_, rfl, buttonHoldJoin_opens hd hn up parent length on⟩,
      fun idle => buttonHoldJoin_idle hd (hn ▸ idle)⟩,
    fun dt s d hd => ⟨joinWindowClose_closes hd, joinWindowClose_waits hd,
      fun n hn => ⟨txBudgetWindow_starts hd hn, txBudgetWindow_runs hd hn⟩,
      fun n hn => ⟨searchBudgetPeriod_starts hd hn, searchBudgetPeriod_runs hd hn⟩⟩⟩
  · exact ⟨_, dlExpired_expires hd entry up note queued complete ended, d.expired_leaves ..⟩
  · have ends : d.proxyOver k q = some r := by
      rcases ended with ⟨queued, ended, rfl⟩ | ⟨done, ended, rfl⟩
      · rw [d.proxyOver_unanswered k queued, if_pos ended]
      · rw [d.proxyOver_answered low done, if_pos ended]
    obtain ⟨queue, counters, -, rest⟩ := d.expired_leaves k r 16 0x509 q.child q.id
    exact ⟨_, proxyExpired_ends hd entry up low high ends, queue, counters, rest⟩
  · by_cases low : k < 8
    · exact .inr (.inl low)
    rcases stays with h | h | h | h | ⟨queued, early⟩ | ⟨done, early⟩ | h
    · exact .inl h
    · exact .inr (.inl h)
    · exact .inr (.inr (.inl h))
    · exact .inr (.inr (.inr (d.proxyOver_other k (.inl h))))
    · exact .inr (.inr (.inr ((d.proxyOver_unanswered k queued).trans (if_neg (by omega)))))
    · exact .inr (.inr (.inr ((d.proxyOver_answered (by omega) done).trans (if_neg (by omega)))))
    · exact .inr (.inr (.inr (d.proxyOver_other k (.inr h))))
  · obtain ⟨planned, radio⟩ := Device.wmSend_sends (d.loadShadow 1) key hb free budget
    refine ⟨_, wmbusTelegram_sends hd up on fired keyed configured, ?_⟩
    rw [radio]
    exact ⟨rfl, rfl, rfl, rfl, rfl, rfl, planned.1.trans (by rw [radio]; rfl), planned.tick⟩
  · obtain ⟨planned, radio⟩ := d.wmNext_leaves
    refine ⟨_, wmbusTelegram_skips hd up fired (.inr unkeyed), ?_⟩
    exact ⟨by rw [radio], by rw [radio], by rw [radio], by rw [radio], planned.1, planned.tick⟩
  · obtain ⟨planned, radio⟩ := d.wmNext_leaves
    refine ⟨_, wmbusTelegram_skips hd up fired (.inl off), ?_⟩
    exact ⟨by rw [radio], by rw [radio], by rw [radio], by rw [radio], planned.1, planned.tick⟩

end Sys2Proof

/-! SUPPORT. A parent's windows: opened, skipped, missed, searched for, and the entry of a silent child (R345, R365 to R368). -/

namespace Sys2Proof.Machine

/-! ## The alarm of the windows, and one child's entry -/

theorem Device.armWindows_planned (s : Device) : s.armWindows.Planned s := by
  unfold Device.armWindows
  dsimp only
  split
  · split
    · exact s.disarm_planned 7
    · exact .refl s
  · exact s.arm_planned ..

@[simp] theorem Device.armWindows_radio (s : Device) : s.armWindows.radio = s.radio := by
  unfold Device.armWindows
  dsimp only
  split
  · split <;> simp
  · simp

theorem Device.Planned.jnl {t s : Device} (h : t.Planned s) : t.jnl = s.jnl := by rw [h.1]

theorem Device.Planned.sec {t s : Device} (h : t.Planned s) : t.sec = s.sec := by rw [h.1]

theorem Device.Planned.armed {t s : Device} (h : t.Planned s) : t.armWindows.Planned s := t.armWindows_planned.trans h

theorem Device.setChild_planned (s : Device) (i : Nat) (f : Child → Child) : (s.setChild i f).Planned s := ⟨rfl, rfl⟩

theorem Device.setChild_at {d : Device} {i : Nat} {c : Child} (f : Child → Child) (entry : d.radio.child i = some c)
    (keeps : ∀ x, (f x).idx = x.idx) : (d.setChild i f).radio.child i = some (f c) :=
  Radio.child_setChild f entry fun x h => (keeps x).trans h

theorem Device.setChild_other (d : Device) {i j : Nat} (f : Child → Child) (keeps : ∀ x, (f x).idx = x.idx) (other : j ≠ i) :
    (d.setChild i f).radio.child j = d.radio.child j :=
  d.child_setChild_ne i j f (fun x h => (keeps x).trans h) other

/-- The entry of a child whose window opens. -/
def Child.opened (c : Child) : Child := { c with windowOpen := true, skippedLast := false }

/-- The entry of a child whose window passes unopened. -/
def Child.passed (c : Child) : Child := { c.fallback with skippedLast := true }

/-- Of the neighbour table of `s`, `t` has changed entry i to `b`, and no other. -/
def Device.Entry (t s : Device) (i : Nat) (b : Child) : Prop :=
  t.radio.child i = some b ∧ ∀ j, j ≠ i → t.radio.child j = s.radio.child j

theorem Device.Entry.of_children {t u s : Device} {i : Nat} {b : Child} (h : t.Entry s i b)
    (same : u.radio.children = t.radio.children) : u.Entry s i b := by
  unfold Device.Entry Radio.child at *
  rw [same]
  exact h

theorem Device.setChild_entry {d s : Device} {i : Nat} {c : Child} (f : Child → Child) (entry : d.radio.child i = some c)
    (keeps : ∀ x, (f x).idx = x.idx) (same : d.radio.children = s.radio.children) : (d.setChild i f).Entry s i (f c) := by
  refine ⟨Device.setChild_at f entry keeps, fun j other => (d.setChild_other f keeps other).trans ?_⟩
  unfold Radio.child
  rw [same]

/-! ## A window opens, or does not (R345, R365, R367) -/

/-- No other channel has an open window (R367). -/
def Device.OneChannel (d : Device) (c : Child) : Prop :=
  ∀ x ∈ d.radio.children, x.windowOpen = true → d.radioP.chanAt x.nextCh = d.radioP.chanAt c.nextCh

theorem Device.windowBlocked_free {d : Device} {c : Child} (idle : d.radio.exch = none) (one : d.OneChannel c) :
    d.windowBlocked c = false := by
  simpa [Device.windowBlocked, idle, Device.OneChannel] using one

theorem Device.windowBlocked_busy {d : Device} {c : Child} (busy : d.radio.exch.isSome = true ∨
    ∃ x ∈ d.radio.children, x.windowOpen = true ∧ d.radioP.chanAt x.nextCh ≠ d.radioP.chanAt c.nextCh) :
    d.windowBlocked c = true := by
  simpa [Device.windowBlocked] using busy

theorem Device.fits_free {d : Device} (us : Nat) (unlimited : d.radioP.budgetUs = none) : d.fits us = true := by
  simp [Device.fits, unlimited]

theorem Device.openWindow_opens {d : Device} {c : Child} (free : d.windowBlocked c = false)
    (soon : (d.land.tick : Int) ≤ (d.windowOf c).2) (unlimited : d.radioP.budgetUs = none) :
    d.openWindow c = d.setChild c.idx Child.opened := by
  have early : ¬ (d.windowOf c).2 < (d.land.tick : Int) := by omega
  simp [Device.openWindow, free, early, d.fits_free _ unlimited]
  rfl

theorem Device.openWindow_skips {d : Device} {c : Child} (blocked : d.windowBlocked c = true) :
    d.openWindow c = d.skipWindow c.idx := by
  simp [Device.openWindow, blocked]

theorem Device.skipWindow_planned (d : Device) (i : Nat) : (d.skipWindow i).Planned d := ⟨rfl, rfl⟩

theorem Device.skipWindow_entry {d : Device} {i : Nat} {c : Child} (entry : d.radio.child i = some c) :
    (d.skipWindow i).Entry d i c.passed :=
  Device.setChild_entry (d := d.count 9) _ entry (fun _ => rfl) rfl

theorem Device.windowDue_of {d : Device} {c : Child} (closed : c.windowOpen = false)
    (due : (d.windowOf c).1 ≤ (d.land.tick : Int)) : d.windowDue c = true := by
  simp [Device.windowDue, closed, due]

theorem Device.unmade_passes {d : Device} {c : Child} (up : d.up = true) (off : d.on .ferryman = false)
    (parent : d.radio.role = 2) (due : d.windowDue c = true) : d.unmade c = (d.passWindow c.idx).armWindows := by
  simp [Device.unmade, up, off, parent, due]

theorem Device.unmade_stays {d : Device} {c : Child} (stays : d.up = false ∨ d.on .ferryman = true ∨ d.radio.role ≠ 2 ∨
    d.windowDue c = false) : d.unmade c = d := by
  refine if_neg ?_
  rcases stays with h | h | h | h <;> simp [h]

section
variable {dt k : Nat} {s : State} {d : Device} {c : Child}

theorem Device.childOf_eq (short : k ≠ 0) (entry : d.radio.child (k - 1) = some c) : d.childOf k = some c := by
  simp [Device.childOf, short, entry]

variable (hd : d = (s.dev.elapse dt).woken 1) (short : k ≠ 0) (entry : d.radio.child (k - 1) = some c)
include hd short entry

theorem parentWindowOpen_due (parents : d.parenting = true) (found : c.search = false) (due : d.windowDue c = true) :
    exec (.parentWindowOpen dt k) s = .next { s with dev := (d.openWindow c).armWindows } := by
  simp [exec, execParentWindowOpen, ← hd, Device.childOf_eq short entry, parents, found, due]

theorem searchWindow_due (parents : d.parenting = true) (lost : c.search = true) (due : d.windowDue c = true) :
    exec (.searchWindow dt k) s = .next { s with dev := (d.openSearch c).armWindows } := by
  simp [exec, execSearchWindow, ← hd, Device.childOf_eq short entry, parents, lost, due]

/-- A window command that does not act on a parent's due window leaves what `unmade` leaves. -/
theorem window_unmade {x : Instr} {other : Bool}
    (command : (x, other) ∈ [(Instr.parentWindowOpen dt k, c.search), (.searchWindow dt k, !c.search)])
    (idle : (d.parenting && !other && d.windowDue c) = false) : exec x s = .next { s with dev := d.unmade c } := by
  simp only [List.mem_cons, Prod.mk.injEq, List.not_mem_nil, or_false] at command
  rcases command with ⟨rfl, rfl⟩ | ⟨rfl, rfl⟩
  · simp [exec, execParentWindowOpen, ← hd, Device.childOf_eq short entry, idle]
  · rw [Bool.not_not] at idle
    simp [exec, execSearchWindow, ← hd, Device.childOf_eq short entry, idle]

end

/-! ## Search windows (R366) -/

/-- A search window within the day's budget opens, adds its length and is counted. -/
theorem Device.openSearch_opens {d : Device} {i : Nat} {c : Child} (entry : d.radio.child i = some c)
    (free : d.windowBlocked c = false) (soon : (d.land.tick : Int) ≤ (d.windowOf c).2) (unlimited : d.radioP.budgetUs = none)
    (budget : d.radio.searchMs + d.searchLen c ≤ d.phyP.searchCap * 1000) :
    d.openSearch c = Device.count { d.openWindow c with radio := { (d.openWindow c).radio with
      searchMs := d.radio.searchMs + d.searchLen c } } 10 := by
  have place := Radio.child_idx entry
  have opened : ((d.openWindow c).childOf (c.idx + 1)).any (·.windowOpen) = true := by
    rw [Device.openWindow_opens free soon unlimited, place]
    simp only [Device.childOf, Nat.add_one_ne_zero, if_false, Nat.add_sub_cancel]
    rw [Device.setChild_at Child.opened entry fun _ => rfl]
    rfl
  have searched : (d.openWindow c).radio.searchMs = d.radio.searchMs := by
    rw [Device.openWindow_opens free soon unlimited]
    rfl
  have within : ¬ d.phyP.searchCap * 1000 < d.radio.searchMs + d.searchLen c := by omega
  unfold Device.openSearch
  simp only [free, Bool.false_eq_true, if_false, within, opened, if_true, searched]

theorem Device.openSearch_capped {d : Device} {c : Child} (free : d.windowBlocked c = false)
    (budget : d.phyP.searchCap * 1000 < d.radio.searchMs + d.searchLen c) :
    (d.openSearch c).radio = { (d.skipWindow c.idx).radio with capJournalled := true } ∧ (d.openSearch c).sec = d.sec := by
  unfold Device.openSearch
  simp only [free, Bool.false_eq_true, if_false, budget, if_true]
  split
  next noted => exact ⟨by rw [← noted], rfl⟩
  next => exact ⟨Device.journal_radio .., Device.journal_sec ..⟩

/-! ## Misses (R365, R366) -/

/-- The entry of a child whose window closed without a frame; the third miss in a row begins its search. -/
def Child.missed (c : Child) : Child :=
  let n := min (c.missRun + 1) 15
  let x := { c.fallback with missRun := n, searchLevel := if c.search then min (c.searchLevel + 1) 15 else c.searchLevel }
  if !c.search && decide (3 ≤ n) then { x with search := true, driftValid := false, d := 0, searchLevel := 1 } else x

theorem Device.missWindow_leaves {d : Device} {i : Nat} {c : Child} (entry : d.radio.child i = some c) :
    (d.missWindow c).Entry d i c.missed ∧ (d.missWindow c).radio.counters = setAt d.radio.counters 8 satInc ∧
      (d.missWindow c).sec = d.sec := by
  obtain rfl := Radio.child_idx entry
  unfold Device.missWindow Child.missed
  extract_lets n s1
  have missed : s1.Entry d c.idx _ := Device.setChild_entry (d := d.count 8) _ entry (fun _ => rfl) rfl
  split
  · have searched := Device.setChild_entry (d := s1) (s := s1)
      (fun c => { c with search := true, driftValid := false, d := 0, searchLevel := 1 }) missed.1 (fun _ => rfl) rfl
    refine ⟨Device.Entry.of_children ⟨searched.1, fun j other => (searched.2 j other).trans (missed.2 j other)⟩ ?_,
      ?_, Device.journal_sec ..⟩
    · exact congrArg Radio.children (Device.journal_radio ..)
    · exact congrArg Radio.counters (Device.journal_radio ..)
  · exact ⟨missed, rfl, rfl⟩

theorem Child.missed_fields (c : Child) : c.missed.windowOpen = false ∧ c.missed.missRun = min (c.missRun + 1) 15 ∧
    c.missed.tExp = expectAt c.tExp (c.contactEvery * 32768) c.d := by
  unfold Child.missed
  dsimp only
  split <;> exact ⟨rfl, rfl, rfl⟩

theorem Child.missed_third {c : Child} (found : c.search = false) (run : 2 ≤ c.missRun) :
    c.missed.search = true ∧ c.missed.searchLevel = 1 ∧ c.missed.driftValid = false ∧ c.missed.d = 0 := by
  have third : (!c.search && decide (3 ≤ min (c.missRun + 1) 15)) = true := by
    rw [found]
    simp only [Bool.not_false, Bool.true_and, decide_eq_true_eq]
    omega
  unfold Child.missed
  dsimp only
  rw [if_pos third]
  exact ⟨rfl, rfl, rfl, rfl⟩

theorem Child.missed_early {c : Child} (found : c.search = false) (run : c.missRun < 2) :
    c.missed.search = false ∧ c.missed.d = c.d := by
  have early : ¬ (!c.search && decide (3 ≤ min (c.missRun + 1) 15)) = true := by
    simp only [Bool.and_eq_true, decide_eq_true_eq]
    omega
  unfold Child.missed
  dsimp only
  rw [if_neg early]
  exact ⟨found, rfl⟩

theorem Child.missed_searching {c : Child} (lost : c.search = true) :
    c.missed.search = true ∧ c.missed.searchLevel = min (c.searchLevel + 1) 15 := by
  simp [Child.missed, lost, Child.fallback]

/-! ## Eviction (R368) -/

/-- The neighbour table and the digests without entry i. -/
def Radio.freed (r : Radio) (i : Nat) : Radio :=
  { r with children := r.children.filter (·.idx != i), digests := r.digests.filter (·.child != i + 1) }

theorem Radio.freed_child (r : Radio) (i : Nat) : (r.freed i).child i = none := by
  simp [Radio.child, Radio.freed, List.find?_filter]

theorem Radio.freed_child_other (r : Radio) {i j : Nat} (other : j ≠ i) : (r.freed i).child j = r.child j := by
  have agree : (fun x : Child => decide ((x.idx != i) = true ∧ (x.idx == j) = true)) = (·.idx == j) := by
    funext x
    by_cases h : x.idx = j <;> simp [h, other]
  exact List.find?_filter.trans (congrArg (List.find? · r.children) agree)

/-- The device without the entry of child c, before its event. -/
def Device.freed (d : Device) (c : Child) : Device := { d.count 12 with radio := (d.count 12).radio.freed c.idx }

theorem Device.evict_eq (d : Device) (c : Child) : d.evict c = (d.freed c).journal 0x506 (c.idx + 1) c.eui := rfl

theorem Device.evict_leaves {d : Device} {k : Nat} {c : Child} (short : k ≠ 0) (entry : d.radio.child (k - 1) = some c) :
    (d.evict c).radio.child (k - 1) = none ∧ (∀ j, j ≠ k - 1 → (d.evict c).radio.child j = d.radio.child j) ∧
      (d.evict c).radio.digests.find? (·.child == k) = none ∧
      (d.evict c).radio.counters = setAt d.radio.counters 12 satInc ∧ (d.evict c).sec = d.sec ∧
      (d.secondary = false → (d.evict c).jnl.entries.head? =
        some ⟨d.land.tick, 0x506, !d.trusted, k % 2 ^ 32, c.eui % 2 ^ 32⟩) := by
  have place : c.idx = k - 1 := Radio.child_idx entry
  have address : c.idx + 1 = k := by omega
  rw [Device.evict_eq, Device.journal_radio, Device.journal_sec, ← place, address]
  refine ⟨Radio.freed_child .., fun j other => Radio.freed_child_other _ other, ?_, rfl, rfl, fun primary => ?_⟩
  · simp [Device.freed, Radio.freed, address, List.find?_filter]
  · exact (d.freed c).journal_head _ _ _ primary

section
variable {dt k : Nat} {s : State} {d : Device} {c : Child} (hd : d = s.dev.elapse dt) (short : k ≠ 0)
  (entry : d.radio.child (k - 1) = some c)
include hd short entry

theorem windowMiss_misses (parents : d.parenting = true) (opened : c.windowOpen = true)
    (ended : (d.windowOf c).2 ≤ (d.land.tick : Int)) (heard : c.listenTo.getD 0 ≤ d.land.tick) :
    exec (.windowMiss dt k) s = .next { s with dev := (d.missWindow c).armWindows } := by
  simp [exec, execWindowMiss, ← hd, Device.childOf_eq short entry, parents, opened, Device.windowOver, ended, heard]

theorem windowMiss_waits (waits : d.parenting = false ∨ c.windowOpen = false ∨ (d.land.tick : Int) < (d.windowOf c).2 ∨
    d.land.tick < c.listenTo.getD 0) : exec (.windowMiss dt k) s = .next { s with dev := d } := by
  simp only [exec, execWindowMiss, ← hd, Device.childOf_eq short entry]
  rw [if_neg]
  simp only [Device.windowOver, Bool.and_eq_true, decide_eq_true_eq]
  rintro ⟨⟨parents, opened⟩, ended, heard⟩
  rcases waits with h | h | h | h
  · simp [parents] at h
  · simp [opened] at h
  · omega
  · omega

theorem childEvicted_evicts (parents : d.parenting = true) (lost : c.search = true)
    (silent : c.lastFrame + d.phyP.evictDays * 2831155200 ≤ d.land.tick) :
    exec (.childEvicted dt k) s = .next { s with dev := (d.evict c).armWindows } := by
  simp [exec, execChildEvicted, ← hd, Device.childOf_eq short entry, parents, lost, tpd, silent]

theorem childEvicted_stays (stays : d.parenting = false ∨ c.search = false ∨
    d.land.tick < c.lastFrame + d.phyP.evictDays * 2831155200) :
    exec (.childEvicted dt k) s = .next { s with dev := d } := by
  simp only [exec, execChildEvicted, ← hd, Device.childOf_eq short entry]
  rw [if_neg]
  simp only [Bool.and_eq_true, decide_eq_true_eq]
  rintro ⟨⟨parents, lost⟩, silent⟩
  unfold tpd at silent
  rcases stays with h | h | h
  · simp [parents] at h
  · simp [lost] at h
  · omega

end

end Sys2Proof.Machine

namespace Sys2Proof
open Machine

/-- Settles O57: each command of the windows writes one entry of the neighbour table, and arms the alarm of the next. -/
theorem parentWindowsOpenMissAndSearch : Obligations.ParentWindowsOpenMissAndSearch := by
  refine ⟨fun dt k s d c hd short entry => ⟨?_, ?_, ?_⟩, fun dt k s d c hd short entry => ⟨?_, windowMiss_waits hd short entry, ?_,
    childEvicted_stays hd short entry⟩⟩
  · rintro ⟨parents, found, closed, due⟩
    have place := Radio.child_idx entry
    have opens := parentWindowOpen_due hd short entry parents found (Device.windowDue_of closed due)
    refine ⟨fun idle one soon unlimited => ?_, fun busy => ?_⟩
    · rw [Device.openWindow_opens (Device.windowBlocked_free idle one) soon unlimited, place] at opens
      refine ⟨_, opens, ?_, fun j other => ?_, ?_, (d.setChild_planned _ _).armed.1, (d.setChild_planned _ _).armed.2⟩
      · rw [Device.armWindows_radio]
        exact Device.setChild_at _ entry fun _ => rfl
      · rw [Device.armWindows_radio]
        exact d.setChild_other _ (fun _ => rfl) other
      · rw [Device.armWindows_radio]
        rfl
    · rw [Device.openWindow_skips (Device.windowBlocked_busy busy), place] at opens
      obtain ⟨at_, others⟩ := Device.skipWindow_entry entry
      refine ⟨_, c.passed, opens, ?_, rfl, rfl, rfl, rfl, ?_, fun j other => ?_,
        (d.skipWindow_planned _).armed.1, (d.skipWindow_planned _).armed.2⟩
      · rw [Device.armWindows_radio, at_]
      · rw [Device.armWindows_radio]
        rfl
      · rw [Device.armWindows_radio, others j other]
  · rintro ⟨parents, lost, closed, due⟩ idle one soon unlimited
    have place := Radio.child_idx entry
    have free := Device.windowBlocked_free idle one
    have searches := searchWindow_due hd short entry parents lost (Device.windowDue_of closed due)
    refine ⟨fun budget => ?_, fun budget => ?_⟩
    · rw [Device.openSearch_opens entry free soon unlimited budget, Device.openWindow_opens free soon unlimited, place] at searches
      refine ⟨_, searches, ?_, ?_, ?_, Device.Planned.armed (d.withRadio_planned _) |>.1⟩
      · rw [Device.armWindows_radio]
        exact Device.setChild_at _ entry fun _ => rfl
      · rw [Device.armWindows_radio]
        rfl
      · rw [Device.armWindows_radio]
        rfl
    · obtain ⟨radio, sec⟩ := Device.openSearch_capped free budget
      have planned := (d.openSearch c).armWindows_planned
      obtain ⟨conf, led, -, -, -, -, -, tick, -⟩ := (Device.armWindows_calm _).trans (d.openSearch_calm c)
      refine ⟨_, searches, ?_, ?_, ?_, conf, led, planned.sec.trans sec, tick⟩ <;> rw [Device.armWindows_radio, radio] <;> rfl
  · intro x other command
    refine ⟨fun up off parent closed due => ?_, fun stays => ?_⟩
    · have idle : (d.parenting && !other && d.windowDue c) = false := by simp [Device.parenting, off]
      have made := window_unmade hd short entry command idle
      rw [Device.unmade_passes up off parent (Device.windowDue_of closed due), Radio.child_idx entry] at made
      refine ⟨_, made, ?_, fun j other => ?_, ?_, (d.setChild_planned _ _).armed.1, (d.setChild_planned _ _).armed.2⟩
      · rw [Device.armWindows_radio]
        exact Device.setChild_at _ entry fun _ => rfl
      · rw [Device.armWindows_radio]
        exact d.setChild_other _ (fun _ => rfl) other
      · rw [Device.armWindows_radio]
        rfl
    · have same : d.windowDue c = false ∨ (d.up = false ∨ d.radio.role ≠ 2) ∨ (d.on .ferryman = true ∧ other = true) := by
        rcases stays with h | h | h | h | h
        · exact .inr (.inl (.inl h))
        · exact .inr (.inl (.inr h))
        · exact .inl (by simp [Device.windowDue, h])
        · exact .inl (by simp [Device.windowDue]; omega)
        · exact .inr (.inr h)
      rw [window_unmade hd short entry command, Device.unmade_stays]
      · rcases same with h | (h | h) | h
        · exact .inr (.inr (.inr h))
        · exact .inl h
        · exact .inr (.inr (.inl h))
        · exact .inr (.inl h.1)
      · rcases same with h | (h | h) | h <;> simp [Device.parenting, h]
  · intro parents opened ended heard
    obtain ⟨⟨at_, others⟩, counters, sec⟩ := Device.missWindow_leaves entry
    obtain ⟨closed, run, expects⟩ := c.missed_fields
    obtain ⟨conf, led, -, -, -, -, -, tick, -⟩ := (Device.armWindows_calm _).trans (d.missWindow_calm c)
    refine ⟨_, c.missed, windowMiss_misses hd short entry parents opened ended heard, ?_, closed, run, expects, Child.missed_third,
      Child.missed_early, Child.missed_searching, ?_, fun j other => ?_, conf, led, (Device.armWindows_planned _).sec.trans sec, tick⟩
    · rw [Device.armWindows_radio, at_]
    · rw [Device.armWindows_radio, counters]
    · rw [Device.armWindows_radio, others j other]
  · intro parents lost silent
    obtain ⟨freed, others, digests, counters, sec, event⟩ := Device.evict_leaves short entry
    have planned := (d.evict c).armWindows_planned
    obtain ⟨conf, led, -, -, -, -, -, tick, -⟩ := (Device.armWindows_calm _).trans (d.evict_calm c)
    refine ⟨_, childEvicted_evicts hd short entry parents lost silent, ?_, fun j other => ?_, ?_, ?_, fun primary => ?_, conf, led,
      planned.sec.trans sec, tick⟩
    · rw [Device.armWindows_radio, freed]
    · rw [Device.armWindows_radio, others j other]
    · rw [Device.armWindows_radio, digests]
    · rw [Device.armWindows_radio, counters]
    · rw [planned.jnl, event primary]

end Sys2Proof

/-! SUPPORT. A frame that goes out, and the exchange it belongs to (R345, R351, R352, R359). -/

namespace Sys2Proof.Machine

/-! ## What a transmission depends on -/

theorem Device.phyP_congr {t s : Device} (conf : t.conf = s.conf) : t.phyP = s.phyP := by
  rw [Device.phyP, Device.phyP, conf]

theorem Device.netKey_congr {t s : Device} (keys : t.sec.keys = s.sec.keys) (role : t.radio.role = s.radio.role) (up : Bool) (k : Nat) :
    t.netKey up k = s.netKey up k := by
  rw [Device.netKey, Device.netKey, keys, role]

theorem MaySend.congr {t s : Device} (may : MaySend s) (conf : t.conf = s.conf) (fcnt : t.radio.fcntTx = s.radio.fcntTx) :
    MaySend t := by
  obtain ⟨budget, counter⟩ := may
  refine ⟨?_, fcnt ▸ counter⟩
  rw [Device.radioP, conf]
  exact budget

/-! ## The frame (R345, R351) -/

/-- The radio once frame `b` is on the air on channel `ch`, in `us` microseconds and under the next counter. -/
def Radio.transmitted (r : Radio) (us ch : Nat) (b : Bytes) (stopped : Bool) : Radio :=
  { r with
    fcntTx := r.fcntTx + 1, fcntBlock := r.takeFcnt.2.fcntBlock, txUs := r.txUs + us, out := r.out ++ [b]
    outCh := r.outCh ++ [ch], counters := setAt r.counters 0 satInc, fcntStopped := stopped }

theorem Device.fcntCheck_radio (s : Device) : ∃ stopped, s.fcntCheck.radio = { s.radio with fcntStopped := stopped } := by
  unfold Device.fcntCheck
  split
  · exact ⟨true, Device.journal_radio ..⟩
  · exact ⟨s.radio.fcntStopped, rfl⟩

theorem Device.fcntOut_of_may {s : Device} (may : MaySend s) : s.fcntOut = false := by
  have counter := may.2
  simp only [Device.fcntOut, decide_eq_false_iff_not]
  omega

/-- With a key, no budget and a counter left a frame goes out. -/
theorem Device.sendAir_sends {s : Device} {up : Bool} (ch : Nat) {h : AirHeader} (payload : Bytes) {key : Bytes}
    (keyed : s.netKey up h.keyId = some key) (may : MaySend s) :
    (s.sendAir up ch h payload).1 = true ∧
      ∃ us b stopped, (s.sendAir up ch h payload).2.radio = s.radio.transmitted us ch b stopped := by
  unfold Device.sendAir
  rw [keyed]
  simp only [s.fcntOut_of_may may, Bool.false_eq_true, if_false, s.fits_free _ may.1, Bool.not_true]
  refine ⟨trivial, ?_⟩
  obtain ⟨stopped, checked⟩ := Device.fcntCheck_radio (Device.onAir { s with radio := s.radio.takeFcnt.2 } ch
    (airFrame key (s.sec.devEui.getD 0) h s.radio.fcntTx payload))
  exact ⟨_, _, stopped, checked⟩

/-! ## The exchange (R352, R359) -/

theorem Device.headerTo_keyId (s : Device) (e : Exchange) (x : Sent) (pending : Bool) : (s.headerTo e x pending).keyId = e.key := by
  unfold Device.headerTo
  split <;> rfl

/-- The exchange once a frame of this device is out in it. -/
def Exchange.advanced (e : Exchange) (x : Sent) (fcnt : Nat) (b : Bytes) (pending : Bool) : Exchange :=
  { e with frames := e.frames + 1, sent := x, sentFcnt := fcnt, bytes := b, myPending := pending }

section
variable {s : Device} {e : Exchange} (x : Sent) (payload : Bytes) (more : Bool) (exch : s.radio.exch = some e) {key : Bytes}
  (keyed : s.netKey (decide (e.peer = .up)) e.key = some key) (may : MaySend s)
include exch keyed may

/-- A frame that another may follow leaves the exchange open. -/
theorem Device.sendIn_sends (room : e.frames + 1 < s.phyP.exchMax) :
    ∃ us ch b stopped pending, (s.sendIn x payload more).radio = { s.radio.transmitted us ch b stopped with
      exch := some (e.advanced x s.radio.fcntTx b pending) } := by
  have fits : ¬ s.phyP.exchMax < e.frames + 1 := by omega
  have follows : s.mayPend (e.frames + 1) = true := decide_eq_true room
  unfold Device.sendIn
  simp only [exch]
  generalize (more && s.mayPend (e.frames + 1)) = pending
  obtain ⟨made, us, b, stopped, radio⟩ := Device.sendAir_sends (up := decide (e.peer = .up)) (s.frameChan e e.frames)
    (h := s.headerTo e x pending) payload (by rw [s.headerTo_keyId, keyed]) may
  generalize s.sendAir (decide (e.peer = .up)) (s.frameChan e e.frames) (s.headerTo e x pending) payload = r at made radio ⊢
  refine ⟨us, s.frameChan e e.frames, b, stopped, pending, ?_⟩
  rw [if_neg fits, made, follows]
  simp [Device.setExch, radio, Radio.transmitted, Exchange.advanced]

/-- The last frame that the exchange holds ends it. -/
theorem Device.sendIn_ends (full : e.frames + 1 = s.phyP.exchMax) :
    ∃ us ch b stopped pending, (s.sendIn x payload more).radio = Radio.endExch { s.radio.transmitted us ch b stopped with
      exch := some (e.advanced x s.radio.fcntTx b pending) } := by
  have fits : ¬ s.phyP.exchMax < e.frames + 1 := by omega
  have shut : s.mayPend (e.frames + 1) = false := decide_eq_false (by omega)
  unfold Device.sendIn
  simp only [exch]
  generalize (more && s.mayPend (e.frames + 1)) = pending
  obtain ⟨made, us, b, stopped, radio⟩ := Device.sendAir_sends (up := decide (e.peer = .up)) (s.frameChan e e.frames)
    (h := s.headerTo e x pending) payload (by rw [s.headerTo_keyId, keyed]) may
  generalize s.sendAir (decide (e.peer = .up)) (s.frameChan e e.frames) (s.headerTo e x pending) payload = r at made radio ⊢
  refine ⟨us, s.frameChan e e.frames, b, stopped, pending, ?_⟩
  rw [if_neg fits, made, shut]
  simp [Device.setExch, Device.endExchange, radio, Radio.transmitted, Exchange.advanced]

end

/-! ## The end of an exchange (R359) -/

theorem Radio.cutShort_frame (r : Radio) (e : Exchange) : r.cutShort e = { r with queue := (r.cutShort e).queue } := by
  unfold Radio.cutShort
  split <;> rfl

theorem Radio.dropReasm_frame (r : Radio) : r.dropReasm = { r with queue := r.dropReasm.queue, reasm := none } := by
  unfold Radio.dropReasm
  split
  · rfl
  · next idle => rw [← idle]

/-- What the end of an exchange may write of the radio. -/
theorem Radio.endExch_frame (r : Radio) : ∃ queue digests reasm est tamper, r.endExch = { r with
    exch := none, queue := queue, digests := digests, reasm := reasm, sentEst := est, sentTamper := tamper } := by
  unfold Radio.endExch
  split
  next e _ =>
    rw [(r.cutShort e).dropReasm_frame, r.cutShort_frame e]
    exact ⟨_, _, _, _, _, rfl⟩
  next idle => exact ⟨r.queue, r.digests, r.reasm, r.sentEst, r.sentTamper, by rw [← idle]⟩

end Sys2Proof.Machine

/-! SUPPORT. The contacts of the lower side: the frame that begins one, its repeats, and a contact that is missed (R352, R358 to
R361). -/

namespace Sys2Proof.Machine

/-! ## The plan of the next contact (R360) -/

theorem Device.contactAt_leaves (s : Device) (t : Nat) :
    (s.contactAt t).Planned s ∧ (s.contactAt t).radio = { s.radio with tContact := min t tickMax } :=
  ⟨(Device.arm_planned ..).trans (s.withRadio_planned _), Device.arm_radio ..⟩

/-- The instant that a contact keeps for the next one until an ACK gives another. -/
def Device.nextContact (s : Device) : Nat := min (max (s.radio.tContact + s.phyP.contactEvery * 32768) (s.land.tick + 1)) (2 ^ 48 - 1)

theorem Device.fallbackContact_leaves (s : Device) :
    s.fallbackContact.Planned s ∧ s.fallbackContact.radio = { s.radio with tContact := s.nextContact } :=
  s.contactAt_leaves _

/-! ## The key (R350, R387) -/

/-- A link that is ready to send has a key in the slot that it picks. -/
theorem Device.pickKey_ready {s : Device} (ready : s.upReady = true) :
    ∃ k key, (s.pickKey true).1 = some k ∧ s.netKey true k = some key ∧ (s.pickKey true).2.radio = s.radio := by
  simp only [Device.upReady, Bool.or_eq_true, Option.isSome_iff_exists] at ready
  unfold Device.pickKey
  split
  next h0 h1 =>
    obtain ⟨key0, h0⟩ := Option.isSome_iff_exists.mp h0
    obtain ⟨key1, h1⟩ := Option.isSome_iff_exists.mp h1
    rcases Nat.mod_two_eq_zero_or_one s.draw.1 with even | odd
    · exact ⟨_, key0, rfl, by rw [even, h0], rfl⟩
    · exact ⟨_, key1, rfl, by rw [odd, h1], rfl⟩
  next h0 _ =>
    obtain ⟨key0, h0⟩ := Option.isSome_iff_exists.mp h0
    exact ⟨0, key0, rfl, h0, rfl⟩
  next _ h1 =>
    obtain ⟨key1, h1⟩ := Option.isSome_iff_exists.mp h1
    exact ⟨1, key1, rfl, h1, rfl⟩
  next h0 h1 => rcases ready with ⟨key, h⟩ | ⟨key, h⟩ <;> simp [h] at h0 h1

/-! ## The first frame (R352, R358, R362) -/

/-- The frame that a contact begins with. -/
def Device.firstSent (s : Device) : Sent :=
  if s.radio.link ≠ 1 then .join else if s.radio.contacts % s.phyP.uplinkEvery = 0 then .data else .poll

theorem Device.ownData_radio (s : Device) : ∃ est tamper, s.ownData.2.radio = { s.radio with sentEst := est, sentTamper := tamper } := by
  unfold Device.ownData Device.digestSent
  dsimp only
  split
  · exact ⟨_, _, rfl⟩
  · exact ⟨_, s.radio.sentTamper, rfl⟩

/-- What the frame that begins a contact leaves of the exchange and of the transmission. -/
structure Device.Begun (t s : Device) (e : Exchange) (x : Sent) (b : Bytes) (pending : Bool) : Prop where
  exch : t.radio.exch = some (e.advanced x s.radio.fcntTx b pending)
  out : t.radio.out = s.radio.out ++ [b]
  fcnt : t.radio.fcntTx = s.radio.fcntTx + 1

section
variable {s : Device} {e : Exchange} (exch : s.radio.exch = some e) {key : Bytes}
  (keyed : s.netKey (decide (e.peer = .up)) e.key = some key) (may : MaySend s) (room : e.frames + 1 < s.phyP.exchMax)
include exch keyed may room

theorem Device.sendIn_begun (x : Sent) (payload : Bytes) (more : Bool) :
    ∃ b pending, (s.sendIn x payload more).Begun s e x b pending := by
  obtain ⟨us, ch, b, stopped, pending, radio⟩ := Device.sendIn_sends x payload more exch keyed may room
  exact ⟨b, pending, by rw [radio], by rw [radio]; rfl, by rw [radio]; rfl⟩

theorem Device.contactFrame_begun : ∃ b pending, s.contactFrame.Begun s e s.firstSent b pending := by
  unfold Device.contactFrame Device.firstSent
  dsimp only
  split
  · exact Device.sendIn_begun exch keyed may room ..
  · split
    · obtain ⟨est, tamper, radio⟩ := s.ownData_radio
      have conf : s.ownData.2.conf = s.conf := (s.ownData_calm).1
      have keys : s.ownData.2.sec.keys = s.sec.keys := (s.ownData_kept).1
      have begun := Device.sendIn_begun (s := s.ownData.2) (e := e) (key := key) (by rw [radio]; exact exch)
        (by rw [Device.netKey_congr keys (by rw [radio]), keyed]) (MaySend.congr may conf (by rw [radio]))
        (by rw [Device.phyP_congr conf]; exact room) .data s.ownData.1 s.ownData.2.upMore
      obtain ⟨b, pending, begun⟩ := begun
      obtain ⟨h1, h2, h3⟩ := begun
      rw [radio] at h1 h2 h3
      exact ⟨b, pending, h1, h2, h3⟩
    · exact Device.sendIn_begun exch keyed may room ..

end

/-! ## The contact alarm (R358) -/

theorem Device.endExchange_radio (s : Device) : s.endExchange.radio = s.radio.endExch := rfl

/-- The exchange that a contact opens, before its first frame. -/
def Device.contactExch (s : Device) (key : Nat) : Exchange :=
  { peer := .up, key := key, startCh := if s.radio.link = 1 then s.radio.nextCh else 0 }

/-- A contact begins with one frame, in an exchange that has just that one, and is counted. -/
theorem Device.beginContact_begins {d : Device} (ready : d.upReady = true) (may : MaySend d) (room : 1 < d.phyP.exchMax)
    (silent : d.radio.out = []) :
    ∃ key b pending, d.beginContact.radio.exch = some ((d.contactExch key).advanced d.firstSent d.radio.fcntTx b pending) ∧
      d.beginContact.radio.out = [b] ∧ d.beginContact.radio.fcntTx = d.radio.fcntTx + 1 ∧
      d.beginContact.radio.contacts = d.radio.contacts + 1 ∧ d.beginContact.radio.tContact = d.nextContact := by
  obtain ⟨queue, digests, reasm, est, tamper, ended⟩ := d.radio.endExch_frame
  have planned : d.endExchange.fallbackContact.radio = _ := (Device.fallbackContact_leaves _).2
  rw [Device.nextContact, d.endExchange_radio, ended, Device.phyP_congr (t := d.endExchange) (s := d) rfl] at planned
  obtain ⟨conf, -, -, -, -, -, keys, -⟩ := (Device.fallbackContact_calm d.endExchange).trans d.endExchange_calm
  have sameKey := Device.netKey_congr keys (by rw [planned]) true
  obtain ⟨k, key, picked, keyed, radio⟩ := Device.pickKey_ready (s := d.endExchange.fallbackContact)
    (by rw [Device.upReady, sameKey, sameKey]; exact ready)
  have picks := Device.pickKey_calm d.endExchange.fallbackContact true
  unfold Device.beginContact
  dsimp only
  rw [picked]
  dsimp only
  generalize (d.endExchange.fallbackContact.pickKey true).2 = s at radio picks ⊢
  rw [planned] at radio
  obtain ⟨conf', -, -, -, -, -, keys', -⟩ := picks
  obtain ⟨b, pending, exch, out, fcnt⟩ := Device.contactFrame_begun (s := s.setExch (s.contactExch k)) (key := key) rfl
    ((Device.netKey_congr (t := s.setExch (s.contactExch k)) (keys'.trans keys) (by simp only [Device.setExch, radio]) true k).trans
      ((sameKey k).symm.trans keyed))
    (MaySend.congr may (conf'.trans conf) (by simp only [Device.setExch, radio]))
    (lt_of_lt_of_eq room (congrArg PhyP.exchMax (Device.phyP_congr (t := s.setExch (s.contactExch k)) (conf'.trans conf))).symm)
  obtain ⟨-, -, -, -, -, -, tContact, -, -, -, -, contacts, -⟩ := (s.setExch (s.contactExch k)).contactFrame_kids
  have sent : (s.setExch (s.contactExch k)).firstSent = d.firstSent := by
    rw [Device.firstSent, Device.firstSent, Device.phyP_congr (t := s.setExch (s.contactExch k)) (conf'.trans conf)]
    simp only [Device.setExch, radio]
  refine ⟨k, b, pending, ?_, out.trans ?_, fcnt.trans ?_, congrArg (· + 1) (contacts.trans ?_), tContact.trans ?_⟩
  · refine exch.trans ?_
    rw [sent]
    simp only [Device.setExch, Device.contactExch, radio]
  · simp only [Device.setExch, radio, silent]; rfl
  · simp only [Device.setExch, radio]
  · simp only [Device.setExch, radio]
  · simp only [Device.setExch, radio]; rfl

section
variable {dt : Nat} {s : State} {d : Device} (hd : d = (s.dev.elapse dt).woken 1)
include hd

theorem contactAlarm_begins (up : d.up = true) (contacts : d.contacts = true) (fired : d.fired 6 = true) :
    exec (.contactAlarm dt) s = .next { s with dev := d.airClear.beginContact } := by
  simp [exec, execContactAlarm, ← hd, up, contacts, fired]

theorem contactAlarm_plans (up : d.up = true) (none : d.contacts = false) (fired : d.fired 6 = true) :
    exec (.contactAlarm dt) s = .next { s with dev := d.fallbackContact } := by
  simp [exec, execContactAlarm, ← hd, up, none, fired]

theorem contactAlarm_waits (waits : d.up = false ∨ d.fired 6 = false) :
    exec (.contactAlarm dt) s = .next { s with dev := d } := by
  simp only [exec, execContactAlarm, ← hd]
  rw [if_neg (by rcases waits with h | h <;> simp [h])]

end

/-! ## A contact that is missed (R361) -/

/-- The state of the link after a contact without an ACK. -/
def Device.linkMissed (s : Device) : Nat :=
  if s.phyP.orphanContacts ≤ satAdd 16 s.radio.orphanRun 1 ∧
    (s.radio.orphanRun < s.phyP.orphanContacts ∨ s.radio.link = 1) then 2 else s.radio.link

theorem Device.contactMissed_leaves (s : Device) :
    s.contactMissed.radio = { s.radio with
      counters := setAt s.radio.counters 7 satInc, orphanRun := satAdd 16 s.radio.orphanRun 1, link := s.linkMissed } ∧
    s.contactMissed.sec = s.sec ∧ s.contactMissed.land = s.land := by
  unfold Device.contactMissed Device.linkMissed
  extract_lets s1 n s2
  split
  · exact ⟨Device.journal_radio .., Device.journal_sec .., Device.journal_land ..⟩
  · exact ⟨rfl, rfl, rfl⟩

/-- An exchange that ends as a missed contact. -/
theorem Device.missedEnd_leaves {t s : Device} (conf : t.conf = s.conf) {stopped : Bool}
    (radio : t.radio = { s.radio with fcntStopped := stopped }) :
    t.endExchange.contactMissed.radio.exch = none ∧ t.endExchange.contactMissed.radio.out = s.radio.out ∧
      t.endExchange.contactMissed.radio.counters = setAt s.radio.counters 7 satInc ∧
      t.endExchange.contactMissed.radio.orphanRun = satAdd 16 s.radio.orphanRun 1 ∧
      t.endExchange.contactMissed.radio.link = s.linkMissed ∧
      t.endExchange.contactMissed.radio.tContact = s.radio.tContact ∧
      t.endExchange.contactMissed.sec = t.sec ∧ t.endExchange.contactMissed.land = t.land := by
  obtain ⟨missed, sec, land⟩ := t.endExchange.contactMissed_leaves
  obtain ⟨queue, digests, reasm, est, tamper, ended⟩ := t.radio.endExch_frame
  have phy : t.endExchange.phyP = s.phyP := Device.phyP_congr conf
  rw [Device.linkMissed, phy, t.endExchange_radio, ended, radio] at missed
  rw [missed]
  exact ⟨rfl, rfl, rfl, rfl, rfl, rfl, sec, land⟩

/-! ## ACK_WAIT_TIMEOUT and MISSING_RESPONSE (R358, R359) -/

theorem Device.ackTimeout_repeats {s : Device} {e : Exchange} (exch : s.radio.exch = some e) (link : e.peer = .up)
    (first : e.frames = 1) (again : e.repeats < 2) (may : MaySend s) :
    s.ackTimeout = (s.onAir (s.frameChan e 0) e.bytes).setExch { e with repeats := e.repeats + 1 } := by
  simp [Device.ackTimeout, exch, link, first, s.fcntOut_of_may may, again, s.fits_free _ may.1]

/-- The device once a repeat that its frame counter forbids has been noted. -/
def Device.counterChecked (s : Device) : Device := if s.fcntOut then s.fcntCheck else s

theorem Device.counterChecked_calm (s : Device) : s.counterChecked.Calm s := by
  unfold Device.counterChecked
  split
  · exact s.fcntCheck_calm
  · exact .refl s

theorem Device.counterChecked_conf (s : Device) : s.counterChecked.conf = s.conf := s.counterChecked_calm.1

theorem Device.counterChecked_radio (s : Device) :
    ∃ stopped, s.counterChecked.radio = { s.radio with fcntStopped := stopped } := by
  unfold Device.counterChecked
  split
  · exact s.fcntCheck_radio
  · exact ⟨s.radio.fcntStopped, rfl⟩

theorem Device.counterChecked_kept (s : Device) : s.counterChecked.sec = s.sec ∧ s.counterChecked.land = s.land := by
  unfold Device.counterChecked Device.fcntCheck
  split
  · split
    · exact ⟨Device.journal_sec .., Device.journal_land ..⟩
    · exact ⟨rfl, rfl⟩
  · exact ⟨rfl, rfl⟩

/-- After the second repeat the exchange ends as a missed contact. -/
theorem Device.ackTimeout_gives_up {s : Device} {e : Exchange} (exch : s.radio.exch = some e) (link : e.peer = .up)
    (first : e.frames = 1) (last : 2 ≤ e.repeats) :
    s.ackTimeout = s.counterChecked.endExchange.contactMissed := by
  have done : ¬ e.repeats < 2 := by omega
  unfold Device.counterChecked
  simp only [Device.ackTimeout, exch, link, first, and_self, if_true, done, if_false]
  split <;> rfl

theorem Device.ackTimeout_ends {s : Device} {e : Exchange} (exch : s.radio.exch = some e) (later : e.peer ≠ .up ∨ e.frames ≠ 1) :
    s.ackTimeout = s.endExchange := by
  have later' : ¬ (e.peer = .up ∧ e.frames = 1) := by tauto
  simp [Device.ackTimeout, exch, later']

section
variable {dt : Nat} {s : State} {d : Device} (hd : d = s.dev.elapse dt)
include hd

theorem ackWaitTimeout_acts (up : d.up = true) (on : d.on .ferryman = true) :
    exec (.ackWaitTimeout dt) s = .next { s with dev := d.airClear.ackTimeout } := by
  simp [exec, execAckWaitTimeout, ← hd, up, on]

theorem missingResponse_misses (up : d.up = true) {e : Exchange} (exch : d.radio.exch = some e) (link : e.peer = .up)
    (silent : e.answered = false) : exec (.missingResponse dt) s = .next { s with dev := d.endExchange.contactMissed } := by
  simp [exec, execMissingResponse, ← hd, up, exch, link, silent]

theorem missingResponse_ends (up : d.up = true) {e : Exchange} (exch : d.radio.exch = some e)
    (heard : e.peer ≠ .up ∨ e.answered = true) : exec (.missingResponse dt) s = .next { s with dev := d.endExchange } := by
  have heard' : ¬ (e.peer = .up ∧ e.answered = false) := by
    rintro ⟨link, silent⟩
    rcases heard with h | h
    · exact h link
    · simp [silent] at h
  simp [exec, execMissingResponse, ← hd, up, exch, heard']

theorem missingResponse_idle (idle : d.up = false ∨ d.radio.exch = none) :
    exec (.missingResponse dt) s = .next { s with dev := d } := by
  simp only [exec, execMissingResponse, ← hd]
  rw [if_neg (by rcases idle with h | h <;> simp [h])]

end

end Sys2Proof.Machine

namespace Sys2Proof
open Machine

/-- Settles O56: one frame begins a contact, its repeats change nothing but the count, and the end without an ACK is missed. -/
theorem contactsKeepTheirSchedule : Obligations.ContactsKeepTheirSchedule := by
  refine ⟨fun dt s d hd => ⟨fun up contacts fired may room => ?_, fun up none fired => ?_, contactAlarm_waits hd⟩,
    fun dt s d hd => ⟨fun up on => ⟨fun e exch link first => ⟨fun again may => ?_, fun last => ?_⟩, fun e exch later => ?_, fun idle => ?_⟩,
      fun up e exch => ⟨fun link silent => ?_, fun heard => ?_⟩, missingResponse_idle hd⟩⟩
  · have ready : d.airClear.upReady = true := by
      simp only [Device.contacts, Bool.and_eq_true] at contacts
      exact contacts.1.2
    obtain ⟨key, b, pending, opened, out, fcnt, counted, planned⟩ := Device.beginContact_begins ready may room rfl
    obtain ⟨conf, led, -, -, -, lc, keys, tick, -⟩ := d.airClear.beginContact_calm
    exact ⟨_, _, contactAlarm_begins hd up contacts fired, opened, rfl, rfl, rfl, out, fcnt, rfl, rfl, counted, planned, conf, led,
      keys, lc, tick⟩
  · obtain ⟨planned, radio⟩ := d.fallbackContact_leaves
    exact ⟨_, contactAlarm_plans hd up none fired, radio, planned.1, planned.2⟩
  · have repeats := ackWaitTimeout_acts hd up on
    rw [Device.ackTimeout_repeats (s := d.airClear) exch link first again may] at repeats
    exact ⟨_, repeats, rfl, rfl, rfl, rfl, rfl⟩
  · have acts := ackWaitTimeout_acts hd up on
    rw [Device.ackTimeout_gives_up (s := d.airClear) exch link first last] at acts
    obtain ⟨exch', out, counters, run, missed, planned, sec, land⟩ := Device.missedEnd_leaves (s := d.airClear)
      (d.airClear.counterChecked_conf) (d.airClear.counterChecked_radio).choose_spec
    obtain ⟨sec', land'⟩ := d.airClear.counterChecked_kept
    obtain ⟨conf, led, -⟩ := ((Device.contactMissed_calm _).trans (Device.endExchange_calm _)).trans d.airClear.counterChecked_calm
    exact ⟨_, acts, exch', out, counters, run, missed, planned, conf, led, sec.trans sec', land.trans land'⟩
  · have ends := ackWaitTimeout_acts hd up on
    rw [Device.ackTimeout_ends (s := d.airClear) exch later] at ends
    obtain ⟨queue, digests, reasm, est, tamper, ended⟩ := d.airClear.radio.endExch_frame
    exact ⟨_, ends, by rw [Device.endExchange_radio, ended], by rw [Device.endExchange_radio, ended]; rfl, rfl⟩
  · have acts := ackWaitTimeout_acts hd up on
    have still : d.airClear.ackTimeout = d.airClear := by
      have none : d.airClear.radio.exch = none := idle
      simp [Device.ackTimeout, none]
    exact ⟨_, rfl, acts.trans (by rw [still]; rfl)⟩
  · obtain ⟨exch', -, counters, run, -, -, sec, land⟩ := Device.missedEnd_leaves (t := d) rfl (s := d) (stopped := d.radio.fcntStopped) rfl
    obtain ⟨conf, led, -⟩ := (Device.contactMissed_calm d.endExchange).trans d.endExchange_calm
    exact ⟨_, missingResponse_misses hd up exch link silent, exch', counters, run, conf, led, sec, land⟩
  · obtain ⟨queue, digests, reasm, est, tamper, ended⟩ := d.radio.endExch_frame
    refine ⟨_, missingResponse_ends hd up exch heard, ?_, ?_, ?_, rfl⟩ <;> rw [Device.endExchange_radio, ended]

end Sys2Proof

/-! SUPPORT. What a transmission leaves alone: security, clock, refusals, what queue and digests hold, the count of joins (R345,
R351, R359, R370, R372). -/

namespace Sys2Proof.Machine

/-! ## The relation -/

/-- What a queue entry holds beside the marks of its transmission. -/
def QEntry.held (q : QEntry) : QEntry := { q with tries := 0, inFlight := false }

/-- What a cached digest holds beside the mark of its transmission. -/
def Digest.held (g : Digest) : Digest := { g with inFlight := false }

/-- `t` is `s` after transmissions: nothing is taken off the air, and while no note is in reassembly the queue keeps its entries. -/
structure Device.Carried (t s : Device) : Prop where
  refusals : t.refusals = s.refusals
  sec : t.sec = s.sec
  land : t.land = s.land
  out : s.radio.out.length ≤ t.radio.out.length
  joins : t.radio.counters[11]? = s.radio.counters[11]?
  digests : t.radio.digests.map Digest.held = s.radio.digests.map Digest.held
  queue : s.radio.reasm = none → t.radio.reasm = none ∧ t.radio.queue.map QEntry.held = s.radio.queue.map QEntry.held

theorem Device.Carried.refl (s : Device) : s.Carried s := ⟨rfl, rfl, rfl, le_rfl, rfl, rfl, fun h => ⟨h, rfl⟩⟩

theorem Device.Carried.trans {a b c : Device} (h : a.Carried b) (k : b.Carried c) : a.Carried c where
  refusals := h.refusals.trans k.refusals
  sec := h.sec.trans k.sec
  land := h.land.trans k.land
  out := k.out.trans h.out
  joins := h.joins.trans k.joins
  digests := h.digests.trans k.digests
  queue := fun idle =>
    have ⟨idle', same⟩ := k.queue idle
    have ⟨idle'', same'⟩ := h.queue idle'
    ⟨idle'', same'.trans same⟩

theorem carried_ite {c : Prop} [Decidable c] {a b s : Device} (h : a.Carried s) (k : b.Carried s) :
    (if c then a else b).Carried s := by
  split <;> assumption

/-- An entry that the queue held before is there after. -/
theorem Device.Carried.entry {t s : Device} (h : t.Carried s) (idle : s.radio.reasm = none) {j : Nat} {q : QEntry}
    (entry : s.radio.queue[j]? = some q) : ∃ q', t.radio.queue[j]? = some q' ∧ q'.held = q.held := by
  have same := congrArg (fun l : List QEntry => l[j]?) (h.queue idle).2
  simp only [List.getElem?_map, entry, Option.map_some, Option.map_eq_some_iff] at same
  exact same

/-- A digest that the cache held before is there after. -/
theorem Device.Carried.cache {t s : Device} (h : t.Carried s) {i : Nat} {g : Digest}
    (entry : s.radio.digests.find? (·.child == i) = some g) :
    ∃ g', t.radio.digests.find? (·.child == i) = some g' ∧ g'.held = g.held := by
  have same := congrArg (List.find? (·.child == i)) h.digests
  simp only [List.find?_map] at same
  have found : s.radio.digests.find? ((fun x : Digest => x.child == i) ∘ Digest.held) = some g := entry
  rw [found, Option.map_some, Option.map_eq_some_iff] at same
  exact same

/-! ## Steps of a transmission -/

theorem Device.count_carried (s : Device) {k : Nat} (other : k ≠ 11) : (s.count k).Carried s :=
  ⟨rfl, rfl, rfl, le_rfl, getElem?_setAt_ne _ _ other, rfl, fun h => ⟨h, rfl⟩⟩

theorem Device.journal_carried (s : Device) (code a b : Nat) : (s.journal code a b).Carried s := by
  have radio : (s.journal code a b).radio = s.radio := Device.journal_radio ..
  exact ⟨Device.journal_refusals .., Device.journal_sec .., Device.journal_land .., by rw [radio], by rw [radio], by rw [radio],
    by rw [radio]; exact fun h => ⟨h, rfl⟩⟩

theorem Device.setExch_carried (s : Device) (e : Exchange) : (s.setExch e).Carried s :=
  ⟨rfl, rfl, rfl, le_rfl, rfl, rfl, fun h => ⟨h, rfl⟩⟩

theorem Device.draw_carried (s : Device) : s.draw.2.Carried s := ⟨rfl, rfl, rfl, le_rfl, rfl, rfl, fun h => ⟨h, rfl⟩⟩

theorem Device.setChild_carried (s : Device) (i : Nat) (f : Child → Child) : (s.setChild i f).Carried s :=
  ⟨rfl, rfl, rfl, le_rfl, rfl, rfl, fun h => ⟨h, rfl⟩⟩

theorem Device.onAir_carried (s : Device) (ch : Nat) (b : Bytes) : (s.onAir ch b).Carried s :=
  ⟨rfl, rfl, rfl, by simp [Device.onAir, Device.count], getElem?_setAt_ne _ _ (by decide), rfl, fun h => ⟨h, rfl⟩⟩

theorem Device.fcntCheck_carried (s : Device) : s.fcntCheck.Carried s := by
  unfold Device.fcntCheck
  exact carried_ite ((Device.journal_carried ..).trans ⟨rfl, rfl, rfl, le_rfl, rfl, rfl, fun h => ⟨h, rfl⟩⟩) (.refl s)

theorem Device.budgetHit_carried (s : Device) : s.budgetHit.Carried s := by
  have counted : ∀ k, k ≠ 11 →
      (Device.count { s with radio := { s.radio with budgetExhausted := true, budgetJournalled := true } } k).Carried s :=
    fun k other => (Device.count_carried _ other).trans ⟨rfl, rfl, rfl, le_rfl, rfl, rfl, fun h => ⟨h, rfl⟩⟩
  unfold Device.budgetHit
  exact carried_ite (counted _ (by split <;> decide)) ((Device.journal_carried ..).trans (counted _ (by split <;> decide)))

theorem Device.sendAir_carried (s : Device) (up : Bool) (ch : Nat) (h : AirHeader) (payload : Bytes) :
    (s.sendAir up ch h payload).2.Carried s := by
  unfold Device.sendAir
  split
  · exact .refl s
  · split
    · exact s.fcntCheck_carried
    · dsimp only
      generalize (if h.longSrc = true then 18 else 12) = n
      split
      · exact s.budgetHit_carried
      · exact (Device.fcntCheck_carried _).trans ((Device.onAir_carried ..).trans ⟨rfl, rfl, rfl, le_rfl, rfl, rfl, fun h => ⟨h, rfl⟩⟩)

/-! ## The exchange -/

theorem map_setAt_of_same {α β : Type} (l : List α) (k : Nat) (f : α → α) (g : α → β) (same : ∀ x, g (f x) = g x) :
    (setAt l k f).map g = l.map g := by
  refine List.ext_getElem? fun j => ?_
  by_cases at_k : k = j
  · subst at_k
    simp [Function.comp_def, same]
  · simp [getElem?_setAt_ne l f at_k]

theorem Radio.cutShort_held (r : Radio) (e : Exchange) : (r.cutShort e).queue.map QEntry.held = r.queue.map QEntry.held := by
  unfold Radio.cutShort
  split
  · exact map_setAt_of_same _ _ _ _ fun _ => rfl
  · rfl

theorem Radio.dropReasm_idle {r : Radio} (idle : r.reasm = none) : r.dropReasm = r := by
  simp [Radio.dropReasm, idle]

theorem Device.endExchange_carried (s : Device) : s.endExchange.Carried s := by
  have frame : s.radio.endExch.counters = s.radio.counters ∧ s.radio.endExch.out = s.radio.out := by
    obtain ⟨queue, digests, reasm, est, tamper, ended⟩ := s.radio.endExch_frame
    rw [ended]
    exact ⟨rfl, rfl⟩
  obtain ⟨counters, out⟩ := frame
  refine ⟨rfl, rfl, rfl, (congrArg List.length out).ge, by rw [Device.endExchange, counters], ?_, fun idle => ?_⟩
  · show s.radio.endExch.digests.map Digest.held = _
    unfold Radio.endExch
    split
    next e _ =>
      rw [(s.radio.cutShort e).dropReasm_frame, s.radio.cutShort_frame e]
      simp [Radio.landed, Digest.held, Function.comp_def]
    next => rfl
  · show s.radio.endExch.reasm = none ∧ s.radio.endExch.queue.map QEntry.held = _
    unfold Radio.endExch
    split
    next e _ =>
      have cut : (s.radio.cutShort e).reasm = none := by rw [s.radio.cutShort_frame e]; exact idle
      rw [Radio.dropReasm_idle cut, ← s.radio.cutShort_held e]
      exact ⟨cut, by simp [Radio.landed, QEntry.held, Function.comp_def]⟩
    next => exact ⟨idle, rfl⟩

theorem Device.sendIn_carried (s : Device) (x : Sent) (payload : Bytes) (more : Bool) : (s.sendIn x payload more).Carried s := by
  unfold Device.sendIn
  split
  · exact .refl s
  · dsimp only
    refine carried_ite s.endExchange_carried (carried_ite ?_ (carried_ite ?_ ?_))
    · exact (Device.setExch_carried ..).trans (Device.sendAir_carried ..)
    · exact (Device.endExchange_carried _).trans ((Device.setExch_carried ..).trans (Device.sendAir_carried ..))
    · exact (Device.endExchange_carried _).trans (Device.sendAir_carried ..)

/-! ## The parent's side -/

theorem Device.sendTodo_carried (s : Device) (t : Nat) : (s.sendTodo t).Carried s := by
  unfold Device.sendTodo
  split
  · exact .refl s
  · split
    · dsimp only
      split
      · exact (Device.sendIn_carried ..).trans ((Device.setExch_carried ..).trans s.draw_carried)
      · exact (Device.sendIn_carried ..).trans (Device.setExch_carried ..)
      · exact (Device.sendIn_carried ..).trans (Device.setExch_carried ..)
      all_goals exact s.endExchange_carried
    · exact s.endExchange_carried

theorem Device.afterAckDown_carried (s : Device) (t : Nat) : (s.afterAckDown t).Carried s := by
  unfold Device.afterAckDown
  split
  · exact .refl s
  · exact carried_ite (s.sendTodo_carried t) (carried_ite (.refl s) s.endExchange_carried)

theorem Device.planChild_carried (s : Device) (i t : Nat) : (s.planChild i t).2.2.Carried s := by
  have chosen : ∀ c : Child, (s.chooseNext c t).2.Carried s := by
    intro c
    unfold Device.chooseNext
    dsimp only
    split <;> exact s.draw_carried
  unfold Device.planChild
  split
  · exact .refl s
  · exact (Device.setChild_carried ..).trans ((Device.draw_carried _).trans (chosen _))

theorem Device.ackChild_carried (s : Device) (i fcnt status rel t : Nat) : (s.ackChild i fcnt status rel t).Carried s :=
  (Device.afterAckDown_carried ..).trans ((Device.sendIn_carried ..).trans (s.planChild_carried i t))

theorem Device.joinAnswer_carried (s : Device) (i : Nat) (x : Heard) : (s.joinAnswer i x).Carried s := by
  have replied : ((s.planChild i x.frame.txSfd).2.2.joinReply x 8 (s.planChild i x.frame.txSfd).1 (s.planChild i x.frame.txSfd).2.1
      (i + 1) (!((s.planChild i x.frame.txSfd).2.2.childTodo i x.hdr.timeReq).isEmpty)).2.Carried s :=
    (Device.sendAir_carried ..).trans (s.planChild_carried ..)
  unfold Device.joinAnswer
  exact carried_ite ((Device.sendTodo_carried ..).trans ((Device.setExch_carried ..).trans replied)) replied

/-! ## The lower side -/

theorem Device.sendForward_carried (s : Device) : s.sendForward.Carried s := by
  have marked : s.forwardData.2.Carried s := by
    refine ⟨rfl, rfl, rfl, le_rfl, rfl, ?_, fun idle => ⟨idle, ?_⟩⟩
    · simp only [Device.forwardData, List.map_map]
      refine List.map_congr_left fun g _ => ?_
      simp only [Function.comp_apply]
      split <;> rfl
    · refine List.ext_getElem (by simp [Device.forwardData]) fun j _ _ => ?_
      simp only [Device.forwardData, List.getElem_map, List.getElem_zipIdx]
      split <;> rfl
  exact (Device.sendIn_carried ..).trans marked

theorem Device.afterAckUp_carried (s : Device) : s.afterAckUp.Carried s := by
  unfold Device.afterAckUp
  split
  · exact .refl s
  · exact carried_ite (.refl s) (carried_ite s.sendForward_carried s.endExchange_carried)

theorem Device.ackUpper_carried (s : Device) (fcnt status rel : Nat) : (s.ackUpper fcnt status rel).Carried s :=
  (Device.afterAckUp_carried _).trans (Device.sendIn_carried ..)

theorem Device.keepAck_carried (s : Device) (status rel : Nat) (slot : Option Nat) : (s.keepAck status rel slot).Carried s := by
  unfold Device.keepAck
  split
  · exact s.setExch_carried _
  · exact .refl s

end Sys2Proof.Machine

/-! SUPPORT. What a parent hears: frames that are not for it, frames that it drops, and the contact frames of its children and of
joiners (R340, R348 to R350, R352, R358, R362 to R364, R373). -/

namespace Sys2Proof.Machine

/-! ## Frames that stop before a handler (R340, R348 to R350, R363) -/

/-- Each of the seven receive commands is a frame that comes in. -/
theorem receive_runs {dt : Nat} {f : RxFrame} {s : State} {d : Device} (hd : d = s.dev.elapse dt) {x : Instr}
    {mine : AirHeader → Bool} (command : (x, mine) ∈ [(Instr.rxPoll dt f, fun h : AirHeader => h.typ == 1 && !h.longSrc),
      (.rxJoinPoll dt f, fun h => h.typ == 1 && h.longSrc && d.joinHeard f.chan), (.rxAck dt f, fun h => h.typ == 2),
      (.rxData dt f, fun h => h.typ == 3), (.rxRead dt f, fun h => h.typ == 4), (.rxNote dt f, fun h => h.typ == 5),
      (.rxTime dt f, fun h => h.typ == 6)]) :
    ∃ h : Heard → Device → Device, exec x s = .next { s with dev := d.airIn mine f h } := by
  subst hd
  simp only [List.mem_cons, Prod.mk.injEq, List.not_mem_nil, or_false] at command
  rcases command with ⟨rfl, rfl⟩ | ⟨rfl, rfl⟩ | ⟨rfl, rfl⟩ | ⟨rfl, rfl⟩ | ⟨rfl, rfl⟩ | ⟨rfl, rfl⟩ | ⟨rfl, rfl⟩
  · exact ⟨Device.onPoll, rfl⟩
  · exact ⟨Device.onJoin, rfl⟩
  · exact ⟨Device.onAck, rfl⟩
  · exact ⟨Device.onData, rfl⟩
  · exact ⟨Device.onRead, rfl⟩
  · exact ⟨Device.onNote, rfl⟩
  · exact ⟨Device.onTime, rfl⟩

/-- Each of them takes frames of one of the six types. -/
theorem receive_types {dt : Nat} {f : RxFrame} {d : Device} {x : Instr}
    {mine : AirHeader → Bool} (command : (x, mine) ∈ [(Instr.rxPoll dt f, fun h : AirHeader => h.typ == 1 && !h.longSrc),
      (.rxJoinPoll dt f, fun h => h.typ == 1 && h.longSrc && d.joinHeard f.chan), (.rxAck dt f, fun h => h.typ == 2),
      (.rxData dt f, fun h => h.typ == 3), (.rxRead dt f, fun h => h.typ == 4), (.rxNote dt f, fun h => h.typ == 5),
      (.rxTime dt f, fun h => h.typ == 6)]) {h : AirHeader} (row : mine h = true) : 1 ≤ h.typ ∧ h.typ ≤ 6 := by
  simp only [List.mem_cons, Prod.mk.injEq, List.not_mem_nil, or_false] at command
  rcases command with ⟨-, rfl⟩ | ⟨-, rfl⟩ | ⟨-, rfl⟩ | ⟨-, rfl⟩ | ⟨-, rfl⟩ | ⟨-, rfl⟩ | ⟨-, rfl⟩
  all_goals
    simp only [Bool.and_eq_true, beq_iff_eq] at row
    omega

section
variable {d : Device} {mine : AirHeader → Bool} {f : RxFrame} (h : Heard → Device → Device)

theorem Device.airFrameIn_badFcs (bad : fcsGood f.psdu f.fcsLen = false) : d.airFrameIn mine f h = d.count 2 := by
  simp [Device.airFrameIn, bad]

variable (good : fcsGood f.psdu f.fcsLen = true)
include good

theorem Device.airFrameIn_badHeader (bad : ∀ p, airParse f.psdu f.fcsLen = some p → p.version ≠ 0 ∨ p.hdr.typ = 0 ∨ 6 < p.hdr.typ) :
    d.airFrameIn mine f h = d.count 4 := by
  unfold Device.airFrameIn
  rw [good, if_neg (by decide)]
  split
  · rfl
  next p parsed => rw [if_pos (bad p parsed)]

variable {p : AirParts} (parsed : airParse f.psdu f.fcsLen = some p) (version : p.version = 0) (low : 1 ≤ p.hdr.typ)
  (high : p.hdr.typ ≤ 6)
include parsed version low high

theorem Device.airFrameIn_ignored (ignored : mine p.hdr = false ∨ d.linkOf p.hdr = none ∨
    ((∃ j, d.linkOf p.hdr = some (.stranger j)) ∧ p.hdr.asks = false)) : d.airFrameIn mine f h = d := by
  have known : ¬ (p.version ≠ 0 ∨ p.hdr.typ = 0 ∨ 6 < p.hdr.typ) := by omega
  unfold Device.airFrameIn
  rw [good, parsed, if_neg (by decide)]
  dsimp only
  rw [if_neg known]
  rcases ignored with other | nobody | ⟨⟨j, stranger⟩, silent⟩
  · rw [other]; rfl
  · rw [nobody, ite_self]
  · simp [stranger, silent]

variable (row : mine p.hdr = true) {l : Link} (link : d.linkOf p.hdr = some l) (entered : ∀ j, l ≠ .stranger j)
include row link entered

/-- A frame of a known sender stands or falls by its key, its MIC and its counter. -/
theorem Device.airFrameIn_known : d.airFrameIn mine f h =
    match d.netKey (decide (l = .up)) p.hdr.keyId with
    | none => d.count 3
    | some key =>
      match ccmOpen key (airNonce (d.peerEui p.hdr l) p.fcnt) p.head p.cipher p.mic with
      | none => d.count 3
      | some m =>
        match (d.replay l (d.newUpper p.hdr) p.fcnt).1 with
        | .drop => d.count 5
        | .again => h ⟨l, p.hdr, p.fcnt, m, false, f⟩ ((d.count 1).count 6)
        | .accept _ _ => h ⟨l, p.hdr, p.fcnt, m, true, f⟩ ((d.replay l (d.newUpper p.hdr) p.fcnt).2.count 1) := by
  have known : ¬ (p.version ≠ 0 ∨ p.hdr.typ = 0 ∨ 6 < p.hdr.typ) := by omega
  unfold Device.airFrameIn
  rw [good, parsed, if_neg (by decide)]
  dsimp only
  rw [if_neg known, row, if_neg (by decide), link]
  cases l with
  | stranger j => exact absurd rfl (entered j)
  | up => rfl
  | child i => rfl
  | joiner e => rfl

theorem Device.airFrameIn_badMic (bad : ∀ key, d.netKey (decide (l = .up)) p.hdr.keyId = some key →
    ccmOpen key (airNonce (d.peerEui p.hdr l) p.fcnt) p.head p.cipher p.mic = none) : d.airFrameIn mine f h = d.count 3 := by
  rw [Device.airFrameIn_known h good parsed version low high row link entered]
  split
  · rfl
  next key keyed => rw [bad key keyed]

theorem Device.airFrameIn_tooOld {key m : Bytes} (keyed : d.netKey (decide (l = .up)) p.hdr.keyId = some key)
    (opens : ccmOpen key (airNonce (d.peerEui p.hdr l) p.fcnt) p.head p.cipher p.mic = some m)
    (late : (d.replay l (d.newUpper p.hdr) p.fcnt).1 = .drop) : d.airFrameIn mine f h = d.count 5 := by
  rw [Device.airFrameIn_known h good parsed version low high row link entered, keyed]
  dsimp only
  rw [opens]
  dsimp only
  rw [late]

end

/-- A frame that stops before a handler leaves what it stops at, and the windows that listen on. -/
theorem Device.airIn_stops {d u : Device} {f : RxFrame} (mine : AirHeader → Bool) (h : Heard → Device → Device) (heard : Receives d f)
    (stops : (if f.modeSwitch then d.airClear else d.airClear.airFrameIn mine f h) = u) (planned : u.Planned d) :
    (d.airIn mine f h).radio = (u.keepListening f).radio ∧ (d.airIn mine f h).Planned d := by
  rw [Device.airIn_open mine h heard, stops]
  exact ⟨Device.armWindows_radio _, Device.Planned.armed (.trans ⟨rfl, rfl⟩ planned)⟩

/-! ## What one child's contact writes (R364, R366, R367) -/

/-- Of what a received frame depends on, `t` differs from `s` at most in entry i of the neighbour table. -/
structure Device.Touched (t s : Device) (i : Nat) : Prop where
  conf : t.conf = s.conf
  phy : t.radio.phy = s.radio.phy
  others : ∀ j, j ≠ i → t.radio.child j = s.radio.child j

theorem Device.Touched.trans {a b c : Device} {i : Nat} (h : a.Touched b i) (k : b.Touched c i) : a.Touched c i :=
  ⟨h.conf.trans k.conf, h.phy.trans k.phy, fun j other => (h.others j other).trans (k.others j other)⟩

theorem Device.setChild_touched (s : Device) (i : Nat) (f : Child → Child) (keeps : ∀ x, (f x).idx = x.idx) :
    (s.setChild i f).Touched s i :=
  ⟨rfl, rfl, fun _ other => s.setChild_other f keeps other⟩

theorem Device.childContact_phy (s : Device) (i : Nat) (f : RxFrame) (h : AirHeader) :
    (s.childContact i f h).radio.phy = s.radio.phy := by
  unfold Device.childContact
  split
  · rfl
  · dsimp only
    split
    · exact (congrArg Radio.phy (Device.journal_radio ..)).trans rfl
    · rfl

theorem Device.planChild_phy (s : Device) (i t : Nat) : (s.planChild i t).2.2.radio.phy = s.radio.phy := by
  unfold Device.planChild
  split
  · rfl
  next c _ => exact (s.chooseNext_kids c t).2.2.1

theorem Device.ackChild_phy (s : Device) (i fcnt status rel t : Nat) : (s.ackChild i fcnt status rel t).radio.phy = s.radio.phy :=
  (((Device.afterAckDown_kids ..).trans (Device.sendIn_kids ..)).2.2.1).trans (s.planChild_phy i t)

/-- After the frame the windows listen on: an entry whose window the contact closed is as the contact left it, the others as the
frame alone leaves them. -/
theorem Device.Touched.listening {t d : Device} {i : Nat} {b : Child} (touched : t.Touched d i) (f : RxFrame)
    (entry : t.radio.child i = some b) (closed : b.windowOpen = false) :
    (t.keepListening f).armWindows.radio.child i = some b ∧
      ∀ j, j ≠ i → (t.keepListening f).armWindows.radio.child j = (d.keepListening f).radio.child j := by
  rw [Device.armWindows_radio]
  refine ⟨?_, fun j other => Device.keepListening_child_congr f j touched.conf touched.phy (touched.others j other)⟩
  simp [Device.keepListening_child, entry, closed]

/-- A fresh contact frame of child i and the ACK to it, but for what is special to the frame's type (R364, R366 to R368). -/
structure Device.Contacted (t s : Device) (i : Nat) (x : Heard) (c b : Child) (n : Nat) : Prop where
  entry : t.radio.child i = some b
  every : b.contactEvery = c.contactEvery
  phy : b.phy = c.phy
  eui : b.eui = c.eui
  missRun : b.missRun = 0
  search : b.search = false
  searchLevel : b.searchLevel = 0
  closed : b.windowOpen = false
  lastFrame : b.lastFrame = s.land.tick
  tSync : b.tSync = x.frame.sfd / 64
  least : c.contactEvery * 32768 - c.contactEvery * 32768 / 64 ≤ n
  most : n ≤ c.contactEvery * 32768 + c.contactEvery * 32768 / 64
  tExp : b.tExp = expectAt (64 * (x.frame.txSfd : Int)) n b.d
  nextCh : b.nextCh < max 1 s.radioP.chCount
  touched : t.Touched s i

/-- `u` stands for the contact itself with what is special to its type, so far as that leaves the neighbour table alone. -/
theorem Device.ackChild_contacted {s u : Device} {i : Nat} {x : Heard} {c : Child} (entry : s.radio.child i = some c)
    (kids : u.Kids ((s.childContact i x.frame x.hdr).childBegin i x)) (calm : u.Calm ((s.childContact i x.frame x.hdr).childBegin i x)) :
    ∃ b n, (u.ackChild i x.fcnt 0 noTime x.frame.txSfd).Contacted s i x c b n := by
  obtain ⟨b, met, missRun, level, search, closed, last, sync, eui, every, phy, -, others⟩ :=
    s.childContact_spec i x.frame x.hdr c entry
  have kids' := kids.trans (Device.childBegin_kids ..)
  have calm' := (calm.trans (Device.childBegin_calm ..)).trans (Device.childContact_calm ..)
  obtain ⟨n, ch, least, most, bound, planned, others'⟩ :=
    u.ackChild_spec i x.fcnt 0 noTime x.frame.txSfd b ((Device.child_of_kids kids' i).trans met)
  rw [every] at least most
  refine ⟨_, n, planned, every, phy, eui, missRun, search, level, closed, last, sync, least, most, rfl, ?_, ?_, ?_, ?_⟩
  · rw [Device.radioP, ← calm'.1]
    exact bound
  · exact (Device.ackChild_calm ..).1.trans calm'.1
  · exact (Device.ackChild_phy ..).trans (kids'.2.2.1.trans (s.childContact_phy ..))
  · exact fun j other => (others' j other).trans ((Device.child_of_kids kids' j).trans (others j other))

theorem Hears.header {d : Device} {f : RxFrame} {typ : Nat} {p : AirParts} {l : Link} {m : Bytes} (h : Hears d f typ p l m) :
    p.hdr.typ = typ ∧ d.linkOf p.hdr = some l := by
  obtain ⟨-, -, -, -, -, typ, -, -, link, -⟩ := h
  exact ⟨typ, link⟩

/-- What the handler of a good fresh frame leaves in the table is what the command leaves. -/
theorem Device.airIn_touches {d : Device} {f : RxFrame} {typ : Nat} {p : AirParts} {l : Link} {m : Bytes} {mine : AirHeader → Bool}
    {h : Heard → Device → Device} (hears : Hears d f typ p l m) (fresh : IsFresh d p l) (row : mine p.hdr = true) {i : Nat} {b : Child}
    (touched : (h ⟨l, p.hdr, p.fcnt, m, true, f⟩ ((d.airClear.replay l (d.newUpper p.hdr) p.fcnt).2.count 1)).Touched d i)
    (entry : (h ⟨l, p.hdr, p.fcnt, m, true, f⟩ ((d.airClear.replay l (d.newUpper p.hdr) p.fcnt).2.count 1)).radio.child i = some b)
    (closed : b.windowOpen = false) :
    (d.airIn mine f h).radio.child i = some b ∧ ∀ j, j ≠ i → (d.airIn mine f h).radio.child j = (d.keepListening f).radio.child j := by
  rw [Device.airIn_fresh mine h hears fresh row]
  exact touched.listening f entry closed

/-- Of the radio, a command keeps what the handler of a good fresh frame leaves, but for the time to which windows listen. -/
theorem Device.airIn_radio {d : Device} {f : RxFrame} {typ : Nat} {p : AirParts} {l : Link} {m : Bytes} {mine : AirHeader → Bool}
    (h : Heard → Device → Device) (hears : Hears d f typ p l m) (fresh : IsFresh d p l) (row : mine p.hdr = true) :
    ∃ children, (d.airIn mine f h).radio =
      { (h ⟨l, p.hdr, p.fcnt, m, true, f⟩ ((d.airClear.replay l (d.newUpper p.hdr) p.fcnt).2.count 1)).radio with
        children := children } := by
  rw [Device.airIn_fresh mine h hears fresh row, Device.armWindows_radio]
  exact ⟨_, rfl⟩

/-! ## POLL and DATA of a child (R352, R364, R373) -/

/-- The device as a child's fresh frame finds it: its replay state moved, the frame counted. -/
theorem Device.replay_found (d : Device) {i : Nat} {c : Child} (entry : d.radio.child i = some c) (w : Bool) (n : Nat) :
    ∃ c', ((d.airClear.replay (.child i) w n).2.count 1).radio.child i = some c' ∧
      c'.contactEvery = c.contactEvery ∧ c'.phy = c.phy ∧ c'.eui = c.eui ∧
      ((d.airClear.replay (.child i) w n).2.count 1).Touched d i ∧
      ((d.airClear.replay (.child i) w n).2.count 1).radio.exch = d.radio.exch ∧
      ((d.airClear.replay (.child i) w n).2.count 1).land = d.land := by
  obtain ⟨h', b', n', found, others, frame⟩ := d.airClear.replay_child i n w c entry
  refine ⟨_, found, rfl, rfl, rfl, ⟨?_, ?_, others⟩, ?_, ?_⟩
  · rw [frame]; rfl
  · rw [frame]; rfl
  · rw [frame]; rfl
  · rw [frame]; rfl

theorem Device.linkOf_child {d : Device} {h : AirHeader} {i : Nat} (link : d.linkOf h = some (.child i)) : h.longSrc = false := by
  by_contra long
  rw [Bool.not_eq_false] at long
  simp only [Device.linkOf, long, if_true] at link
  split at link
  · split at link
    · split at link <;> simp at link
    · simp at link
  · split at link
    · split at link <;> simp at link
    · simp at link

theorem Device.linkOf_joiner {d : Device} {h : AirHeader} {eui : Nat} (link : d.linkOf h = some (.joiner eui)) :
    h.longSrc = true := by
  by_contra short
  rw [Bool.not_eq_true] at short
  simp only [Device.linkOf, short] at link
  split at link
  · split at link
    · split at link <;> simp at link
    · simp at link
  · split at link
    · simp only [Bool.false_eq_true, if_false] at link
      split at link
      · split at link <;> simp at link
      · split at link <;> simp at link
    · simp at link

theorem Device.onPoll_child (x : Heard) {s : Device} {i : Nat} (link : x.link = .child i) (ok : pollOk x.payload = true)
    (fresh : x.fresh = true) :
    s.onPoll x = (((s.setChild i fun c => { c with contactEvery := getU x.payload 0 4 }).childContact i x.frame x.hdr).childBegin i
      x).ackChild i x.fcnt 0 noTime x.frame.txSfd := by
  simp [Device.onPoll, Device.contactOf, link, ok, fresh]

theorem Device.onData_child (x : Heard) {s : Device} {i : Nat} {l : List RxItem} (link : x.link = .child i)
    (items : parseItems 40 x.payload = some l) (idle : s.radio.exch = none) (fresh : x.fresh = true) :
    s.onData x = (((s.childContact i x.frame x.hdr).childBegin i x).cacheDigest i l).ackChild i x.fcnt 0 noTime
      x.frame.txSfd := by
  simp [Device.onData, Device.contactOf, link, items, idle, fresh]

/-- The child's own digest among the items of a DATA frame is cached as fresh. -/
theorem Device.cacheDigest_caches (s : Device) (i : Nat) {l : List RxItem} {y : RxItem}
    (own : l.find? (fun (y : RxItem) => y.src == 0 && y.obj == 0x0EA4 && y.off == 0 && (y.bytes.map (·.length)) == some 64) = some y) :
    (s.cacheDigest i l).radio.digests.find? (·.child == i + 1) =
      some { child := i + 1, bytes := y.bytes.getD [], fresh := true, tick := s.land.tick } := by
  have before : (s.radio.digests.filter (·.child != i + 1)).find? (·.child == i + 1) = none := by
    rw [List.find?_eq_none]
    intro g mem
    simpa using (List.mem_filter.mp mem).2
  simp [Device.cacheDigest, own, List.find?_append, before]

/-- The ACK leaves the digest in the cache. -/
theorem Device.ackChild_caches (s : Device) (i fcnt status rel t : Nat) {l : List RxItem} {y : RxItem}
    (own : l.find? (fun (y : RxItem) => y.src == 0 && y.obj == 0x0EA4 && y.off == 0 && (y.bytes.map (·.length)) == some 64) = some y) :
    ∃ g, ((s.cacheDigest i l).ackChild i fcnt status rel t).radio.digests.find? (·.child == i + 1) = some g ∧
      g.bytes = y.bytes.getD [] ∧ g.fresh = true ∧ g.tick = s.land.tick := by
  obtain ⟨g, found, held⟩ := (Device.ackChild_carried (s.cacheDigest i l) i fcnt status rel t).cache (s.cacheDigest_caches i own)
  exact ⟨g, found, (congrArg Digest.bytes held :), (congrArg Digest.fresh held :), (congrArg Digest.tick held :)⟩

/-! ## A join POLL (R362, R363) -/

/-- A new entry as a join POLL makes it, before its contact. -/
def Child.joining (c : Child) (x : Heard) : Child :=
  { c with driftValid := false, d := 0, contactEvery := getU x.payload 0 4, phy := field (getU x.payload 4 1) 1 2 }

theorem Device.onJoin_accepts (x : Heard) {s : Device} {eui i : Nat} (link : x.link = .joiner eui) (channel : s.radio.joinOpen = true)
    (ok : pollOk x.payload = true) (unknown : s.radio.children.find? (·.eui == eui) = none) (free : s.radio.freeIdx = some i)
    (fits : s.joinFits (getU x.payload 0 4) = true) :
    s.onJoin x = (Device.journal { s with radio := { s.radio with children := s.radio.children ++ [newChild i eui x.fcnt] } } 0x503
      (i + 1) eui).joinOk i x := by
  simp [Device.onJoin, link, channel, ok, unknown, free, fits]

theorem Radio.freeIdx_free {r : Radio} {i : Nat} (free : r.freeIdx = some i) : r.child i = none := by
  simpa using List.find?_some free

/-- A new entry stands in its place, and the others in theirs. -/
theorem Radio.child_append {r : Radio} {c : Child} (free : r.child c.idx = none) (j : Nat) :
    ({ r with children := r.children ++ [c] } : Radio).child j = if j = c.idx then some c else r.child j := by
  unfold Radio.child at free ⊢
  rw [List.find?_append]
  split
  next here => subst here; simp [free]
  next other =>
    have none : [c].find? (·.idx == j) = none := by simp [Ne.symm other]
    rw [none, Option.or_none]

theorem Device.joinAnswer_kids (s : Device) (i : Nat) (x : Heard) : (s.joinAnswer i x).Kids (s.planChild i x.frame.txSfd).2.2 := by
  unfold Device.joinAnswer
  exact kids_ite ((Device.sendTodo_kids ..).trans ((Device.setExch_kids ..).trans (Device.joinReply_kids ..))) (Device.joinReply_kids ..)

/-- What the accepted join of a device leaves in its new entry (R362). -/
structure Device.Joined (t s : Device) (i eui : Nat) (x : Heard) (b : Child) : Prop where
  entry : t.radio.child i = some b
  eui : b.eui = eui
  every : b.contactEvery = getU x.payload 0 4
  phy : b.phy = field (getU x.payload 4 1) 1 2
  drift : b.driftValid = false
  missRun : b.missRun = 0
  closed : b.windowOpen = false
  tSync : b.tSync = x.frame.sfd / 64
  counted : t.radio.counters[11]? = (s.radio.counters[11]?).map satInc
  touched : t.Touched s i

theorem Device.joinOk_joins {s : Device} {i eui : Nat} {x : Heard} (entry : s.radio.child i = some (newChild i eui x.fcnt)) :
    ∃ b, (s.joinOk i x).Joined s i eui x b := by
  have made := Device.setChild_at (d := s.setChild i (·.joining x)) (·.heard x.frame x.hdr.timeReq s.land.tick)
    (Device.setChild_at (·.joining x) entry fun _ => rfl) fun _ => rfl
  have touched := (Device.setChild_touched (s.setChild i (·.joining x)) i (·.heard x.frame x.hdr.timeReq s.land.tick) fun _ => rfl).trans
    (s.setChild_touched i (·.joining x) fun _ => rfl)
  have steps : s.joinOk i x =
      (((s.setChild i (·.joining x)).setChild i (·.heard x.frame x.hdr.timeReq s.land.tick)).count 11).joinAnswer i x := rfl
  have same : ((s.setChild i (·.joining x)).setChild i (·.heard x.frame x.hdr.timeReq s.land.tick)).radio.counters =
    s.radio.counters := rfl
  rw [steps]
  generalize (s.setChild i (·.joining x)).setChild i (·.heard x.frame x.hdr.timeReq s.land.tick) = u at made touched same ⊢
  obtain ⟨n, ch, -, -, -, planned, others⟩ := (u.count 11).planChild_spec i x.frame.txSfd _ made
  have kids := (u.count 11).joinAnswer_kids i x
  refine ⟨_, (Device.child_of_kids kids i).trans planned, rfl, rfl, rfl, rfl, rfl, rfl, rfl, ?_, ?_⟩
  · rw [((u.count 11).joinAnswer_carried i x).joins, Device.count_radio_counters, getElem?_setAt_self, same]
  · exact ⟨((u.count 11).joinAnswer_calm i x).1.trans touched.conf,
      kids.2.2.1.trans (((u.count 11).planChild_phy ..).trans touched.phy),
      fun j other => (Device.child_of_kids kids j).trans ((others j other).trans (touched.others j other))⟩

/-- A device without an entry has no replay state. -/
theorem Device.replay_unknown {s : Device} {eui : Nat} (unknown : s.radio.children.find? (·.eui == eui) = none) (w : Bool) (n : Nat) :
    (s.replay (.joiner eui) w n).2 = s := by
  simp only [Device.replay, unknown]

/-- The join POLL of a device without an entry, on the join channel, with a free entry and room in the budget. -/
theorem Device.onJoin_joins {s : Device} {eui i : Nat} {x : Heard} (link : x.link = .joiner eui) (channel : s.radio.joinOpen = true)
    (ok : pollOk x.payload = true) (unknown : s.radio.children.find? (·.eui == eui) = none) (free : s.radio.freeIdx = some i)
    (fits : s.joinFits (getU x.payload 0 4) = true) : ∃ b, (s.onJoin x).Joined s i eui x b := by
  have places := Radio.child_append (r := s.radio) (c := newChild i eui x.fcnt) (Radio.freeIdx_free free)
  have kept := Device.journal_kids { s with radio := { s.radio with children := s.radio.children ++ [newChild i eui x.fcnt] } } 0x503
    (i + 1) eui
  have noted := Device.journal_carried { s with radio := { s.radio with children := s.radio.children ++ [newChild i eui x.fcnt] } } 0x503
    (i + 1) eui
  rw [Device.onJoin_accepts x link channel ok unknown free fits]
  obtain ⟨b, met⟩ := Device.joinOk_joins (x := x) (eui := eui) ((Device.child_of_kids kept i).trans ((places i).trans (if_pos rfl)))
  have before : (Device.journal { s with radio := { s.radio with children := s.radio.children ++ [newChild i eui x.fcnt] } } 0x503
      (i + 1) eui).Touched s i :=
    ⟨Device.journal_conf .., kept.2.2.1, fun j other => (Device.child_of_kids kept j).trans ((places j).trans (if_neg other))⟩
  exact ⟨b, { met with counted := by rw [met.counted, noted.joins], touched := met.touched.trans before }⟩

end Sys2Proof.Machine


namespace Sys2Proof
open Machine

/-- Settles O54: what stops before a handler leaves the radio, and a contact or a join touches the entry of its own child only. -/
theorem parentHearsItsChildren : Obligations.ParentHearsItsChildren := by
  intro dt f s d r hd hr
  subst hr
  refine ⟨fun x mine command => ?_, fun p m i c hears fresh entry ok => ?_, fun p m i c l hears fresh entry idle items => ?_,
    fun p m eui hears fresh => ⟨fun channel ok unknown fits i free => ?_, fun shut => ?_⟩⟩
  · obtain ⟨h, runs⟩ := receive_runs hd command
    refine ⟨fun deaf => ?_, fun heard ignored => ?_, fun heard plain k drops => ?_⟩
    · rw [runs, d.airIn_closed mine f h deaf]
    · have stops : (if f.modeSwitch then d.airClear else d.airClear.airFrameIn mine f h) = d.airClear := by
        rcases ignored with switch | ⟨good, p, parsed, version, low, high, ignored⟩
        · rw [switch, if_pos rfl]
        · rw [Device.airFrameIn_ignored (d := d.airClear) h good parsed version low high ignored, ite_self]
      obtain ⟨radio, planned⟩ := Device.airIn_stops mine h heard stops ⟨rfl, rfl⟩
      exact ⟨_, runs, radio, planned⟩
    · have stops : d.airClear.airFrameIn mine f h = d.airClear.count k := by
        rcases drops with ⟨bad, rfl⟩ | ⟨good, bad, rfl⟩ | ⟨good, ⟨p, l, parsed, version, row, link, entered, bad⟩, rfl⟩ |
          ⟨⟨p, l, m, hears, row, late⟩, rfl⟩
        · exact Device.airFrameIn_badFcs h bad
        · exact Device.airFrameIn_badHeader h good bad
        · obtain ⟨low, high⟩ := receive_types command row
          exact Device.airFrameIn_badMic (d := d.airClear) h good parsed version low high row link entered bad
        · obtain ⟨-, -, good, parsed, version, -, low, high, link, entered, key, keyed, opens⟩ := hears
          exact Device.airFrameIn_tooOld (d := d.airClear) h good parsed version low high row link entered keyed opens
            ((d.airClear_replay l _ p.fcnt).trans late)
      obtain ⟨radio, planned⟩ := Device.airIn_stops (u := d.airClear.count k) mine h heard (by rw [plain]; exact stops) ⟨rfl, rfl⟩
      exact ⟨_, runs, radio, planned⟩
  · obtain ⟨typ, link⟩ := Hears.header hears
    have long : p.hdr.longSrc = false := Device.linkOf_child link
    obtain ⟨c', found, -, phy, eui, before, -, land⟩ := d.replay_found entry (d.newUpper p.hdr) p.fcnt
    have given := Device.setChild_at (fun c => { c with contactEvery := getU m 0 4 }) found fun _ => rfl
    have before' := (Device.setChild_touched _ i (fun c => { c with contactEvery := getU m 0 4 }) fun _ => rfl).trans before
    obtain ⟨b, n, met⟩ := Device.ackChild_contacted (x := ⟨.child i, p.hdr, p.fcnt, m, true, f⟩) given (.refl _) (.refl _)
    rw [← Device.onPoll_child ⟨.child i, p.hdr, p.fcnt, m, true, f⟩ rfl ok rfl] at met
    obtain ⟨here, others⟩ := Device.airIn_touches (mine := fun h => h.typ == 1 && !h.longSrc) hears fresh (by simp [typ, long])
      (met.touched.trans before') met.entry met.closed
    obtain ⟨conf, led, -, -, -, lc, keys, tick, -⟩ := d.airIn_calm (fun h => h.typ == 1 && !h.longSrc) f Device.onPoll Device.onPoll_calm
    exact ⟨_, b, n, by rw [hd]; rfl, here, met.every, met.phy.trans phy, met.missRun, met.search, met.searchLevel, met.closed,
      met.lastFrame.trans (congrArg Landing.tick land), met.tSync, met.eui.trans eui, met.least, met.most, met.tExp,
      by rw [Device.radioP, ← before'.conf]; exact met.nextCh, others, conf, led, keys, lc, tick⟩
  · obtain ⟨typ, link⟩ := Hears.header hears
    obtain ⟨c', found, every, phy, eui, before, exch, land⟩ := d.replay_found entry (d.newUpper p.hdr) p.fcnt
    obtain ⟨b, n, met⟩ := Device.ackChild_contacted (x := ⟨.child i, p.hdr, p.fcnt, m, true, f⟩) found
      (Device.cacheDigest_kids _ i l) (Device.cacheDigest_calm _ i l)
    have handled := Device.onData_child ⟨.child i, p.hdr, p.fcnt, m, true, f⟩ rfl items (exch.trans idle) rfl
    rw [← handled] at met
    obtain ⟨here, others⟩ := Device.airIn_touches (mine := fun h => h.typ == 3) hears fresh (by simp [typ])
      (met.touched.trans before) met.entry met.closed
    obtain ⟨conf, led, -, -, -, lc, keys, tick, -⟩ := d.airIn_calm (fun h => h.typ == 3) f Device.onData Device.onData_calm
    refine ⟨_, b, by rw [hd]; rfl, here, met.missRun, met.search, met.closed, met.lastFrame.trans (congrArg Landing.tick land), met.tSync,
      met.every.trans every, met.eui.trans eui, fun y own => ?_, others, conf, led, keys, lc, tick⟩
    obtain ⟨children, radio⟩ := Device.airIn_radio (mine := fun h => h.typ == 3) Device.onData hears fresh (by simp [typ])
    obtain ⟨g, cached, bytes, new, at_tick⟩ := Device.ackChild_caches _ i p.fcnt 0 noTime f.txSfd own
    rw [radio, handled]
    obtain ⟨-, -, -, -, -, -, -, same, -⟩ := (Device.childBegin_calm ..).trans (Device.childContact_calm ..)
    exact ⟨g, cached, bytes, new, at_tick.trans (same.trans (congrArg Landing.tick land))⟩
  · obtain ⟨typ, link⟩ := Hears.header hears
    have row : (p.hdr.typ == 1 && p.hdr.longSrc && d.joinHeard f.chan) = true := by
      simp [typ, Device.linkOf_joiner link, channel]
    have known := Device.replay_unknown (s := d.airClear) unknown (d.newUpper p.hdr) p.fcnt
    simp only [Device.joinHeard, Bool.and_eq_true] at channel
    obtain ⟨b, met⟩ := Device.onJoin_joins (s := d.airClear.count 1) (x := ⟨.joiner eui, p.hdr, p.fcnt, m, true, f⟩) rfl channel.1 ok
      unknown free fits
    obtain ⟨here, others⟩ := Device.airIn_touches (mine := fun h => h.typ == 1 && h.longSrc && d.joinHeard f.chan) hears fresh row
      (by rw [known]; exact met.touched.trans ⟨rfl, rfl, fun _ _ => rfl⟩) (by rw [known]; exact met.entry) met.closed
    obtain ⟨children, radio⟩ := Device.airIn_radio (mine := fun h => h.typ == 1 && h.longSrc && d.joinHeard f.chan) Device.onJoin hears
      fresh row
    obtain ⟨conf, led, -, -, -, lc, keys, tick, -⟩ := d.airIn_calm (fun h => h.typ == 1 && h.longSrc && d.joinHeard f.chan) f
      Device.onJoin Device.onJoin_calm
    have counted := met.counted.trans (congrArg (Option.map satInc) (d.airClear.count_carried (by decide)).joins)
    exact ⟨_, b, by rw [hd]; rfl, here, met.eui, met.every, met.phy, met.drift, met.missRun, met.tSync, by rw [radio, known]; exact counted,
      others, conf, led, keys, lc, tick⟩
  · obtain ⟨typ, link⟩ := Hears.header hears
    obtain ⟨heard, plain, good, parsed, version, -⟩ := hears
    have stops := Device.airFrameIn_ignored (d := d.airClear) (mine := fun h => h.typ == 1 && h.longSrc && d.joinHeard f.chan)
      Device.onJoin good parsed version (by omega) (by omega) (.inl (by simp [shut]))
    obtain ⟨radio, planned⟩ := Device.airIn_stops (u := d.airClear) _ Device.onJoin heard (by rw [stops, ite_self]) ⟨rfl, rfl⟩
    refine ⟨_, by rw [hd]; rfl, by rw [radio]; rfl, fun j => ?_, by rw [radio]; rfl, planned⟩
    rw [radio, Device.keepListening_child, Option.isSome_map]
    rfl

end Sys2Proof

/-! SUPPORT. What a decided record does to a note in reassembly, to the tick, and to REC_STATUS (R356, R441, R450, R458). -/

namespace Sys2Proof.Machine

/-! ## No record begins a reassembly -/

/-- Where `s` has no note in reassembly, `t` has none. -/
def Device.Idles (t s : Device) : Prop := s.radio.reasm = none → t.radio.reasm = none

theorem Device.Idles.refl (s : Device) : s.Idles s := id

theorem Device.Idles.trans {a b c : Device} (h : a.Idles b) (k : b.Idles c) : a.Idles c := h ∘ k

theorem Device.Idles.of_radio {t s : Device} (same : t.radio = s.radio) : t.Idles s := by
  unfold Device.Idles
  rw [same]
  exact id

theorem idles_ite {c : Prop} [Decidable c] {a b s : Device} (h : a.Idles s) (k : b.Idles s) : (if c then a else b).Idles s := by
  split <;> assumption

theorem foldl_idles {α : Type} (f : Device → α → Device) (h : ∀ s a, (f s a).Idles s) (l : List α) (s : Device) :
    (l.foldl f s).Idles s := by
  induction l generalizing s with
  | nil => exact .refl s
  | cons a l ih => rw [List.foldl_cons]; exact (ih _).trans (h s a)

theorem Device.Laned.idles {t s : Device} (h : t.Laned s) : t.Idles s := .of_radio (by rw [h.rest])

theorem Device.Booked.idles {t s : Device} (h : t.Booked s) : t.Idles s := .of_radio h.radio

theorem Device.journal_idles (s : Device) (code a b : Nat) : (s.journal code a b).Idles s := (s.journal_booked ..).idles

theorem Device.arm_idles (s : Device) (i t : Nat) (e : Bool) : (s.arm i t e).Idles s := (s.arm_laned ..).idles

theorem Device.disarm_idles (s : Device) (i : Nat) : (s.disarm i).Idles s := (s.disarm_laned i).idles

theorem Device.tamper_idles (s : Device) (k : Nat) : (s.tamper k).Idles s := (s.tamper_booked k).idles

/-! ## Functions -/

theorem Radio.clear_reasm (r : Radio) : r.clear.reasm = none := Radio.dropReasm_reasm _

theorem Device.resetFunc_idles (s : Device) (k : Func) : (s.resetFunc k).Idles s := by
  cases k with
  | ferryman => exact fun _ => s.radio.clear_reasm
  | _ => exact .refl s

theorem Device.setFunc_idles (s : Device) (k : Func) (v : FuncState) : (s.setFunc k v).Idles s := by
  have stops (x : Device) : (x.stopping k).Idles x := by
    cases k <;> exact .refl x
  exact idles_ite (.trans (Device.resetFunc_idles _ _) (.refl s)) (idles_ite (.trans (stops _) (.refl s)) (.refl s))

theorem Device.bounceIf_idles (s : Device) (b : Bool) (k : Func) : (s.bounceIf b k).Idles s :=
  idles_ite (idles_ite ((Device.setFunc_idles _ _ _).trans (s.setFunc_idles _ _)) (.refl s)) (.refl s)

theorem Device.applyFunctions_idles (s : Device) : s.applyFunctions.Idles s := by
  rw [Device.applyFunctions]
  exact foldl_idles Device.wantStep (fun x k => idles_ite (x.setFunc_idles _ _) (x.setFunc_idles _ _)) allFuncs s

/-! ## Schedules and tables -/

theorem Device.contactAt_idles (s : Device) (t : Nat) : (s.contactAt t).Idles s :=
  .trans (Device.arm_idles _ _ _ _) (.refl s)

theorem Device.startContacts_idles (s : Device) : s.startContacts.Idles s :=
  idles_ite (idles_ite (s.contactAt_idles _) (s.draw.2.contactAt_idles _)) (.refl s)

theorem Device.wmStart_idles (s : Device) : s.wmStart.Idles s :=
  idles_ite (.trans (Device.arm_idles _ _ _ _) (.refl s)) (.refl s)

theorem Device.planRadio_idles (s : Device) : s.planRadio.Idles s := by
  have contacts : (if s.radio.role = 0 ∧ s.armed 6 = true then s.disarm 6 else s.startContacts).Idles s :=
    idles_ite (s.disarm_idles 6) s.startContacts_idles
  exact (Device.Idles.of_radio (Device.armWindows_radio _)).trans
    ((idles_ite (Device.disarm_idles _ _) (Device.wmStart_idles _)).trans contacts)

theorem Device.armRefresh_idles (s : Device) : s.armRefresh.Idles s := idles_ite (s.disarm_idles 5) (Device.arm_idles _ _ _ _)

theorem Device.displayRetable_idles (s : Device) : s.displayRetable.Idles s := by
  have tables : s.displayTables.Idles s := by
    unfold Device.displayTables
    extract_lets p s1
    have told : (if p.2 = 0 then s1 else s1.journal 0x703 p.2 0).Idles s1 := idles_ite (.refl s1) (s1.journal_idles _ _ _)
    exact told
  exact idles_ite (.refl s) tables

theorem Device.tablesGone_idles (s : Device) : s.tablesGone.Idles s := idles_ite s.displayRetable_idles (.refl s)

/-! ## A commit of the configuration (R541) -/

theorem Device.hwPump_radio (s : Device) : s.hwPump.radio = s.radio := by
  have asks (x : Device) (r : LoopRun) : (x.loopAsk r).radio = x.radio := by
    unfold Device.loopAsk
    split <;> rfl
  have loops (x : Device) : x.loopPump.radio = x.radio := by
    unfold Device.loopPump
    split
    · rfl
    · split
      · split
        · exact asks ..
        · rfl
      · split
        · exact asks ..
        · rfl
  unfold Device.hwPump
  split
  · rfl
  · split
    · exact Device.hwAsk_radio ..
    · split
      · exact Device.hwAsk_radio ..
      · exact loops _

theorem Device.ageRecompute_idles (s : Device) : s.ageRecompute.Idles s := by
  unfold Device.ageRecompute
  split
  · exact .refl s
  · split
    · extract_lets a n e c beyond tb tr s1 s2
      have clamped : s2.Idles s := idles_ite (s1.journal_idles _ _ _) (.refl s)
      exact idles_ite ((Device.Idles.of_radio (Device.hwPump_radio _)).trans clamped) clamped
    · exact .refl s

theorem Device.calibTest_idles (s : Device) : s.calibTest.Idles s :=
  idles_ite (.trans (Device.journal_idles _ _ _ _) (.refl s)) (.refl s)

theorem Device.fallDue_idles (s : Device) : s.fallDue.Idles s := by
  unfold Device.fallDue
  split
  · extract_lets ks cap temp s1 s2
    have armed : s2.Idles s := s1.arm_idles _ _ _
    exact idles_ite armed armed
  · exact .refl s

theorem Device.tempRule_idles (s : Device) : s.tempRule.Idles s :=
  idles_ite (idles_ite s.fallDue_idles (s.arm_idles _ _ _)) (.refl s)

theorem Device.startMetering_idles (s : Device) : s.startMetering.Idles s := by
  have ended : (s.endFlowFault s.land.tick).Idles s := idles_ite (s.bringUp_laned _).idles (.refl s)
  exact (Device.arm_idles _ _ _ _).trans ended

theorem Device.armWake_idles (s : Device) : s.armWake.Idles s := by
  unfold Device.armWake
  split
  · exact idles_ite (s.arm_idles _ _ _) (.refl s)
  · exact .refl s

theorem Device.recommitA_idles (s : Device) (old : Conf) : (s.recommitA old).Idles s := by
  have shots : (s.shotChanged old).Idles s := idles_ite (.refl s) (.refl s)
  have wake := (Device.armWake_idles _).trans (idles_ite (c := old.g.shot ≠ s.conf.g.shot) shots (.refl s))
  exact idles_ite wake wake

theorem Device.recommitB_idles (s : Device) (o n : Groups) : (s.recommitB o n).Idles s := by
  have radio : (if o.radio ≠ n.radio ∨ o.phy ≠ n.phy then s.initRadio else s).Idles s := idles_ite (.refl s) (.refl s)
  have role (x : Device) : x.initRole.Idles x := idles_ite (.refl x) (.refl x)
  exact idles_ite ((role _).trans radio) radio

theorem Device.recommitT_idles (s : Device) (o n : Groups) : (s.recommitT o n).Idles s := by
  have units : (if o.wiring ≠ n.wiring ∨ o.install ≠ n.install ∨ o.medium ≠ n.medium then s.useUnits.checkFlag else s).Idles s :=
    idles_ite (.refl s) (.refl s)
  have bridge (x : Device) : x.dropBridge.Idles x := idles_ite (.refl x) (.refl x)
  exact (bridge _).trans units

theorem Device.recommitC_idles (s : Device) (old new : Conf) : (s.recommitC old new).Idles s :=
  idles_ite (.refl s) (idles_ite ((Device.armRefresh_idles _).trans s.displayRetable_idles) (s.disarm_idles 5))

theorem Device.recommitD_idles (s : Device) (o n : Groups) : (s.recommitD o n).Idles s := by
  rw [Device.recommitD]
  exact (Device.applyFunctions_idles _).trans
    (foldl_idles (fun (x : Device) (r : Bool × Func) => x.bounceIf r.1 r.2) (fun x r => x.bounceIf_idles r.1 r.2) _ s)

theorem Device.recommitE_idles (s : Device) (was : Bool) (o n : Groups) : (s.recommitE was o n).Idles s := by
  unfold Device.recommitE
  extract_lets s1
  have metering : s1.Idles s := idles_ite s.startMetering_idles (.refl s)
  exact idles_ite ((Device.tempRule_idles _).trans ((Device.arm_idles _ _ _ _).trans metering)) metering

theorem Device.applyCommit_idles (s : Device) (old : Conf) : (s.applyCommit old).Idles s := by
  unfold Device.applyCommit
  extract_lets o n was s0 s1
  have paths : s0.Idles s := idles_ite (idles_ite (.refl s) (.refl s)) (idles_ite (.refl s) (.refl s))
  have blocks : s1.Idles s0 :=
    (Device.recommitC_idles _ _ _).trans ((Device.recommitT_idles _ _ _).trans ((Device.recommitB_idles _ _ _).trans
      (s0.recommitA_idles old)))
  exact (Device.recond_laned _).idles.trans ((Device.planRadio_idles _).trans ((Device.recommitE_idles _ _ _ _).trans
    ((Device.recommitD_idles _ _ _).trans (blocks.trans paths))))

/-! ## Wipes (R458) -/

theorem Device.rearmBoundary_idles (s : Device) : s.rearmBoundary.Idles s := idles_ite (.refl s) (s.armBoundary_laned).idles

theorem Device.builtInCalendar_idles (s : Device) : s.builtInCalendar.Idles s := by
  unfold Device.builtInCalendar
  extract_lets t d _ _ s1 s2 _
  have realigned : s2.Idles s := .trans (idles_ite (Device.armRefresh_idles _) (.refl _)) (.refl s)
  have tariff (b : Bill) : (Device.tariffStep { s2 with bill := b } t).Idles s2 := .refl s2
  exact idles_ite ((Device.armBoundary_laned _).idles.trans ((tariff _).trans realigned)) realigned

theorem Device.wipe4_idles (s : Device) : s.wipe4.Idles s := by
  unfold Device.wipe4
  extract_lets _ _ _ _ _ _ _ s1 s2
  have cleared : s2.Idles s := fun _ => rfl
  exact (foldl_idles Device.disarm Device.disarm_idles _ _).trans cleared

theorem Device.wipe5_idles (s : Device) : s.wipe5.Idles s := by
  unfold Device.wipe5
  extract_lets _ _ _ _ s1 s2
  have gone : s2.Idles s := (Device.tablesGone_idles _).trans (.trans (Device.builtInCalendar_idles _) (.refl s))
  exact idles_ite ((Device.recond_laned _).idles.trans ((Device.applyFunctions_idles _).trans ((Device.calibTest_idles _).trans gone))) gone

theorem Device.wipe2_idles (s : Device) : s.wipe2.Idles s := by
  unfold Device.wipe2
  extract_lets t s1
  exact idles_ite (.trans (Device.journal_idles _ _ _ _) (.refl s)) (.refl s)

theorem Device.flushEvents_idles (s : Device) : s.flushEvents.Idles s :=
  .trans (foldl_idles Device.journalLand (fun x e => (x.journalLand_booked e).idles) _ _) (.refl s)

theorem Device.wipe7_idles (s : Device) : s.wipe7.Idles s := by
  have held (x : Device) : x.corrHold.Idles x := idles_ite (.refl x) (.refl x)
  have told (x : Device) (code a b : Nat) : (x.landEvent code a b).Idles x :=
    idles_ite (.trans (Device.flushEvents_idles _) (.refl x)) (.refl x)
  exact idles_ite ((told _ _ _ _).trans (.trans (held _) (.refl s))) (.refl s)

theorem Device.wipeClass_idles (s : Device) (scrap : Bool) (mask n : Nat) : (s.wipeClass scrap mask n).Idles s := by
  unfold Device.wipeClass
  split
  · split
    · exact .refl s
    · exact s.wipe2_idles
    · exact .refl s
    · exact s.wipe4_idles
    · exact s.wipe5_idles
    · exact .refl s
    · exact s.wipe7_idles
    · exact .refl s
  · exact .refl s

theorem Device.wipe_idles (s : Device) (mask : Nat) (scrap : Bool) : (s.wipe mask scrap).Idles s := by
  unfold Device.wipe
  extract_lets s0 _ s1 s2
  have begun : s0.Idles s := ((Device.bringUp_laned ..).trans s.boundaryFirst_laned).idles
  have told : s1.Idles s0 := .trans (Device.journal_idles _ _ _ _) (.refl s0)
  have wiped : s2.Idles s1 := foldl_idles (fun (x : Device) (n : Nat) => x.wipeClass scrap mask n) (fun x n => x.wipeClass_idles scrap mask n) _ _
  have seeds (x : Device) : x.reseed.Idles x := by
    unfold Device.reseed
    extract_lets x1 st x2
    have seeded : x2.Idles x := .trans (.refl x1) (x.seedSched_laned _).idles
    exact idles_ite ((Device.rearmBoundary_idles _).trans seeded) seeded
  have seeded : (s2.wipeSeed mask).Idles s2 := idles_ite (seeds s2) (.refl s2)
  exact (Device.recond_laned _).idles.trans (seeded.trans (wiped.trans (told.trans begun)))

/-! ## An accepted record -/

theorem Device.transit_idles (s : Device) (a b : Nat) : (s.transit a b).Idles s := by
  unfold Device.transit
  extract_lets m s1 s2
  have moved : s1.Idles s := (Device.tamper_idles _ _).trans ((Device.journal_idles _ _ _ _).trans (idles_ite (.refl s) (s.wipe_idles _ _)))
  exact idles_ite moved (idles_ite moved moved)

theorem Device.applyCalib_idles (s : Device) (r : Rec) : (s.applyCalib r).Idles s := by
  unfold Device.applyCalib
  extract_lets c old _ s1 s2 s3
  have stored : s1.Idles s := .refl s
  have aged : s2.Idles s := idles_ite (s1.ageRecompute_idles.trans stored) stored
  have tested : s3.Idles s := idles_ite aged (s2.calibTest_idles.trans aged)
  exact idles_ite ((s3.applyCommit_idles old).trans tested) tested

theorem Device.applyExpert_idles (s : Device) (r : Rec) : (s.applyExpert r).Idles s := by
  unfold Device.applyExpert
  extract_lets old g p _ s1
  have stored : s1.Idles s := .refl s
  exact idles_ite ((s1.applyCommit_idles old).trans stored) stored

theorem Device.applyCalendar_idles (s : Device) (r : Rec) : (s.applyCalendar r).Idles s := by
  unfold Device.applyCalendar
  extract_lets c _ s1
  have stored : s1.Idles s := .trans (Device.journal_idles _ _ _ _) (.refl s)
  exact idles_ite (s1.rearmBoundary_idles.trans stored) stored

theorem Device.applyRadioKeys_idles (s : Device) (b : Bytes) : (s.applyRadioKeys b).Idles s := by
  unfold Device.applyRadioKeys
  extract_lets k _ s1
  have fresh : s1.Idles s := .refl s
  exact (Device.planRadio_idles _).trans (idles_ite ((s1.tamper_idles 22).trans fresh) fresh)

theorem Device.displayRequest_idles (s : Device) (page : Nat) (full : Bool) (hold : Nat) : (s.displayRequest page full hold).Idles s := by
  have composed (x : Device) : (x.displayCompose full 1).Idles x := by
    unfold Device.displayCompose
    dsimp only
    split <;> exact .of_radio (by simp)
  have refused : s.budgetRefused.Idles s := idles_ite (.refl s) (.trans (Device.journal_idles _ _ _ _) (.refl s))
  exact idles_ite (.refl s) (idles_ite (.trans (composed _) (.refl s)) refused)

theorem Device.applyRec_idles (s : Device) (r : Rec) : (s.applyRec r).Idles s := by
  unfold Device.applyRec
  dsimp only
  split
  · exact .trans (Device.transit_idles _ _ _) (.refl s)
  · exact .trans (Device.planRadio_idles _) (.refl s)
  · exact idles_ite (.trans (Device.tamper_idles _ _) (.refl s)) (.refl s)
  · exact s.transit_idles _ _
  · exact s.applyCalib_idles r
  · exact s.applyExpert_idles r
  · exact s.applyCalendar_idles r
  · exact idles_ite (.refl s) (.refl s)
  · exact idles_ite (.refl s) (.refl s)
  · exact s.applyRadioKeys_idles _
  · exact s.displayRequest_idles _ _ _
  · exact s.wipe_idles _ _
  · exact .refl s

/-! ## A decided record -/

theorem Device.transitionEnd_idles (s : Device) : s.transitionEnd.Idles s := by
  have begun : (s.holdBegin false).Idles s := by
    unfold Device.holdBegin
    split
    · exact (Device.resetFunc_idles _ _).trans (.trans (Device.resetFunc_idles _ _) fun _ => Radio.dropReasm_reasm _)
    · exact .refl s
  exact begun

theorem Device.decideRec_idles (s : Device) (p : RecPath) (b : Bytes) : (s.decideRec p b).2.Idles s := by
  have judged (x : Device) (cause : Nat) : (x.verdict p (recOf b) cause).Idles x := .of_radio (x.verdict_filed p (recOf b) cause).radio
  unfold Device.decideRec
  extract_lets r cause s1 s2
  have applied : s1.Idles s := (Device.applyRec_idles _ r).trans (s.taken_booked r).idles
  have answered : s2.Idles s := (judged s1 0).trans applied
  split
  · exact idles_ite (s2.transitionEnd_idles.trans answered) answered
  · exact judged s cause

/-! ## The tick -/

theorem Device.Same.tick {t s : Device} (h : t.Same s) : t.land.tick = s.land.tick := by
  obtain ⟨-, -, -, -, -, tick, -⟩ := h
  exact tick

theorem Device.wipeClass_tick (s : Device) (scrap : Bool) (mask n : Nat) : (s.wipeClass scrap mask n).land.tick = s.land.tick := by
  have timed : s.wipe7.land.tick = s.land.tick := by
    unfold Device.wipe7
    split
    · simp
    · rfl
  unfold Device.wipeClass
  split
  · split <;> simp [timed]
  · rfl

theorem Device.wipe_tick (s : Device) (mask : Nat) (scrap : Bool) : (s.wipe mask scrap).land.tick = s.land.tick := by
  have wiped (l : List Nat) (x : Device) : (l.foldl (fun (x : Device) (n : Nat) => x.wipeClass scrap mask n) x).land.tick = x.land.tick := by
    induction l generalizing x with
    | nil => rfl
    | cons n l ih => exact (ih _).trans (x.wipeClass_tick scrap mask n)
  have told (x : Store) := Device.Same.tick (Device.journal_same { s.boundaryFirst.bringUp s.land.tick with store := x } 0x804 mask
    s.sec.lc.code)
  have begun := Device.Same.tick ((Device.bringUp_same s.boundaryFirst s.land.tick).trans s.boundaryFirst_same)
  exact (Device.Same.tick ((Device.recond_same _).trans (Device.wipeSeed_same _ mask))).trans ((wiped _ _).trans ((told _).trans begun))

theorem Device.transit_tick (s : Device) (a b : Nat) : (s.transit a b).land.tick = s.land.tick := by
  unfold Device.transit
  extract_lets m s1 s2
  have wiped : (if m = 0 then s else s.wipe m (b == 5)).land.tick = s.land.tick := by
    split
    · rfl
    · exact s.wipe_tick ..
  have moved : s1.land.tick = s.land.tick :=
    (Device.Same.tick ((Device.tamper_same ..).trans (Device.journal_same ..))).trans wiped
  split
  · exact moved
  · split
    · exact moved
    · exact moved

theorem Device.applyRec_tick (s : Device) (r : Rec) : (s.applyRec r).land.tick = s.land.tick := by
  unfold Device.applyRec
  dsimp only
  split
  · exact Device.transit_tick _ 0 1
  · exact Device.Same.tick (s.applyIdentity_same _)
  · exact Device.Same.tick (s.applyKeys_same _)
  · exact s.transit_tick ..
  · exact Device.Same.tick (s.applyCalib_same r)
  · exact Device.Same.tick (s.applyExpert_same r)
  · exact Device.Same.tick (s.applyCalendar_same r)
  · exact Device.Same.tick (s.applyTimeSet_same _)
  · exact Device.Same.tick (s.applyRadioCfg_same _)
  · exact Device.Same.tick (s.applyRadioKeys_same _)
  · exact Device.Same.tick (s.displayRequest_same ..)
  · exact s.wipe_tick ..
  · rfl

/-! ## The verdict (R450) -/

/-- What REC_STATUS says of a verdict beside its cause: when, of what type, and by which path. -/
def Verdict.mark (v : Verdict) : Nat × Nat × Bool := (v.tick, v.recType, v.air)

theorem Device.verdict_marked (s : Device) (p : RecPath) (r : Rec) (cause : Nat) :
    (s.verdict p r cause).sec.verdicts.head?.map Verdict.mark = some (s.land.tick, r.typ, p == .air) := by
  unfold Device.verdict
  extract_lets named v _ s1 s2 s3 s4
  have entered : s1.sec.verdicts.head?.map Verdict.mark = some (s.land.tick, r.typ, p == .air) := rfl
  have told : s2.sec.verdicts = s1.sec.verdicts := congrArg Security.verdicts (Device.journal_sec ..)
  have counted : s3.sec.verdicts = s1.sec.verdicts := by
    simp only [s3]
    split
    · exact (s2.tamper_verdicts 11).trans told
    · split
      · exact (s2.tamper_verdicts 12).trans told
      · exact told
  have refused : s4.sec.verdicts = s1.sec.verdicts := by
    simp only [s4]
    split <;> exact counted
  split
  · rw [Device.journal_sec, entered]
  · split
    · rw [Device.refuse_sec, refused, entered]
    · split
      · rw [Device.refuse_sec, refused, entered]
      · rw [refused, entered]

/-- Whatever is decided of a record, its verdict is the latest of REC_STATUS. -/
theorem Device.decideRec_marked (s : Device) (p : RecPath) (b : Bytes) :
    (s.decideRec p b).2.sec.verdicts.head?.map Verdict.mark = some (s.land.tick, (recOf b).typ, p == .air) ∧
      (s.decideRec p b).2.land.tick = s.land.tick := by
  unfold Device.decideRec
  extract_lets r cause s1 s2
  have applied : s1.land.tick = s.land.tick := (Device.applyRec_tick _ r).trans (congrArg Landing.tick (s.taken_land r))
  have answered : s2.land.tick = s.land.tick := (Device.Same.tick (s1.verdict_same p r 0)).trans applied
  have marked : s2.sec.verdicts.head?.map Verdict.mark = some (s.land.tick, r.typ, p == .air) := by
    rw [s1.verdict_marked p r 0, applied]
  split
  · split
    · exact ⟨by rw [Device.transitionEnd_verdicts, marked], (Device.Same.tick s2.holdStart_same).trans answered⟩
    · exact ⟨marked, answered⟩
  · exact ⟨s.verdict_marked p r cause, Device.Same.tick (s.verdict_same p r cause)⟩

end Sys2Proof.Machine

/-! SUPPORT. What the lower side does with the frames of its upper side (R353, R355 to R357, R359, R369, R371, R372). -/

namespace Sys2Proof.Machine

/-! ## A good fresh frame of the upper side -/

theorem Device.Planned.leaves {t s : Device} (h : t.Planned s) : t.refusals = s.refusals ∧ t.sec = s.sec ∧ t.conf = s.conf ∧
    t.toll.led = s.toll.led ∧ t.land.tick = s.land.tick ∧ t.land.pendSet = s.land.pendSet := by
  obtain ⟨rest, land⟩ := h
  rw [rest, land]
  exact ⟨rfl, rfl, rfl, rfl, rfl, rfl⟩

/-- The exchange once frame `hdr` of the upper side has joined it. -/
def Exchange.heard (e : Exchange) (hdr : AirHeader) : Exchange :=
  { e with frames := e.frames + 1, theirPending := hdr.pending, key := hdr.keyId }

/-- The device once frame `hdr` of the upper side has joined exchange `e`, with the link's replay state after it. -/
def Device.heardUp (d : Device) (e : Exchange) (hdr : AirHeader) (h b : Nat) : Device :=
  { d with radio := { d.radio with
      out := [], outCh := [], upSeen := true, upH := h, upBitmap := b, counters := setAt d.radio.counters 1 satInc
      exch := some (e.heard hdr) } }

theorem Device.linkOf_up {d : Device} {h : AirHeader} (link : d.linkOf h = some .up) : ∃ e, d.radio.exch = some e ∧ e.peer = .up := by
  unfold Device.linkOf at link
  dsimp only at link
  split at link
  · split at link
    next e exch =>
      split at link
      next mine => exact ⟨e, exch, mine.1⟩
      next => cases link
    next => cases link
  · split at link
    · split at link
      · split at link <;> cases link
      · split at link
        · split at link <;> cases link
        · split at link <;> cases link
    · cases link

/-- A frame as its handler takes it from the upper side. -/
def fromUpper (p : AirParts) (m : Bytes) (f : RxFrame) : Heard := ⟨.up, p.hdr, p.fcnt, m, true, f⟩

/-- What a command does with a good fresh frame of the upper side: `s` is the device as the handler finds it. -/
structure Device.Hands (d : Device) (f : RxFrame) (p : AirParts) (m : Bytes) (mine : AirHeader → Bool) (h : Heard → Device → Device)
    (s : Device) (e : Exchange) (n b : Nat) (key : Bytes) : Prop where
  radio : ∃ children, (d.airIn mine f h).radio = { (h (fromUpper p m f) s).radio with children := children }
  planned : (d.airIn mine f h).Planned (h (fromUpper p m f) s)
  found : s = { d with radio := { d.radio with
    out := [], outCh := [], upSeen := true, upH := n, upBitmap := b, counters := setAt d.radio.counters 1 satInc } }
  joined : s.gotIn (fromUpper p m f) = d.heardUp e p.hdr n b
  exch : d.radio.exch = some e
  peer : e.peer = .up
  keyed : d.netKey true p.hdr.keyId = some key

theorem Device.airIn_hands {d : Device} {f : RxFrame} {typ : Nat} {p : AirParts} {m : Bytes} (hears : Hears d f typ p .up m)
    (fresh : IsFresh d p .up) (mine : AirHeader → Bool) (h : Heard → Device → Device) (row : mine p.hdr = true) :
    ∃ s e n b key, d.Hands f p m mine h s e n b key := by
  obtain ⟨e, exch, peer⟩ := Device.linkOf_up (Hears.header hears).2
  have handed := Device.airIn_fresh mine h hears fresh row
  have radio := Device.airIn_radio h hears fresh row
  obtain ⟨n, b, accepted⟩ := fresh
  obtain ⟨-, -, -, -, -, -, -, -, -, -, key, keyed, -⟩ := hears
  have found : (d.airClear.replay .up (d.newUpper p.hdr) p.fcnt).2.count 1 = { d with radio := { d.radio with
      out := [], outCh := [], upSeen := true, upH := n, upBitmap := b, counters := setAt d.radio.counters 1 satInc } } := by
    have accepted' := (d.airClear_replay .up (d.newUpper p.hdr) p.fcnt).trans accepted
    simp only [Device.replay] at accepted' ⊢
    rw [accepted']
    rfl
  refine ⟨_, e, n, b, key, radio, ?_, found, ?_, exch, peer, keyed⟩
  · rw [handed]
    exact (Device.armWindows_planned _).trans ⟨rfl, rfl⟩
  · rw [found]
    simp only [Device.gotIn, Device.noted_up _ _ (show (fromUpper p m f).link = .up from rfl), exch]
    rfl

theorem Device.Hands.open {d : Device} {f : RxFrame} {p : AirParts} {m : Bytes} {mine : AirHeader → Bool} {h : Heard → Device → Device}
    {s : Device} {e : Exchange} {n b : Nat} {key : Bytes} (handed : d.Hands f p m mine h s e n b key) :
    (d.heardUp e p.hdr n b).netKey (decide ((e.heard p.hdr).peer = .up)) (e.heard p.hdr).key = some key := by
  have up : (e.heard p.hdr).peer = .up := handed.peer
  rw [up]
  exact handed.keyed

/-! ## Frames of this device in the exchange -/

section
variable {s : Device} {e : Exchange} (x : Sent) (payload : Bytes) (more : Bool) (exch : s.radio.exch = some e) {key : Bytes}
  (keyed : s.netKey (decide (e.peer = .up)) e.key = some key) (may : MaySend s) (room : e.frames + 1 ≤ s.phyP.exchMax)
include exch keyed may room

/-- One frame goes out under the next counter. -/
theorem Device.sendIn_made : (s.sendIn x payload more).radio.out.length = s.radio.out.length + 1 ∧
    (s.sendIn x payload more).radio.fcntTx = s.radio.fcntTx + 1 := by
  rcases Nat.lt_or_eq_of_le room with follows | last
  · obtain ⟨us, ch, b, stopped, pending, sent⟩ := Device.sendIn_sends x payload more exch keyed may follows
    rw [sent]
    exact ⟨by simp [Radio.transmitted], rfl⟩
  · obtain ⟨us, ch, b, stopped, pending, sent⟩ := Device.sendIn_ends x payload more exch keyed may last
    obtain ⟨queue, digests, reasm, est, tamper, ended⟩ := Radio.endExch_frame { s.radio.transmitted us ch b stopped with
      exch := some (e.advanced x s.radio.fcntTx b pending) }
    rw [sent, ended]
    exact ⟨by simp [Radio.transmitted], rfl⟩

theorem Device.ackUpper_made (fcnt status rel : Nat) : s.radio.out.length < (s.ackUpper fcnt status rel).radio.out.length := by
  have made := (Device.sendIn_made .ack (s.ackBytes fcnt status 0 0 rel) s.upMore exch keyed may room).1
  have after := (Device.afterAckUp_carried (s.sendIn .ack (s.ackBytes fcnt status 0 0 rel) s.upMore)).out
  rw [Device.ackUpper]
  omega

end

/-- While the upper side has announced a frame, its ACK leaves all to that frame. -/
theorem Device.ackUpper_waits {s : Device} {e : Exchange} {key : Bytes} (exch : s.radio.exch = some e)
    (keyed : s.netKey (decide (e.peer = .up)) e.key = some key) (may : MaySend s) (room : e.frames + 1 < s.phyP.exchMax)
    (pending : e.theirPending = true) (fcnt status rel : Nat) : (s.ackUpper fcnt status rel).radio.reasm = s.radio.reasm := by
  obtain ⟨us, ch, b, stopped, mine, sent⟩ :=
    Device.sendIn_sends .ack (s.ackBytes fcnt status 0 0 rel) s.upMore exch keyed may room
  have waits : (s.sendIn .ack (s.ackBytes fcnt status 0 0 rel) s.upMore).afterAckUp =
      s.sendIn .ack (s.ackBytes fcnt status 0 0 rel) s.upMore := by
    simp [Device.afterAckUp, sent, Exchange.advanced, pending]
  rw [Device.ackUpper, waits, sent]
  rfl

/-! ## ACK (R353, R361, R362) -/

/-- An ACK is heard: the run of orphan contacts ends. -/
def Device.ackHeard (s : Device) (x : Heard) : Device :=
  { s with radio := { s.radio with
      orphanRun := 0, rssiUp := clampS 8 x.frame.rssi, exch := s.radio.exch.map fun y => { y with answered := true } } }

/-- The next contact, where the ACK gives one. -/
def Device.ackPlanned (s : Device) (x : Heard) : Device :=
  if getU x.payload 6 4 = 0 then s
  else Device.contactAt { s with radio := { s.radio with nextCh := getU x.payload 10 1 } } (x.frame.sfd / 64 + getU x.payload 6 4)

/-- What the ACK says of the join. -/
def Device.ackMember (s : Device) (x : Heard) (e : Exchange) : Device :=
  let s1 := if e.sent = .join ∧ getU x.payload 4 1 = 8 then s.joined x else s
  if getU x.payload 4 1 = 10 then { s1 with radio := { s1.radio with link := 0, ownShort := 0xFFFF } } else s1

/-- The link after an ACK. -/
def Device.acked (s : Device) (x : Heard) (e : Exchange) : Device := (((s.gotIn x).ackHeard x).ackPlanned x).ackMember x e

theorem Device.ackUp_eq (s : Device) (x : Heard) (e : Exchange) :
    s.ackUp x e = (if e.sent = .data then (s.acked x e).dataAcked else s.acked x e).afterAckUp := by
  have heard : (match (s.gotIn x).radio.exch with
      | some y => Device.setExch { s.gotIn x with radio := { (s.gotIn x).radio with orphanRun := 0, rssiUp := clampS 8 x.frame.rssi } }
          { y with answered := true }
      | none => { s.gotIn x with radio := { (s.gotIn x).radio with orphanRun := 0, rssiUp := clampS 8 x.frame.rssi } }) =
      (s.gotIn x).ackHeard x := by
    unfold Device.ackHeard
    split
    next y exch => rw [exch]; rfl
    next exch => simp [exch]
  unfold Device.acked
  rw [← heard]
  rfl

theorem Device.ackUp_kids (s : Device) (x : Heard) (e : Exchange) : (s.ackUp x e).Kids (s.acked x e) := by
  rw [Device.ackUp_eq]
  exact (Device.afterAckUp_kids _).trans (kids_ite (Device.dataAcked_kids _) (.refl _))

theorem Device.ackUp_joins {s : Device} {x : Heard} {e : Exchange} (join : e.sent = .join) :
    (s.ackUp x e).radio.counters[11]? = (s.acked x e).radio.counters[11]? := by
  rw [Device.ackUp_eq, if_neg (by simp [join])]
  exact (Device.afterAckUp_carried _).joins

theorem Device.onAck_up {s : Device} {x : Heard} {e : Exchange} (link : x.link = .up) (fresh : x.fresh = true)
    (exch : s.radio.exch = some e) (peer : e.peer = .up) (size : x.payload.length = 15) (own : getU x.payload 0 4 = e.sentFcnt) :
    s.onAck x = s.ackUp x e := by
  simp [Device.onAck, link, fresh, exch, peer, size, own]

/-- Membership of the link: its state, the own address, the count of joins. -/
def Radio.member (r : Radio) : Nat × Nat × Option Nat := (r.link, r.ownShort, r.counters[11]?)

theorem Device.gotIn_counters (s : Device) (x : Heard) : (s.gotIn x).radio.counters = s.radio.counters := by
  have noted : (s.noted x).radio.counters = s.radio.counters := by
    unfold Device.noted
    split <;> rfl
  unfold Device.gotIn
  dsimp only
  split <;> exact noted

/-- The plan of the next contact. -/
def Radio.plan (r : Radio) : Nat × Nat := (r.nextCh, r.tContact)

theorem Device.ackPlanned_leaves (s : Device) (x : Heard) :
    (s.ackPlanned x).radio.orphanRun = s.radio.orphanRun ∧ (s.ackPlanned x).radio.rssiUp = s.radio.rssiUp ∧
      (s.ackPlanned x).radio.member = s.radio.member ∧
      (s.ackPlanned x).radio.plan = if getU x.payload 6 4 = 0 then s.radio.plan
        else (getU x.payload 10 1, min (x.frame.sfd / 64 + getU x.payload 6 4) tickMax) := by
  unfold Device.ackPlanned
  split
  · exact ⟨rfl, rfl, rfl, rfl⟩
  · rw [(Device.contactAt_leaves _ _).2]
    exact ⟨rfl, rfl, rfl, rfl⟩

theorem Device.joined_leaves (s : Device) (x : Heard) :
    (s.joined x).radio.orphanRun = 0 ∧ (s.joined x).radio.rssiUp = s.radio.rssiUp ∧ (s.joined x).radio.plan = s.radio.plan ∧
      (s.joined x).radio.member = (1, getU x.payload 11 2, (s.radio.counters[11]?).map satInc) := by
  unfold Device.joined Device.count
  dsimp only
  rw [Device.journal_radio]
  exact ⟨rfl, rfl, rfl, by simp [Radio.member]⟩

theorem Device.ackMember_leaves {s : Device} (x : Heard) (e : Exchange) (run : s.radio.orphanRun = 0) :
    (s.ackMember x e).radio.orphanRun = 0 ∧ (s.ackMember x e).radio.rssiUp = s.radio.rssiUp ∧
      (s.ackMember x e).radio.plan = s.radio.plan ∧
      (s.ackMember x e).radio.member =
        if getU x.payload 4 1 = 10 then (0, 0xFFFF, s.radio.counters[11]?)
        else if e.sent = .join ∧ getU x.payload 4 1 = 8 then (1, getU x.payload 11 2, (s.radio.counters[11]?).map satInc)
        else s.radio.member := by
  unfold Device.ackMember
  dsimp only
  split
  next leaves =>
    have stays : ¬ (e.sent = .join ∧ getU x.payload 4 1 = 8) := by omega
    rw [if_neg stays]
    exact ⟨run, rfl, rfl, rfl⟩
  next =>
    split
    · exact s.joined_leaves x
    · exact ⟨run, rfl, rfl, rfl⟩

theorem Device.acked_leaves (s : Device) {x : Heard} (e : Exchange) (up : x.link = .up) :
    (s.acked x e).radio.orphanRun = 0 ∧ (s.acked x e).radio.rssiUp = clampS 8 x.frame.rssi ∧
      (s.acked x e).radio.plan = (if getU x.payload 6 4 = 0 then s.radio.plan
        else (getU x.payload 10 1, min (x.frame.sfd / 64 + getU x.payload 6 4) tickMax)) ∧
      (s.acked x e).radio.member =
        if getU x.payload 4 1 = 10 then (0, 0xFFFF, s.radio.counters[11]?)
        else if e.sent = .join ∧ getU x.payload 4 1 = 8 then (1, getU x.payload 11 2, (s.radio.counters[11]?).map satInc)
        else s.radio.member := by
  obtain ⟨-, -, -, link, short, -, contact, channel, -⟩ := s.gotIn_kids x up
  have before : ((s.gotIn x).ackHeard x).radio.plan = s.radio.plan ∧ ((s.gotIn x).ackHeard x).radio.member = s.radio.member := by
    simp only [Device.ackHeard, Radio.plan, Radio.member, link, short, contact, channel, s.gotIn_counters x, and_self]
  obtain ⟨run, rssi, member, plan⟩ := ((s.gotIn x).ackHeard x).ackPlanned_leaves x
  obtain ⟨run', rssi', plan', member'⟩ := Device.ackMember_leaves x e (run.trans rfl)
  have joins : (((s.gotIn x).ackHeard x).ackPlanned x).radio.counters[11]? = s.radio.counters[11]? :=
    congrArg (fun y => y.2.2) (member.trans before.2)
  rw [joins, member, before.2] at member'
  rw [before.1] at plan
  exact ⟨run', rssi'.trans rssi, plan'.trans plan, member'⟩

/-- What RX_ACK leaves of the link. -/
theorem Device.airIn_acked {d : Device} {f : RxFrame} {p : AirParts} {m : Bytes} {e : Exchange} (hears : Hears d f 2 p .up m)
    (fresh : IsFresh d p .up) (exch : d.radio.exch = some e) (size : m.length = 15) (own : getU m 0 4 = e.sentFcnt) {t : Device}
    (ht : t = d.airIn (fun h => h.typ == 2) f Device.onAck) :
    t.radio.orphanRun = 0 ∧ t.radio.rssiUp = clampS 8 f.rssi ∧
      t.radio.plan = (if getU m 6 4 = 0 then d.radio.plan else (getU m 10 1, min (f.sfd / 64 + getU m 6 4) tickMax)) ∧
      (t.radio.link, t.radio.ownShort) = (if getU m 4 1 = 10 then (0, 0xFFFF)
        else if e.sent = .join ∧ getU m 4 1 = 8 then (1, getU m 11 2) else (d.radio.link, d.radio.ownShort)) ∧
      (e.sent = .join → getU m 4 1 = 8 → t.radio.counters[11]? = (d.radio.counters[11]?).map satInc) := by
  obtain ⟨typ, -⟩ := Hears.header hears
  obtain ⟨u, e', n, b, key, h⟩ := Device.airIn_hands hears fresh (fun h => h.typ == 2) Device.onAck (by simp [typ])
  obtain ⟨children, radio⟩ := h.radio
  obtain rfl : e' = e := Option.some.inj (h.exch.symm.trans exch)
  have handled := Device.onAck_up (s := u) (x := fromUpper p m f) rfl rfl (by rw [h.found]; exact exch) h.peer size own
  obtain ⟨-, -, -, link, short, -, contact, channel, run, rssi, -⟩ := u.ackUp_kids (fromUpper p m f) e'
  obtain ⟨run', rssi', plan, member⟩ := u.acked_leaves (x := fromUpper p m f) e' rfl
  have before : u.radio.plan = d.radio.plan ∧ u.radio.member = d.radio.member := by
    rw [h.found]
    exact ⟨rfl, by simp [Radio.member, getElem?_setAt_ne]⟩
  rw [before.1] at plan
  have joins : u.radio.counters[11]? = d.radio.counters[11]? := congrArg (fun y => y.2.2) before.2
  rw [before.2, joins] at member
  rw [ht, radio, handled]
  refine ⟨run.trans run', rssi.trans rssi', (congrArg₂ Prod.mk channel contact).trans plan,
    (congrArg₂ Prod.mk link short).trans ?_, fun join ok => ?_⟩
  · refine (congrArg (fun y => (y.1, y.2.1)) member).trans ?_
    split
    next leaves => exact (if_pos leaves).symm
    next stays =>
      split
      next ok => exact ((if_neg stays).trans (if_pos ok)).symm
      next other => exact ((if_neg stays).trans (if_neg other)).symm
  · refine (Device.ackUp_joins join).trans ((congrArg (fun y => y.2.2) member).trans ?_)
    have stays : ¬ getU (fromUpper p m f).payload 4 1 = 10 := by
      show ¬ getU m 4 1 = 10
      omega
    rw [if_neg stays, if_pos ⟨join, ok⟩]

/-! ## READ (R355, R372) -/

section
variable {s : Device} {x : Heard} (link : x.link = .up) (low : 1 ≤ getU x.payload 4 1) (high : getU x.payload 4 1 ≤ 8)
  (size : x.payload.length = 5 + 6 * getU x.payload 4 1)
include link low high size

theorem Device.onRead_own (own : getU x.payload 0 2 = 0) :
    ∃ b, s.onRead x = ((s.gotIn x).digestSent b).sendIn .data b (s.gotIn x).upMore := by
  have good : ¬ (x.link ≠ .up ∨ getU x.payload 4 1 = 0 ∨ 8 < getU x.payload 4 1 ∨
      x.payload.length ≠ 5 + 6 * getU x.payload 4 1) := by
    simp only [link, ne_eq, not_true_eq_false, false_or]
    omega
  exact ⟨_, by simp only [Device.onRead, if_neg good, own, if_true]; rfl⟩

theorem Device.onRead_child (fresh : x.fresh = true) (short : getU x.payload 0 2 ≠ 0)
    (uncached : (s.gotIn x).radio.digests.any (·.child == getU x.payload 0 2) = false) {status rel : Nat} {t : Device}
    (decided : (s.gotIn x).decideRead x (getU x.payload 0 2) (objRefs (getU x.payload 4 1) (x.payload.drop 5)) = (status, rel, t)) :
    s.onRead x = (t.keepAck status rel none).ackUpper x.fcnt status rel := by
  have good : ¬ (x.link ≠ .up ∨ getU x.payload 4 1 = 0 ∨ 8 < getU x.payload 4 1 ∨
      x.payload.length ≠ 5 + 6 * getU x.payload 4 1) := by
    simp only [link, ne_eq, not_true_eq_false, false_or]
    omega
  have none (age : Nat) (l : List ObjRef) : (s.gotIn x).cached (getU x.payload 0 2) age l = none := by
    unfold Device.cached
    split
    · rw [List.find?_eq_none]
      intro g mem
      have other := (List.any_eq_false.mp uncached) g mem
      simp only [Bool.and_eq_true, not_and]
      exact fun same => absurd same other
    · rfl
  simp only [Device.onRead, if_neg good, short, if_false, none, fresh, if_true, decided]

end

theorem Device.digestSent_frame (s : Device) (items : Bytes) :
    ∃ tamper, s.digestSent items = { s with radio := { s.radio with sentTamper := tamper } } := by
  unfold Device.digestSent
  split
  · exact ⟨_, rfl⟩
  · exact ⟨s.radio.sentTamper, rfl⟩

/-- A READ of this device's own objects is answered with one DATA frame. -/
theorem Device.airIn_answers {d : Device} {f : RxFrame} {p : AirParts} {m : Bytes} (hears : Hears d f 4 p .up m)
    (fresh : IsFresh d p .up) (low : 1 ≤ getU m 4 1) (high : getU m 4 1 ≤ 8) (size : m.length = 5 + 6 * getU m 4 1)
    (own : getU m 0 2 = 0) (may : MaySend d) (fits : AnswerFits d 0) {t : Device}
    (ht : t = d.airIn (fun h => h.typ == 4) f Device.onRead) :
    t.radio.out.length = 1 ∧ t.radio.fcntTx = d.radio.fcntTx + 1 ∧ (AnswerFits d 1 → t.radio.exch.map (·.sent) = some .data) ∧
      t.refusals = d.refusals := by
  obtain ⟨typ, -⟩ := Hears.header hears
  obtain ⟨u, e, n, b, key, h⟩ := Device.airIn_hands hears fresh (fun h => h.typ == 4) Device.onRead (by simp [typ])
  obtain ⟨children, radio⟩ := h.radio
  obtain ⟨refusals, -⟩ := h.planned.leaves
  obtain ⟨items, handled⟩ := Device.onRead_own (s := u) (x := fromUpper p m f) rfl low high size own
  obtain ⟨tamper, marked⟩ := (d.heardUp e p.hdr n b).digestSent_frame items
  rw [h.joined, marked] at handled
  have room := fits e h.exch
  obtain ⟨out, fcnt⟩ := Device.sendIn_made
    (s := { d.heardUp e p.hdr n b with radio := { (d.heardUp e p.hdr n b).radio with sentTamper := tamper } })
    .data items (d.heardUp e p.hdr n b).upMore rfl h.open may room
  rw [ht, radio, refusals, handled]
  refine ⟨out, fcnt, fun more => ?_, (Device.sendIn_carried ..).refusals⟩
  have follows := more e h.exch
  obtain ⟨us, ch, bytes, stopped, pending, sent⟩ := Device.sendIn_sends
    (s := { d.heardUp e p.hdr n b with radio := { (d.heardUp e p.hdr n b).radio with sentTamper := tamper } })
    .data items (d.heardUp e p.hdr n b).upMore rfl h.open may (Nat.lt_of_succ_le follows)
  rw [sent]
  rfl

/-- Entry j of the queue is taken. -/
def Device.queueAt (s : Device) (j : Nat) (q : QEntry) : Device := { s with radio := { s.radio with queue := s.radio.queue.set j q } }

/-- The entry of a proxy read that is queued. -/
def Device.readEntry (s : Device) (x : Heard) (short : Nat) (c : Child) : QEntry :=
  { state := 1, id := x.fcnt % 256, child := short, length := 0, tExpiry := s.promise c, data := uB 2 0 ++ x.payload.drop 2 }

/-- A read request is queued in the first free entry for reads. -/
theorem Device.decideRead_queues {s : Device} {x : Heard} {short : Nat} {l : List ObjRef} {c : Child} {k : Nat}
    (entry : s.radio.child (short - 1) = some c) (found : c.search = false) (full : s.radio.queue.length = 24)
    (small : sumNat (l.map fun o => 8 + max 1 o.len) ≤ 237)
    (alone : ∀ j, 8 ≤ j → (s.radio.queue.getD j {}).state ≠ 1 ∨ (s.radio.queue.getD j {}).child ≠ short)
    (low : 8 ≤ k) (high : k < 24) (free : (s.radio.queue.getD k {}).state = 0) :
    ∃ rel j, 8 ≤ j ∧ j < 24 ∧ s.decideRead x short l = (0, rel, s.queueAt j (s.readEntry x short c)) := by
  have waits : (((s.radio.queue.zipIdx).filter fun y => decide (8 ≤ y.2)).any fun y => y.1.state == 1 && y.1.child == short) = false := by
    rw [List.any_eq_false]
    rintro ⟨q, j⟩ mem
    obtain ⟨mem, place⟩ := List.mem_filter.mp mem
    have at_j := List.mem_zipIdx_iff_getElem?.mp mem
    have free := alone j (by simpa using place)
    simp only [List.getD_eq_getElem?_getD, at_j, Option.getD_some] at free
    simpa [imp_iff_not_or] using free
  have room : ¬ dataRoom < sumNat (l.map fun o => 8 + max 1 o.len) := by
    unfold dataRoom
    omega
  obtain ⟨⟨q, j⟩, first⟩ : ∃ y, ((s.radio.queue.zipIdx).filter fun y => decide (8 ≤ y.2)).find? (fun y => y.1.state == 0) = some y := by
    rw [← Option.isSome_iff_exists, List.find?_isSome]
    have here : s.radio.queue[k]? = some s.radio.queue[k] := List.getElem?_eq_getElem (by omega)
    refine ⟨(s.radio.queue[k], k), List.mem_filter.mpr ⟨List.mem_zipIdx_iff_getElem?.mpr here, by simpa using low⟩, ?_⟩
    simpa [List.getD_eq_getElem?_getD, here] using free
  obtain ⟨mem, place⟩ := List.mem_filter.mp (List.mem_of_find?_eq_some first)
  have at_j := List.mem_zipIdx_iff_getElem?.mp mem
  refine ⟨secsTo x.frame.txSfd (s.promise c), j, by simpa using place, ?_, ?_⟩
  · rw [← full]
    exact (List.getElem?_eq_some_iff.mp at_j).1
  · simp only [Device.decideRead, entry, found, Bool.false_eq_true, if_false, waits, room, first]
    rfl

/-- A READ for a child whose digest is not cached is queued as a proxy read. -/
theorem Device.airIn_queues {d : Device} {f : RxFrame} {p : AirParts} {m : Bytes} {c : Child} {k : Nat} (hears : Hears d f 4 p .up m)
    (fresh : IsFresh d p .up) (low : 1 ≤ getU m 4 1) (high : getU m 4 1 ≤ 8) (size : m.length = 5 + 6 * getU m 4 1)
    (short : getU m 0 2 ≠ 0) (entry : d.radio.child (getU m 0 2 - 1) = some c) (found : c.search = false)
    (idle : d.radio.reasm = none) (uncached : d.radio.digests.any (·.child == getU m 0 2) = false) (full : d.radio.queue.length = 24)
    (small : sumNat ((objRefs (getU m 4 1) (m.drop 5)).map fun o => 8 + max 1 o.len) ≤ 237)
    (alone : ∀ j, 8 ≤ j → (d.radio.queue.getD j {}).state ≠ 1 ∨ (d.radio.queue.getD j {}).child ≠ getU m 0 2)
    (from8 : 8 ≤ k) (below : k < 24) (free : (d.radio.queue.getD k {}).state = 0) {t : Device}
    (ht : t = d.airIn (fun h => h.typ == 4) f Device.onRead) :
    ∃ j q, 8 ≤ j ∧ t.radio.queue[j]? = some q ∧ q.held = (d.readEntry (fromUpper p m f) (getU m 0 2) c).held ∧
      t.refusals = d.refusals := by
  obtain ⟨typ, -⟩ := Hears.header hears
  obtain ⟨u, e, n, b, key, h⟩ := Device.airIn_hands hears fresh (fun h => h.typ == 4) Device.onRead (by simp [typ])
  obtain ⟨children, radio⟩ := h.radio
  obtain ⟨refusals, -⟩ := h.planned.leaves
  obtain ⟨rel, j, place, below', decided⟩ := Device.decideRead_queues (s := d.heardUp e p.hdr n b) (x := fromUpper p m f) entry found full
    small alone from8 below free
  have handled := Device.onRead_child (s := u) (x := fromUpper p m f) rfl low high size rfl short (by rw [h.joined]; exact uncached)
    ((congrArg (fun s => s.decideRead (fromUpper p m f) (getU m 0 2) (objRefs (getU m 4 1) (m.drop 5))) h.joined).trans decided)
  have carried := (Device.ackUpper_carried _ p.fcnt 0 rel).trans (Device.keepAck_carried
    ((d.heardUp e p.hdr n b).queueAt j ((d.heardUp e p.hdr n b).readEntry (fromUpper p m f) (getU m 0 2) c)) 0 rel none)
  obtain ⟨q, queued, same⟩ := carried.entry idle (List.getElem?_set_self (lt_of_lt_of_eq below' full.symm))
  rw [ht, radio, refusals, handled]
  exact ⟨j, q, place, queued, same, carried.refusals⟩

/-! ## NOTE (R356, R369, R371) -/

theorem Device.onNote_first {s : Device} {x : Heard} (link : x.link = .up) (size : 11 ≤ x.payload.length)
    (sized : (fragOf x.payload).sizeOk = true) (fresh : x.fresh = true) (first : (fragOf x.payload).frag = 0) :
    s.onNote x = (s.gotIn x).fragFirst x (fragOf x.payload) := by
  have good : ¬ (x.link ≠ .up ∨ x.payload.length < 11 ∨ (fragOf x.payload).sizeOk = false) := by
    simp only [link, sized, ne_eq, not_true_eq_false, false_or, Bool.true_eq_false, or_false]
    omega
  simp only [Device.onNote, if_neg good, fresh, Bool.not_true, Bool.false_eq_true, if_false, first, if_true]

/-- The note that a first fragment begins. -/
def Frag.reasm (g : Frag) (slot : Option Nat) : Reasm := ⟨g.noteId, g.count, g.totalLen, g.target, 0, [], slot⟩

theorem Device.fragFirst_own {s : Device} (x : Heard) {g : Frag} (own : g.target = s.radio.ownShort) (idle : s.radio.reasm = none)
    (decided : s.noteUndecided = false) (long : g.lenOk = true) : s.fragFirst x g = s.fragIn x g (g.reasm none) := by
  have admitted : s.admitOwn g = none := by simp [Device.admitOwn, own, idle, decided, long]
  have mine : ¬ (s.radio.role = 2 ∧ g.target ≠ s.radio.ownShort ∧ s.radio.reasm.isNone = true) := by tauto
  simp only [Device.fragFirst, if_neg mine, admitted]
  rfl

/-- The entry that the first fragment of a note for a child reserves. -/
def Device.noteEntry (s : Device) (g : Frag) (c : Child) : QEntry :=
  { state := 1, id := g.noteId, child := g.target, length := g.totalLen, tExpiry := s.promise c, reserved := true
    born := s.radio.nextBorn }

theorem Device.fragFirst_child {s : Device} {x : Heard} {g : Frag} {c : Child} {k : Nat} (parent : s.radio.role = 2)
    (other : g.target ≠ s.radio.ownShort) (short : g.target ≠ 0) (entry : s.radio.child (g.target - 1) = some c)
    (idle : s.radio.reasm = none) (long : g.lenOk = true)
    (admitted : s.admitChild g (some c) (x.frame.sfd / 64) x.frame.txSfd = none) (low : k < 8)
    (free : (s.radio.queue.getD k {}).state = 0) :
    ∃ j, j < 8 ∧ s.fragFirst x g =
      (s.queueAt j (s.noteEntry g c)).fragIn x g (g.reasm (some j)) := by
  obtain ⟨j, first⟩ : ∃ j, (List.range 8).find? (fun k => (s.radio.queue.getD k {}).state == 0) = some j := by
    rw [← Option.isSome_iff_exists, List.find?_isSome]
    exact ⟨k, List.mem_range.mpr low, by simpa using free⟩
  have theirs : s.radio.role = 2 ∧ g.target ≠ s.radio.ownShort ∧ s.radio.reasm.isNone = true := ⟨parent, other, by simp [idle]⟩
  refine ⟨j, List.mem_range.mp (List.mem_of_find?_eq_some first), ?_⟩
  simp only [Device.fragFirst, if_pos theirs, short, if_false, entry, admitted, long, Bool.not_true, Bool.false_eq_true, first]
  rfl

/-- The first of several fragments waits for the others. -/
theorem Device.fragIn_begins (s : Device) (x : Heard) {g : Frag} (several : 1 < g.count) :
    s.fragIn x g (g.reasm none) = Device.fragAck { s with radio := { s.radio with
      reasm := some ⟨g.noteId, g.count, g.totalLen, g.target, 1, g.data, none⟩ } } x 0 none := by
  have more : ¬ 1 = g.count := by omega
  simp [Device.fragIn, Frag.reasm, more]

/-- A single fragment is the whole note. -/
theorem Device.fragIn_completes (s : Device) (x : Heard) {g : Frag} (slot : Option Nat) (single : g.count = 1)
    (whole : g.data.length = g.totalLen) :
    s.fragIn x g (g.reasm slot) = s.noteComplete x ⟨g.noteId, g.count, g.totalLen, g.target, 1, g.data, slot⟩ := by
  simp [Device.fragIn, Frag.reasm, single, whole]

/-- A whole note stands in entry k of the queue, and in reassembly no longer. -/
def Device.noteStored (s : Device) (k : Nat) (data : Bytes) : Device :=
  { s with radio := { s.radio with
      reasm := none, queue := setAt s.radio.queue k fun q => { q with reserved := false, data := data } } }

section
variable {s : Device} {e : Exchange} {key : Bytes} (x : Heard) (exch : s.radio.exch = some e)
  (keyed : s.netKey (decide (e.peer = .up)) e.key = some key) (may : MaySend s)
include exch

theorem Device.keepAck_open (status rel : Nat) (slot : Option Nat) :
    s.keepAck status rel slot = s.setExch { e with ackStatus := status, ackRel := rel, ackSlot := slot } := by
  simp [Device.keepAck, exch]

include keyed may

theorem Device.fragAck_made (status : Nat) (slot : Option Nat) (room : e.frames + 1 ≤ s.phyP.exchMax) :
    s.radio.out.length < (s.fragAck x status slot).radio.out.length := by
  unfold Device.fragAck
  extract_lets rel
  rw [Device.keepAck_open exch]
  exact Device.ackUpper_made (s := s.setExch { e with ackStatus := status, ackRel := rel, ackSlot := slot }) rfl keyed may room ..

theorem Device.fragAck_waits (status : Nat) (slot : Option Nat) (room : e.frames + 1 < s.phyP.exchMax)
    (pending : e.theirPending = true) : (s.fragAck x status slot).radio.reasm = s.radio.reasm := by
  unfold Device.fragAck
  extract_lets rel
  rw [Device.keepAck_open exch]
  exact Device.ackUpper_waits (s := s.setExch { e with ackStatus := status, ackRel := rel, ackSlot := slot }) rfl keyed may room
    pending ..

/-- A whole note for a child is queued at its ACK. -/
theorem Device.noteComplete_queues (room : e.frames + 1 ≤ s.phyP.exchMax) {z : Reasm} {k : Nat} (slot : z.slot = some k) :
    s.noteComplete x z = (s.noteStored k z.data).fragAck x 1 (some k) := by
  have made := Device.fragAck_made (s := s.noteStored k z.data) x exch keyed may 1 (some k) room
  simp only [Device.noteComplete, slot]
  exact if_pos made

/-- A whole note for this device is decided at its ACK. -/
theorem Device.noteComplete_decides (room : e.frames + 1 ≤ s.phyP.exchMax) {z : Reasm} (slot : z.slot = none) :
    s.noteComplete x z =
      ((Device.fragAck { s with radio := { s.radio with reasm := none } } x 1 none).handOver.decideRec .air z.data).2 := by
  have made := Device.fragAck_made (s := { s with radio := { s.radio with reasm := none } }) x exch keyed may 1 none room
  simp only [Device.noteComplete, slot]
  exact if_pos made

end

theorem Device.fragAck_carried (s : Device) (x : Heard) (status : Nat) (slot : Option Nat) : (s.fragAck x status slot).Carried s :=
  (Device.ackUpper_carried ..).trans (Device.keepAck_carried ..)

section
variable {d : Device} {f : RxFrame} {p : AirParts} {m : Bytes} {g : Frag} (hg : g = fragOf m) (hears : Hears d f 5 p .up m)
  (fresh : IsFresh d p .up) (size : 11 ≤ m.length) (sized : g.sizeOk = true) (long : g.lenOk = true) (first : g.frag = 0)
  (idle : d.radio.reasm = none)
include hg hears fresh size sized first

/-- RX_NOTE hands a first fragment to its admission. -/
theorem Device.airIn_notes : ∃ e n b key, d.radio.exch = some e ∧
    (d.heardUp e p.hdr n b).netKey (decide ((e.heard p.hdr).peer = .up)) (e.heard p.hdr).key = some key ∧
    (∃ children, (d.airIn (fun h => h.typ == 5) f Device.onNote).radio =
      { ((d.heardUp e p.hdr n b).fragFirst (fromUpper p m f) g).radio with children := children }) ∧
    (d.airIn (fun h => h.typ == 5) f Device.onNote).Planned ((d.heardUp e p.hdr n b).fragFirst (fromUpper p m f) g) := by
  obtain ⟨typ, -⟩ := Hears.header hears
  obtain ⟨u, e, n, b, key, h⟩ := Device.airIn_hands hears fresh (fun h => h.typ == 5) Device.onNote (by simp [typ])
  have handled := Device.onNote_first (s := u) (x := fromUpper p m f) rfl size (hg ▸ sized) rfl (hg ▸ first)
  rw [h.joined] at handled
  obtain ⟨children, radio⟩ := h.radio
  have planned := h.planned
  rw [handled] at radio planned
  rw [hg]
  exact ⟨e, n, b, key, h.exch, h.open, ⟨children, radio⟩, planned⟩

include idle long

theorem Device.airIn_reassembles (own : g.target = d.radio.ownShort) (decided : d.noteUndecided = false) (several : 1 < g.count)
    (pending : p.hdr.pending = true) (may : MaySend d) (fits : AnswerFits d 1) {t : Device}
    (ht : t = d.airIn (fun h => h.typ == 5) f Device.onNote) :
    t.radio.reasm = some ⟨g.noteId, g.count, g.totalLen, g.target, 1, g.data, none⟩ ∧ t.sec = d.sec ∧ t.conf = d.conf ∧
      t.toll.led = d.toll.led ∧ t.land.tick = d.land.tick := by
  obtain ⟨e, n, b, key, exch, keyed, ⟨children, radio⟩, planned⟩ := Device.airIn_notes hg hears fresh size sized first
  rw [(d.heardUp e p.hdr n b).fragFirst_own _ own idle decided long, Device.fragIn_begins _ _ several] at radio planned
  have waits := Device.fragAck_waits (s := { d.heardUp e p.hdr n b with radio := { (d.heardUp e p.hdr n b).radio with
    reasm := some ⟨g.noteId, g.count, g.totalLen, g.target, 1, g.data, none⟩ } }) (fromUpper p m f) rfl keyed may 0 none
    (Nat.lt_of_succ_le (fits e exch)) pending
  obtain ⟨-, sec, conf, led, tick, -⟩ := planned.leaves
  have carried := Device.fragAck_carried { d.heardUp e p.hdr n b with radio := { (d.heardUp e p.hdr n b).radio with
    reasm := some ⟨g.noteId, g.count, g.totalLen, g.target, 1, g.data, none⟩ } } (fromUpper p m f) 0 none
  obtain ⟨conf', led', -⟩ := Device.fragAck_calm { d.heardUp e p.hdr n b with radio := { (d.heardUp e p.hdr n b).radio with
    reasm := some ⟨g.noteId, g.count, g.totalLen, g.target, 1, g.data, none⟩ } } (fromUpper p m f) 0 none
  rw [ht, radio]
  exact ⟨waits, sec.trans carried.sec, conf.trans conf', led.trans led', tick.trans (congrArg Landing.tick carried.land)⟩

theorem Device.airIn_decides (own : g.target = d.radio.ownShort) (decided : d.noteUndecided = false) (single : g.count = 1)
    (whole : g.data.length = g.totalLen) (may : MaySend d) (fits : AnswerFits d 0) {t : Device}
    (ht : t = d.airIn (fun h => h.typ == 5) f Device.onNote) :
    t.radio.reasm = none ∧ t.sec.verdicts.head?.map Verdict.mark = some (d.land.tick, (recOf g.data).typ, true) ∧
      t.land.tick = d.land.tick := by
  obtain ⟨e, n, b, key, exch, keyed, ⟨children, radio⟩, planned⟩ := Device.airIn_notes hg hears fresh size sized first
  rw [(d.heardUp e p.hdr n b).fragFirst_own _ own idle decided long, Device.fragIn_completes _ _ none single whole,
    Device.noteComplete_decides (fromUpper p m f) rfl keyed may (fits e exch) rfl] at radio planned
  have carried := Device.fragAck_carried { d.heardUp e p.hdr n b with radio := { (d.heardUp e p.hdr n b).radio with reasm := none } }
    (fromUpper p m f) 1 none
  generalize Device.fragAck { d.heardUp e p.hdr n b with radio := { (d.heardUp e p.hdr n b).radio with reasm := none } }
    (fromUpper p m f) 1 none = s at radio planned carried
  have at_tick : s.handOver.land.tick = d.land.tick := congrArg Landing.tick carried.land
  obtain ⟨marked, tick⟩ := s.handOver.decideRec_marked .air g.data
  obtain ⟨-, sec, -, -, tick', -⟩ := planned.leaves
  rw [ht, radio, sec, tick']
  exact ⟨s.handOver.decideRec_idles .air g.data (carried.queue rfl).1, by rw [marked, at_tick]; rfl, tick.trans at_tick⟩

theorem Device.airIn_forwards {c : Child} {k : Nat} (parent : d.radio.role = 2) (other : g.target ≠ d.radio.ownShort)
    (short : g.target ≠ 0) (entry : d.radio.child (g.target - 1) = some c)
    (admitted : d.admitChild g (some c) (f.sfd / 64) f.txSfd = none) (single : g.count = 1) (whole : g.data.length = g.totalLen)
    (full : d.radio.queue.length = 24) (low : k < 8) (free : (d.radio.queue.getD k {}).state = 0) (may : MaySend d)
    (fits : AnswerFits d 0) {t : Device} (ht : t = d.airIn (fun h => h.typ == 5) f Device.onNote) :
    ∃ j q, j < 8 ∧ t.radio.queue[j]? = some q ∧ q.held = ({ d.noteEntry g c with reserved := false, data := g.data } : QEntry).held ∧
      t.sec = d.sec ∧ t.conf = d.conf ∧ t.toll.led = d.toll.led ∧ t.land.tick = d.land.tick := by
  obtain ⟨e, n, b, key, exch, keyed, ⟨children, radio⟩, planned⟩ := Device.airIn_notes hg hears fresh size sized first
  obtain ⟨j, place, forwards⟩ := Device.fragFirst_child (s := d.heardUp e p.hdr n b) (x := fromUpper p m f) parent other short entry idle
    long admitted low free
  rw [forwards, Device.fragIn_completes _ _ (some j) single whole,
    Device.noteComplete_queues (s := (d.heardUp e p.hdr n b).queueAt j ((d.heardUp e p.hdr n b).noteEntry g c)) (fromUpper p m f) rfl keyed
      may (fits e exch) rfl] at radio planned
  have taken : (((d.heardUp e p.hdr n b).queueAt j ((d.heardUp e p.hdr n b).noteEntry g c)).noteStored j g.data).radio.queue[j]? =
      some { d.noteEntry g c with reserved := false, data := g.data } := by
    have here : (d.radio.queue.set j (d.noteEntry g c))[j]? = some (d.noteEntry g c) := List.getElem?_set_self (by omega)
    exact (getElem?_setAt_self ..).trans (congrArg (Option.map _) here)
  generalize hs : ((d.heardUp e p.hdr n b).queueAt j ((d.heardUp e p.hdr n b).noteEntry g c)).noteStored j g.data = s at radio planned taken
  have carried := s.fragAck_carried (fromUpper p m f) 1 (some j)
  obtain ⟨q, queued, same⟩ := carried.entry (by rw [← hs]; rfl) taken
  obtain ⟨conf', led', -⟩ := s.fragAck_calm (fromUpper p m f) 1 (some j)
  obtain ⟨-, sec, conf, led, tick, -⟩ := planned.leaves
  rw [ht, radio, sec, conf, led, tick, carried.sec, carried.land, conf', led']
  exact ⟨j, q, place, queued, same, by rw [← hs]; rfl, by rw [← hs]; rfl, by rw [← hs]; rfl, by rw [← hs]; rfl⟩

end

/-! ## TIME (R357, R449) -/

section
variable {s : Device} {x : Heard} (link : x.link = .up) (size : x.payload.length = 6) (fresh : x.fresh = true)
include link size fresh

theorem Device.onTime_sets {u : Device} (joined : s.gotIn x = u) {p : PendSet} (bat : u.writable = true)
    (taken : u.timeFrameSet (getU x.payload 0 6) x.frame.sfd = some p) :
    s.onTime x = Device.ackUpper { u with
      radio := { u.radio with lastTime := some u.land.tick }, land := { u.land with pendSet := some p } } x.fcnt 0 noTime := by
  subst joined
  have waits : Device.waitSet { s.gotIn x with radio := { (s.gotIn x).radio with lastTime := some (s.gotIn x).land.tick } } (some p) =
      { s.gotIn x with
        radio := { (s.gotIn x).radio with lastTime := some (s.gotIn x).land.tick }
        land := { (s.gotIn x).land with pendSet := some p } } := if_pos bat
  rw [← waits]
  simp [Device.onTime, link, size, fresh, taken]

theorem Device.onTime_refuses {u : Device} (joined : s.gotIn x = u)
    (refused : u.timeFrameSet (getU x.payload 0 6) x.frame.sfd = none) :
    s.onTime x = (u.refuse 2).ackUpper x.fcnt 0 noTime := by
  subst joined
  simp [Device.onTime, link, size, fresh, refused]

end

section
variable {d : Device} {f : RxFrame} {p : AirParts} {m : Bytes} (hears : Hears d f 6 p .up m) (fresh : IsFresh d p .up)
  (size : m.length = 6) {t : Device} (ht : t = d.airIn (fun h => h.typ == 6) f Device.onTime)
include hears fresh size ht

theorem Device.airIn_times {x : PendSet} (bat : d.writable = true) (taken : d.timeFrameSet (getU m 0 6) f.sfd = some x) :
    t.land.pendSet = some x ∧ t.radio.lastTime = some d.land.tick ∧ t.refusals = d.refusals ∧ t.sec = d.sec := by
  obtain ⟨typ, -⟩ := Hears.header hears
  obtain ⟨u, e, n, b, key, h⟩ := Device.airIn_hands hears fresh (fun h => h.typ == 6) Device.onTime (by simp [typ])
  have handled := Device.onTime_sets (s := u) (x := fromUpper p m f) rfl size rfl h.joined bat taken
  obtain ⟨children, radio⟩ := h.radio
  obtain ⟨refusals, sec, -, -, -, pendSet⟩ := h.planned.leaves
  rw [ht, radio, refusals, sec, pendSet, handled]
  obtain ⟨refusals', sec', land', -⟩ := Device.ackUpper_carried { d.heardUp e p.hdr n b with
    radio := { (d.heardUp e p.hdr n b).radio with lastTime := some d.land.tick }, land := { d.land with pendSet := some x } } p.fcnt 0 noTime
  obtain ⟨-, -, -, -, -, -, -, -, -, -, last, -⟩ := Device.ackUpper_kids { d.heardUp e p.hdr n b with
    radio := { (d.heardUp e p.hdr n b).radio with lastTime := some d.land.tick }, land := { d.land with pendSet := some x } } p.fcnt 0 noTime
  exact ⟨congrArg Landing.pendSet land', last, refusals', sec'⟩

theorem Device.airIn_refuses (refused : d.timeFrameSet (getU m 0 6) f.sfd = none) :
    t.land.pendSet = d.land.pendSet ∧ t.radio.lastTime = d.radio.lastTime ∧ t.refusals = setAt d.refusals 2 satInc ∧ t.sec = d.sec := by
  obtain ⟨typ, -⟩ := Hears.header hears
  obtain ⟨u, e, n, b, key, h⟩ := Device.airIn_hands hears fresh (fun h => h.typ == 6) Device.onTime (by simp [typ])
  have handled := Device.onTime_refuses (s := u) (x := fromUpper p m f) rfl size rfl h.joined refused
  obtain ⟨children, radio⟩ := h.radio
  obtain ⟨refusals, sec, -, -, -, pendSet⟩ := h.planned.leaves
  rw [ht, radio, refusals, sec, pendSet, handled]
  obtain ⟨refusals', sec', land', -⟩ := Device.ackUpper_carried ((d.heardUp e p.hdr n b).refuse 2) p.fcnt 0 noTime
  obtain ⟨-, -, -, -, -, -, -, -, -, -, last, -⟩ := Device.ackUpper_kids ((d.heardUp e p.hdr n b).refuse 2) p.fcnt 0 noTime
  exact ⟨congrArg Landing.pendSet land', last, refusals', sec'⟩

end

end Sys2Proof.Machine


namespace Sys2Proof
open Machine

/-- Settles O55: each frame opens under its sender's key, its handler writes its own part of the radio, and the ACK or DATA that
answers carries everything else over (`Carried`). -/
theorem lowerSideTakesTheUpperSidesFrames : Obligations.LowerSideTakesTheUpperSidesFrames := by
  intro dt f s d p m hd fresh
  refine ⟨fun e hears exch size own => ?_, fun hears low high size => ⟨fun own may fits => ?_,
      fun c k short entry found idle uncached full small alone low' high' free => ?_⟩,
    fun g hg hears long sized whole first idle => ⟨fun decided own several pending may fits => ?_, fun decided own single all may fits => ?_,
      fun c k parent other short entry admitted single all full low free may fits tried => ?_⟩,
    fun hears size => ⟨fun primary blank scrapped bat untrusted => ?_,
      fun sg hsg primary blank scrapped bat trusted small fits => ?_, fun out => ?_⟩⟩
  · obtain ⟨run, rssi, plan, member, joins⟩ := Device.airIn_acked hears fresh exch size own rfl
    obtain ⟨conf, led, -, -, -, lc, keys, tick, -⟩ := d.airIn_calm (fun h => h.typ == 2) f Device.onAck Device.onAck_calm
    refine ⟨d.airIn (fun h => h.typ == 2) f Device.onAck, by rw [hd]; rfl, run, rssi, fun given => ?_, fun silent => ?_,
      fun join ok => ?_, fun leaves => ?_, fun stays other => ?_, conf, led, keys, lc, tick⟩
    · exact Prod.mk.inj (plan.trans (if_neg given))
    · exact Prod.mk.inj (plan.trans (if_pos silent))
    · obtain ⟨link, short⟩ := Prod.mk.inj (member.trans ((if_neg (by omega)).trans (if_pos ⟨join, ok⟩)))
      exact ⟨link, short, joins join ok⟩
    · exact Prod.mk.inj (member.trans (if_pos leaves))
    · exact Prod.mk.inj (member.trans ((if_neg stays).trans (if_neg (by tauto))))
  · obtain ⟨out, fcnt, more, refusals⟩ := Device.airIn_answers hears fresh low high size own may fits rfl
    obtain ⟨conf, led, -, -, -, lc, keys, tick, -⟩ := d.airIn_calm (fun h => h.typ == 4) f Device.onRead Device.onRead_calm
    exact ⟨d.airIn (fun h => h.typ == 4) f Device.onRead, by rw [hd]; rfl, out, fcnt, more, refusals, conf, led, keys, tick⟩
  · obtain ⟨j, q, place, queued, same, refusals⟩ := Device.airIn_queues hears fresh low high size short entry found idle uncached full small
      alone low' high' free rfl
    obtain ⟨conf, led, -, -, -, lc, keys, tick, -⟩ := d.airIn_calm (fun h => h.typ == 4) f Device.onRead Device.onRead_calm
    exact ⟨d.airIn (fun h => h.typ == 4) f Device.onRead, j, q, by rw [hd]; rfl, place, queued, (congrArg QEntry.state same :),
      (congrArg QEntry.child same :), (congrArg QEntry.data same :), (congrArg QEntry.tExpiry same :), refusals, conf, led, keys, tick⟩
  · obtain ⟨reasm, sec, conf, led, tick⟩ := Device.airIn_reassembles hg hears fresh long sized whole first idle own decided several pending
      may fits rfl
    exact ⟨d.airIn (fun h => h.typ == 5) f Device.onNote, by rw [hd]; rfl, reasm, sec, conf, led, tick⟩
  · obtain ⟨reasm, marked, tick⟩ := Device.airIn_decides hg hears fresh long sized whole first idle own decided single all may fits rfl
    exact ⟨d.airIn (fun h => h.typ == 5) f Device.onNote, by rw [hd]; rfl, reasm, marked, tick⟩
  · obtain ⟨j, q, place, queued, same, sec, conf, led, tick⟩ := Device.airIn_forwards hg hears fresh long sized whole first idle parent other
      short entry admitted single all full low free may fits rfl
    exact ⟨d.airIn (fun h => h.typ == 5) f Device.onNote, j, q, by rw [hd]; rfl, place, queued, (congrArg QEntry.state same :),
      (congrArg QEntry.id same :), (congrArg QEntry.child same :), (congrArg QEntry.data same :), (congrArg QEntry.reserved same :),
      (congrArg QEntry.tExpiry same :), sec, conf, led, tick⟩
  · have taken : d.timeFrameSet (getU m 0 6) f.sfd = some (.since (getU m 0 6) (f.sfd / 64)) := by
      simp [Device.timeFrameSet, primary, blank, scrapped, untrusted]
    obtain ⟨pendSet, last, refusals, sec⟩ := Device.airIn_times hears fresh size rfl bat taken
    obtain ⟨conf, led, -, -, -, lc, keys, tick, -⟩ := d.airIn_calm (fun h => h.typ == 6) f Device.onTime Device.onTime_calm
    exact ⟨d.airIn (fun h => h.typ == 6) f Device.onTime, by rw [hd]; rfl, pendSet, last, refusals, sec, conf, led, tick⟩
  · have taken : d.timeFrameSet (getU m 0 6) f.sfd = some (.rel sg) := by
      simp [Device.timeFrameSet, primary, blank, scrapped, trusted, ← hsg, small, fits]
    obtain ⟨pendSet, last, refusals, sec⟩ := Device.airIn_times hears fresh size rfl bat taken
    obtain ⟨conf, led, -, -, -, lc, keys, tick, -⟩ := d.airIn_calm (fun h => h.typ == 6) f Device.onTime Device.onTime_calm
    exact ⟨d.airIn (fun h => h.typ == 6) f Device.onTime, by rw [hd]; rfl, pendSet, last, refusals, sec, conf, led, tick⟩
  · have refused : d.timeFrameSet (getU m 0 6) f.sfd = none := by
      rcases out with out | out <;> simp [Device.timeFrameSet, out]
    obtain ⟨pendSet, last, refusals, sec⟩ := Device.airIn_refuses hears fresh size rfl refused
    obtain ⟨conf, led, -, -, -, lc, keys, tick, -⟩ := d.airIn_calm (fun h => h.typ == 6) f Device.onTime Device.onTime_calm
    exact ⟨d.airIn (fun h => h.typ == 6) f Device.onTime, by rw [hd]; rfl, pendSet, last, refusals, sec, conf, tick⟩

end Sys2Proof

/-! SUPPORT. Every way in which a command moves the life-cycle state and the fuses (R446, R454 to R457). -/

namespace Sys2Proof.Machine

/-- The pairs of R446 and R456: PROVISION, and the ten transitions of the table. -/
def lifeTable : List (Lc × Lc) :=
  [(.blank, .manufacture), (.manufacture, .calibrate), (.calibrate, .manufacture), (.calibrate, .sealed), (.sealed, .service),
    (.service, .sealed), (.blank, .scrapped), (.manufacture, .scrapped), (.calibrate, .scrapped), (.sealed, .scrapped),
    (.service, .scrapped)]

theorem lifeTable_provision : (Lc.blank, Lc.manufacture) ∈ lifeTable := by decide

/-- The codes of a transition of R456 name a pair of the table. -/
theorem lifeTable_of_codes (l : Lc) (b : Nat)
    (pair : (l.code, b) ∈ [(1, 2), (2, 1), (2, 3), (3, 4), (4, 3), (0, 5), (1, 5), (2, 5), (3, 5), (4, 5)]) :
    (l, (Lc.ofCode b).getD l) ∈ lifeTable := by
  cases l <;> simp only [Lc.code, List.mem_cons, Prod.mk.injEq, List.not_mem_nil, or_false] at pair <;>
    (have small : b = 1 ∨ b = 2 ∨ b = 3 ∨ b = 4 ∨ b = 5 := by omega) <;>
    rcases small with rfl | rfl | rfl | rfl | rfl <;> simp [Lc.ofCode, lifeTable] at pair ⊢

/-! ## Fuses -/

/-- Each fuse that is blown in `v` is blown in `w` (R454). -/
def FusesKept (v w : Lc × Bool × Bool × Bool) : Prop :=
  (v.2.1 = true → w.2.1 = true) ∧ (v.2.2.1 = true → w.2.2.1 = true) ∧ (v.2.2.2 = true → w.2.2.2 = true)

theorem FusesKept.refl (v : Lc × Bool × Bool × Bool) : FusesKept v v := ⟨id, id, id⟩

theorem Security.blow_lc (x : Security) : x.blow.lc = x.lc := by
  unfold Security.blow; split <;> rfl

/-- Blowing the fuses of a state unblows none (R454, R457). -/
theorem Security.blow_fusesKept (x : Security) (l : Lc) : FusesKept x.life ({ x with lc := l } : Security).blow.life := by
  unfold Security.blow; cases l <;> simp [FusesKept, Security.life]

/-- Which fuses are blown hangs on the state and the fuses only. -/
theorem Security.blow_life_congr {x y : Security} (h : x.life = y.life) : x.blow.life = y.blow.life := by
  simp only [Security.life, Prod.mk.injEq] at h
  obtain ⟨lc, fuseP, fuseS, fuseX⟩ := h
  unfold Security.blow
  rw [lc]
  cases y.lc <;> simp [Security.life, lc, fuseP, fuseS, fuseX]

/-! ## Records -/

/-- The transition that a taken PROVISION or LIFECYCLE record asks for is one of the table (R446, R456). -/
theorem Device.applyRec_lifeTable (s x : Device) (p : RecPath) (r : Rec) (cause : s.recCause p r = 0)
    (same : x.sec.life = s.sec.life) (typ : r.typ = 1 ∨ r.typ = 4) :
    ∃ l, (s.sec.lc, l) ∈ lifeTable ∧ (x.applyRec r).sec.life = (l, s.sec.life.2) := by
  obtain ⟨signers, cond⟩ := Device.recCause_zero s p r cause
  have lc : x.sec.lc = s.sec.lc := congrArg Prod.fst same
  have primary : s.secondary = false := by
    by_contra sec
    simp [Device.allowed, sec] at signers
  rcases typ with typ | typ
  · have blank : s.sec.lc = .blank := by
      by_contra other
      simp [Device.allowed, primary, typ, other] at signers
    refine ⟨.manufacture, blank ▸ lifeTable_provision, ?_⟩
    simp only [Device.applyRec, typ, Device.applyProvision, Device.transit_life]
    exact congrArg (Prod.mk Lc.manufacture) (congrArg Prod.snd same)
  · have alive : s.sec.lc ≠ .scrapped := fun gone => by simp [Device.allowed, primary, typ, gone] at signers
    have start : getU r.body 0 1 = s.sec.lc.code := by
      simp only [Device.conditionsOk, typ, Device.transitionOk, Bool.and_eq_true, beq_iff_eq] at cond
      exact cond.1
    have pair := transition_pairs _ _ r.signers (by simpa [Device.allowed, primary, typ, alive] using signers)
    refine ⟨_, lifeTable_of_codes s.sec.lc (getU r.body 1 1) (start ▸ pair), ?_⟩
    simp only [Device.applyRec, typ, Device.transit_life, lc]
    exact congrArg (Prod.mk _) (congrArg Prod.snd same)

/-- What a decided record does to the life cycle: nothing, or one transition of the table, whose fuses it blows. -/
theorem Device.decideRec_lifeTable (s : Device) (p : RecPath) (b : Bytes) :
    (s.decideRec p b).2.sec.life = s.sec.life ∨
      ∃ l, (s.sec.lc, l) ∈ lifeTable ∧ (s.decideRec p b).2.sec.life = ({ s.sec with lc := l } : Security).blow.life := by
  by_cases typ : (recOf b).typ = 1 ∨ (recOf b).typ = 4
  · by_cases taken : (if s.st.secIsolated then 14 else s.recCause p (recOf b)) = 0
    · right
      have cause : s.recCause p (recOf b) = 0 := by
        split at taken
        · exact absurd taken (by decide)
        · exact taken
      obtain ⟨l, row, life⟩ := Device.applyRec_lifeTable s ((s.recCommit (recOf b)).legalCount (recOf b)) p (recOf b) cause
        ((Device.legalCount_life ..).trans (Device.recCommit_life ..)) typ
      refine ⟨l, row, ?_⟩
      simp only [Device.decideRec, taken, if_true, typ]
      exact Security.blow_life_congr ((Device.holdStart_life _).trans ((Device.verdict_life ..).trans life))
    · left
      simp only [Device.decideRec, taken, if_false]
      exact Device.verdict_life ..
  · exact .inl (s.decideRec_life p b (fun one => typ (.inl one)) (fun four => typ (.inr four)))

/-! ## Cold starts -/

/-- The state that the fuses imply (R454). -/
def lifeFloor (v : Lc × Bool × Bool × Bool) : Lc :=
  if v.2.2.2 then .scrapped else if v.2.2.1 then .sealed else if v.2.1 then .manufacture else .blank

/-- The life cycle stands but for fuses that its state blows, or comes to the floor with the fuses as they are (R455). -/
def ColdMoves (v w : Lc × Bool × Bool × Bool) : Prop :=
  (w.1 = v.1 ∨ w.1 = lifeFloor v) ∧ FusesKept v w ∧ (LifeOk v → LifeOk w)

theorem ColdMoves.refl (v : Lc × Bool × Bool × Bool) : ColdMoves v v := ⟨.inl rfl, .refl v, id⟩

theorem ColdMoves.after {u v w : Lc × Bool × Bool × Bool} (same : u = v) (h : ColdMoves u w) : ColdMoves v w := same ▸ h

theorem Device.coldLifecycle_moves (s : Device) (readable : Bool) : ColdMoves s.sec.life (s.coldLifecycle readable).sec.life := by
  refine ⟨?_, ?_, s.coldLifecycle_ok readable⟩ <;> simp only [Device.coldLifecycle] <;> split
  · exact .inl s.sec.blow_lc
  · exact .inr (congrArg Prod.fst (Device.journal_life ..))
  · exact s.sec.blow_fusesKept s.sec.lc
  · rw [Device.journal_life]; exact .refl _

theorem Device.coldRest_moves (s : Device) (inp : ColdStartInput) : ColdMoves s.sec.life (s.coldRest inp).sec.life := by
  unfold Device.coldRest
  extract_lets _ s0 s1 _ s2
  have same : s1.sec.life = s.sec.life := s0.coldJournal_life inp.journal
  rw [Device.coldImageRead_life, Device.flushEvents_life, Device.coldCount_life]
  exact .after same (Device.coldLifecycle_moves _ _)

theorem Device.coldSelfTest_moves (s : Device) (inp : ColdStartInput) : ColdMoves s.sec.life (s.coldSelfTest inp).sec.life := by
  refine .after (s.coldTests_life inp) ?_
  unfold Device.coldSelfTest
  dsimp only
  split
  · exact .refl _
  · exact Device.coldRest_moves ..

theorem Device.coldBegin_moves (s : Device) (inp : ColdStartInput) : ColdMoves s.sec.life (s.coldBegin inp).sec.life := by
  refine .after (s.coldClear_life inp) ?_
  unfold Device.coldBegin
  dsimp only
  split
  · exact Device.coldSelfTest_moves ..
  · exact .refl _

/-! ## Commands -/

/-- The life cycle stands, or one transition of the table has been made and its fuses blown. -/
def RecordMoves (v w : Lc × Bool × Bool × Bool) : Prop :=
  (w.1 = v.1 ∨ (v.1, w.1) ∈ lifeTable) ∧ FusesKept v w ∧ (LifeOk v → LifeOk w)

theorem RecordMoves.of_eq {v w : Lc × Bool × Bool × Bool} (h : w = v) : RecordMoves v w := by
  subst h; exact ⟨.inl rfl, .refl _, id⟩

theorem RecordMoves.after {u v w : Lc × Bool × Bool × Bool} (same : u = v) (h : RecordMoves u w) : RecordMoves v w := same ▸ h

theorem Device.decideRec_moves (s : Device) (p : RecPath) (b : Bytes) : RecordMoves s.sec.life (s.decideRec p b).2.sec.life := by
  refine ⟨?_, ?_, s.decideRec_ok p b⟩ <;> rcases s.decideRec_lifeTable p b with same | ⟨l, row, life⟩
  · exact .inl (congrArg Prod.fst same)
  · exact .inr ((congrArg Prod.fst life).trans (Security.blow_lc _) ▸ row)
  · exact same ▸ .refl _
  · exact life ▸ s.sec.blow_fusesKept l

theorem Device.record_moves (s : Device) (typ : Nat) (p : RecPath) (rest : Bytes) :
    RecordMoves s.sec.life (s.record typ p rest).sec.life := by
  unfold Device.record
  split
  · exact s.decideRec_moves p _
  · exact .of_eq rfl

theorem Device.optRecord_moves (s : Device) (busy : Option Nat) (f : OptFrame) :
    RecordMoves s.sec.life (s.optRecord busy f).sec.life := by
  unfold Device.optRecord
  split
  · exact .of_eq ((Device.optVerdict_life ..).trans (Device.verdict_life ..))
  · dsimp only
    rw [Device.optVerdict_life]
    exact s.decideRec_moves _ _

/-- A frame on the optical port moves the life cycle as its handler does. -/
theorem Device.optReceive_moves (s : Device) (kind : Nat) (b : Bytes) (h : OptFrame → Device → Device)
    (moves : ∀ f x, RecordMoves x.sec.life (h f x).sec.life) : RecordMoves s.sec.life (s.optReceive kind b h).sec.life := by
  have seen : s.optSeen.sec.life = s.sec.life := s.optSeen_life
  unfold Device.optReceive
  split
  · exact .of_eq rfl
  · split
    · exact .of_eq seen
    · split
      · split
        · exact .after seen (moves _ _)
        · exact .of_eq seen
      · exact .of_eq seen

theorem Device.noteComplete_moves (s : Device) (x : Heard) (z : Reasm) :
    RecordMoves s.sec.life (s.noteComplete x z).sec.life := by
  unfold Device.noteComplete
  extract_lets _ s1 n
  split
  · dsimp only
    split <;> exact .of_eq (Device.fragAck_life ..)
  · have same : (s1.fragAck x 1 none).handOver.sec.life = s.sec.life :=
      (Device.handOver_life _).trans (Device.fragAck_life ..)
    split
    · exact .after same (Device.decideRec_moves _ _ _)
    · exact .of_eq (Device.fragAck_life ..)

theorem Device.fragIn_moves (s : Device) (x : Heard) (g : Frag) (z : Reasm) : RecordMoves s.sec.life (s.fragIn x g z).sec.life := by
  unfold Device.fragIn
  dsimp only
  split
  · split
    · exact s.noteComplete_moves x _
    · exact .of_eq ((Device.endExchange_life _).trans (Device.airBad_life _))
  · exact .of_eq (Device.fragAck_life ..)

theorem Device.fragFirst_moves (s : Device) (x : Heard) (g : Frag) : RecordMoves s.sec.life (s.fragFirst x g).sec.life := by
  unfold Device.fragFirst
  extract_lets z c
  split
  · split
    · exact .of_eq ((Device.ackRefused_life ..).trans (Device.refuse_life ..))
    · split
      · exact .of_eq (Device.airBad_life _)
      · split
        · exact Device.fragIn_moves { s with radio := _ } x g _
        · exact .of_eq (Device.airBad_life _)
  · split
    · exact .of_eq ((Device.ackRefused_life ..).trans (Device.refuse_life ..))
    · exact s.fragIn_moves x g z

theorem Device.onNote_moves (x : Heard) (s : Device) : RecordMoves s.sec.life (s.onNote x).sec.life := by
  unfold Device.onNote
  extract_lets g s1
  split
  · exact .of_eq (Device.airBad_life _)
  · refine .after (Device.gotIn_life s x) ?_
    split
    · exact .of_eq (Device.ackAgain_life ..)
    · split
      · exact Device.fragFirst_moves ..
      · split
        · split
          · exact Device.fragIn_moves ..
          · exact .of_eq (Device.airBad_life _)
        · exact .of_eq (Device.airBad_life _)

/-- A frame that the receiver takes moves the life cycle as its handler does. -/
theorem Device.airFrameIn_moves (s : Device) (mine : AirHeader → Bool) (f : RxFrame) (h : Heard → Device → Device)
    (moves : ∀ x y, RecordMoves y.sec.life (h x y).sec.life) : RecordMoves s.sec.life (s.airFrameIn mine f h).sec.life := by
  have counted (n : Nat) : RecordMoves s.sec.life (s.count n).sec.life := .of_eq (Device.count_life ..)
  rw [Device.airFrameIn]
  split
  · exact counted 2
  split
  · exact counted 4
  split
  · exact counted 4
  split
  · exact .of_eq rfl
  split
  · exact .of_eq rfl
  · split
    · exact .of_eq (Device.ackStranger_life ..)
    · exact .of_eq rfl
  split
  · exact counted 3
  split
  · exact counted 3
  dsimp only
  split
  · exact counted 5
  · have same : ((s.count 1).count 6).sec.life = s.sec.life := (Device.count_life ..).trans (Device.count_life ..)
    exact .after same (moves _ _)
  · exact .after ((Device.count_life ..).trans (Device.replay_life ..)) (moves _ _)

theorem Device.airIn_moves (s : Device) (mine : AirHeader → Bool) (f : RxFrame) (h : Heard → Device → Device)
    (moves : ∀ x y, RecordMoves y.sec.life (h x y).sec.life) : RecordMoves s.sec.life (s.airIn mine f h).sec.life := by
  unfold Device.airIn
  split
  · rw [Device.armWindows_life, Device.keepListening_life]
    refine .after s.airClear_life ?_
    split
    · exact .of_eq rfl
    · exact Device.airFrameIn_moves _ mine f h moves
  · exact .of_eq rfl

end Sys2Proof.Machine

namespace Sys2Proof

/-- A part of a cold start (R479, R480, R512). -/
def Instr.startsCold (c : Instr) : Prop :=
  (∃ dt i, c = .coldStart dt i) ∨ (∃ dt w b, c = .lfxWait dt w b) ∨ (∃ dt v, c = .condWaitEnd dt v)

end Sys2Proof

namespace Sys2Proof.Machine

theorem execColdStart_moves (dt : Nat) (i : ColdStartInput) (s t : State) (h : exec (.coldStart dt i) s = .next t) :
    ColdMoves s.dev.sec.life t.dev.sec.life := by
  cases h
  refine .after (Device.elapse_life s.dev dt) ?_
  dsimp only
  split
  · exact Device.coldBegin_moves ..
  · exact .refl _

theorem Device.lfxFound_moves (d : Device) (w : Nat) (inp : ColdStartInput) : ColdMoves d.sec.life
    ((Device.journal { d with land := { d.land with lfxRunning := true } } 0x903 w 0).coldRest inp).sec.life :=
  .after (Device.journal_life { d with land := { d.land with lfxRunning := true } } 0x903 w 0) (Device.coldRest_moves _ inp)

theorem execLfxWait_moves (dt w : Nat) (b : Bool) (s t : State) (h : exec (.lfxWait dt w b) s = .next t) :
    ColdMoves s.dev.sec.life t.dev.sec.life := by
  cases h
  refine .after (Device.elapse_life s.dev dt) ?_
  dsimp only
  split
  · split
    · split
      · exact Device.lfxFound_moves ..
      · exact .refl _
    · exact .refl _
  · exact .refl _

theorem execCondWaitEnd_moves (dt v : Nat) (s t : State) (h : exec (.condWaitEnd dt v) s = .next t) :
    ColdMoves s.dev.sec.life t.dev.sec.life := by
  cases h
  refine .after (Device.elapse_life s.dev dt) ?_
  dsimp only
  split
  · split
    · split
      · exact Device.coldSelfTest_moves { s.dev.elapse dt with st := _ } _
      · exact .refl _
    · exact .refl _
  · exact .refl _

/-- What a command does to the life cycle: a part of a cold start settles it against the fuses, any other leaves it or makes
one transition of the table. -/
theorem exec_moves (c : Instr) (s t : State) (h : exec c s = .next t) :
    RecordMoves s.dev.sec.life t.dev.sec.life ∨ c.startsCold ∧ ColdMoves s.dev.sec.life t.dev.sec.life := by
  cases c
  case coldStart dt i => exact .inr ⟨.inl ⟨dt, i, rfl⟩, execColdStart_moves dt i s t h⟩
  case lfxWait dt w b => exact .inr ⟨.inr (.inl ⟨dt, w, b, rfl⟩), execLfxWait_moves dt w b s t h⟩
  case condWaitEnd dt v => exact .inr ⟨.inr (.inr ⟨dt, v, rfl⟩), execCondWaitEnd_moves dt v s t h⟩
  case provision | lifecycle =>
    cases h
    exact .inl (.after (Device.elapse_life ..) (Device.record_moves ..))
  case optRecord dt b m =>
    cases h
    refine .inl (.after (Device.elapse_life s.dev dt) ?_)
    dsimp only
    split
    · exact .of_eq (Device.optStopping_life ..)
    · exact Device.optReceive_moves _ 1 b _ fun f x => x.optRecord_moves m f
  case rxNote dt f =>
    cases h
    exact .inl (.after (Device.elapse_life s.dev dt) (Device.airIn_moves _ _ f Device.onNote Device.onNote_moves))
  all_goals exact .inl (.of_eq (exec_life _ s t h trivial))

end Sys2Proof.Machine

namespace Sys2Proof
open Machine

/-- Settles O1: the front command is run on the queue's rest. -/
theorem stepRunsTheFrontCommand : Obligations.StepRunsTheFrontCommand := fun _ _ => rfl

/-- Settles O2: whatever its guards decide, the meaning of each command is a next state that differs in the device. -/
theorem everyCommandCompletesAndKeepsTheQueue : Obligations.EveryCommandCompletesAndKeepsTheQueue := by
  intro c s
  cases c <;> exact ⟨_, rfl⟩

/-- What a step does to the life cycle: an idle cycle leaves it, a command moves it as `exec_moves` says. -/
theorem step_moves (s t : State) (h : step s = .next t) :
    RecordMoves s.dev.sec.life t.dev.sec.life ∨ ColdMoves s.dev.sec.life t.dev.sec.life := by
  unfold step at h
  split at h
  · cases h
    exact .inl (.of_eq (Device.elapse_life ..))
  · next c cs _ => exact (exec_moves c { s with pending := cs } t h).imp_right And.right

/-- Settles O6: at reset no fuse is blown. -/
theorem lifeSafeAtReset : Obligations.LifeSafeAtReset := by
  refine ⟨?_, ?_, ?_⟩ <;> exact fun blown => absurd blown (by decide)

/-- Settles O7: `LifeSafe` is `LifeOk` of the life-cycle state and the fuses, which records and cold starts keep. -/
theorem lifeSafeKept : Obligations.LifeSafeKept := by
  intro s t safe h
  rcases step_moves s t h with ⟨-, -, ok⟩ | ⟨-, -, ok⟩ <;> exact ok safe

/-- Settles O8: a record blows the fuses of its new state, a cold start those of the state that stands; nothing unblows one. -/
theorem fusesAreNeverUnblown : Obligations.FusesAreNeverUnblown := by
  intro s t h
  rcases step_moves s t h with ⟨-, fuses, -⟩ | ⟨-, fuses, -⟩ <;> exact fuses

/-- Settles O9: a record moves by a row of `lifeTable`, a part of a cold start to the floor. -/
theorem lifeCycleMovesOnlyAsTabled : Obligations.LifeCycleMovesOnlyAsTabled := by
  intro c s t h moved
  rcases exec_moves c s t h with ⟨lc, -, -⟩ | ⟨cold, lc, -, -⟩
  · exact .inl (lc.resolve_left moved)
  · exact .inr ⟨cold, lc.resolve_left moved⟩

end Sys2Proof

/-! SUPPORT. The checks of R441 read backwards. -/

namespace Sys2Proof.Machine

/-- What each of the thirteen checks of R441 leaves of a record that passes it. -/
structure Device.Passes (d : Device) (p : RecPath) (r : Rec) : Prop where
  wellFormed : r.wellFormed p = true
  known : (bodySize r.typ).isNone = false
  addressed : d.forThis r p = true
  signers : (d.allowed r p).contains r.signers = true
  verifies : d.verifies r = true
  fresh : (d.sec.hashes.getD (r.signer 0) [] == r.hash.take 16) = false
  newer : d.sec.seqOf (r.signer 0) < r.seq
  unwraps : d.unwraps r = true
  inRange : d.inRangeRec r = true
  loads : d.loadOk r = true
  conditions : d.conditionsOk r = true

theorem Device.recCause_passes {d : Device} {p : RecPath} {r : Rec} (cause : d.recCause p r = 0) : d.Passes p r := by
  unfold Device.recCause at cause
  obtain ⟨n1, cause⟩ := chain_zero (by decide) cause
  obtain ⟨n2, cause⟩ := chain_zero (by decide) cause
  obtain ⟨n3, cause⟩ := chain_zero (by decide) cause
  obtain ⟨-, cause⟩ := chain_zero (by decide) cause
  obtain ⟨n5, cause⟩ := chain_zero (by decide) cause
  obtain ⟨-, cause⟩ := chain_zero (by decide) cause
  obtain ⟨n6, cause⟩ := chain_zero (by decide) cause
  obtain ⟨n12, cause⟩ := chain_zero (by decide) cause
  obtain ⟨n7, cause⟩ := chain_zero (by decide) cause
  obtain ⟨n13, cause⟩ := chain_zero (by decide) cause
  obtain ⟨n9, cause⟩ := chain_zero (by decide) cause
  obtain ⟨n10, cause⟩ := chain_zero (by decide) cause
  obtain ⟨n11, -⟩ := chain_zero (by decide) cause
  exact ⟨not_not_true n1, Bool.eq_false_iff.mpr n2, not_not_true n3, not_not_true n5, not_not_true n6,
    Bool.eq_false_iff.mpr n12, Nat.lt_of_not_le n7, not_not_true n13, not_not_true n9, not_not_true n10, not_not_true n11⟩

section
variable {d : Device} {p : RecPath} {r : Rec} (h : d.Passes p r)
include h

theorem Device.Passes.primary : d.secondary = false := by
  by_contra sec
  simpa [Device.allowed, sec] using h.signers

theorem Device.Passes.form : (r.nSig = 1 ∨ r.nSig = 2) ∧ r.len = r.bytes.length := by
  have form := h.wellFormed
  simp only [Rec.wellFormed, Bool.and_eq_true, Bool.or_eq_true, beq_iff_eq] at form
  tauto

/-- Nothing is accepted in SCRAPPED (R446). -/
theorem Device.Passes.alive : d.sec.lc ≠ .scrapped := by
  intro gone
  have signers := h.signers
  simp only [Device.allowed, h.primary, Bool.false_eq_true, if_false, gone, wipeSigners] at signers
  split at signers <;> simp at signers

/-- Each signer's key is present, and its signature verifies over the record's hash (R437, R441). -/
theorem Device.Passes.signed {k : Nat} (block : k < r.nSig) :
    ∃ key, d.signKey (r.signer k) = some key ∧ ecdsaVerify key r.hash (r.sig k) = true := by
  have each := List.all_eq_true.mp h.verifies k (List.mem_range.mpr block)
  split at each
  · next key found => exact ⟨key, found, each⟩
  · cases each

/-- A LIFECYCLE record starts at the present state (R456). -/
theorem Device.Passes.start (typ : r.typ = 4) : getU r.body 0 1 = d.sec.lc.code := by
  have cond := h.conditions
  simp only [Device.conditionsOk, typ, Device.transitionOk, Bool.and_eq_true, beq_iff_eq] at cond
  exact cond.1

/-- In BLANK only Glaelm signs, and only PROVISION or LIFECYCLE (R446, R456). -/
theorem Device.Passes.blank (lc : d.sec.lc = .blank) : (r.typ = 1 ∨ r.typ = 4) ∧ r.signers = [0] := by
  have signers := h.signers
  simp only [Device.allowed, h.primary, Bool.false_eq_true, if_false, lc, wipeSigners] at signers
  split at signers
  case h_1 typ =>
    refine ⟨.inl typ, ?_⟩
    split at signers
    · simpa [sigG] using signers
    · simp at signers
  case h_4 typ =>
    have start : getU r.body 0 1 = 0 := (h.start typ).trans (congrArg Lc.code lc)
    refine ⟨.inr typ, ?_⟩
    rw [start, if_neg (by decide)] at signers
    unfold transitionSigners at signers
    split at signers <;> simp_all [sigG]
  all_goals simp at signers

theorem Device.Passes.sealedCalib (lc : d.sec.lc = .sealed) (typ : r.typ = 5) : r.signers = [1, 2] := by
  have signers := h.signers
  simpa [Device.allowed, h.primary, lc, typ, sigMA] using signers

theorem Device.Passes.sealedExpert (lc : d.sec.lc = .sealed) (typ : r.typ = 6) (legal : d.legalChange r = true) :
    r.signers = [1, 2] := by
  have signers := h.signers
  simpa [Device.allowed, h.primary, lc, typ, legal, sigMA] using signers

/-- In SEALED a WIPE record clears W1 alone (R459); bit 0 of its mask is reserved. -/
theorem Device.Passes.sealedWipe (lc : d.sec.lc = .sealed) (typ : r.typ = 12) : getU r.body 0 1 / 2 = 1 := by
  have signers := h.signers
  simp only [Device.allowed, h.primary, lc, typ, wipeSigners] at signers
  by_contra other
  simp [show ¬ getU r.body 0 1 / 2 * 2 = 2 by omega] at signers

end

end Sys2Proof.Machine

namespace Sys2Proof
open Machine

/-- Settles O35: each clause is one of the checks that the record has passed. -/
theorem acceptedRecordsAreAuthorised : Obligations.AcceptedRecordsAreAuthorised := by
  intro d p r cause
  have h := Device.recCause_passes cause
  exact ⟨h.primary, h.alive, h.form.1, h.form.2, fun k => h.signed, by simpa using h.fresh, h.newer, h.blank, h.sealedCalib,
    h.sealedExpert, h.sealedWipe, h.start⟩

end Sys2Proof

/-! SUPPORT. What a refused record leaves (R21, R441, R450, R468). -/

namespace Sys2Proof.Machine

/-! ## The twelve commands that bring a record -/

/-- The commands of R533's record types. -/
def recordCommands : List ((Nat → RecPath → Bytes → Instr) × Nat) :=
  [(Instr.provision, 1), (.identity, 2), (.keys, 3), (.lifecycle, 4), (.calib, 5), (.paramExpert, 6),
    (.tariffCal, 7), (.timeSet, 8), (.radioCfg, 9), (.radioKeys, 10), (.displayReq, 11), (.wipe, 12)]

theorem exec_record {f : Nat → RecPath → Bytes → Instr} {typ : Nat} (row : (f, typ) ∈ recordCommands) (dt : Nat) (p : RecPath)
    (rest : Bytes) (s : State) :
    exec (f dt p rest) s = .next { s with dev := (s.dev.elapse dt).record typ p rest } ∧ typ ≤ 12 := by
  simp only [recordCommands, List.mem_cons, Prod.mk.injEq, List.not_mem_nil, or_false] at row
  rcases row with ⟨rfl, rfl⟩ | ⟨rfl, rfl⟩ | ⟨rfl, rfl⟩ | ⟨rfl, rfl⟩ | ⟨rfl, rfl⟩ | ⟨rfl, rfl⟩ | ⟨rfl, rfl⟩ | ⟨rfl, rfl⟩ |
    ⟨rfl, rfl⟩ | ⟨rfl, rfl⟩ | ⟨rfl, rfl⟩ | ⟨rfl, rfl⟩ <;> exact ⟨rfl, by decide⟩

theorem Device.recCause_le (s : Device) (p : RecPath) (r : Rec) : s.recCause p r ≤ 13 := by
  have step {c : Prop} [Decidable c] {n m : Nat} (now : n ≤ 13) (later : m ≤ 13) : (if c then n else m) ≤ 13 := by
    split <;> assumption
  unfold Device.recCause
  iterate 13 refine step (by decide) ?_
  decide

/-! ## The verdict of a refusal -/

/-- The verdict is entered in REC_STATUS and RECORD_REFUSED journalled. -/
def Device.refusalTold (s : Device) (p : RecPath) (r : Rec) (cause : Nat) : Device :=
  Device.journal { s with sec := { s.sec with
    verdicts := ((⟨s.land.tick, r.typ, cause, r.seq, if cause != 1 then r.signer 0 else 15,
      if cause != 1 && r.nSig == 2 then r.signer 1 else 15, p == .air⟩ : Verdict) :: s.sec.verdicts).take 8
    verdictSeq := wrapU 32 (s.sec.verdictSeq + 1) } } 0x802 (r.typ + 256 * cause) r.seq

/-- A bad signature and an old number count tamper (R464). -/
def Device.refusalCounted (s : Device) (cause : Nat) : Device :=
  if cause = 6 then s.tamper 11 else if cause = 7 then s.tamper 12 else s

/-- Counters 2, 4 and 7 of ADMIT_REFUSALS are all that a refusal writes beside its books (R21). -/
theorem Device.verdict_refused (s : Device) (p : RecPath) (r : Rec) {cause : Nat} (refused : cause ≠ 0) :
    ∃ l, s.verdict p r cause = { (s.refusalTold p r cause).refusalCounted cause with refusals := l } ∧
      ∀ i, i ≠ 2 → i ≠ 4 → i ≠ 7 → l[i]? = ((s.refusalTold p r cause).refusalCounted cause).refusals[i]? := by
  have shape : s.verdict p r cause =
      (let s3 := (s.refusalTold p r cause).refusalCounted cause
       let s4 := if cause = 9 ∨ cause = 10 then s3.refuse 7 else s3
       if p = .optical then s4.refuse 4 else if r.typ = 8 then s4.refuse 2 else s4) := by
    unfold Device.verdict
    exact if_neg refused
  rw [shape]
  generalize (s.refusalTold p r cause).refusalCounted cause = x
  have range : ∃ l, (if cause = 9 ∨ cause = 10 then x.refuse 7 else x) = { x with refusals := l } ∧
      ∀ i, i ≠ 7 → l[i]? = x.refusals[i]? := by
    split
    · exact ⟨_, rfl, fun i n7 => getElem?_setAt_ne _ _ n7.symm⟩
    · exact ⟨_, rfl, fun _ _ => rfl⟩
  obtain ⟨l, given, others⟩ := range
  dsimp only
  rw [given]
  split
  · exact ⟨_, rfl, fun i _ n4 n7 => (getElem?_setAt_ne _ _ n4.symm).trans (others i n7)⟩
  · split
    · exact ⟨_, rfl, fun i n2 _ n7 => (getElem?_setAt_ne _ _ n2.symm).trans (others i n7)⟩
    · exact ⟨_, rfl, fun i _ _ n7 => others i n7⟩

theorem Device.refusalCounted_booked (s : Device) (cause : Nat) : (s.refusalCounted cause).Booked s := by
  unfold Device.refusalCounted
  split
  · exact s.tamper_booked 11
  · split
    · exact s.tamper_booked 12
    · exact .refl s

theorem Device.refusalCounted_sec (s : Device) (cause : Nat) : (s.refusalCounted cause).sec = { s.sec with
    tamper := (s.refusalCounted cause).sec.tamper, tamperNew := (s.refusalCounted cause).sec.tamperNew
    tamperTotal := (s.refusalCounted cause).sec.tamperTotal } := by
  unfold Device.refusalCounted
  split
  · exact s.tamper_sec 11
  · split
    · exact s.tamper_sec 12
    · rfl

theorem Device.refusalTold_booked (s : Device) (p : RecPath) (r : Rec) (cause : Nat) : (s.refusalTold p r cause).Booked s :=
  (Device.journal_booked ..).trans (s.withSec_booked _)

theorem Device.refusalTold_head (s : Device) (p : RecPath) (r : Rec) (cause : Nat) (primary : s.secondary = false) :
    (s.refusalTold p r cause).jnl.entries.head? =
      some ⟨s.land.tick, 0x802, !s.trusted, wrapU 32 (r.typ + 256 * cause), wrapU 32 r.seq⟩ :=
  Device.journal_head { s with sec := _ } _ _ _ primary

/-- Of the controller's state a refusal writes REC_STATUS and the tamper ledger only. -/
theorem Device.refusal_sec (s : Device) (p : RecPath) (r : Rec) (cause : Nat) (x : Device)
    (hx : x = (s.refusalTold p r cause).refusalCounted cause) : x.sec = { s.sec with
      verdicts := x.sec.verdicts, verdictSeq := x.sec.verdictSeq, tamper := x.sec.tamper, tamperNew := x.sec.tamperNew
      tamperTotal := x.sec.tamperTotal } := by
  have counted := (s.refusalTold p r cause).refusalCounted_sec cause
  rw [show (s.refusalTold p r cause).sec = _ from Device.journal_sec .., ← hx] at counted
  have verdicts := congrArg Security.verdicts counted
  have seq := congrArg Security.verdictSeq counted
  dsimp only at verdicts seq
  rw [verdicts, seq]
  exact counted

/-- The clause of R441 for a refused record: books and counters, and nothing else. -/
theorem Device.verdict_refused_clause (d : Device) (p : RecPath) (r : Rec) (c typ : Nat) (hr : r.typ = typ) (small : typ ≤ 12)
    (seq : r.seq < 2 ^ 32) (refused : c ≠ 0) (known : c ≤ 14) (t : Device) (ht : t = d.verdict p r c) :
    (t.sec.verdicts.head?.map fun v => (v.tick, v.recType, v.cause)) = some (d.land.tick, typ, c) ∧
      (c ≠ 6 → c ≠ 7 → t.sec.tamper = d.sec.tamper ∧ (d.secondary = false →
        t.jnl.entries.head? = some ⟨d.land.tick, 0x802, !d.trusted, typ + 256 * c, r.seq⟩)) ∧
      (∀ i, i ≠ 2 → i ≠ 4 → i ≠ 7 → t.refusals[i]? = d.refusals[i]?) ∧
      t = { d with
        sec := { d.sec with verdicts := t.sec.verdicts, verdictSeq := t.sec.verdictSeq, tamper := t.sec.tamper
                            tamperNew := t.sec.tamperNew, tamperTotal := t.sec.tamperTotal }
        refusals := t.refusals, jnl := t.jnl, toll := { d.toll with ft := t.toll.ft }, store := t.store } := by
  obtain ⟨l, given, others⟩ := d.verdict_refused p r refused
  have booked := ((d.refusalTold p r c).refusalCounted_booked c).trans (d.refusalTold_booked p r c)
  have sec := (d.refusalTold p r c).refusalCounted_sec c
  have told : (d.refusalTold p r c).sec = _ := Device.journal_sec ..
  have plain (n6 : c ≠ 6) (n7 : c ≠ 7) : (d.refusalTold p r c).refusalCounted c = d.refusalTold p r c := by
    simp only [Device.refusalCounted, n6, n7, if_false]
  have head := d.refusalTold_head p r c
  have arg0 : wrapU 32 (r.typ + 256 * c) = r.typ + 256 * c := Nat.mod_eq_of_lt (by omega)
  have arg1 : wrapU 32 r.seq = r.seq := Nat.mod_eq_of_lt seq
  rw [told] at sec
  rw [arg0, arg1] at head
  subst hr ht
  rw [given]
  refine ⟨?_, fun n6 n7 => ⟨?_, fun primary => ?_⟩, fun i n2 n4 n7 => ?_, ?_⟩
  · exact (congrArg (fun x : Security => x.verdicts.head?.map fun v => (v.tick, v.recType, v.cause)) sec).trans rfl
  · exact (congrArg (fun x : Device => x.sec.tamper) (plain n6 n7)).trans ((congrArg Security.tamper told).trans rfl)
  · exact (congrArg (fun x : Device => x.jnl.entries.head?) (plain n6 n7)).trans (head primary)
  · rw [← booked.refusals]; exact others i n2 n4 n7
  · have sec := d.refusal_sec p r c _ rfl
    generalize (d.refusalTold p r c).refusalCounted c = x at booked sec
    unfold Device.Booked at booked
    conv_lhs => rw [booked]
    exact congrArg (fun z : Security => ({ d with
      sec := z, refusals := l, jnl := x.jnl, toll := { d.toll with ft := x.toll.ft }, store := x.store } : Device)) sec

theorem getU_lt (b : Bytes) (o n : Nat) : getU b o n < 256 ^ n := by
  have bound (l : Bytes) : leNat l < 256 ^ l.length := by
    induction l with
    | nil => decide
    | cons x l ih =>
      have := x.isLt
      simp only [leNat, List.length_cons, Nat.pow_succ]
      omega
  refine lt_of_lt_of_eq (bound _) (congrArg _ ?_)
  simp only [slice, List.length_append, List.length_replicate, List.length_take]
  omega

/-- A record that a check refuses, or an isolated controller, is answered by its verdict alone (R441, R517). -/
theorem Device.record_refused (d : Device) (typ : Nat) (p : RecPath) (rest : Bytes) (r : Rec)
    (hr : r = recOf (BitVec.ofNat 8 typ :: rest)) (up : d.up = true)
    (refused : (if d.st.secIsolated then 14 else d.recCause p r) ≠ 0) :
    d.record typ p rest = d.verdict p r (if d.st.secIsolated then 14 else d.recCause p r) := by
  subst hr
  simp only [Device.record, up, if_true, Device.decideRec, refused, if_false]

end Sys2Proof.Machine

namespace Sys2Proof
open Machine

/-- Settles O39: the twelve commands are one, `Device.record`, and a refusal is its verdict. -/
theorem refusedRecordChangesNothing : Obligations.RefusedRecordChangesNothing := by
  intro dt p rest s d f typ c r hd row hr hc
  subst hd
  obtain ⟨meaning, small⟩ := exec_record row dt p rest s
  rw [meaning]
  refine ⟨fun up refused => ⟨_, rfl, ?_⟩, fun down => ?_⟩
  · have known : c ≤ 14 := by
      rw [hc]; split
      · exact le_refl 14
      · exact (Device.recCause_le ..).trans (by decide)
    have typ_eq : r.typ = typ := by rw [hr, recOf_typ]; omega
    exact Device.verdict_refused_clause _ p r c typ typ_eq small (hr ▸ getU_lt _ 12 4) refused known _
      (by rw [Device.record_refused _ typ p rest r hr up (hc ▸ refused), hc])
  · simp only [Device.record, down, Bool.false_eq_true, if_false]

end Sys2Proof

/-! SUPPORT. Test access: what a count of tamper adds, what a load of an instruction leaves (R460 to R462, R465). -/

namespace Sys2Proof.Machine

/-- Where tamper is counted, the count of its kind advances, saturating (R465). -/
theorem Device.tamper_counts (s : Device) (k : Nat) (counted : s.sec.lc.counted = true) {e : Tamper}
    (entry : s.sec.tamper[k]? = some e) : (s.tamper k).sec.tamper[k]?.map (·.count) = some (satInc e.count) := by
  obtain ⟨x, now, count, -⟩ := s.tamperWith_counts k s.land.tick (!s.trusted) counted entry
  show (s.tamperWith k s.land.tick (!s.trusted)).sec.tamper[k]?.map (·.count) = _
  rw [now, List.getElem?_set_self (List.getElem?_eq_some_iff.mp entry).1, Option.map_some, count]

theorem Device.reconcile_sec (s : Device) : s.reconcile.sec = s.sec := by
  unfold Device.reconcile
  split
  · exact s.applyFunctions_secLf.1
  · rfl

theorem tapDecoded_eq (lc : Lc) (l : TapLevel) : tapDecoded lc l =
    (if l = .closed ∨ l = .observe ∨ (l = .board ∧ lc ≠ .sealed) ∨
      (l = .debug ∧ (lc = .blank ∨ lc = .manufacture ∨ lc = .scrapped)) then l else TapLevel.closed) := by
  cases l <;> cases lc <;> decide

theorem sealedOrService_iff (lc : Lc) : lc.sealedOrService = true ↔ lc = .sealed ∨ lc = .service := by
  cases lc <;> decide

theorem tapOpens_iff (l : TapLevel) : tapOpens l = true ↔ l = .board ∨ l = .debug := by
  cases l <;> decide

/-- Of the controller's state a load of an instruction writes the level and the tamper ledger (R460, R461). -/
theorem Device.tapLoad_sec (s : Device) (l : TapLevel) :
    (s.tapLoad l).sec = { (if tapOpens l && s.sec.lc.sealedOrService then s.tamper 10 else s).sec with
      tap := tapDecoded s.sec.lc l } := by
  unfold Device.tapLoad
  dsimp only
  rw [Device.reconcile_sec]
  split
  · exact Device.journal_sec ..
  · rfl

theorem Device.tapLoad_counts (s : Device) (l : TapLevel) {e : Tamper} (entry : s.sec.tamper[10]? = some e) :
    (s.tapLoad l).sec.tamper[10]?.map (·.count) =
      some (if (l = .board ∨ l = .debug) ∧ (s.sec.lc = .sealed ∨ s.sec.lc = .service) then satInc e.count else e.count) := by
  simp only [s.tapLoad_sec l, ← tapOpens_iff, ← sealedOrService_iff, ← Bool.and_eq_true]
  split
  case isTrue opens =>
    have counted : s.sec.lc.counted = true := by
      rcases (sealedOrService_iff _).mp (Bool.and_eq_true_iff.mp opens).2 with lc | lc <;> rw [lc] <;> rfl
    exact s.tamper_counts 10 counted entry
  case isFalse => rw [entry]; rfl

/-- The first rise of `TRST_N` that counts: high, marked, and one more of kind 10 (R462). -/
def Device.trstRisen (s : Device) : Device :=
  Device.tamper { s with sec := { s.sec with trstHigh := true, trstCounted := true } } 10

theorem Device.trstRisen_sec (s : Device) : s.trstRisen.sec.trstHigh = true ∧ s.trstRisen.sec.trstCounted = true ∧
    s.trstRisen.sec.tap = s.sec.tap := by
  unfold Device.trstRisen
  rw [Device.tamper_sec]
  exact ⟨rfl, rfl, rfl⟩

/-- The port closes with `TRST_N` low (R460). -/
def Device.trstFallen (s : Device) : Device :=
  { s with sec := { s.sec with trstHigh := false, trstCounted := false, tap := .closed } }

theorem Device.trstFallen_closes (s : Device) (b : Bool) :
    (if b then s.trstFallen.reconcile else s.trstFallen).sec = s.trstFallen.sec ∧
      (if b then s.trstFallen.reconcile else s.trstFallen).conf.g = s.conf.g := by
  obtain ⟨-, -, -, -, g, -⟩ := s.trstFallen.reconcile_kept
  split
  · exact ⟨s.trstFallen.reconcile_sec, g⟩
  · exact ⟨rfl, rfl⟩

end Sys2Proof.Machine

namespace Sys2Proof
open Machine

/-- Settles O40: the port is live in a device that is up and awake; a rise of `TRST_N` counts once, a fall closes the port. -/
theorem testAccessIsGraded : Obligations.TestAccessIsGraded := by
  intro dt l s d hd
  subst hd
  generalize ht : s.dev.elapse dt = d
  refine ⟨fun up awake high => ⟨d.tapLoad l, ?_, ?_⟩, fun dead => ?_, fun up awake sealing low fresh e entry =>
    ⟨d.trstRisen, ?_, ?_⟩, fun still => ?_, ⟨if tapOpens d.sec.tap then d.trstFallen.reconcile else d.trstFallen, ?_, ?_⟩⟩
  · simp [exec, execTapInstructionLoad, ht, Device.tapLive, up, awake, high]
  · obtain ⟨keys, -, calib, expert, g, -⟩ := d.tapLoad_kept l
    obtain ⟨-, -, -, -, -, tick, -⟩ := d.tapLoad_same l
    refine ⟨?_, fun e entry => d.tapLoad_counts l entry, congrArg Prod.fst (d.tapLoad_life l), keys, g, calib, expert, tick⟩
    rw [d.tapLoad_sec l]
    exact tapDecoded_eq _ _
  · have closed : (d.tapLive && d.sec.trstHigh) = false := by
      rcases dead with dead | dead | dead <;> simp [Device.tapLive, dead]
    simp [exec, execTapInstructionLoad, ht, closed]
  · simp [exec, execTrstNRise, ht, Device.tapLive, up, awake, sealing, low, fresh, Device.trstRisen]
  · obtain ⟨high, counted, tap⟩ := d.trstRisen_sec
    have one := Device.tamper_counts { d with sec := { d.sec with trstHigh := true, trstCounted := true } } 10
      (by rw [sealing]; rfl) entry
    exact ⟨high, counted, one, tap, (Device.tamper_booked _ 10).trans (d.withSec_booked _)⟩
  · have spared : (d.tapLive && d.sec.lc == .sealed && !d.sec.trstCounted && !d.sec.trstHigh) = false := by
      rcases still with still | still | still | still | still <;> simp [Device.tapLive, still]
    simp [exec, execTrstNRise, ht, spared]
  · simp [exec, execTrstNFall, ht, Device.trstFallen]
  · obtain ⟨sec, g⟩ := d.trstFallen_closes (tapOpens d.sec.tap)
    rw [sec]
    refine ⟨rfl, rfl, rfl, rfl, rfl, g, fun shut => ?_⟩
    have stays : tapOpens d.sec.tap = false := by rcases shut with shut | shut <;> rw [shut] <;> rfl
    rw [stays]; rfl

end Sys2Proof

/-! SUPPORT. A WIPE record of W5 that closes a child's window: `Device.wipe5` applies what configures the functions, and that
disables a Ferryman that is ON where no group asks for it (R29, R528). -/

namespace Sys2Proof.Machine

/-- A WIPE record of W5 alone, signed by the maker, after its type byte. Its signature is r = s = the record's hash. -/
def wipeW5 : Bytes :=
  [1#8] ++ leBytes 2 86 ++ leBytes 8 0 ++ leBytes 4 1 ++ leBytes 4 0x20 ++ leBytes 2 1 ++
    leBytes 32 0x411469633736d0fb72383806d3dc1a03bf4cb3e175261bd86407136c071c5a7 ++
    leBytes 32 0x411469633736d0fb72383806d3dc1a03bf4cb3e175261bd86407136c071c5a7

/-- The one key under which it verifies. -/
def makerKey : Nat × Nat :=
  (0xd8e4058b0d39f876d43965e37d97696b4cea5b78c499ae166523b43ed5743632,
   0xbb02c0e92cdbb7e0daffdfc03e5b4e76568dcaec522b7c8c95079fe35feb50f)

/-- In MANUFACTURE, with that maker's key; the Ferryman is ON with a child in its open
window, and no group configures it. -/
def windowOpen : Device :=
  { power := { phase := .running, st := .run }
    fn := { ferryman := { st := .on, wanted := true } }
    radio := { children := [{ idx := 0, windowOpen := true }] }
    sec := { lc := .manufacture, keys := { maker := some makerKey } } }

theorem windowOpen_takes :
    Takes (windowOpen.elapse 0) 0x0C .optical wipeW5 (recOf (BitVec.ofNat 8 0x0C :: wipeW5)) :=
  ⟨rfl, by decide, by decide, by decide +kernel⟩

theorem wipeW5_closes :
    (((windowOpen.elapse 0).record 0x0C .optical wipeW5).radio.children.map (·.windowOpen)) = [false] := by decide +kernel

end Sys2Proof.Machine

namespace Sys2Proof
open Machine

/-- Under the statement a WIPE record without W4 leaves every child's window as it was. -/
theorem wipe_keeps_windows (h : Obligations.WipeRecordClearsItsClasses) {d : Device} {rest : Bytes} {r : Rec}
    (takes : Takes (d.elapse 0) 0x0C .optical rest r) (spared : bitAt (getU r.body 0 1) 4 = false) :
    ((d.elapse 0).record 0x0C .optical rest).radio.children = (d.elapse 0).radio.children := by
  obtain ⟨t, runs, -, -, -, -, -, -, -, -, -, children, -⟩ := h 0 .optical rest ⟨d, []⟩ _ r _ rfl takes rfl
  cases runs
  exact children spared

/-- Refutes O38: without W4 in the mask the children need not stay. W5 applies the functions (R528), which disables a Ferryman that
is ON though no group asks for it, and its open windows close at once (R29). -/
theorem not_wipeRecordClearsItsClasses : ¬ Obligations.WipeRecordClearsItsClasses := by
  intro h
  have stays := congrArg (List.map Child.windowOpen) (wipe_keeps_windows h windowOpen_takes (by decide +kernel))
  rw [wipeW5_closes] at stays
  exact absurd stays (by decide)

end Sys2Proof

/-! SUPPORT. What signs a record, and where the device stands, across an accepted record and its wipes (R441, R443, R458). -/

namespace Sys2Proof.Machine

/-! ## Numbers and hashes of the signers -/

/-- Last hashes and sequence numbers of the signers (R443, R467). -/
def Security.marks (x : Security) : List Bytes × Nat × Nat × Nat × Nat := (x.hashes, x.seqGlaelm, x.seqMaker, x.seqAuth, x.seqOper)

/-- `t` has the signers' marks of `s`, stands at the same phase of the start sequence and read the same straps. -/
structure Device.Vouched (t s : Device) : Prop where
  marks : t.sec.marks = s.sec.marks
  phase : t.power.phase = s.power.phase
  codes : t.straps.codes = s.straps.codes

theorem Device.Vouched.refl (s : Device) : s.Vouched s := ⟨rfl, rfl, rfl⟩

theorem Device.Vouched.trans {a b c : Device} (h : a.Vouched b) (k : b.Vouched c) : a.Vouched c :=
  ⟨h.marks.trans k.marks, h.phase.trans k.phase, h.codes.trans k.codes⟩

theorem vouched_ite {c : Prop} [Decidable c] {a b s : Device} (h : a.Vouched s) (k : b.Vouched s) : (if c then a else b).Vouched s := by
  split <;> assumption

theorem foldl_vouched {α : Type} (f : Device → α → Device) (h : ∀ s a, (f s a).Vouched s) (l : List α) (s : Device) :
    (l.foldl f s).Vouched s := by
  induction l generalizing s with
  | nil => exact .refl s
  | cons a l ih => rw [List.foldl_cons]; exact (ih _).trans (h s a)

theorem Device.Laned.vouched {t s : Device} (h : t.Laned s) : t.Vouched s :=
  ⟨by rw [h.rest], by rw [h.rest], by rw [h.rest]⟩

/-- An operation that leaves the controller's state, the phase and the straps. -/
theorem Device.Vouched.of_frames {t s : Device} (sec : t.SecLf s) (same : t.Same s) (kept : t.Kept s) : t.Vouched s := by
  obtain ⟨phase, -⟩ := same
  obtain ⟨-, -, -, -, -, -, codes⟩ := kept
  exact ⟨congrArg Security.marks sec.1, phase, codes⟩

theorem Device.Booked.vouched {t s : Device} (h : t.Booked s) (marks : t.sec.marks = s.sec.marks) : t.Vouched s := by
  unfold Device.Booked at h
  exact ⟨marks, by rw [h], by rw [h]⟩

theorem Security.seqOf_congr {x y : Security} (h : x.marks = y.marks) (k : Nat) : x.seqOf k = y.seqOf k := by
  simp only [Security.marks, Prod.mk.injEq] at h
  obtain ⟨-, glaelm, maker, auth, oper⟩ := h
  unfold Security.seqOf
  split <;> assumption

theorem Security.blow_marks (x : Security) : x.blow.marks = x.marks := by
  unfold Security.blow; split <;> rfl

theorem Device.tamperWith_vouched (s : Device) (k t : Nat) (u : Bool) : (s.tamperWith k t u).Vouched s := by
  refine (s.tamperWith_booked k t u).vouched ?_
  unfold Device.tamperWith
  split
  · split
    · rfl
    · dsimp only
      split
      · exact (congrArg Security.marks (Device.commit_sec _)).trans rfl
      · exact (congrArg Security.marks (Device.journalWith_sec ..)).trans rfl
  · rfl

theorem Device.tamper_vouched (s : Device) (k : Nat) : (s.tamper k).Vouched s := s.tamperWith_vouched k _ _

/-- The verdict finds the signer's number and hash as the commit of the record set them. -/
theorem Device.verdict_accepts (d x : Device) (p : RecPath) (r : Rec) (tick : x.land.tick = d.land.tick)
    (vouched : x.Vouched (d.taken r)) : Accepted d (x.verdict p r 0) p r := by
  refine ⟨?_, ?_, ?_⟩
  · rw [Device.verdict_zero, Device.journal_sec, tick]; rfl
  · rw [Device.verdict_zero, Device.journal_sec, ← d.taken_seqOf r]
    exact Security.seqOf_congr (x := { x.sec with verdicts := _, verdictSeq := _ }) vouched.marks _
  · rw [Device.verdict_zero, Device.journal_sec, ← d.taken_hashes r]
    exact congrArg Prod.fst vouched.marks

/-! ## Wipes -/

theorem Device.armBoundary_vouched (s : Device) : s.armBoundary.Vouched s := s.armBoundary_laned.vouched

theorem Device.journalLand_vouched (s : Device) (e : LandEvent) : (s.journalLand e).Vouched s := by
  have told : (s.journalWith e.tick e.untrusted e.code e.arg0 e.arg1).Vouched s :=
    (Device.journalWith_booked ..).vouched (congrArg Security.marks (Device.journalWith_sec ..))
  have counted (k : Nat) := (Device.tamperWith_vouched (s.journalWith e.tick e.untrusted e.code e.arg0 e.arg1) k e.tick
    e.untrusted).trans told
  exact vouched_ite (counted 8) (vouched_ite (counted 6) (vouched_ite (counted 7) told))

theorem Device.flushEvents_vouched (s : Device) : s.flushEvents.Vouched s :=
  (foldl_vouched Device.journalLand Device.journalLand_vouched _ _).trans ⟨rfl, rfl, rfl⟩

theorem Device.builtInCalendar_vouched (s : Device) : s.builtInCalendar.Vouched s := by
  unfold Device.builtInCalendar
  extract_lets t d _ _ s1 s2 _
  have refreshed : s1.updateTimeNow.realignRefresh.Vouched s1.updateTimeNow :=
    vouched_ite (vouched_ite (Device.disarm_laned _ _).vouched (Device.arm_laned ..).vouched) (.refl _)
  have realigned : s2.Vouched s := refreshed.trans ⟨rfl, rfl, rfl⟩
  have tariff (b : Bill) : (Device.tariffStep { s2 with bill := b } t).Vouched s2 := ⟨rfl, rfl, rfl⟩
  exact vouched_ite ((Device.armBoundary_vouched _).trans ((tariff _).trans realigned)) realigned

theorem Device.tablesGone_vouched (s : Device) : s.tablesGone.Vouched s :=
  vouched_ite (.of_frames s.displayRetable_secLf s.displayRetable_same s.displayRetable_kept) (.refl s)

theorem Device.wipe2_vouched (s : Device) : s.wipe2.Vouched s := by
  unfold Device.wipe2
  extract_lets _ _ _ s1
  have wiped : s1.Vouched s := ⟨rfl, rfl, rfl⟩
  exact vouched_ite ((s1.journal_laned ..).vouched.trans wiped) wiped

theorem Device.wipe4_vouched (s : Device) : s.wipe4.Vouched s := by
  unfold Device.wipe4
  extract_lets _ _ _ _ _ _ _ s1 s2
  have cleared : s2.Vouched s := ⟨rfl, rfl, rfl⟩
  exact (foldl_vouched Device.disarm (fun x i => (x.disarm_laned i).vouched) _ _).trans cleared

theorem Device.wipe5_vouched (s : Device) : s.wipe5.Vouched s := by
  unfold Device.wipe5
  extract_lets _ _ _ _ s1 s2
  have gone : s2.Vouched s :=
    (Device.tablesGone_vouched _).trans ((Device.builtInCalendar_vouched s1).trans ⟨rfl, rfl, rfl⟩)
  have tested : s2.calibTest.Vouched s2 := .of_frames s2.calibTest_secLf s2.calibTest_same s2.calibTest_kept
  have wanted : s2.calibTest.applyFunctions.Vouched s2.calibTest :=
    .of_frames (Device.applyFunctions_secLf _) (Device.applyFunctions_same _) (Device.applyFunctions_kept _)
  exact vouched_ite ((Device.recond_laned _).vouched.trans (wanted.trans (tested.trans gone))) gone

theorem Device.wipe7_vouched (s : Device) : s.wipe7.Vouched s := by
  have held (x : Device) : x.corrHold.Vouched x := vouched_ite (.refl x) ⟨rfl, rfl, rfl⟩
  have told (x : Device) (code a b : Nat) : (x.landEvent code a b).Vouched x :=
    vouched_ite ((Device.flushEvents_vouched _).trans ⟨rfl, rfl, rfl⟩) ⟨rfl, rfl, rfl⟩
  exact vouched_ite ((told _ _ _ _).trans ((held _).trans ⟨rfl, rfl, rfl⟩)) (.refl s)

theorem Device.wipeClass_vouched (s : Device) (scrap : Bool) (mask n : Nat) : (s.wipeClass scrap mask n).Vouched s := by
  unfold Device.wipeClass
  split
  · split
    · exact ⟨rfl, rfl, rfl⟩
    · exact s.wipe2_vouched
    · exact ⟨rfl, rfl, rfl⟩
    · exact s.wipe4_vouched
    · exact s.wipe5_vouched
    · exact ⟨rfl, rfl, rfl⟩
    · exact s.wipe7_vouched
    · exact .refl s
  · exact .refl s

theorem Device.reseed_vouched (s : Device) : s.reseed.Vouched s := by
  unfold Device.reseed
  extract_lets s1 _ s2
  have first : s1.Vouched s := (s.seedSched_laned _).vouched
  have seeded : s2.Vouched s := ⟨first.marks, first.phase, first.codes⟩
  exact vouched_ite (vouched_ite seeded ((Device.armBoundary_vouched _).trans seeded)) seeded

theorem Device.wipe_vouched (s : Device) (mask : Nat) (scrap : Bool) : (s.wipe mask scrap).Vouched s := by
  unfold Device.wipe
  extract_lets s0 _ s1 s2
  have begun : s0.Vouched s := ((Device.bringUp_laned ..).trans s.boundaryFirst_laned).vouched
  have told : s1.Vouched s0 := (Device.journal_laned ..).vouched.trans ⟨rfl, rfl, rfl⟩
  have wiped : s2.Vouched s1 :=
    foldl_vouched (fun (x : Device) (n : Nat) => x.wipeClass scrap mask n) (fun x n => x.wipeClass_vouched scrap mask n) _ _
  have seeded : (s2.wipeSeed mask).Vouched s2 := vouched_ite s2.reseed_vouched (.refl s2)
  exact (Device.recond_laned _).vouched.trans (seeded.trans (wiped.trans (told.trans begun)))

theorem Device.transit_vouched (s : Device) (a b : Nat) : (s.transit a b).Vouched s := by
  unfold Device.transit
  extract_lets m s1 _ s2
  have wiped : (if m = 0 then s else s.wipe m (b == 5)).Vouched s := vouched_ite (.refl s) (s.wipe_vouched ..)
  have moved : s1.Vouched s := (Device.tamper_vouched _ 13).trans ((Device.journal_laned ..).vouched.trans wiped)
  exact vouched_ite ⟨moved.marks, moved.phase, moved.codes⟩
    (vouched_ite ⟨moved.marks, moved.phase, moved.codes⟩ ⟨moved.marks, moved.phase, moved.codes⟩)


/-! ## An accepted record of the life cycle (R446, R457) -/

theorem Device.Vouched.started {t s : Device} (h : t.Vouched s) : t.started = s.started := by
  unfold Device.started; rw [h.phase]

/-- A taken record of the life cycle: it is applied, its verdict entered, and the cold start that ends it made due. -/
theorem Device.record_moved {d : Device} {typ : Nat} {p : RecPath} {rest : Bytes} {r : Rec} (h : Takes d typ p rest r)
    (moves : typ = 1 ∨ typ = 4) :
    d.record typ p rest = (((d.taken r).applyRec r).verdict p r 0).transitionEnd ∧ r.typ = typ ∧ d.Passes p r := by
  obtain ⟨rfl, up, sound, cause⟩ := h
  have typ_eq := (recOf_typ typ rest).trans (Nat.mod_eq_of_lt (by omega))
  refine ⟨?_, typ_eq, Device.recCause_passes cause⟩
  simp [Device.record, Device.decideRec, up, sound, cause, typ_eq, moves, Device.taken]

/-- What the end of a transition leaves in service: everything that runs is given up, new fuses are blown, and the hold-up
commit and the cold start are due. -/
theorem Device.transitionEnd_started (s : Device) (started : s.started = true) :
    s.transitionEnd = { s.holdBegin false with
      sec := s.sec.blow
      power := { s.power with
        holdDue := true, shipping := false, coldDue := true, startCause := 4
        heldItems := s.power.heldItems + s.abandoned, heldRegions := s.power.heldRegions ||| s.disp.runMask } } := by
  rw [Device.transitionEnd, s.holdStart_started started, s.holdBegin_started false started]

theorem Device.transitionEnd_sec (s : Device) (started : s.started = true) : s.transitionEnd.sec = s.sec.blow :=
  congrArg Device.sec (s.transitionEnd_started started)

theorem Device.transitionEnd_power (s : Device) (started : s.started = true) :
    s.transitionEnd.power = { s.power with
      holdDue := true, shipping := false, coldDue := true, startCause := 4
      heldItems := s.power.heldItems + s.abandoned, heldRegions := s.power.heldRegions ||| s.disp.runMask } :=
  congrArg Device.power (s.transitionEnd_started started)

theorem Device.transitionEnd_keeps (s : Device) (started : s.started = true) :
    s.transitionEnd.conf = s.conf ∧ s.transitionEnd.land = s.land ∧ s.transitionEnd.straps = s.straps := by
  rw [s.transitionEnd_started started, s.holdBegin_started false started]
  exact ⟨rfl, rfl, rfl⟩

theorem Device.transitionEnd_givesUp (s : Device) (started : s.started = true) : GivesUp s s.transitionEnd := by
  obtain ⟨exch, reasm, join, windows, fcnt, flight, haw, temp⟩ := s.holdBegin_givesUp false started
  rw [s.transitionEnd_started started]
  exact ⟨exch, reasm, join, windows, fcnt, flight, haw, temp⟩

/-- The verdict stands through the end of the transition. -/
theorem Device.transitionEnd_accepted {d y : Device} {p : RecPath} {r : Rec} (h : Accepted d y p r) (started : y.started = true) :
    Accepted d y.transitionEnd p r := by
  obtain ⟨verdict, seq, hashes⟩ := h
  have marks : y.transitionEnd.sec.marks = y.sec.marks := by rw [y.transitionEnd_sec started, Security.blow_marks]
  exact ⟨y.transitionEnd_verdicts ▸ verdict, (Security.seqOf_congr marks _).trans seq, (congrArg Prod.fst marks).trans hashes⟩

/-- What no entry in the books changes: the radio, the Transit Engine, the Hawser and the Thermal Converter are given up as
they stood. -/
theorem givesUp_of_booked {d y t : Device} (booked : y.Booked d) (h : GivesUp y t) : GivesUp d t := by
  unfold Device.Booked at booked
  rw [booked] at h
  exact h

theorem Device.Booked.abandoned {t s : Device} (h : t.Booked s) : t.abandoned = s.abandoned := by
  unfold Device.Booked at h
  rw [h]; rfl

theorem Security.blow_keys (x : Security) : x.blow.keys = x.keys := by
  unfold Security.blow; split <;> rfl

theorem Security.blow_lcKept (x : Security) : x.blow.lc = x.lc := by
  unfold Security.blow; split <;> rfl

theorem Security.blow_sealTick (x : Security) : x.blow.sealTick = x.sealTick := by
  unfold Security.blow; split <;> rfl

/-- The fuses that a transition leaves blown in each state (R454). -/
theorem Security.blow_fuses (x : Security) :
    (x.lc = .manufacture ∨ x.lc = .calibrate → x.blow.fuseP = true) ∧
      (x.lc = .sealed ∨ x.lc = .service → x.blow.fuseP = true ∧ x.blow.fuseS = true) ∧
      (x.lc = .scrapped → x.blow.fuseX = true) := by
  unfold Security.blow
  cases x.lc <;> simp

theorem Security.blow_manufacture (x : Security) (h : x.lc = .manufacture) : x.blow = { x with fuseP := true } := by
  unfold Security.blow; rw [h]

end Sys2Proof.Machine

/-! SUPPORT. What each record of keys and life cycle leaves once it is taken. -/

namespace Sys2Proof.Machine

/-! ## PROVISION (R446) -/

theorem Device.transit_plain (s : Device) : s.transit 0 1 =
    { (s.journal 0x803 0 1).tamper 13 with sec := { ((s.journal 0x803 0 1).tamper 13).sec with lc := .manufacture } } := rfl

theorem Device.applyProvision_booked (s : Device) (b : Bytes) : (s.applyProvision b).Booked s := by
  unfold Device.applyProvision
  rw [Device.transit_plain]
  exact (Device.withSec_booked _ _).trans ((Device.tamper_booked _ 13).trans ((Device.journal_booked ..).trans rfl))

theorem Device.applyProvision_vouched (s : Device) (b : Bytes) : (s.applyProvision b).Vouched s := by
  exact (Device.transit_vouched _ 0 1).trans ⟨rfl, rfl, rfl⟩

theorem Device.applyProvision_life (s : Device) (b : Bytes) :
    (s.applyProvision b).sec.life = (.manufacture, s.sec.life.2) :=
  Device.transit_life _ 0 1

theorem Device.applyProvision_keys (s : Device) (b : Bytes) :
    (s.applyProvision b).sec.keys = { s.sec.keys with maker := some (getU b 0 32, getU b 32 32) } := by
  unfold Device.applyProvision
  rw [Device.transit_plain]
  exact (congrArg Security.keys (Device.tamper_sec _ 13)).trans (congrArg Security.keys (Device.journal_sec ..))

theorem Device.taken_keys (d : Device) (r : Rec) : (d.taken r).sec.keys = d.sec.keys := by
  have commits : (d.recCommit r).sec.keys = d.sec.keys := by
    rw [Device.recCommit, Device.commit_sec]
    unfold Security.setSeq
    split <;> rfl
  unfold Device.taken Device.legalCount
  split
  · rw [Device.tamper_sec]; exact commits
  · exact commits

theorem Device.taken_life (d : Device) (r : Rec) : (d.taken r).sec.life = d.sec.life :=
  (Device.legalCount_life ..).trans (Device.recCommit_life ..)

theorem Device.verdict_zero_sec (s : Device) (p : RecPath) (r : Rec) :
    (s.verdict p r 0).sec = { s.sec with
      verdicts := (takenVerdict s.land.tick p r :: s.sec.verdicts).take 8, verdictSeq := wrapU 32 (s.sec.verdictSeq + 1) } := by
  rw [Device.verdict_zero, Device.journal_sec]

theorem provision_taken {d : Device} {p : RecPath} {rest : Bytes} {r : Rec} (h : Takes d 0x01 p rest r) :
    Accepted d (d.record 0x01 p rest) p r ∧
      (d.record 0x01 p rest).sec.lc = .manufacture ∧ (d.record 0x01 p rest).sec.fuseP = true ∧
      (d.record 0x01 p rest).sec.fuseS = d.sec.fuseS ∧ (d.record 0x01 p rest).sec.fuseX = d.sec.fuseX ∧
      (d.record 0x01 p rest).sec.keys = { d.sec.keys with maker := some (getU r.body 0 32, getU r.body 32 32) } ∧
      (d.record 0x01 p rest).power = { d.power with
        holdDue := true, shipping := false, coldDue := true, startCause := 4
        heldItems := d.power.heldItems + d.abandoned, heldRegions := d.power.heldRegions ||| d.disp.runMask } ∧
      GivesUp d (d.record 0x01 p rest) ∧ (d.record 0x01 p rest).conf = d.conf ∧ (d.record 0x01 p rest).land = d.land := by
  obtain ⟨result, typ, -⟩ := Device.record_moved h (.inl rfl)
  obtain ⟨-, up, -, -⟩ := h
  have applied : (d.taken r).applyRec r = (d.taken r).applyProvision r.body := by simp only [Device.applyRec, typ]
  rw [applied] at result
  have booked : ((d.taken r).applyProvision r.body).Booked d := (Device.applyProvision_booked ..).trans (d.taken_booked r)
  generalize hx : (d.taken r).applyProvision r.body = x at booked result
  have vouched : x.Vouched (d.taken r) := hx ▸ Device.applyProvision_vouched ..
  have life : x.sec.life = (.manufacture, d.sec.life.2) := by
    rw [← hx, Device.applyProvision_life, d.taken_life]
  have keys : x.sec.keys = { d.sec.keys with maker := some (getU r.body 0 32, getU r.body 32 32) } := by
    rw [← hx, Device.applyProvision_keys, d.taken_keys]
  have accepted := d.verdict_accepts x p r (congrArg (·.tick) booked.land) vouched
  have sec := x.verdict_zero_sec p r
  have entered : (x.verdict p r 0).Booked d := (x.verdict_zero_booked p r).trans booked
  generalize x.verdict p r 0 = y at result accepted sec entered
  have started : y.started = true := by
    unfold Device.Booked at entered
    rw [entered]
    simp only [Device.up, Bool.and_eq_true] at up
    exact up.1
  obtain ⟨conf, land, -⟩ := y.transitionEnd_keeps started
  have lc : y.sec.lc = .manufacture := by rw [sec]; exact congrArg (·.1) life
  have blown : y.transitionEnd.sec = { y.sec with fuseP := true } :=
    (y.transitionEnd_sec started).trans (y.sec.blow_manufacture lc)
  rw [result]
  refine ⟨Device.transitionEnd_accepted accepted started, ?_, ?_, ?_, ?_, ?_, ?_, givesUp_of_booked entered (y.transitionEnd_givesUp started),
    conf.trans (by unfold Device.Booked at entered; rw [entered]), land.trans entered.land⟩
  · rw [blown]; exact lc
  · rw [blown]
  · rw [blown, sec]; exact congrArg (·.2.2.1) life
  · rw [blown, sec]; exact congrArg (·.2.2.2) life
  · rw [blown, sec]; exact keys
  · rw [y.transitionEnd_power started, entered.abandoned]
    unfold Device.Booked at entered
    rw [entered]


/-! ## IDENTITY (R439) -/

theorem Device.planRadio_vouched (s : Device) : s.planRadio.Vouched s :=
  .of_frames s.planRadio_secLf s.planRadio_same s.planRadio_kept

theorem Device.planRadio_sec (s : Device) : s.planRadio.sec = s.sec := s.planRadio_secLf.1

theorem Device.planRadio_conf (s : Device) : s.planRadio.conf = s.conf := by
  obtain ⟨conf, -⟩ := s.planRadio_calm
  exact conf

theorem Device.applyIdentity_sec (s : Device) (b : Bytes) : (s.applyIdentity b).sec = { s.sec with
    devEui := some (getU b 0 8), keys := { s.sec.keys with kek := some (slice b 8 16) } } :=
  Device.planRadio_sec _

theorem Device.applyIdentity_vouched (s : Device) (b : Bytes) : (s.applyIdentity b).Vouched s :=
  (Device.planRadio_vouched _).trans ⟨rfl, rfl, rfl⟩

theorem Device.Booked.power {t s : Device} (h : t.Booked s) : t.power = s.power := by
  unfold Device.Booked at h; exact (congrArg Device.power h).trans rfl

theorem Device.Booked.conf {t s : Device} (h : t.Booked s) : t.conf = s.conf := by
  unfold Device.Booked at h; exact (congrArg Device.conf h).trans rfl

theorem identity_taken {d : Device} {p : RecPath} {rest : Bytes} {r : Rec} (h : Takes d 0x02 p rest r) :
    Accepted d (d.record 0x02 p rest) p r ∧ (d.record 0x02 p rest).sec.devEui = some (getU r.body 0 8) ∧
      (d.record 0x02 p rest).sec.keys = { d.sec.keys with kek := some (slice r.body 8 16) } ∧
      (d.record 0x02 p rest).sec.lc = d.sec.lc ∧ (d.record 0x02 p rest).power = d.power ∧
      (d.record 0x02 p rest).conf = d.conf ∧ (d.record 0x02 p rest).land.tick = d.land.tick := by
  obtain ⟨result, typ⟩ := Device.record_taken h (by decide) (by decide) (by decide)
  have applied : (d.taken r).applyRec r = (d.taken r).applyIdentity r.body := by simp only [Device.applyRec, typ]
  have sec := (d.taken r).applyIdentity_sec r.body
  have taken := d.taken_booked r
  have tick : ((d.taken r).applyIdentity r.body).land.tick = d.land.tick :=
    (Device.Same.tick (Device.applyIdentity_same _ _)).trans (congrArg (·.tick) taken.land)
  have power : ((d.taken r).applyIdentity r.body).power = d.power := (Device.planRadio_power _).trans taken.power
  have conf : ((d.taken r).applyIdentity r.body).conf = d.conf := (Device.planRadio_conf _).trans taken.conf
  have accepted := d.verdict_accepts _ p r tick ((d.taken r).applyIdentity_vouched r.body)
  rw [result, applied]
  generalize (d.taken r).applyIdentity r.body = x at sec tick power conf accepted
  have entered := x.verdict_zero_booked p r
  refine ⟨accepted, ?_, ?_, ?_, entered.power.trans power, entered.conf.trans conf,
    (congrArg (·.tick) entered.land).trans tick⟩
  · rw [x.verdict_zero_sec p r, sec]
  · rw [x.verdict_zero_sec p r, sec, ← d.taken_keys r]
  · rw [x.verdict_zero_sec p r, sec]
    exact congrArg (·.1) (d.taken_life r)

/-! ## KEYS (R448) -/

theorem getU_drop (b : Bytes) (a o n : Nat) : getU (b.drop a) o n = getU b (a + o) n := by
  simp [getU, slice, List.drop_drop]

theorem Device.applyKeys_booked (s : Device) (b : Bytes) : (s.applyKeys b).Booked s := by
  unfold Device.applyKeys
  extract_lets k _ s1
  have stored : s1.Booked s := s.withSec_booked _
  split
  · exact (Device.tamper_booked ..).trans stored
  · exact stored

theorem Device.applyKeys_vouched (s : Device) (b : Bytes) : (s.applyKeys b).Vouched s := by
  unfold Device.applyKeys
  extract_lets k _ s1
  have stored : s1.Vouched s := ⟨rfl, rfl, rfl⟩
  exact vouched_ite ((s1.tamper_vouched 22).trans stored) stored

theorem Device.applyKeys_keys (s : Device) (b : Bytes) : (s.applyKeys b).sec.keys = s.sec.keys.set (getU b 0 1)
    (if getU b 4 32 = 0 ∧ getU b 36 32 = 0 then none else some (getU b 4 32, getU b 36 32)) := by
  have point : pointOf (b.drop 4) = (getU b 4 32, getU b 36 32) := by rw [pointOf, getU_drop, getU_drop]
  unfold Device.applyKeys
  simp only [point, Prod.mk.injEq]
  split
  · rw [Device.tamper_sec]
  · rfl

theorem keys_taken {d : Device} {p : RecPath} {rest : Bytes} {r : Rec} (h : Takes d 0x03 p rest r) {v : Option (Nat × Nat)}
    (hv : v = if getU r.body 4 32 = 0 ∧ getU r.body 36 32 = 0 then none else some (getU r.body 4 32, getU r.body 36 32)) :
    Accepted d (d.record 0x03 p rest) p r ∧ getU r.body 0 1 < 4 ∧
      (d.record 0x03 p rest).sec.keys = d.sec.keys.set (getU r.body 0 1) v ∧ (d.record 0x03 p rest).sec.lc = d.sec.lc ∧
      (d.record 0x03 p rest).Booked d := by
  obtain ⟨result, typ⟩ := Device.record_taken h (by decide) (by decide) (by decide)
  obtain ⟨-, -, -, cause⟩ := h
  have slot : getU r.body 0 1 < 4 := by
    have inRange := (Device.recCause_passes cause).inRange
    simp only [Device.inRangeRec, typ, Device.keyOk, inR, Bool.and_eq_true, decide_eq_true_eq] at inRange
    omega
  have applied : (d.taken r).applyRec r = (d.taken r).applyKeys r.body := by simp only [Device.applyRec, typ]
  have booked := ((d.taken r).applyKeys_booked r.body).trans (d.taken_booked r)
  have keys := (d.taken r).applyKeys_keys r.body
  rw [d.taken_keys, ← hv] at keys
  have life : ((d.taken r).applyKeys r.body).sec.life = d.sec.life := (Device.applyKeys_life _ _).trans (d.taken_life r)
  have accepted := d.verdict_accepts _ p r (congrArg (·.tick) booked.land) ((d.taken r).applyKeys_vouched r.body)
  rw [result, applied]
  generalize (d.taken r).applyKeys r.body = x at booked keys life accepted
  refine ⟨accepted, slot, ?_, ?_, (x.verdict_zero_booked p r).trans booked⟩
  · rw [x.verdict_zero_sec p r]; exact keys
  · rw [x.verdict_zero_sec p r]; exact congrArg (·.1) life

/-! ## RADIO_KEYS (R387, R438) -/

/-- Counter of the frames sent and the block reserved for it (R351). -/
def Radio.frames (r : Radio) : Nat × Nat := (r.fcntTx, r.fcntBlock)

theorem Device.contactAt_frames (s : Device) (t : Nat) : (s.contactAt t).radio.frames = s.radio.frames :=
  (congrArg Radio.frames (Device.arm_radio ..)).trans rfl

theorem Device.startContacts_frames (s : Device) : s.startContacts.radio.frames = s.radio.frames := by
  unfold Device.startContacts
  split
  · dsimp only
    split
    · exact Device.contactAt_frames ..
    · exact Device.contactAt_frames ..
  · rfl

theorem Device.wmStart_frames (s : Device) : s.wmStart.radio.frames = s.radio.frames := by
  unfold Device.wmStart
  split
  · exact (congrArg Radio.frames (Device.arm_radio ..)).trans rfl
  · rfl

theorem Device.planRadio_frames (s : Device) : s.planRadio.radio.frames = s.radio.frames := by
  unfold Device.planRadio
  extract_lets s1 s2
  have contacts : s1.radio.frames = s.radio.frames := by
    unfold s1
    split
    · exact congrArg Radio.frames (Device.disarm_radio ..)
    · exact s.startContacts_frames
  have telegrams : s2.radio.frames = s1.radio.frames := by
    unfold s2
    split
    · exact congrArg Radio.frames (Device.disarm_radio ..)
    · exact s1.wmStart_frames
  exact (congrArg Radio.frames s2.armWindows_radio).trans (telegrams.trans contacts)

/-- RADIO_KEYS before the radio plans anew. -/
def Device.keysLoaded (s : Device) (b : Bytes) : Device :=
  let k := s.sec.keys
  let s1 := { s with
    radio := s.radio.freshKeys
    sec := { s.sec with keys := { k with
      net0 := s.newKey b 0 k.net0, net1 := s.newKey b 1 k.net1, up0 := s.newKey b 2 k.up0, up1 := s.newKey b 3 k.up1
      wmbus := s.newKey b 4 k.wmbus } } }
  if s.sec.lc.sealedOrService then s1.tamper 22 else s1

theorem Device.applyRadioKeys_eq (s : Device) (b : Bytes) : s.applyRadioKeys b = (s.keysLoaded b).planRadio := rfl

/-- What loading the keys leaves: the new keys, a fresh frame counter, and everything else of the books' owners. -/
theorem Device.keysLoaded_leaves (s : Device) (b : Bytes) :
    (s.keysLoaded b).radio = s.radio.freshKeys ∧ (s.keysLoaded b).power = s.power ∧ (s.keysLoaded b).conf = s.conf ∧
      (s.keysLoaded b).Vouched s ∧ (s.keysLoaded b).sec.keys = { s.sec.keys with
        net0 := s.newKey b 0 s.sec.keys.net0, net1 := s.newKey b 1 s.sec.keys.net1, up0 := s.newKey b 2 s.sec.keys.up0
        up1 := s.newKey b 3 s.sec.keys.up1, wmbus := s.newKey b 4 s.sec.keys.wmbus } := by
  unfold Device.keysLoaded
  extract_lets k _ s1
  split
  · have told := s1.tamper_booked 22
    refine ⟨told.radio, told.power, told.conf, (s1.tamper_vouched 22).trans ⟨rfl, rfl, rfl⟩, ?_⟩
    rw [Device.tamper_sec]
  · exact ⟨rfl, rfl, rfl, ⟨rfl, rfl, rfl⟩, rfl⟩

/-- A key whose mask bit is set is unwrapped, any other kept. -/
theorem Device.newKey_eq {s : Device} {k : Bytes} (kek : s.sec.keys.kek = some k) (b : Bytes) (j : Nat) (old : Option Bytes) :
    s.newKey b j old = if bitAt (getU b 0 1) j then keyUnwrap k (slice b (8 + 24 * j) 24) else old := by
  unfold Device.newKey Device.radioKey
  rw [kek]
  split <;> simp_all

theorem radioKeys_taken {d : Device} {p : RecPath} {rest : Bytes} {r : Rec} (h : Takes d 0x0A p rest r) {k : Bytes}
    (kek : d.sec.keys.kek = some k) {nk : Nat → Option Bytes → Option Bytes}
    (hnk : nk = fun (j : Nat) (old : Option Bytes) =>
      if bitAt (getU r.body 0 1) j then keyUnwrap k (slice r.body (8 + 24 * j) 24) else old) :
    Accepted d (d.record 0x0A p rest) p r ∧ (d.record 0x0A p rest).sec.keys = { d.sec.keys with
        net0 := nk 0 d.sec.keys.net0, net1 := nk 1 d.sec.keys.net1, up0 := nk 2 d.sec.keys.up0
        up1 := nk 3 d.sec.keys.up1, wmbus := nk 4 d.sec.keys.wmbus } ∧
      (d.record 0x0A p rest).radio.fcntTx = 0 ∧ (d.record 0x0A p rest).radio.fcntBlock = 0 ∧
      (d.record 0x0A p rest).sec.lc = d.sec.lc ∧ (d.record 0x0A p rest).power = d.power ∧
      (d.record 0x0A p rest).conf = d.conf ∧ (d.record 0x0A p rest).land.tick = d.land.tick := by
  obtain ⟨result, typ⟩ := Device.record_taken h (by decide) (by decide) (by decide)
  have applied : (d.taken r).applyRec r = (d.taken r).applyRadioKeys r.body := by simp only [Device.applyRec, typ]
  have taken := d.taken_booked r
  obtain ⟨radio, power, conf, vouched, keys⟩ := (d.taken r).keysLoaded_leaves r.body
  have each (j : Nat) (old : Option Bytes) : (d.taken r).newKey r.body j old = nk j old := by
    rw [hnk, Device.newKey_eq ((congrArg Keys.kek (d.taken_keys r)).trans kek)]
  simp only [each, d.taken_keys] at keys
  have lc : ((d.taken r).applyRadioKeys r.body).sec.lc = d.sec.lc :=
    congrArg (·.1) ((Device.applyRadioKeys_life _ _).trans (d.taken_life r))
  have tick : ((d.taken r).applyRadioKeys r.body).land.tick = d.land.tick :=
    (Device.Same.tick (Device.applyRadioKeys_same _ _)).trans (congrArg (·.tick) taken.land)
  rw [result, applied]
  rw [Device.applyRadioKeys_eq] at *
  generalize (d.taken r).keysLoaded r.body = x at *
  have accepted := d.verdict_accepts _ p r tick (x.planRadio_vouched.trans vouched)
  have frames := x.planRadio_frames
  rw [radio] at frames
  have entered := x.planRadio.verdict_zero_booked p r
  refine ⟨accepted, ?_, ?_, ?_, ?_, entered.power.trans (x.planRadio_power.trans (power.trans taken.power)),
    entered.conf.trans (x.planRadio_conf.trans (conf.trans taken.conf)), (congrArg (·.tick) entered.land).trans tick⟩
  · rw [x.planRadio.verdict_zero_sec p r, x.planRadio_sec]; exact keys
  · rw [entered.radio]; exact congrArg (·.1) frames
  · rw [entered.radio]; exact congrArg (·.2) frames
  · rw [x.planRadio.verdict_zero_sec p r]; exact lc

/-! ## LIFECYCLE (R456, R457) -/

/-- An entry to SEALED keeps the strap codes and the tick (R70). -/
theorem Device.transit_sealed (s : Device) (a : Nat) :
    (s.transit a 3).straps.sealCodes = s.straps.codes ∧ (s.transit a 3).sec.sealTick = s.land.tick :=
  ⟨(s.transit_vouched a 3).codes, s.transit_tick a 3⟩

/-- A LIFECYCLE record that passes asks for a transition of the table (R456). -/
theorem Device.Passes.transition {d : Device} {p : RecPath} {r : Rec} (h : d.Passes p r) (typ : r.typ = 4) :
    (getU r.body 0 1, getU r.body 1 1) ∈
      [(1, 2), (2, 1), (2, 3), (3, 4), (4, 3), (0, 5), (1, 5), (2, 5), (3, 5), (4, 5)] :=
  transition_pairs _ _ r.signers (by simpa [Device.allowed, h.primary, typ, h.alive] using h.signers)

/-- The table's transitions end in the state that their record names. -/
theorem transition_target {a b : Nat} (old : Lc)
    (h : (a, b) ∈ [(1, 2), (2, 1), (2, 3), (3, 4), (4, 3), (0, 5), (1, 5), (2, 5), (3, 5), (4, 5)]) :
    ((Lc.ofCode b).getD old).code = b := by
  simp only [List.mem_cons, Prod.mk.injEq, List.not_mem_nil, or_false] at h
  obtain ⟨-, rfl⟩ | ⟨-, rfl⟩ | ⟨-, rfl⟩ | ⟨-, rfl⟩ | ⟨-, rfl⟩ | ⟨-, rfl⟩ | ⟨-, rfl⟩ | ⟨-, rfl⟩ | ⟨-, rfl⟩ | ⟨-, rfl⟩ := h <;> rfl

theorem lifecycle_taken {d : Device} {p : RecPath} {rest : Bytes} {r : Rec} (h : Takes d 0x04 p rest r) :
    Accepted d (d.record 0x04 p rest) p r ∧ d.sec.lc.code = getU r.body 0 1 ∧
      (d.record 0x04 p rest).sec.lc.code = getU r.body 1 1 ∧
      ((d.record 0x04 p rest).sec.lc = .manufacture ∨ (d.record 0x04 p rest).sec.lc = .calibrate →
        (d.record 0x04 p rest).sec.fuseP = true) ∧
      ((d.record 0x04 p rest).sec.lc = .sealed ∨ (d.record 0x04 p rest).sec.lc = .service →
        (d.record 0x04 p rest).sec.fuseP = true ∧ (d.record 0x04 p rest).sec.fuseS = true) ∧
      ((d.record 0x04 p rest).sec.lc = .scrapped → (d.record 0x04 p rest).sec.fuseX = true) ∧
      ((d.record 0x04 p rest).sec.lc = .sealed → (d.record 0x04 p rest).straps.sealCodes = d.straps.codes ∧
        (d.record 0x04 p rest).sec.sealTick = d.land.tick) ∧
      (d.record 0x04 p rest).power.holdDue = true ∧ (d.record 0x04 p rest).power.coldDue = true ∧
      (d.record 0x04 p rest).power.startCause = 4 ∧ (d.record 0x04 p rest).radio.exch = none ∧
      (d.record 0x04 p rest).tr.cyc.inFlight = none ∧ (d.record 0x04 p rest).land.tick = d.land.tick := by
  obtain ⟨result, typ, passes⟩ := Device.record_moved h (.inr rfl)
  obtain ⟨-, up, -, -⟩ := h
  have applied : (d.taken r).applyRec r = (d.taken r).transit (getU r.body 0 1) (getU r.body 1 1) := by
    simp only [Device.applyRec, typ]
  rw [applied] at result
  have pair := passes.transition typ
  have taken := d.taken_booked r
  have life := (d.taken r).transit_life (getU r.body 0 1) (getU r.body 1 1)
  have vouched := (d.taken r).transit_vouched (getU r.body 0 1) (getU r.body 1 1)
  have tick := ((d.taken r).transit_tick (getU r.body 0 1) (getU r.body 1 1)).trans (congrArg (·.tick) taken.land)
  have accepted := d.verdict_accepts _ p r tick vouched
  have sealedKept : getU r.body 1 1 = 3 →
      ((d.taken r).transit (getU r.body 0 1) (getU r.body 1 1)).straps.sealCodes = d.straps.codes ∧
        ((d.taken r).transit (getU r.body 0 1) (getU r.body 1 1)).sec.sealTick = d.land.tick := by
    intro b
    obtain ⟨-, -, -, -, -, -, -, -, -, -, straps, -⟩ := d.taken_calm r
    rw [b, ← straps, ← taken.land]
    exact Device.transit_sealed _ _
  have code : ((d.taken r).transit (getU r.body 0 1) (getU r.body 1 1)).sec.lc.code = getU r.body 1 1 :=
    (congrArg (·.1.code) life).trans (transition_target _ pair)
  generalize (d.taken r).transit (getU r.body 0 1) (getU r.body 1 1) = x at result vouched tick accepted sealedKept code
  have sec := x.verdict_zero_sec p r
  have entered := x.verdict_zero_booked p r
  generalize x.verdict p r 0 = y at result accepted sec entered
  have started : y.started = true := by
    have phase := vouched.phase.trans (congrArg (·.phase) taken.power)
    rw [Device.started, entered.power, phase]
    simp only [Device.up, Bool.and_eq_true] at up
    exact up.1
  have lc : y.transitionEnd.sec.lc = x.sec.lc := by rw [y.transitionEnd_sec started, Security.blow_lcKept, sec]
  obtain ⟨-, land, straps⟩ := y.transitionEnd_keeps started
  obtain ⟨fuseP, fuseS, fuseX⟩ := y.sec.blow_fuses
  rw [← y.transitionEnd_sec started] at fuseP fuseS fuseX
  have same : y.transitionEnd.sec.lc = y.sec.lc := by rw [lc, sec]
  rw [← same] at fuseP fuseS fuseX
  obtain ⟨exch, -, -, -, -, flight, -⟩ := y.transitionEnd_givesUp started
  have power := y.transitionEnd_power started
  rw [result]
  refine ⟨Device.transitionEnd_accepted accepted started, (passes.start typ).symm, (congrArg Lc.code lc).trans code, fuseP, fuseS,
    fuseX, ?_, by rw [power], by rw [power], by rw [power], exch, flight, by rw [land, entered.land, tick]⟩
  intro inSealed
  obtain ⟨codes, sealTick⟩ := sealedKept (by rw [← code, ← lc, inSealed]; rfl)
  refine ⟨?_, ?_⟩
  · unfold Device.Booked at entered
    rw [straps, entered]
    exact codes
  · rw [y.transitionEnd_sec started, Security.blow_sealTick, sec]
    exact sealTick

end Sys2Proof.Machine

namespace Sys2Proof
open Machine

/-- Settles O36: each record is traced through what it does, its verdict, and for the life cycle the cold start that ends it. -/
theorem keyAndLifeCycleRecords : Obligations.KeyAndLifeCycleRecords := by
  intro dt p rest s d r hd
  subst hd
  refine ⟨fun h => ⟨_, rfl, provision_taken h⟩, fun h => ⟨_, rfl, identity_taken h⟩, ?_, ?_, fun h => ⟨_, rfl, lifecycle_taken h⟩⟩
  · intro h v hv
    obtain ⟨accepted, slot, keys, lc, booked⟩ := keys_taken h hv
    exact ⟨_, rfl, accepted, slot, fun e => keys.trans (by rw [e]; rfl), fun e => keys.trans (by rw [e]; rfl),
      fun e => keys.trans (by rw [e]; rfl), fun e => keys.trans (by rw [e]; rfl), lc, booked⟩
  · intro h k kek nk hnk
    exact ⟨_, rfl, radioKeys_taken h kek hnk⟩

end Sys2Proof

/-! SUPPORT. What a step of a self-test leaves, whether its block passes or fails (R512 to R518). -/

namespace Sys2Proof.Machine

/-! ## Responses to a failed block (R517, R518) -/

/-- What no response to a failed block writes: configuration, Landing, power state and billed registers. -/
structure Device.Answers (t s : Device) : Prop where
  conf : t.conf = s.conf
  land : t.land = s.land
  power : t.power = s.power
  billed : t.SameBilled s

theorem Device.Answers.refl (s : Device) : s.Answers s := ⟨rfl, rfl, rfl, rfl, rfl, rfl⟩

theorem Device.Answers.trans {a b c : Device} (h : a.Answers b) (k : b.Answers c) : a.Answers c :=
  ⟨h.conf.trans k.conf, h.land.trans k.land, h.power.trans k.power, h.billed.trans k.billed⟩

theorem answers_ite {c : Prop} [Decidable c] {a b s : Device} (h : a.Answers s) (k : b.Answers s) :
    (if c then a else b).Answers s := by
  split <;> assumption

theorem Device.Booked.answers {t s : Device} (h : t.Booked s) : t.Answers s := by
  unfold Device.Booked at h
  exact ⟨by rw [h], by rw [h], by rw [h], by rw [h], by rw [h], by rw [h]⟩

theorem Device.recond_answers (s : Device) : s.recond.Answers s :=
  ⟨by rw [s.recond_toll], by rw [s.recond_toll], s.recond_power, s.recond_billed⟩

theorem Device.setFunc_answers (s : Device) (k : Func) (v : FuncState) : (s.setFunc k v).Answers s :=
  ⟨by simp, by simp, by simp, by simp, by simp, by simp⟩

/-- Causes of LEGAL_HOLD once cause bit `c` is entered. -/
def SelfTest.held (t : SelfTest) (c : Nat) : SelfTest :=
  match c with
  | 0 => { t with holdKat := true }
  | 1 => { t with holdRom := true }
  | 2 => { t with holdEcc := true }
  | _ => { t with holdVote := true }

theorem Device.legalEnter_answers (s : Device) (c arg : Nat) :
    (s.legalEnter c arg).st = s.st.held c ∧ (s.legalEnter c arg).Answers s := by
  by_cases stands : s.st.held c = s.st
  · have stays : s.legalEnter c arg = s := if_pos stands
    rw [stays]
    exact ⟨stands.symm, .refl s⟩
  · have enters : s.legalEnter c arg = _ := if_neg stands
    let s1 : Device := { s with st := s.st.held c }
    have told := s1.recond.journal_booked 0xA01 (s.st.held c).holdCause arg
    have st : s1.recond.st = s.st.held c := by rw [s1.recond_toll]
    have started : s1.recond.Answers s := s1.recond_answers.trans ⟨rfl, rfl, rfl, rfl, rfl, rfl⟩
    rw [enters]
    refine ⟨?_, answers_ite (told.answers.trans started)
      (((Device.tamper_booked _ 23).trans told).answers.trans started)⟩
    split
    · exact (Device.journal_st ..).trans st
    · have counted := (Device.tamper_booked (s1.recond.journal 0xA01 (s.st.held c).holdCause arg) 23).trans told
      unfold Device.Booked at counted
      exact (congrArg Device.st counted).trans st

theorem FuncState.disable_retired (f : FuncState) : f.disable.retired = f.retired := by
  unfold FuncState.disable
  split <;> rfl

theorem Device.retireFunc_answers (s : Device) (f : Func) :
    (s.retireFunc f).st = s.st ∧ (s.retireFunc f).Answers s :=
  ⟨Device.setFunc_st .., (Device.setFunc_answers ..).trans ⟨rfl, rfl, rfl, rfl, rfl, rfl⟩⟩

/-- The function itself is retired; the others stand. -/
theorem Device.retireFunc_retired (s : Device) (f g : Func) :
    ((s.retireFunc f).fn.get g).retired = (g == f || (s.fn.get g).retired) := by
  unfold Device.retireFunc Device.disable
  rw [Device.setFunc_fn, Funcs.get_set_same]
  by_cases same : g = f
  · rw [same, Funcs.get_set_same, FuncState.disable_retired]
    simp
  · rw [Funcs.get_set_ne _ _ _ _ same, Funcs.get_set_ne _ _ _ _ same]
    simp [same]

theorem Device.reconcile_answers (s : Device) : s.reconcile.st = s.st ∧ s.reconcile.Answers s := by
  have wants (x : Device) (f : Func) : (x.wantStep f).st = x.st ∧ (x.wantStep f).Answers x := by
    unfold Device.wantStep Device.want
    split
    · exact ⟨Device.setFunc_st .., Device.setFunc_answers ..⟩
    · exact ⟨Device.setFunc_st .., Device.setFunc_answers ..⟩
  have each (l : List Func) (x : Device) : (l.foldl Device.wantStep x).st = x.st ∧ (l.foldl Device.wantStep x).Answers x := by
    induction l generalizing x with
    | nil => exact ⟨rfl, .refl x⟩
    | cons f l ih =>
      obtain ⟨st, answers⟩ := ih (x.wantStep f)
      exact ⟨st.trans (wants x f).1, answers.trans (wants x f).2⟩
  unfold Device.reconcile
  split
  · exact each allFuncs s
  · exact ⟨rfl, .refl s⟩

/-- The failed block marked, the degraded flag raised and the failure told: what every response starts from. -/
def Device.blockTold (s : Device) (b misr : Nat) : Device :=
  (Device.degrade { s with st := { s.st with failed := s.st.failed ||| 2 ^ b } } fun d => { d with block := true }).journal 0xA03 b misr

theorem Device.blockTold_leaves (s : Device) (b misr : Nat) :
    (s.blockTold b misr).st = { s.st with failed := s.st.failed ||| 2 ^ b } ∧
      (s.blockTold b misr).power = { s.power with deg := { s.power.deg with block := true } } ∧
      (s.blockTold b misr).conf = s.conf ∧ (s.blockTold b misr).land = s.land ∧ (s.blockTold b misr).SameBilled s := by
  unfold Device.blockTold
  exact ⟨by simp, by simp [Device.degrade], by simp, by simp, by simp, by simp, by simp⟩

/-- The response itself: LEGAL_HOLD, a retired function, or the isolated controller. -/
def Device.blockResponse (s : Device) (b : Nat) : Device :=
  match blockHold b with
  | some c => s.legalEnter c b
  | none =>
    let s3 := s.journal 0xA04 b s.sec.lc.code
    match blockFunc b with
    | some f =>
      let s4 := s3.retireFunc f
      if f = .ferryman then s4.retireFunc .wmbus else s4
    | none => Device.reconcile { s3 with st := { s3.st with secIsolated := true } }

theorem Device.blockFailed_eq (s : Device) (b misr : Nat) : s.blockFailed b misr = (s.blockTold b misr).blockResponse b := rfl

/-- What each block's response does to the self-test's state. -/
def SelfTest.response (t : SelfTest) (b : Nat) : SelfTest :=
  match blockHold b with
  | some c => t.held c
  | none => if (blockFunc b).isSome then t else { t with secIsolated := true }

theorem Device.blockResponse_answers (s : Device) (b : Nat) :
    (s.blockResponse b).st = s.st.response b ∧ (s.blockResponse b).Answers s := by
  unfold Device.blockResponse SelfTest.response
  split
  · exact s.legalEnter_answers ..
  · have told := s.journal_booked 0xA04 b s.sec.lc.code
    have st := s.journal_st 0xA04 b s.sec.lc.code
    dsimp only
    split
    · next f hf =>
      obtain ⟨st1, retires⟩ := (s.journal 0xA04 b s.sec.lc.code).retireFunc_answers f
      obtain ⟨st2, both⟩ := ((s.journal 0xA04 b s.sec.lc.code).retireFunc f).retireFunc_answers .wmbus
      rw [hf]
      refine ⟨?_, answers_ite (both.trans (retires.trans told.answers)) (retires.trans told.answers)⟩
      split
      · exact st2.trans (st1.trans st)
      · exact st1.trans st
    · next none =>
      obtain ⟨st1, answers⟩ := Device.reconcile_answers { s.journal 0xA04 b s.sec.lc.code with
        st := { (s.journal 0xA04 b s.sec.lc.code).st with secIsolated := true } }
      have isolated : Device.Answers { s.journal 0xA04 b s.sec.lc.code with
        st := { (s.journal 0xA04 b s.sec.lc.code).st with secIsolated := true } } (s.journal 0xA04 b s.sec.lc.code) :=
        ⟨rfl, rfl, rfl, rfl, rfl, rfl⟩
      rw [none]
      exact ⟨st1.trans (by rw [st]; rfl), answers.trans (isolated.trans told.answers)⟩

/-- Blocks 4 to 8 retire their function, block 6 both radios. -/
theorem Device.blockResponse_retires (s : Device) {b : Nat} {f g : Func} (block : blockFunc b = some f)
    (own : g = f ∨ f = .ferryman ∧ g = .wmbus) : ((s.blockResponse b).fn.get g).retired = true := by
  have noHold : blockHold b = none := by
    unfold blockFunc at block
    split at block
    case h_6 => cases block
    all_goals rfl
  unfold Device.blockResponse
  rw [noHold, block]
  dsimp only
  rcases own with rfl | ⟨rfl, rfl⟩
  · split
    · rw [Device.retireFunc_retired, Device.retireFunc_retired]; simp
    · rw [Device.retireFunc_retired]; simp
  · rw [if_pos rfl, Device.retireFunc_retired]; simp

/-! ## A step of a test (R512, R514, R516) -/

/-- A test's step that finds VCORE in its band, before its end is told. -/
def Device.inBand (s : Device) (b v : Nat) : Device :=
  (Device.condPass { s with st := { s.st with vcoreMv := v } }).stepRan (blockUnit b)

theorem Device.condPass_eq (s : Device) :
    s.condPass = { s with st := { s.st with deferRun := 0 }, power := s.condPass.power, bill := s.condPass.bill } := by
  unfold Device.condPass
  dsimp only
  split <;> rfl

theorem Device.inBand_leaves (s : Device) (b v : Nat) :
    (s.inBand b v).st = { s.st with vcoreMv := v, deferRun := 0 } ∧ (s.inBand b v).conf = s.conf ∧
      (s.inBand b v).fn = s.fn ∧ (s.inBand b v).land = s.land ∧ (s.inBand b v).toll = s.toll := by
  unfold Device.inBand
  rw [Device.condPass_eq]
  exact ⟨rfl, rfl, rfl, rfl, rfl⟩

theorem Device.testStep_inBand (s : Device) (b : Nat) {v : Nat} (low : 855 ≤ v) (high : v ≤ 945) (last first second : Bool)
    (m : List Nat) :
    s.testStep b v last first second m = if last then (s.inBand b v).testEnds b first second m
      else { s.inBand b v with st := { (s.inBand b v).st with
        runs := setAt (s.inBand b v).st.runs b fun _ => some (compact b ((s.inBand b v).st.misrAt b) m) } } := by
  have ok : vcoreOk v = true := by simp [vcoreOk, low, high]
  unfold Device.testStep
  rw [ok]
  rfl

theorem Device.testStep_outOfBand (s : Device) (b : Nat) {v : Nat} (out : v < 855 ∨ 945 < v) (last first second : Bool)
    (m : List Nat) : s.testStep b v last first second m = Device.deferStep { s with st := { s.st with vcoreMv := v } } := by
  have bad : vcoreOk v = false := by
    simp only [vcoreOk, decide_eq_false_iff_not]
    omega
  unfold Device.testStep
  rw [bad]
  rfl

theorem Device.deferStep_leaves (s : Device) :
    s.deferStep.st = { s.st with deferRun := s.st.deferRun + 1, condDefer := satInc s.st.condDefer } ∧
      s.deferStep.fn = s.fn ∧ s.deferStep.conf = s.conf ∧ s.deferStep.land = s.land := by
  unfold Device.deferStep
  dsimp only
  split
  · exact ⟨by simp, by simp, by simp, by simp⟩
  · exact ⟨rfl, rfl, rfl, rfl⟩

theorem Device.afterTest_leaves (s : Device) (b : Nat) :
    (s.afterTest b).st = s.st ∧ (s.afterTest b).conf = s.conf ∧ (s.afterTest b).fn = s.fn ∧ (s.afterTest b).land = s.land ∧
      (s.afterTest b).toll = s.toll := by
  unfold Device.afterTest
  split
  · next f _ =>
    split
    · cases f <;> exact ⟨rfl, rfl, rfl, rfl, rfl⟩
    · exact ⟨rfl, rfl, rfl, rfl, rfl⟩
  · exact ⟨rfl, rfl, rfl, rfl, rfl⟩

/-- A last step takes its block from the round, and its run from the runs. -/
def SelfTest.ended (t : SelfTest) (b : Nat) (left : List Nat) : SelfTest :=
  { t with
    runs := setAt t.runs b fun _ => none
    roundLeft := left, rounds := if left.isEmpty then satInc t.rounds else t.rounds }

theorem Device.testEnds_passes (s : Device) (b : Nat) (second : Bool) (m : List Nat) :
    (s.testEnds b true second m).st = SelfTest.ended { s.st with
        misr := setAt s.st.misr b fun _ => wrapU 32 (compact b (s.st.misrAt b) m) } b (s.st.roundLeft.filter (· != b)) ∧
      (s.testEnds b true second m).conf = s.conf ∧ (s.testEnds b true second m).fn = s.fn ∧
      (s.testEnds b true second m).land = s.land ∧ (s.testEnds b true second m).toll = s.toll := by
  obtain ⟨st, conf, fn, land, toll⟩ := s.afterTest_leaves b
  refine ⟨?_, conf, fn, land, toll⟩
  rw [← st]
  unfold Device.testEnds
  rw [← st]
  rfl

theorem Device.testEnds_fails (s : Device) (b : Nat) (m : List Nat) :
    ∃ x : Device, x.st = { s.st with
        misr := setAt s.st.misr b fun _ => wrapU 32 (compact b (Config.misrStart b) m), failCount := satInc s.st.failCount } ∧
      x.conf = s.conf ∧ x.land = s.land ∧ x.toll = s.toll ∧ ∃ v,
      s.testEnds b false false m = { x.blockFailed b v with
        st := (x.blockFailed b v).st.ended b (s.st.roundLeft.filter (· != b)) } := by
  obtain ⟨st, conf, -, land, toll⟩ := s.afterTest_leaves b
  refine ⟨{ s.afterTest b with st := { (s.afterTest b).st with
    misr := setAt (s.afterTest b).st.misr b fun _ => wrapU 32 (compact b (Config.misrStart b) m)
    failCount := satInc (s.afterTest b).st.failCount } }, ?_, conf, land, toll, _, rfl⟩
  rw [st]

/-! ## The round (R513, R516) -/

/-- What the HFX count leaves of everything but the self-test's result, the journal and the degraded flag. -/
theorem Device.hfxCheck_leaves (s : Device) (c : Option Nat) :
    (s.hfxCheck c).st.roundLeft = s.st.roundLeft ∧ (s.hfxCheck c).st.failed = s.st.failed ∧
      (s.hfxCheck c).toll.led = s.toll.led ∧ (s.hfxCheck c).conf = s.conf ∧ (s.hfxCheck c).fn = s.fn ∧
      (s.hfxCheck c).land = s.land := by
  unfold Device.hfxCheck
  split
  · exact ⟨rfl, rfl, rfl, rfl, rfl, rfl⟩
  · dsimp only
    split <;> split <;> simp

/-- The HFX count noted, before it is told. -/
def Device.clockCounted (s : Device) (n : Nat) : Device :=
  let bad := decide (75 < 2 * ((n : Int) - 187500).natAbs)
  let s1 := { s with st := { s.st with hfxPpm := hfxPpm n, clockFault := bad } }
  if bad = s.st.clockFault then s1 else s1.degrade fun d => { d with clock := bad }

theorem Device.hfxCheck_eq (s : Device) (n : Nat) : s.hfxCheck (some n) =
    if decide (75 < 2 * ((n : Int) - 187500).natAbs) then (s.clockCounted n).journal 0xA05 (bitsOf 32 (hfxPpm n)) 0
    else s.clockCounted n := rfl

theorem Device.clockCounted_leaves (s : Device) (n : Nat) :
    (s.clockCounted n).st.clockFault = decide (75 < 2 * ((n : Int) - 187500).natAbs) ∧ (s.clockCounted n).land = s.land ∧
      (s.clockCounted n).secondary = s.secondary := by
  unfold Device.clockCounted
  dsimp only
  split <;> exact ⟨rfl, rfl, rfl⟩

/-- A count beyond 200 ppm is the clock fault, and each is journalled. -/
theorem Device.hfxCheck_counts (s : Device) (n : Nat) :
    ((s.hfxCheck (some n)).st.clockFault = true ↔ 75 < 2 * ((n : Int) - 187500).natAbs) ∧
      (75 < 2 * ((n : Int) - 187500).natAbs → s.secondary = false →
        (s.hfxCheck (some n)).jnl.entries.head? = some ⟨s.land.tick, 0xA05, !s.trusted, bitsOf 32 (hfxPpm n), 0⟩) := by
  have word : wrapU 32 (bitsOf 32 (hfxPpm n)) = bitsOf 32 (hfxPpm n) := Nat.mod_eq_of_lt (bitsOf_lt ..)
  obtain ⟨fault, land, secondary⟩ := s.clockCounted_leaves n
  rw [s.hfxCheck_eq n]
  refine ⟨?_, fun beyond primary => ?_⟩
  · split
    · rw [Device.journal_st, fault, decide_eq_true_eq]
    · rw [fault, decide_eq_true_eq]
  · rw [if_pos (by simpa using beyond), Device.journal_head _ _ _ _ (secondary.trans primary), word, Device.trusted, land]
    rfl

theorem Device.beginRound_leaves (s : Device) (c : Option Nat) :
    (s.beginRound c).st.roundLeft = [1, 2, 3, 4, 5, 6, 7, 8, 9] ∧ (s.beginRound c).st.failed = s.st.failed ∧
      (s.beginRound c).toll.led = s.toll.led ∧ (s.beginRound c).conf = s.conf ∧ (s.beginRound c).fn = s.fn ∧
      (s.beginRound c).land = (s.arm 10 (s.land.tick + tpd) true).land := by
  obtain ⟨left, failed, led, conf, fn, land⟩ := Device.hfxCheck_leaves { s.arm 10 (s.land.tick + tpd) true with
    st := { (s.arm 10 (s.land.tick + tpd) true).st with
      roundLeft := [1, 2, 3, 4, 5, 6, 7, 8, 9], runs := List.replicate 10 none } } c
  exact ⟨left, failed.trans (by simp), led.trans (by simp), conf.trans (by simp), fn.trans (by simp), land⟩

theorem Device.arm_slot (s : Device) {i target : Nat} {elapsed : Bool} {a : Alarm} (bat : s.land.supply = .bat)
    (slot : s.land.alarms[i]? = some a) : ((s.arm i target elapsed).land.alarms[i]?.map fun b => (b.armed, b.elapsed, b.target)) =
      some (true, elapsed, min target tickMax) := by
  have writes : s.writable = true := by simp [Device.writable, bat]
  simp [Device.arm, writes, Landing.arm, slot]

/-! ## SELFTEST_ROUND and SELFTEST_STEP -/

section
variable {dt : Nat} {s : State} {d : Device}

theorem selftestRound_fired (hd : d = (s.dev.elapse dt).woken 1) (up : d.up = true) (fired : d.fired 10 = true)
    (c : Option Nat) : exec (.selftestRound dt c) s = .next { s with dev := d.beginRound c } := by
  simp [exec, execSelftestRound, ← hd, up, fired]

theorem selftestRound_waits (hd : d = (s.dev.elapse dt).woken 1) (waits : d.fired 10 = false) (c : Option Nat) :
    exec (.selftestRound dt c) s = .next { s with dev := d } := by
  simp [exec, execSelftestRound, ← hd, waits]

theorem selftestStep_runs (hd : d = s.dev.elapse dt) (up : d.up = true) {b : Nat} (left : d.st.roundLeft.contains b = true)
    (idle : d.blockIdle b = true) (v : Nat) (l f g : Bool) (m : List Nat) :
    exec (.selftestStep dt b v l f g m) s = .next { s with dev := d.testStep b v l f g m } := by
  simp only [exec, execSelftestStep, ← hd, up, left, idle, Bool.and_self, if_true]

theorem selftestStep_skips (hd : d = s.dev.elapse dt) {b : Nat}
    (off : d.st.roundLeft.contains b = false ∨ d.blockIdle b = false) (v : Nat) (l f g : Bool) (m : List Nat) :
    exec (.selftestStep dt b v l f g m) s = .next { s with dev := d } := by
  rcases off with off | off <;> simp only [exec, execSelftestStep, ← hd, off, Bool.and_false, Bool.false_and, Bool.false_eq_true, if_false]

end

theorem Device.beginRound_round (d : Device) (c : Option Nat) :
    (d.beginRound c).st.roundLeft = [1, 2, 3, 4, 5, 6, 7, 8, 9] ∧
      (d.land.supply = .bat → ∀ a, d.land.alarms[10]? = some a →
        ((d.beginRound c).land.alarms[10]?.map fun b => (b.armed, b.elapsed, b.target)) =
          some (true, true, min (d.land.tick + 2831155200) (2 ^ 48 - 1))) ∧
      (∀ n, c = some n → ((d.beginRound c).st.clockFault = true ↔ 75 < 2 * ((n : Int) - 187500).natAbs) ∧
        (75 < 2 * ((n : Int) - 187500).natAbs → d.secondary = false →
          (d.beginRound c).jnl.entries.head? = some ⟨d.land.tick, 0xA05, !d.trusted, bitsOf 32 (hfxPpm n), 0⟩)) ∧
      (c = none → (d.beginRound c).st.clockFault = d.st.clockFault) ∧ (d.beginRound c).st.failed = d.st.failed ∧
      (d.beginRound c).toll.led = d.toll.led ∧ (d.beginRound c).conf = d.conf ∧ (d.beginRound c).fn = d.fn ∧
      (d.beginRound c).land.tick = d.land.tick := by
  obtain ⟨left, failed, led, conf, fn, land⟩ := d.beginRound_leaves c
  refine ⟨left, fun bat a slot => ?_, ?_, ?_, failed, led, conf, fn, by rw [land]; simp⟩
  · rw [land, d.arm_slot bat slot]
    rfl
  · rintro n rfl
    obtain ⟨fault, told⟩ := Device.hfxCheck_counts { d.arm 10 (d.land.tick + tpd) true with
      st := { (d.arm 10 (d.land.tick + tpd) true).st with
        roundLeft := [1, 2, 3, 4, 5, 6, 7, 8, 9], runs := List.replicate 10 none } } n
    refine ⟨fault, fun beyond primary => ?_⟩
    have trusted : (d.arm 10 (d.land.tick + tpd) true).trusted = d.trusted := (d.arm_same ..).trusted
    have tick : (d.arm 10 (d.land.tick + tpd) true).land.tick = d.land.tick := (d.arm_same ..).tick
    have same : (d.arm 10 (d.land.tick + tpd) true).secondary = d.secondary := by simp [Device.secondary]
    exact (told beyond (same.trans primary)).trans
      (congrArg₂ (fun k u => some (⟨k, 0xA05, !u, bitsOf 32 (hfxPpm n), 0⟩ : JEntry)) tick trusted)
  · rintro rfl
    exact (congrArg SelfTest.clockFault (d.arm_st 10 (d.land.tick + tpd) true)).trans rfl

/-- A last step whose test passes. -/
theorem Device.testStep_passes (d : Device) (b : Nat) {v : Nat} (low : 855 ≤ v) (high : v ≤ 945) (g : Bool) (m : List Nat) :
    (d.testStep b v true true g m).st.roundLeft = d.st.roundLeft.filter (· != b) ∧
      (d.testStep b v true true g m).st.failed = d.st.failed ∧
      (d.testStep b v true true g m).st.failCount = d.st.failCount ∧
      (d.testStep b v true true g m).st.rounds =
        (if d.st.roundLeft.filter (· != b) = [] then satInc d.st.rounds else d.st.rounds) ∧
      (∀ x, d.st.misr[b]? = some x →
        (d.testStep b v true true g m).st.misr[b]? = some (compact b (d.st.misrAt b) m % 2 ^ 32)) ∧
      (∀ x, d.st.runs[b]? = some x → (d.testStep b v true true g m).st.runs[b]? = some none) ∧
      (d.testStep b v true true g m).toll.led = d.toll.led ∧ (d.testStep b v true true g m).conf = d.conf ∧
      (d.testStep b v true true g m).fn = d.fn ∧ (d.testStep b v true true g m).land = d.land := by
  obtain ⟨st, conf, fn, land, toll⟩ := d.inBand_leaves b v
  obtain ⟨st', conf', fn', land', toll'⟩ := (d.inBand b v).testEnds_passes b g m
  rw [st] at st'
  rw [d.testStep_inBand b low high, if_pos rfl]
  refine ⟨?_, ?_, ?_, ?_, fun x hx => ?_, fun x hx => ?_, congrArg (·.led) (toll'.trans toll), conf'.trans conf, fn'.trans fn,
    land'.trans land⟩
  · rw [st']; rfl
  · rw [st']; rfl
  · rw [st']; rfl
  · rw [st']
    simp only [SelfTest.ended, List.isEmpty_iff]
  · rw [st']
    simp only [SelfTest.ended, getElem?_setAt_self, hx, Option.map_some]
    rfl
  · rw [st']
    simp only [SelfTest.ended, getElem?_setAt_self, hx, Option.map_some]

/-- A last step whose test fails twice. -/
theorem Device.testStep_fails (d : Device) (b : Nat) {v : Nat} (low : 855 ≤ v) (high : v ≤ 945) (m : List Nat) :
    ∃ t, d.testStep b v true false false m = t ∧
      t.st.roundLeft = d.st.roundLeft.filter (· != b) ∧ t.st.failed = d.st.failed ||| 2 ^ b ∧
      t.st.failCount = satInc d.st.failCount ∧ t.power.deg.block = true ∧ (b = 1 → t.st.holdEcc = true) ∧
      (b = 2 → t.st.holdKat = true) ∧ (b = 3 ∨ b = 9 → t.st.secIsolated = true) ∧
      (∀ f g, blockFunc b = some f → g = f ∨ f = .ferryman ∧ g = .wmbus → (t.fn.get g).retired = true) ∧
      t.SameBilled d ∧ t.conf = d.conf ∧ t.land = d.land := by
  obtain ⟨st, conf, -, land, toll⟩ := d.inBand_leaves b v
  obtain ⟨x, st', conf', land', toll', w, ends⟩ := (d.inBand b v).testEnds_fails b m
  obtain ⟨st2, power2, conf2, land2, billed2⟩ := x.blockTold_leaves b w
  obtain ⟨st3, answers⟩ := (x.blockTold b w).blockResponse_answers b
  have retires (f g : Func) (block : blockFunc b = some f) (own : g = f ∨ f = .ferryman ∧ g = .wmbus) :=
    (x.blockTold b w).blockResponse_retires block own
  rw [d.testStep_inBand b low high, if_pos rfl, ends, x.blockFailed_eq]
  generalize (x.blockTold b w).blockResponse b = y at st3 answers retires
  rw [st2, st', st] at st3
  have kept : y.SameBilled d := by
    have same : x.SameBilled d := by
      unfold Device.SameBilled
      rw [toll', toll]
      exact ⟨rfl, rfl, rfl⟩
    exact answers.billed.trans (billed2.trans same)
  have response (t : SelfTest) : (t.response b).failed = t.failed ∧ (t.response b).failCount = t.failCount := by
    unfold SelfTest.response
    split
    · unfold SelfTest.held; split <;> exact ⟨rfl, rfl⟩
    · split <;> exact ⟨rfl, rfl⟩
  refine ⟨_, rfl, ?_, ?_, ?_, ?_, ?_, ?_, ?_, retires, kept, (answers.conf.trans conf2).trans (conf'.trans conf),
    (answers.land.trans land2).trans (land'.trans land)⟩
  · rw [st]; rfl
  · exact (congrArg SelfTest.failed st3).trans (response _).1
  · exact (congrArg SelfTest.failCount st3).trans (response _).2
  · exact congrArg (·.deg.block) (answers.power.trans power2)
  · rintro rfl
    exact congrArg SelfTest.holdEcc st3
  · rintro rfl
    exact congrArg SelfTest.holdKat st3
  · rintro (rfl | rfl)
    · exact congrArg SelfTest.secIsolated st3
    · exact congrArg SelfTest.secIsolated st3

end Sys2Proof.Machine

namespace Sys2Proof
open Machine

/-- Settles O51: a step is deferred, carried on or ended, and an end passes or has the response of its block. -/
theorem selfTestsRunInRounds : Obligations.SelfTestsRunInRounds := by
  refine ⟨?_, ?_⟩
  · intro dt s d hd up
    exact ⟨fun fired c => ⟨_, selftestRound_fired hd up fired c, d.beginRound_round c⟩,
      fun waits c => selftestRound_waits hd waits c⟩
  · intro dt s d hd up
    refine ⟨fun b v l f g m off => selftestStep_skips hd off v l f g m, fun b v m left idle => ⟨?_, fun low high => ⟨?_, ?_, ?_⟩⟩⟩
    · intro l f g out
      refine ⟨_, selftestStep_runs hd up left idle v l f g m, ?_⟩
      rw [d.testStep_outOfBand b out]
      obtain ⟨st, fn, conf, land⟩ := Device.deferStep_leaves { d with st := { d.st with vcoreMv := v } }
      exact ⟨by rw [st], by rw [st], by rw [st], by rw [st], fn, conf, land⟩
    · exact fun g => ⟨_, selftestStep_runs hd up left idle v true true g m, d.testStep_passes b low high g m⟩
    · intro f g
      obtain ⟨st, conf, fn, land, -⟩ := d.inBand_leaves b v
      refine ⟨_, selftestStep_runs hd up left idle v false f g m, ?_⟩
      rw [d.testStep_inBand b low high]
      refine ⟨fun x hx => ?_, (congrArg SelfTest.roundLeft st).trans rfl,
        (congrArg SelfTest.misr st).trans rfl, (congrArg SelfTest.failed st).trans rfl, conf, fn, land⟩
      simp only [Bool.false_eq_true, if_false, st, getElem?_setAt_self, hx, Option.map_some]
      rfl
    · obtain ⟨t, ht, round, failed, count, degraded, ecc, kat, isolated, retired, ⟨vol, heat, cool⟩, conf, land⟩ :=
        d.testStep_fails b low high m
      refine ⟨t, (selftestStep_runs hd up left idle v true false false m).trans (by rw [ht]), round, failed, count, degraded, ecc, kat,
        ?_, ?_, ?_, ?_, ?_, isolated, vol, heat, cool, conf, land⟩
      · rintro rfl; exact retired .transit .transit rfl (.inl rfl)
      · rintro rfl; exact retired .converter .converter rfl (.inl rfl)
      · rintro rfl; exact ⟨retired .ferryman .ferryman rfl (.inl rfl), retired .ferryman .wmbus rfl (.inr ⟨rfl, rfl⟩)⟩
      · rintro rfl; exact retired .hawser .hawser rfl (.inl rfl)
      · rintro rfl; exact retired .display .display rfl (.inl rfl)

end Sys2Proof

/-! SUPPORT. What a secondary does with a frame of its primary (R391 to R395, R397, R400, R403, R404). -/

namespace Sys2Proof.Machine

/-! ## Which frames it handles (R391, R393) -/

theorem Device.hwAccept_parses {s : Device} {typ : Nat} {f : HwFrame} {p : HwParts} (accepted : s.hwAccept typ f = some p) :
    (hwParse f.bytes).isNone = false := by
  unfold Device.hwAccept at accepted
  split at accepted
  · next parsed => rw [parsed]; rfl
  · cases accepted

section
variable {s : Device} {typ : Nat} {f : HwFrame} {p : HwParts} (h : HwParts → Device → Device)

theorem Device.hwReceive_heard (heard : HwHears s f typ p) : s.hwReceive typ f h = h p s.attend := by
  obtain ⟨on, live, accepted⟩ := heard
  simp [Device.hwReceive, on, live, accepted, Device.hwAccept_parses accepted]

theorem Device.hwReceive_bad (on : s.on .hawser = true) (live : s.hwLive = true) (bad : hwParse f.bytes = none) :
    s.hwReceive typ f h = s.hwBad := by
  simp [Device.hwReceive, on, live, bad]

theorem Device.hwReceive_ignored (out : s.on .hawser = false ∨ s.hwLive = false ∨
    (hwParse f.bytes ≠ none ∧ s.hwAccept typ f = none)) : s.hwReceive typ f h = s := by
  rcases out with off | dead | ⟨good, other⟩
  · simp [Device.hwReceive, off]
  · simp [Device.hwReceive, dead]
  · simp [Device.hwReceive, good, other]

theorem Device.hwHears_decides (stands : s.fn.hawser.st ≠ .off) (live : s.hwLive = true)
    (accepted : s.hwAccept typ f = some p) : s.hwHears typ f h = h p s.attend := by
  simp [Device.hwHears, stands, live, accepted, Device.hwAccept_parses accepted]

theorem Device.hwHears_bad (stands : s.fn.hawser.st ≠ .off) (live : s.hwLive = true) (bad : hwParse f.bytes = none) :
    s.hwHears typ f h = s.hwBad := by
  simp [Device.hwHears, stands, live, bad]

theorem Device.on_hawser_stands (on : s.on .hawser = true) : s.fn.hawser.st ≠ .off := by
  intro off
  simp [Device.on, Funcs.get, off] at on

theorem Device.hwHears_heard (heard : HwHears s f typ p) : s.hwHears typ f h = h p s.attend :=
  s.hwHears_decides h (Device.on_hawser_stands heard.1) heard.2.1 heard.2.2

end

/-! ## Its answers (R392, R393) -/

/-- A frame writes the Hawser and raises the device to RUN. -/
theorem Device.hwSend_eq (s : Device) (dst typ : Nat) (b : Bytes) : s.hwSend dst typ b = { s with
    haw := { s.haw with seq := wrapU 8 (s.haw.seq + 1), lastTx := hwFrame dst s.hwNo typ s.haw.seq b }
    power := s.toRun.power, land := s.toRun.land } := rfl

theorem Device.hwAnswer_own (s : Device) {p : HwParts} (own : p.dst ≠ 7) (typ : Nat) (b : Bytes) :
    s.hwAnswer p typ b = s.hwSend 0 typ b := if_neg own

theorem Device.hwAnswer_all (s : Device) {p : HwParts} (all : p.dst = 7) (typ : Nat) (b : Bytes) :
    s.hwAnswer p typ b = s := if_pos all

/-- A frame's second byte is its type (R391). -/
theorem hwFrame_typ (dst src : Nat) {typ : Nat} (small : typ < 256) (seq : Nat) (b : Bytes) :
    getU (hwFrame dst src typ seq b) 1 1 = typ := by
  simp [hwFrame, getU, slice, leBytes, leNat, Nat.mod_eq_of_lt small]

/-! ## Synchronisation and parameters (R395) -/

theorem getElem?_setPath_same (s : Device) (i : Nat) (f : PathState → PathState) :
    (s.setPath i f).tr.paths[i]? = s.tr.paths[i]?.map f := getElem?_setAt_self ..

theorem getElem?_setPath_ne (s : Device) {i j : Nat} (f : PathState → PathState) (other : j ≠ i) :
    (s.setPath i f).tr.paths[j]? = s.tr.paths[j]? := getElem?_setAt_ne _ _ (Ne.symm other)

theorem pushPath_find (l : List PushedPath) (q : PushedPath) : (pushPath l q).find? (·.path == q.path) = some q := by
  have others : (l.filter (·.path != q.path)).find? (·.path == q.path) = none := by
    rw [List.find?_eq_none]
    intro x hx
    have := (List.mem_filter.mp hx).2
    simpa using this
  rw [pushPath, List.find?_append, others]
  simp

/-- A block of pushed parameters leaves the exchange's own state. -/
theorem Hawser.push_frame (h : Hawser) (n : Nat) (b : Bytes) :
    (h.push n b).seq = h.seq ∧ (h.push n b).role = h.role ∧ (h.push n b).deviceNo = h.deviceNo := by
  unfold Hawser.push
  split
  · exact ⟨rfl, rfl, rfl⟩
  · split
    · exact ⟨rfl, rfl, rfl⟩
    · split
      · exact ⟨rfl, rfl, rfl⟩
      · split <;> exact ⟨rfl, rfl, rfl⟩

theorem Hawser.push_path (h : Hawser) {n : Nat} (low : 16 ≤ n) (high : n < 64) (b : Bytes) :
    h.push n b = { h with pushed := pushPath h.pushed ⟨n - 16, pathOf b, getU b 20 4, getU b 24 4⟩ } := by
  have n0 : n ≠ 0 := by omega
  have n1 : n ≠ 1 := by omega
  have n16 : ¬ n < 16 := by omega
  simp [Hawser.push, n0, n1, n16, high]


/-- A secondary once it has stored block `n` of its pushed parameters, before its ports follow. -/
def Device.cfgStored (x : Device) (n : Nat) (b : Bytes) : Device :=
  let y := { x with haw := x.haw.push n b }
  if 16 ≤ n ∧ n < 64 then y.repush x.haw (n - 16) else y

theorem Device.onCfg_block (x : Device) {p : HwParts} {n : BitVec 8} {b : Bytes} (own : p.dst ≠ 7) (block : p.payload = n :: b) :
    Device.onCfg p x = ((x.cfgStored n.toNat b).initPorts false).hwSend 0 0x0E (leBytes 1 p.seq) := by
  have part : getU (n :: b) 0 1 = n.toNat := by simp [getU, slice, leNat]
  unfold Device.onCfg
  rw [block, if_neg (by simp)]
  simp only [part, List.drop_succ_cons, List.drop_zero]
  exact Device.hwAnswer_own _ own ..

theorem Device.repush_frame (y : Device) (old : Hawser) (i : Nat) :
    y.repush old i = { y with tr := { y.tr with paths := (y.repush old i).tr.paths } } := by
  unfold Device.repush
  dsimp only
  split <;> rfl

theorem Device.cfgStored_frame (x : Device) (n : Nat) (b : Bytes) : x.cfgStored n b = { x with
    haw := x.haw.push n b, tr := { x.tr with paths := (x.cfgStored n b).tr.paths } } := by
  unfold Device.cfgStored
  dsimp only
  split
  · exact Device.repush_frame ..
  · rfl

theorem Device.cfgStored_others (x : Device) (n : Nat) (b : Bytes) {j : Nat} (other : j ≠ n - 16) :
    (x.cfgStored n b).tr.paths[j]? = x.tr.paths[j]? := by
  unfold Device.cfgStored Device.repush
  dsimp only
  split
  · split
    · exact getElem?_setPath_ne { x with haw := x.haw.push n b } _ other
    · rfl
  · rfl

/-- A path whose pushed parameters change begins anew (R112, R155). -/
theorem Device.cfgStored_renews (x : Device) {n : Nat} (low : 16 ≤ n) (high : n < 64) (b : Bytes) {q o : PushedPath}
    (now : (x.haw.push n b).pushedAt (n - 16) = some q) (before : x.haw.pushedAt (n - 16) = some o) (differ : o ≠ q) :
    (x.cfgStored n b).tr.paths[n - 16]? =
      (x.tr.paths[n - 16]?).map fun y => PathState.inService { res := y.res, health := y.health } := by
  have begins : (x.haw.pushedAt (n - 16)).isSome ∧ x.haw.pushedAt (n - 16) ≠ (x.haw.push n b).pushedAt (n - 16) := by
    rw [before, now]
    exact ⟨rfl, fun same => differ (Option.some.inj same)⟩
  unfold Device.cfgStored Device.repush
  simp only [low, high, and_self, if_true]
  rw [if_pos (by rw [now]; rfl), getElem?_setPath_same]
  simp only [if_pos begins]

/-! ## Admission (R404) -/

theorem Device.hwAdmit_off {s : Device} {unit : Func} (busy : Bool) (bg : Nat)
    (off : s.on .hawser = false ∨ s.on unit = false) : s.hwAdmit unit busy bg = 1 := by
  rcases off with off | off <;> simp [Device.hwAdmit, off]

theorem Device.hwAdmit_unsynced {s : Device} {unit : Func} (busy : Bool) (bg : Nat) (on : s.on .hawser = true)
    (unitOn : s.on unit = true) (unsynced : s.haw.synced = false) : s.hwAdmit unit busy bg = 2 := by
  simp [Device.hwAdmit, on, unitOn, unsynced]

theorem Device.hwAdmit_busy {s : Device} {unit : Func} (bg : Nat) (on : s.on .hawser = true) (unitOn : s.on unit = true)
    (synced : s.haw.synced = true) : s.hwAdmit unit true bg = 3 := by
  simp [Device.hwAdmit, on, unitOn, synced]

theorem Device.hwAdmit_due {s : Device} {unit : Func} {bg : Nat} (on : s.on .hawser = true) (unitOn : s.on unit = true)
    (synced : s.haw.synced = true) (due : s.store.due.getD bg false = true ∨ s.store.due.getD 2 false = true) :
    s.hwAdmit unit false bg = 4 := by
  rcases due with due | due <;> simp only [Device.hwAdmit, on, unitOn, synced, due] <;> simp

theorem Device.hwAdmit_free {s : Device} {unit : Func} {bg : Nat} (on : s.on .hawser = true) (unitOn : s.on unit = true)
    (synced : s.haw.synced = true) (idle : s.store.due.getD bg false = false) (rest : s.store.due.getD 2 false = false) :
    s.hwAdmit unit false bg = 0 := by
  simp only [Device.hwAdmit, on, unitOn, synced, idle, rest]
  simp

theorem Device.hwTurnAway_least (s : Device) {c : Nat} (least : c ≤ 2) (most : Nat) :
    s.hwTurnAway c most = s.hwRefuse c 0xFFFF := if_pos least

/-- A request turned away for a time: REFUSE with a time within its bound, counted in counter 6. -/
theorem Device.hwTurnAway_waits (s : Device) {c : Nat} (waits : 2 < c) (most : Nat) :
    ∃ us ≤ (if c = 4 then 200 else most), s.hwTurnAway c most = { s with
      refusals := setAt s.refusals 6 satInc, free := s.free + 1
      haw := { s.haw with
        seq := wrapU 8 (s.haw.seq + 1), lastTx := hwFrame 0 s.hwNo 13 s.haw.seq (leBytes 1 c ++ leBytes 2 us) }
      power := s.toRun.power, land := s.toRun.land } := by
  refine ⟨s.draw.1 % ((if c = 4 then 200 else most) + 1), Nat.le_of_lt_succ (Nat.mod_lt _ (Nat.succ_pos _)), ?_⟩
  have counter : (if c = 1 then 8 else 6) = 6 := if_neg (by omega)
  unfold Device.hwTurnAway
  rw [if_neg (by omega)]
  simp only [Device.hwRefuse, counter]
  rfl

/-- A device with a channel has not all of its roles 0. -/
theorem channels_used {roles : List Nat} (channels : roles.any (· != 0) = true) : ¬ roles.all (· == 0) = true := by
  obtain ⟨x, mem, used⟩ := List.any_eq_true.mp channels
  intro all
  have unused := List.all_eq_true.mp all x mem
  simp_all

/-! ## FIRE (R97, R102, R103, R400) -/

/-- Of the time base only the check itself is written; billed registers, keys and the Hawser stand. -/
structure Device.Checked (t s : Device) : Prop where
  tr : t.tr = { s.tr with tb := t.tr.tb }
  corr : t.tr.tb.corrInForce = s.tr.tb.corrInForce
  conf : t.conf = s.conf
  sec : t.sec = s.sec
  led : t.toll.led = s.toll.led
  haw : t.haw = s.haw
  tick : t.land.tick = s.land.tick

theorem Device.Checked.trans {a b c : Device} (h : a.Checked b) (k : b.Checked c) : a.Checked c :=
  ⟨by rw [h.tr, k.tr], h.corr.trans k.corr, h.conf.trans k.conf, h.sec.trans k.sec, h.led.trans k.led, h.haw.trans k.haw,
    h.tick.trans k.tick⟩

theorem Device.withTb_checked (s : Device) {b : TimeBase} (corr : b.corrInForce = s.tr.tb.corrInForce) :
    ({ s with tr := { s.tr with tb := b } } : Device).Checked s := ⟨rfl, corr, rfl, rfl, rfl, rfl, rfl⟩

theorem Device.leaveFallback_checked (s : Device) : s.leaveFallback.Checked s := by
  unfold Device.leaveFallback
  exact ⟨by simp, by simp, by simp, by simp, by simp, by simp, by simp⟩

/-- A check that passes, or none, runs the cycle (R103). -/
theorem Device.refCheck_passes (s : Device) {ref : Option Nat} (ok : s.tr.tb.refinSel = false ∨ refPass ref = true) :
    (s.refCheck ref).2 = true ∧ (s.refCheck ref).1.Checked s := by
  unfold Device.refCheck
  split
  · exact ⟨rfl, rfl, rfl, rfl, rfl, rfl, rfl, rfl⟩
  · next sel =>
    have pass : refPass ref = true := ok.resolve_left (by simpa using sel)
    extract_lets b _ s0 b0 n _ s1
    have relocked : s0.Checked s := by
      unfold s0
      split <;> exact ⟨rfl, rfl, rfl, rfl, rfl, rfl, rfl⟩
    have counted : s1.Checked s := (s0.withTb_checked (b := { b0 with failRun := 0, passRun := n }) rfl).trans relocked
    rw [if_pos pass]
    refine ⟨rfl, ?_⟩
    dsimp only
    split
    · exact s1.leaveFallback_checked.trans counted
    · exact counted


/-- What a cycle takes at a secondary, and its number (R97, R102). -/
def Device.cycleTaken (s : Device) : Device :=
  { s.takeSets with tr := { s.takeSets.tr with cyc := { s.takeSets.tr.cyc with seq := s.takeSets.tr.cyc.seq + 1 } } }

/-- The first FIRE of a cycle that passes its check numbers the cycle and takes the correction pushed last. -/
theorem Device.jobCycle_begins (s : Device) {ref : Option Nat} (secondary : s.secondary = true) (first : s.haw.cycle = 0)
    (ok : s.tr.tb.refinSel = false ∨ refPass ref = true) :
    ∃ x : Device, s.jobCycle ref = { x with haw := { s.haw with cycle := 1 } } ∧ x.tr.cyc.seq = s.tr.cyc.seq + 1 ∧
      x.tr.tb.corrInForce = s.haw.hfxCorr ∧ x.tr.paths = s.tr.paths ∧ x.conf = s.conf ∧ x.sec = s.sec ∧
      x.toll.led = s.toll.led ∧ x.land.tick = s.land.tick := by
  have begins : s.jobCycle ref = { (s.cycleTaken.refCheck ref).1 with haw := { (s.cycleTaken.refCheck ref).1.haw with
      cycle := if (s.cycleTaken.refCheck ref).2 then 1 else 2 } } := if_pos first
  have corr : s.cycleTaken.tr.tb.corrInForce = s.haw.hfxCorr := if_pos secondary
  obtain ⟨runs, checked⟩ := s.cycleTaken.refCheck_passes ok
  refine ⟨(s.cycleTaken.refCheck ref).1, ?_, ?_, checked.corr.trans corr, ?_, checked.conf, checked.sec, checked.led,
    checked.tick⟩
  · rw [begins, runs, checked.haw]
    rfl
  · rw [checked.tr]; rfl
  · rw [checked.tr]; rfl

theorem Device.jobCycle_goesOn (s : Device) (ref : Option Nat) (on : s.haw.cycle ≠ 0) : s.jobCycle ref = s := if_neg on

/-! ## TIME (R395) -/

theorem Device.loadTime_leaves (s : Device) (t : Nat) :
    (s.loadTime t).land.tick = min t (2 ^ 48 - 1) ∧ (s.loadTime t).trusted = s.trusted ∧ (s.loadTime t).jnl = s.jnl ∧
      (s.loadTime t).conf = s.conf ∧ (s.loadTime t).sec.keys = s.sec.keys ∧ (s.loadTime t).sec.lc = s.sec.lc ∧
      (s.loadTime t).toll.led = s.toll.led ∧ (s.loadTime t).haw.lastTx = s.haw.lastTx ∧
      (s.loadTime t).haw.seq = s.haw.seq ∧ (s.loadTime t).hwNo = s.hwNo :=
  ⟨rfl, rfl, rfl, rfl, rfl, rfl, rfl, rfl, rfl, rfl⟩

/-! ## Rest (R394, R471) -/

theorem Device.sleepEffects_leaves (s : Device) (p : PState) :
    (s.sleepEffects p).haw = s.haw ∧ (s.sleepEffects p).conf = s.conf ∧ (s.sleepEffects p).sec.keys = s.sec.keys ∧
      (s.sleepEffects p).toll = s.toll ∧ (s.sleepEffects p).land.tick = s.land.tick := by
  unfold Device.sleepEffects
  extract_lets s0 _ _ s1
  have mirrored : s0.haw = s.haw ∧ s0.conf = s.conf ∧ s0.sec = s.sec ∧ s0.toll = s.toll ∧ s0.land = s.land := by
    unfold s0
    split <;> exact ⟨rfl, rfl, rfl, rfl, rfl⟩
  have forgotten : s1.haw = s0.haw ∧ s1.conf = s0.conf ∧ s1.sec = s0.sec ∧ s1.toll = s0.toll ∧ s1.land = s0.land := by
    unfold s1
    split
    · exact ⟨rfl, rfl, rfl, rfl, rfl⟩
    · split <;> exact ⟨rfl, rfl, rfl, rfl, rfl⟩
  obtain ⟨haw0, conf0, sec0, toll0, land0⟩ := mirrored
  obtain ⟨haw1, conf1, sec1, toll1, land1⟩ := forgotten
  have sec := congrArg Security.keys (sec1.trans sec0)
  have tick := congrArg Landing.tick (land1.trans land0)
  split
  · exact ⟨haw1.trans haw0, conf1.trans conf0, sec, toll1.trans toll0, tick⟩
  · exact ⟨haw1.trans haw0, conf1.trans conf0, sec, toll1.trans toll0, tick⟩

theorem Device.rest_leaves (s : Device) (n : Nat) :
    (s.rest n).haw = s.haw ∧ (s.rest n).conf = s.conf ∧ (s.rest n).sec.keys = s.sec.keys ∧
      (s.rest n).toll = s.toll ∧ (s.rest n).land.tick = s.land.tick := by
  unfold Device.rest
  dsimp only
  split
  · exact Device.sleepEffects_leaves ..
  · exact ⟨rfl, rfl, rfl, rfl, rfl⟩

end Sys2Proof.Machine

/-! SUPPORT. Each command of a secondary as the frame it hears. -/

namespace Sys2Proof.Machine

section
variable {dt : Nat} {f : HwFrame} {s : State} {d : Device} (hd : d = s.dev.elapse dt) (secondary : d.secondary = true)
include hd secondary

theorem syncReq_eq : exec (.syncReq dt f) s = .next { s with dev := d.hwReceive 1 f Device.onSyncReq } := by
  simp [exec, execSyncReq, ← hd, secondary]

theorem cfg_eq : exec (.cfg dt f) s = .next { s with dev := d.hwReceive 3 f Device.onCfg } := by
  simp [exec, execCfg, ← hd, secondary]

theorem mark_eq : exec (.mark dt f) s = .next { s with dev := d.hwReceive 5 f (Device.onMark f.stamp) } := by
  simp [exec, execMark, ← hd, secondary]

theorem loopcal_eq (t3 : RawStamp) : exec (.loopcal dt f t3) s =
    .next { s with dev := d.hwReceive 10 f (fun p x => x.loopAnswer p (x.edge f.stamp) (x.edge t3)) } := by
  simp [exec, execLoopcal, ← hd, secondary]

theorem time_eq : exec (.time dt f) s = .next { s with dev := d.hwReceive 12 f Device.hwOnTime } := by
  simp [exec, execTime, ← hd, secondary]

theorem fire_eq (ref : Option Nat) : exec (.fire dt ⟨f, ref⟩) s =
    .next { s with dev := d.hwHears 4 f (Device.onFire f.stamp ref) } := by
  simp [exec, execFire, ← hd, secondary]

theorem sampleReq_eq : exec (.sampleReq dt f) s = .next { s with dev := d.hwHears 8 f Device.onSampleReq } := by
  simp [exec, execSampleReq, ← hd, secondary]

/-! ### Frames that are counted or ignored -/

theorem received_ignored (x : Instr) (typ : Nat) (a : RawStamp) (hx : (x, typ) ∈ [(Instr.syncReq dt f, 1), (.cfg dt f, 3),
    (.mark dt f, 5), (.loopcal dt f a, 10), (.time dt f, 12)])
    (out : d.on .hawser = false ∨ d.hwLive = false ∨ (hwParse f.bytes ≠ none ∧ d.hwAccept typ f = none)) :
    exec x s = .next { s with dev := d } := by
  simp only [List.mem_cons, Prod.mk.injEq, List.not_mem_nil, or_false] at hx
  obtain ⟨rfl, rfl⟩ | ⟨rfl, rfl⟩ | ⟨rfl, rfl⟩ | ⟨rfl, rfl⟩ | ⟨rfl, rfl⟩ := hx
  · rw [syncReq_eq hd secondary, d.hwReceive_ignored _ out]
  · rw [cfg_eq hd secondary, d.hwReceive_ignored _ out]
  · rw [mark_eq hd secondary, d.hwReceive_ignored _ out]
  · rw [loopcal_eq hd secondary, d.hwReceive_ignored _ out]
  · rw [time_eq hd secondary, d.hwReceive_ignored _ out]

theorem received_bad (a : RawStamp) (ref : Option Nat) (x : Instr) (hx : x ∈ [Instr.syncReq dt f, .cfg dt f, .mark dt f,
    .loopcal dt f a, .time dt f, .fire dt ⟨f, ref⟩, .sampleReq dt f]) (on : d.on .hawser = true) (live : d.hwLive = true)
    (bad : hwParse f.bytes = none) : exec x s = .next { s with dev := d.hwBad } := by
  simp only [List.mem_cons, List.not_mem_nil, or_false] at hx
  have stands := Device.on_hawser_stands on
  obtain rfl | rfl | rfl | rfl | rfl | rfl | rfl := hx
  · rw [syncReq_eq hd secondary, d.hwReceive_bad _ on live bad]
  · rw [cfg_eq hd secondary, d.hwReceive_bad _ on live bad]
  · rw [mark_eq hd secondary, d.hwReceive_bad _ on live bad]
  · rw [loopcal_eq hd secondary, d.hwReceive_bad _ on live bad]
  · rw [time_eq hd secondary, d.hwReceive_bad _ on live bad]
  · rw [fire_eq hd secondary, d.hwHears_bad _ stands live bad]
  · rw [sampleReq_eq hd secondary, d.hwHears_bad _ stands live bad]

/-! ### CFG (R395) -/

theorem cfg_stores {p : HwParts} {n : BitVec 8} {b : Bytes} (heard : HwHears d f 3 p) (own : p.dst ≠ 7)
    (block : p.payload = n :: b) :
    ∃ t : Device, exec (.cfg dt f) s = .next { s with dev := t } ∧
      t.haw.lastTx = hwFrame 0 d.hwNo 14 d.haw.seq (leBytes 1 p.seq) ∧
      (n.toNat = 0 → t.haw.hfxCorr = getS b 0 4) ∧
      (16 ≤ n.toNat → n.toNat < 64 → ∀ q, q = (⟨n.toNat - 16, pathOf b, getU b 20 4, getU b 24 4⟩ : PushedPath) →
        t.haw.pushed.find? (·.path == n.toNat - 16) = some q ∧
        (∀ o, d.haw.pushedAt (n.toNat - 16) = some o → o ≠ q →
          t.tr.paths[n.toNat - 16]? = (d.tr.paths[n.toNat - 16]?).map fun x =>
            PathState.inService { res := x.res, health := x.health })) ∧
      (n.toNat = 1 → t.haw.pushedThr = { pathListOf (b.take 14) with paths := [], basic := bitAt (getU b 15 1) 0 } ∧
        t.haw.pushedCls = getU b 14 1) ∧
      (∀ j, j ≠ n.toNat - 16 → t.tr.paths[j]? = d.tr.paths[j]?) ∧
      t = { d with haw := t.haw, power := d.toRun.power, land := d.toRun.land,
                   tr := { d.tr with paths := t.tr.paths, ports := t.tr.ports } } := by
  obtain ⟨seq, role, no⟩ := Hawser.push_frame d.attend.haw n.toNat b
  have number : (d.attend.cfgStored n.toNat b).hwNo = d.hwNo := by
    rw [Device.cfgStored_frame]
    simp only [Device.hwNo, role, no]
    rfl
  have stored : (d.attend.cfgStored n.toNat b).haw = d.attend.haw.push n.toNat b := by rw [Device.cfgStored_frame]
  refine ⟨_, by rw [cfg_eq hd secondary, d.hwReceive_heard _ heard, d.attend.onCfg_block own block], ?_, ?_, ?_, ?_, ?_, ?_⟩
  · rw [Device.hwSend_eq]
    have numbered : ((d.attend.cfgStored n.toNat b).initPorts false).hwNo = d.hwNo := number
    have counted : ((d.attend.cfgStored n.toNat b).initPorts false).haw.seq = d.haw.seq :=
      (congrArg Hawser.seq stored).trans seq
    dsimp only
    rw [numbered, counted]
  · intro n0
    refine (congrArg Hawser.hfxCorr stored).trans ?_
    rw [n0]; rfl
  · rintro low high q rfl
    have pushed : (d.attend.haw.push n.toNat b).pushedAt (n.toNat - 16) =
        some ⟨n.toNat - 16, pathOf b, getU b 20 4, getU b 24 4⟩ := by
      rw [Hawser.push_path _ low high]
      exact pushPath_find _ ⟨n.toNat - 16, pathOf b, getU b 20 4, getU b 24 4⟩
    exact ⟨(congrArg (fun h : Hawser => h.pushedAt (n.toNat - 16)) stored).trans pushed,
      fun o before differ => d.attend.cfgStored_renews low high b pushed before differ⟩
  · intro n1
    refine ⟨(congrArg Hawser.pushedThr stored).trans ?_, (congrArg Hawser.pushedCls stored).trans ?_⟩
    · rw [n1]; rfl
    · rw [n1]; rfl
  · exact fun j other => d.attend.cfgStored_others n.toNat b other
  · rw [Device.hwSend_eq, Device.cfgStored_frame]
    rfl

/-! ### FIRE and SAMPLE_REQ (R400, R403, R404) -/

theorem fire_admitted {p : HwParts} (ref : Option Nat) (heard : HwHears d f 4 p) (own : p.dst ≠ 7)
    (unitOn : d.on .transit = true) (synced : d.haw.synced = true) (idle : d.haw.job = none)
    (free : d.store.due.getD 0 false = false) (rest : d.store.due.getD 2 false = false) :
    exec (.fire dt ⟨f, ref⟩) s = .next { s with
      dev := (d.attend.jobCycle ref).takeJob (jobOf p.payload ((d.attend.jobCycle ref).edge f.stamp)) } := by
  have admits : d.attend.hwAdmit .transit d.attend.haw.job.isSome 0 = 0 := by
    rw [show d.attend.haw.job = none from idle]
    exact Device.hwAdmit_free heard.1 unitOn synced free rest
  rw [fire_eq hd secondary, d.hwHears_heard _ heard]
  simp only [Device.onFire, admits, if_neg own, if_true]

theorem sampleReq_admitted {p : HwParts} (channels : d.conf.wiring.roles.any (· != 0) = true) (heard : HwHears d f 8 p)
    (unitOn : d.on .converter = true) (synced : d.haw.synced = true) (idle : d.haw.sampling = false)
    (free : d.store.due.getD 1 false = false) (rest : d.store.due.getD 2 false = false) :
    exec (.sampleReq dt f) s = .next { s with dev := { d with haw := { d.attend.haw with sampling := true } } } := by
  have admits : d.attend.hwAdmit .converter d.attend.haw.sampling 1 = 0 := by
    rw [show d.attend.haw.sampling = false from idle]
    exact Device.hwAdmit_free heard.1 unitOn synced free rest
  rw [sampleReq_eq hd secondary, d.hwHears_heard _ heard]
  simp only [Device.onSampleReq, admits, if_true]
  exact congrArg (fun x => Host.Outcome.next { s with dev := x }) (if_neg (channels_used channels))

end

section
variable {d : Device} {f : HwFrame} {p : HwParts} (stands : d.fn.hawser.st ≠ .off) (live : d.hwLive = true)
include stands live

theorem Device.onFire_turnedAway (ref : Option Nat) (accepted : d.hwAccept 4 f = some p) (own : p.dst ≠ 7) {c : Nat}
    (refused : c ≠ 0) (admits : d.attend.hwAdmit .transit d.haw.job.isSome 0 = c) :
    d.hwHears 4 f (Device.onFire f.stamp ref) =
      Device.hwTurnAway { d.attend with haw := { d.attend.haw with
        attending := (4 == 8) || !bitAt (getU p.payload 1 1) 2 } } c 1000 := by
  have admits' : d.attend.hwAdmit .transit d.attend.haw.job.isSome 0 = c := admits
  rw [d.hwHears_decides _ stands live accepted]
  simp only [Device.onFire, admits', if_neg own, if_neg refused]
  rfl

theorem Device.onSampleReq_turnedAway (accepted : d.hwAccept 8 f = some p)
    (channels : d.conf.wiring.roles.any (· != 0) = true) {c : Nat} (refused : c ≠ 0)
    (admits : d.attend.hwAdmit .converter d.haw.sampling 1 = c) :
    d.hwHears 8 f Device.onSampleReq =
      Device.hwTurnAway { d.attend with haw := { d.attend.haw with
        attending := (8 == 8) || !bitAt (getU p.payload 1 1) 2 } } c 45000 := by
  have admits' : d.attend.hwAdmit .converter d.attend.haw.sampling 1 = c := admits
  rw [d.hwHears_decides _ stands live accepted]
  refine (if_neg (channels_used channels)).trans ?_
  simp only [admits', if_neg refused]
  rfl

end

/-- What a secondary answers to a request that it turns away, the tests of its unit failing in order (R404). -/
theorem Device.refusals_ordered {d r x : Device} {unit : Func} {busy : Bool} {bg most : Nat}
    (hr : ∃ b, r = { d.attend with haw := { d.attend.haw with attending := b } })
    (turned : ∀ c, c ≠ 0 → d.attend.hwAdmit unit busy bg = c → x = r.hwTurnAway c most) :
    (d.on .hawser = false ∨ d.on unit = false → x = r.hwRefuse 1 0xFFFF) ∧
      (d.on .hawser = true → d.on unit = true → d.haw.synced = false → x = r.hwRefuse 2 0xFFFF) ∧
      (∀ c, d.on .hawser = true → d.on unit = true → d.haw.synced = true →
        (busy = true ∧ c = 3) ∨ (busy = false ∧ (d.store.due.getD bg false = true ∨ d.store.due.getD 2 false = true) ∧ c = 4) →
        ∃ us, us ≤ (if c = 4 then 200 else most) ∧
          x.haw.lastTx = hwFrame 0 d.hwNo 13 d.haw.seq (leBytes 1 c ++ leBytes 2 us) ∧ x.haw.job = d.haw.job ∧
          x.haw.sampling = d.haw.sampling ∧ x.haw.attending = r.haw.attending ∧
          x.refusals = setAt d.refusals 6 satInc ∧ x.free = d.free + 1 ∧ x.conf = d.conf ∧ x.land = d.toRun.land) := by
  obtain ⟨b, rfl⟩ := hr
  refine ⟨fun off => ?_, fun on unitOn unsynced => ?_, fun c on unitOn synced why => ?_⟩
  · rw [turned 1 (by decide) (Device.hwAdmit_off (s := d.attend) busy bg off)]
    exact Device.hwTurnAway_least _ (by decide) most
  · rw [turned 2 (by decide) (Device.hwAdmit_unsynced (s := d.attend) busy bg on unitOn unsynced)]
    exact Device.hwTurnAway_least _ (by decide) most
  · have cause : d.attend.hwAdmit unit busy bg = c ∧ 2 < c := by
      rcases why with ⟨rfl, rfl⟩ | ⟨rfl, due, rfl⟩
      · exact ⟨Device.hwAdmit_busy (s := d.attend) bg on unitOn synced, by decide⟩
      · exact ⟨Device.hwAdmit_due (s := d.attend) on unitOn synced due, by decide⟩
    obtain ⟨us, most', turns⟩ := Device.hwTurnAway_waits { d.attend with haw := { d.attend.haw with attending := b } } cause.2 most
    rw [turned c (by omega) cause.1, turns]
    exact ⟨us, most', rfl, rfl, rfl, rfl, rfl, rfl, rfl, rfl⟩

end Sys2Proof.Machine

namespace Sys2Proof
open Machine

/-- Settles O59: each frame that is heard is handled by its own command, and a request is admitted or refused by the first test
that fails. -/
theorem secondaryServesItsPrimary : Obligations.SecondaryServesItsPrimary := by
  intro dt f s d e hd secondary he
  have attends : e = d.attend := he
  subst attends
  refine ⟨?_, ?_, ?_, ?_, ?_, ?_, ?_, ?_, ?_, ?_, ?_, ?_, ?_, ?_, ?_, ?_⟩
  · exact fun x typ a hx out => received_ignored hd secondary x typ a hx out
  · exact fun a ref x hx on live bad => ⟨_, rfl, received_bad hd secondary a ref x hx on live bad⟩
  · intro p heard
    have run : exec (.syncReq dt f) s = .next { s with dev := Device.onSyncReq p d.attend } := by
      rw [syncReq_eq hd secondary, d.hwReceive_heard _ heard]
    refine ⟨fun all => ⟨_, rfl, ?_⟩, fun own => ⟨_, run, ?_⟩⟩
    · rw [run, Device.onSyncReq, Device.hwAnswer_all _ all]
      rfl
    · rw [Device.onSyncReq, Device.hwAnswer_own _ own]
      exact ⟨rfl, rfl, rfl, rfl, rfl⟩
  · exact fun p n b heard own block => cfg_stores hd secondary heard own block
  · intro p heard
    refine ⟨_, rfl, ?_⟩
    rw [mark_eq hd secondary, d.hwReceive_heard _ heard]
    rfl
  · intro p t3 heard own
    have run : exec (.loopcal dt f t3) s = .next { s with dev := d.attend.loopAnswer p (d.edge f.stamp) (d.edge t3) } := by
      rw [loopcal_eq hd secondary, d.hwReceive_heard _ heard]
      rfl
    refine ⟨fun other => ⟨_, run, ?_⟩, fun same => ⟨_, run, ?_⟩⟩
    · have again : (d.haw.loopSeq == some p.seq) = false := by simpa using other
      rw [Device.loopAnswer, Device.hwAnswer_own _ own]
      simp only [show d.attend.haw.loopSeq = d.haw.loopSeq from rfl, again]
      exact ⟨rfl, rfl, rfl, rfl, rfl, rfl⟩
    · have again : (d.haw.loopSeq == some p.seq) = true := by simpa using same
      rw [Device.loopAnswer, Device.hwAnswer_own _ own]
      simp only [show d.attend.haw.loopSeq = d.haw.loopSeq from rfl, again]
      exact ⟨rfl, rfl, rfl, rfl⟩
  · intro p heard
    obtain ⟨tick, trusted, jnl, conf, keys, lc, led, tx, seq, no⟩ := d.attend.loadTime_leaves (getU p.payload 0 6)
    refine ⟨Device.hwOnTime p d.attend, by rw [time_eq hd secondary, d.hwReceive_heard _ heard], ?_⟩
    by_cases all : p.dst = 7
    · rw [Device.hwOnTime, Device.hwAnswer_all _ all]
      exact ⟨tick, trusted, jnl, fun own => absurd all own, fun _ => tx, conf, keys, lc, led⟩
    · rw [Device.hwOnTime, Device.hwAnswer_own _ all, Device.hwSend_eq, no, seq]
      exact ⟨tick, trusted, jnl, fun _ => rfl, fun all' => absurd all' all, conf, keys, lc, led⟩
  · intro p ref j heard own hj unitOn synced idle free rest
    have run := fire_admitted hd secondary ref heard own unitOn synced idle free rest
    subst hj
    refine ⟨fun runs => ⟨_, rfl, ?_⟩, fun waits => ⟨_, rfl, ?_⟩, fun first ok => ?_⟩
    · have on : d.attend.haw.cycle = 1 := runs
      rw [run, d.attend.jobCycle_goesOn ref (by omega), Device.takeJob, on]
      rfl
    · have on : d.attend.haw.cycle = 2 := waits
      rw [run, d.attend.jobCycle_goesOn ref (by omega), Device.takeJob, on]
      rfl
    · obtain ⟨x, begins, seq, corr, paths, conf, sec, led, tick⟩ :=
        d.attend.jobCycle_begins (ref := ref) secondary first ok
      rw [begins] at run
      exact ⟨_, run, rfl, rfl, seq, corr, paths, conf, sec, led, tick⟩
  · intro p channels heard unitOn synced idle free rest
    exact ⟨_, rfl, sampleReq_admitted hd secondary channels heard unitOn synced idle free rest⟩
  · intro x typ bg most unit busy ok ref hx useful stands live p accepted own r hr
    simp only [List.mem_cons, Prod.mk.injEq, List.not_mem_nil, or_false] at hx
    obtain ⟨rfl, rfl, rfl, rfl, rfl, rfl, rfl⟩ | ⟨rfl, rfl, rfl, rfl, rfl, rfl, hok⟩ := hx
    · have own' : p.dst ≠ 7 := own.resolve_left (by decide)
      obtain ⟨off, unsynced, waits⟩ := Device.refusals_ordered (most := 1000) ⟨_, hr⟩ fun c refused admits =>
        hr ▸ Device.onFire_turnedAway stands live ref accepted own' refused admits
      rw [fire_eq hd secondary]
      refine ⟨fun o => by rw [off o], fun a b c => by rw [unsynced a b c], fun c a b e why => ?_⟩
      obtain ⟨us, bound, rest⟩ := waits c a b e why
      exact ⟨_, us, rfl, bound, rest⟩
    · obtain ⟨off, unsynced, waits⟩ := Device.refusals_ordered (most := 45000) ⟨_, hr⟩ fun c refused admits =>
        hr ▸ Device.onSampleReq_turnedAway stands live accepted (hok ▸ useful) refused admits
      rw [sampleReq_eq hd secondary]
      refine ⟨fun o => by rw [off o], fun a b c => by rw [unsynced a b c], fun c a b e why => ?_⟩
      obtain ⟨us, bound, rest⟩ := waits c a b e why
      exact ⟨_, us, rfl, bound, rest⟩
  · intro p ref heard all
    rw [fire_eq hd secondary, d.hwHears_heard _ heard, Device.onFire, if_pos all]
  · intro sampling on m
    have run : exec (.sampleComplete dt m) s = .next { s with dev := d.sampleAnswer m } := by
      simp [exec, execSampleComplete, ← hd, secondary, sampling, on]
    exact ⟨_, run, rfl, hwFrame_typ _ _ (by decide) _ _, rfl, rfl, rfl⟩
  · intro n nap own
    rcases own with rfl | rfl <;> simp [exec, execHawserWakeBurst, ← hd, secondary, nap]
  · intro n other
    rcases other with awake | ⟨own, all⟩
    · simp [exec, execHawserWakeBurst, ← hd, awake]
    · simp [exec, execHawserWakeBurst, ← hd, own, all]
  · intro up late
    have run : exec (.hawserIdleTimeout dt) s = .next { s with
        dev := Device.rest { d with haw := { d.haw with wakeReq := false, attending := false } } 0 } := by
      simp [exec, execHawserIdleTimeout, ← hd, secondary, up, late]
    obtain ⟨haw, conf, keys, toll, tick⟩ :=
      Device.rest_leaves { d with haw := { d.haw with wakeReq := false, attending := false } } 0
    exact ⟨_, run, congrArg Hawser.wakeReq haw, congrArg Hawser.attending haw, conf, keys, congrArg Toll.led toll, tick⟩
  · intro early
    rcases early with down | soon
    · simp [exec, execHawserIdleTimeout, ← hd, down]
    · simp [exec, execHawserIdleTimeout, ← hd, Nat.not_le.mpr soon]

end Sys2Proof

/-! SUPPORT. The primary's own exchanges: what they leave of the Hawser's standing state (R393, R395, R398). -/

namespace Sys2Proof.Machine

/-! ## What no exchange writes -/

/-- The secondaries as the primary sees them, and tick and temperature of the last loop calibration: no exchange of the
primary's own writes them. -/
def Hawser.standing (h : Hawser) : List Secondary × Nat × Int := (h.secs, h.loopTick, h.loopTemp)

theorem Device.loopAsk_standing (s : Device) (r : LoopRun) : (s.loopAsk r).haw.standing = s.haw.standing := by
  unfold Device.loopAsk
  split <;> rfl

theorem Device.loopPump_standing (s : Device) : s.loopPump.haw.standing = s.haw.standing := by
  unfold Device.loopPump
  split
  · rfl
  · split
    · split
      · exact s.loopAsk_standing _
      · rfl
    · split
      · exact (Device.loopAsk_standing _ _).trans rfl
      · rfl

theorem Device.hwPump_standing (s : Device) : s.hwPump.haw.standing = s.haw.standing := by
  unfold Device.hwPump
  split
  · rfl
  · split
    · rfl
    · split
      · rfl
      · exact (Device.loopPump_standing _).trans rfl

theorem Device.hwGap_standing (s : Device) : s.hwGap.haw.standing = s.haw.standing := by
  unfold Device.hwGap
  dsimp only
  split
  · exact (Device.hwPump_standing _).trans rfl
  · exact s.hwPump_standing

theorem Device.hwShelve_standing (s : Device) : s.hwShelve.haw.standing = s.haw.standing := by
  unfold Device.hwShelve
  split
  · rfl
  · split
    · rfl
    · split <;> rfl

theorem Device.fireRemote_standing (s : Device) (i : Nat) : (s.fireRemote i).haw.standing = s.haw.standing := by
  unfold Device.fireRemote
  dsimp only
  split
  · rfl
  · split <;> exact s.hwShelve_standing

theorem Device.fireNext_standing (s : Device) : s.fireNext.haw.standing = s.haw.standing := by
  unfold Device.fireNext
  split
  · rfl
  · exact Device.fireRemote_standing ..

theorem Hawser.standing_secs {h k : Hawser} (same : h.standing = k.standing) : h.secs = k.secs := congrArg Prod.fst same

/-! ## Secondaries -/

theorem Device.setSec_eq (s : Device) {k : Nat} (f : Secondary → Secondary) (own : 1 ≤ k) :
    s.setSec k f = { s with haw := { s.haw with secs := setAt s.haw.secs (k - 1) f } } := if_neg (by omega)

theorem Device.sec1_of_getElem? {s : Device} {k : Nat} {z : Secondary} (at_k : s.haw.secs[k - 1]? = some z) : s.sec1 k = z := by
  simp [Device.sec1, at_k]

theorem Device.secs_at (s : Device) {k : Nat} (least : 1 ≤ k) (most : k ≤ s.haw.secs.length) :
    s.haw.secs[k - 1]? = some (s.sec1 k) := by
  have inside : k - 1 < s.haw.secs.length := by omega
  simp [Device.sec1, inside]

theorem Device.setSec_at (s : Device) {k : Nat} {z : Secondary} (f : Secondary → Secondary) (own : 1 ≤ k)
    (at_k : s.haw.secs[k - 1]? = some z) : (s.setSec k f).haw.secs[k - 1]? = some (f z) := by
  rw [s.setSec_eq f own]
  simp [at_k]

/-- A field of the secondaries that an entry's change keeps. -/
theorem Device.sec1_setSec_same {α : Type} (s : Device) (k j : Nat) (f : Secondary → Secondary) (g : Secondary → α)
    (same : ∀ x, g (f x) = g x) : g ((s.setSec k f).sec1 j) = g (s.sec1 j) := by
  have field (x : Device) : g (x.sec1 j) = (x.haw.secs.map g).getD (j - 1) (g {}) := by
    simp only [Device.sec1, List.getD_eq_getElem?_getD, List.getElem?_map, Option.getD_map]
  unfold Device.setSec
  split
  · rfl
  · rw [field, field]
    exact congrArg (fun l => l.getD (j - 1) (g {})) (map_setAt_of_same s.haw.secs (k - 1) f g same)

theorem Device.hwAnswered_eq (s : Device) {k : Nat} (own : 1 ≤ k) : s.hwAnswered k = { s with haw := { s.haw with
    secs := setAt s.haw.secs (k - 1) fun x => { x with missRun := 0, missSeq := some s.tr.cyc.seq } } } :=
  s.setSec_eq _ own

theorem Device.hwAnswered_state (s : Device) (k j : Nat) : ((s.hwAnswered k).sec1 j).state = (s.sec1 j).state :=
  s.sec1_setSec_same k j _ Secondary.state fun _ => rfl

/-! ## The next exchange (R393, R395, R398) -/

theorem Device.hwPump_busy {s : Device} (busy : s.hwFree = false) : s.hwPump = s := by
  simp [Device.hwPump, busy]

theorem Device.hwFree_of {s : Device} (on : s.on .hawser = true) (role : s.haw.role = 1) (out : s.haw.out = none)
    (idle : s.tr.cyc.inFlight = none) : s.hwFree = true := by
  simp [Device.hwFree, on, role, out, idle]

theorem Device.hwPump_syncs {s : Device} {k : Nat} {ks : List Nat} (free : s.hwFree = true) (waits : s.haw.syncing = k :: ks) :
    s.hwPump = Device.hwAsk (Device.hwBurst { s with haw := { s.haw with syncing := ks } } k) k 0x01 [] := by
  simp [Device.hwPump, free, waits]

theorem Device.hwPump_pushes {s : Device} {k n : Nat} {ps : List (Nat × Nat)} (free : s.hwFree = true)
    (synced : s.haw.syncing = []) (waits : s.haw.cfgParts.filter (fun p => (s.sec1 p.1).state == 1) = (k, n) :: ps) :
    s.hwPump = Device.hwAsk { s with haw := { s.haw with cfgParts := ps } } k 0x03 (leBytes 1 n ++ s.cfgPart k n) := by
  simp only [Device.hwPump, free, synced, waits]
  rfl

/-- What is known of a run of loop calibration besides the frame it waits for. -/
def LoopRun.told (r : LoopRun) : Nat × Nat × Option Int × List Int := (r.dst, r.exchanges, r.lastRound, r.rhos)

theorem Device.loopAsk_told (s : Device) (r : LoopRun) : (s.loopAsk r).haw.loop.map LoopRun.told = some r.told := by
  unfold Device.loopAsk
  split <;> rfl

theorem Device.loopPump_told {s : Device} {r : LoopRun} (run : s.haw.loop = some r) (synced : (s.sec1 r.dst).state = 1) :
    s.loopPump.haw.loop.map LoopRun.told = some r.told := by
  unfold Device.loopPump
  split
  · rw [run]; rfl
  · rw [run]
    simp only [synced, if_true]
    exact s.loopAsk_told r

/-- A run of a synchronised secondary stands through the exchange that follows. -/
theorem Device.hwPump_told {s : Device} {r : LoopRun} (run : s.haw.loop = some r) (synced : (s.sec1 r.dst).state = 1) :
    s.hwPump.haw.loop.map LoopRun.told = some r.told := by
  have stands : s.haw.loop.map LoopRun.told = some r.told := by rw [run]; rfl
  unfold Device.hwPump
  split
  · exact stands
  · split
    · exact stands
    · split
      · exact stands
      · exact Device.loopPump_told (s := { s with haw := { s.haw with cfgParts := [] } }) run synced

theorem Device.loopPump_runs {s : Device} {r : LoopRun} (gap : s.gapOf 14 = true) (run : s.haw.loop = some r)
    (state : (s.sec1 r.dst).state = 1) : s.loopPump = s.loopAsk r := by
  unfold Device.loopPump
  rw [gap, run]
  exact if_pos state

theorem Device.hwPump_idle {s : Device} (free : s.hwFree = true) (synced : s.haw.syncing = []) (pushed : s.haw.cfgParts = []) :
    s.hwPump = Device.loopPump { s with haw := { s.haw with cfgParts := [] } } := by
  simp only [Device.hwPump, free, synced, pushed, List.filter_nil]
  rfl

/-- With nothing else waiting and a gap long enough, the run's next LOOPCAL goes out (R398). -/
theorem Device.hwPump_loops {s : Device} {r : LoopRun} (free : s.hwFree = true) (synced : s.haw.syncing = [])
    (pushed : s.haw.cfgParts = []) (gap : s.gapOf 14 = true) (run : s.haw.loop = some r) (state : (s.sec1 r.dst).state = 1)
    (next : r.bytes = []) : (s.hwPump.haw.out.map fun o => (o.dst, o.typ, o.tries)) = some (r.dst, 10, 1) := by
  rw [Device.hwPump_idle free synced pushed,
    Device.loopPump_runs (s := { s with haw := { s.haw with cfgParts := [] } }) gap run state, Device.loopAsk, if_pos next]
  rfl

/-- With nothing to synchronise no burst goes out. -/
theorem Device.hwPump_burst {s : Device} (synced : s.haw.syncing = []) : s.hwPump.haw.burst = s.haw.burst := by
  have asks (x : Device) (r : LoopRun) : (x.loopAsk r).haw.burst = x.haw.burst := by
    unfold Device.loopAsk
    split <;> rfl
  have loops (x : Device) : x.loopPump.haw.burst = x.haw.burst := by
    unfold Device.loopPump
    split
    · rfl
    · split
      · split
        · exact asks x _
        · rfl
      · split
        · exact (asks _ _).trans rfl
        · rfl
  unfold Device.hwPump
  rw [synced]
  split
  · rfl
  · dsimp only
    split
    · rfl
    · exact (loops _).trans rfl

/-! ## What RUN leaves (R325, R474) -/

theorem Device.toRun_power_congr {x y : Device} (power : x.power = y.power) : x.toRun.power = y.toRun.power := by
  unfold Device.toRun
  rw [power]
  rfl

theorem Device.toRun_land_congr {x y : Device} (power : x.power = y.power) (land : x.land = y.land) :
    x.toRun.land = y.toRun.land := by
  unfold Device.toRun Device.pwrUpdate Device.pwrLevel Device.awake
  dsimp only
  rw [power, land]

theorem Device.toRun_power_idem (s : Device) : s.toRun.toRun.power = s.toRun.power := by
  unfold Device.toRun
  cases s.power.st <;> rfl

end Sys2Proof.Machine

/-! SUPPORT. The entry of a path in which a secondary took part (R400 to R402, R404). -/

namespace Sys2Proof.Machine

/-! ## Entries of a path -/

/-- RESULT as the path's entry: the secondary's grade and times, VOID while the path sweeps (R124, R400). -/
theorem takeResult_books (x : PathState) (c : PairCtx) (prx : Nat) (r : PathResult) :
    (x.takeResult c prx r).s.Fired x ∧ (x.takeResult c prx r).s.res.cycleSeq = c.seq % 2 ^ 16 ∧
      (x.work.sweeping = false → (x.takeResult c prx r).s.res.grade = r.grade ∧ (x.takeResult c prx r).s.res.tUd = r.tUd ∧
        (x.takeResult c prx r).s.res.tDu = r.tDu ∧ (x.takeResult c prx r).s.res.dt = r.dt) ∧
      (x.work.sweeping = true → (x.takeResult c prx r).s.res.grade = .void) := by
  unfold PathState.takeResult
  extract_lets sweep r1 g cause both peak clipped learned _ tp s1 s2 q s3 low w
  obtain ⟨parity, res, health, work, -⟩ := s1.gainAfter_turns c.p (both || armsAt x.tune.lastPeak peak) peak clipped
  have tracked : q.1.Held s2 := by
    unfold q
    split
    · exact s2.sweepShot_held ..
    · split
      · exact s2.track_held ..
      · exact .refl s2
  have placed : s3.Held q.1 := q.1.place_held ..
  have ran : w.1.Held s3 := by
    unfold w
    split
    · exact s3.rhoRun_held _
    · exact .refl s3
  obtain ⟨resW, healthW, parityW, staleW⟩ := ran.trans (placed.trans tracked)
  have shown : (w.1.book c g sweep cause).res = { r1 with
      grade := g, voidCause := if g == Grade.void then cause else 0 } := resW.trans res
  obtain ⟨pairs, -, -⟩ := w.1.book_health c g sweep cause
  refine ⟨⟨?_, ?_, ?_⟩, ?_, fun still => ?_, fun sweeping => ?_⟩
  · exact parityW.trans parity
  · rw [pairs, healthW, health]
  · exact staleW.trans (congrArg PathWork.stale work)
  · rw [shown]; rfl
  · rw [shown]
    refine ⟨?_, rfl, rfl, rfl⟩
    simp only [g, sweep, still]
    rfl
  · rw [shown]
    simp only [g, sweep, sweeping]
    rfl

/-- A pair that was fired and has no result: it counts, and its result stands (R79, R147, R163). -/
theorem PathState.missed_books (x : PathState) (c : PairCtx) :
    (x.missed c).Fired x ∧ (x.missed c).res = x.res ∧ (x.missed c).work.delivered = false := by
  unfold PathState.missed
  extract_lets w _ _ q
  obtain ⟨res, health, parity, stale⟩ := q.place_held c false 0 false 0
  refine ⟨⟨parity, congrArg PathHealth.pairs health, stale⟩, res, ?_⟩
  unfold PathState.place
  dsimp only
  split <;> rfl

/-- What this device's direction of a pair across devices leaves, before the pair is graded (R402). -/
theorem halfPair_held (c : PairCtx) (s : PathState) (r : Recv) (unarmed : Nat) (base : List Nat) (sweep : Bool)
    (mate : Option (Bool × Nat × Nat)) : (halfPair c s r unarmed base sweep mate).s.Held s := by
  unfold halfPair
  extract_lets t pDrv w learned m v causes s1 o snrOk s2 low q
  have noted : s1.Held s := ⟨rfl, rfl, rfl, rfl⟩
  have learns : s2.Held s1 := by
    unfold s2
    split
    · exact s1.adapt_held _
    · split
      · exact s1.learn_held _
      · exact .refl s1
  have ran : q.1.Held s2 := by
    unfold q
    split
    · exact s2.rhoRun_held _
    · exact .refl s2
  exact ran.trans (learns.trans noted)

/-- A cause given to this device's direction is one of its causes. -/
theorem halfPair_causes (c : PairCtx) (s : PathState) (r : Recv) (unarmed : Nat) {base : List Nat} (given : base ≠ [])
    (sweep : Bool) (mate : Option (Bool × Nat × Nat)) : (halfPair c s r unarmed base sweep mate).causes ≠ [] := by
  unfold halfPair
  simp [given]

theorem PathState.acquire_held (s : PathState) (mate : Bool) :
    (s.acquire mate).res = s.res ∧ (s.acquire mate).health.pairs = s.health.pairs ∧
      (s.acquire mate).tune = s.tune ∧ (s.acquire mate).work.stale = s.work.stale := by
  unfold PathState.acquire
  split <;> exact ⟨rfl, rfl, rfl, rfl⟩

/-- HALF as the path's entry: VOID with a cause of either device, and then without times (R129, R401, R402). -/
theorem takeHalf_books (c : PairCtx) (x : PathState) (h : HalfMsg) (d : Int) (cap : PairCapture) (elec : Bool) (tf tm : Nat) :
    (takeHalf c x h d cap elec tf tm).s.Fired x ∧ (takeHalf c x h d cap elec tf tm).s.res.cycleSeq = c.seq % 2 ^ 16 ∧
      (h.cause ≠ 0 ∨ cap.overflow = true → (takeHalf c x h d cap elec tf tm).s.res.grade = .void) ∧
      ((takeHalf c x h d cap elec tf tm).s.res.grade = .void →
        (takeHalf c x h d cap elec tf tm).s.res.tUd = 0 ∧ (takeHalf c x h d cap elec tf tm).s.res.tDu = 0 ∧
        (takeHalf c x h d cap elec tf tm).s.res.dt = 0 ∧ (takeHalf c x h d cap elec tf tm).s.res.sos = 0) := by
  unfold takeHalf
  extract_lets t sweep up onA rc own start delay den sec pri times pkU pkD timed vp causes secMarg g cause snr diag keep mate
    _ _ s1 other peak clipped s2 q s3 s4
  have halved : own.s.Held x := halfPair_held ..
  obtain ⟨parity, res, health, work, -⟩ := s1.gainAfter_turns c.p (rc.armed || other) peak clipped
  have tracked : q.1.Held s2 := by
    unfold q
    split
    · exact s2.sweepShot_held ..
    · split
      · exact s2.track_held ..
      · exact .refl s2
  have placed : s3.Held q.1 := q.1.place_held ..
  obtain ⟨-, healthH, parityH, staleH⟩ := halved
  obtain ⟨resP, healthP, parityP, staleP⟩ := placed.trans tracked
  obtain ⟨resA, pairsA, tuneA, staleA⟩ := (s3.book c g sweep cause).acquire_held (mate && !q.2)
  obtain ⟨pairs, -, -⟩ := s3.book_health c g sweep cause
  obtain ⟨grade, seq, noTimes, -⟩ := resultOf_shows c g cause times diag
  have shown : s4.res = resultOf c g cause times diag := resA.trans (resP.trans res)
  refine ⟨⟨?_, ?_, ?_⟩, ?_, fun why => ?_, fun void => ?_⟩
  · exact (congrArg Tune.parity tuneA).trans (parityP.trans (parity.trans (congrArg not parityH)))
  · exact pairsA.trans (pairs.trans (by rw [healthP, health]; exact congrArg (fun k : PathHealth => satInc k.pairs) healthH))
  · exact staleA.trans (staleP.trans ((congrArg PathWork.stale work).trans staleH))
  · exact (congrArg PathResult.cycleSeq shown).trans seq
  · have some_cause : causes ≠ [] := by
      unfold causes
      rcases why with given | coarse
      · simp [given]
      · have own_cause : own.causes ≠ [] := halfPair_causes _ _ _ _ (by simp [coarse]) _ _
        simp [own_cause]
    exact (congrArg PathResult.grade shown).trans (grade.trans (if_pos some_cause))
  · have times0 := noTimes (grade.symm.trans ((congrArg PathResult.grade shown).symm.trans void))
    obtain ⟨tUd, tDu, dt, sos⟩ := times0
    exact ⟨(congrArg PathResult.tUd shown).trans tUd, (congrArg PathResult.tDu shown).trans tDu,
      (congrArg PathResult.dt shown).trans dt, (congrArg PathResult.sos shown).trans sos⟩

end Sys2Proof.Machine

/-! SUPPORT. What the primary books of each answer, and the exchange or path that follows it (R393 to R405). -/

namespace Sys2Proof.Machine

/-! ## A path is over at the primary (R113, R163, R400) -/

/-- `t` is `s` once the pair in flight on path i is over with the entry `y`: nothing else of the paths differs, and the cycle
has fired what waits next (R92, R113). -/
structure Device.GoesOn (t s : Device) (i : Nat) (y : PathState) : Prop where
  paths : t.tr.paths = s.tr.paths.set i y
  tdc : t.tr.tdc = s.tr.tdc
  cyc : t.tr.cyc = s.tr.cyc.idle.next s.conf
  calm : t.Calm s

theorem Device.GoesOn.shows {t s : Device} {i : Nat} {x y : PathState} (h : t.GoesOn s i y) (at_i : s.tr.paths[i]? = some x) :
    t.tr.paths[i]? = some y ∧ (∀ j, j ≠ i → t.tr.paths[j]? = s.tr.paths[j]?) ∧
      (∀ k ks, s.tr.cyc.toFire = k :: ks → t.tr.cyc.inFlight = some k ∧ t.tr.cyc.toFire = ks) ∧
      (s.tr.cyc.toFire = [] → t.tr.cyc.inFlight = none ∧ t.tr.cyc.complete = true) ∧
      t.toll.led = s.toll.led ∧ t.conf = s.conf ∧ t.flow = s.flow ∧ t.land.tick = s.land.tick := by
  obtain ⟨conf, led, flow, -, -, -, -, tick, -⟩ := h.calm
  have inside : i < s.tr.paths.length := (List.getElem?_eq_some_iff.mp at_i).1
  refine ⟨by simp [h.paths, inside], fun j other => by simp [h.paths, List.getElem?_set_ne (Ne.symm other)],
    fun k ks waits => ?_, fun empty => ?_, led, conf, flow, tick⟩
  · rw [h.cyc, Cycle.next_cons _ (c := s.tr.cyc.idle) waits]
    exact ⟨rfl, rfl⟩
  · rw [h.cyc, Cycle.next_nil _ (c := s.tr.cyc.idle) empty]
    exact ⟨rfl, rfl⟩

theorem Device.setPath_at {s : Device} {i : Nat} {x : PathState} (f : PathState → PathState) (at_i : s.tr.paths[i]? = some x) :
    s.setPath i f = { s with tr := { s.tr with paths := s.tr.paths.set i (f x) } } := by
  rw [Device.setPath, setAt_of_getElem? f at_i]

section
variable {s : Device} {i : Nat} {x y : PathState} (flight : s.tr.cyc.inFlight = some i) (at_i : s.tr.paths[i]? = some x)
  (internal : s.conf.shot.external = false) (on : s.on .transit = true)
include flight at_i internal on

theorem Device.afterPair_goesOn {u : Device} (noted : u.Noted { s with tr := { s.tr with paths := s.tr.paths.set i y } })
    (fresh : y.work.stale = false) : u.afterPair.GoesOn s i y := by
  obtain ⟨tr, calm⟩ := noted
  have inside : i < s.tr.paths.length := (List.getElem?_eq_some_iff.mp at_i).1
  have calm' : u.Calm s := calm
  obtain ⟨conf, -, -, -, -, -, -, -, -, fn, -⟩ := calm'
  obtain ⟨tr', after⟩ := Device.afterPair_internal (s := u) (i := i) (y := y) (by rw [tr]; exact flight)
    (by rw [tr]; simp [inside]) fresh (by rw [conf]; exact internal) (by rw [Device.on, fn]; exact on)
  refine ⟨?_, ?_, ?_, after.trans calm⟩
  · rw [tr', tr]
  · rw [tr', tr]
  · rw [tr', tr, conf]

theorem Device.remoteDone_goesOn (r : PairDone) (fresh : r.s.work.stale = false) : (s.remoteDone i r).GoesOn s i r.s := by
  have entered : (s.setPath i fun _ => r.s).Noted { s with tr := { s.tr with paths := s.tr.paths.set i r.s } } := by
    rw [Device.setPath_at _ at_i]
    exact .refl _
  have seen := (Device.pairSeen_noted (s.setPath i fun _ => r.s) i).trans entered
  exact Device.afterPair_goesOn flight at_i internal on (noted_ite seen ((Device.journal_noted ..).trans seen)) fresh

omit at_i in
/-- The secondaries stand as the pair's end found them. -/
theorem Device.afterPair_standing (entry : s.tr.paths[i]? = some y) (fresh : y.work.stale = false) :
    s.afterPair.haw.standing = s.haw.standing := by
  have ends : s.endPair = (s.landPair i).fireNext := by
    simp [Device.endPair, flight, internal, on]
  unfold Device.afterPair
  rw [Device.hwGap_standing, ends, Device.fireNext_standing, Device.landPair_fresh entry fresh]

end

/-! ## Answers (R393) -/

section
variable {d : Device} {f : HwFrame} {typ req : Nat} {p : HwParts}

theorem Device.atPrimary_heard (role : d.haw.role = 1) (heard : HwHears d f typ p) (least : 1 ≤ p.src) (most : p.src ≤ 5)
    (h : HwParts → Device → Device) : d.atPrimary typ f h = h p d.attend := by
  simp [Device.atPrimary, role, d.hwReceive_heard _ heard, least, most]

theorem Device.atPrimary_answered (answers : HwAnswers d f typ req p) (h : HwParts → Device → Device) :
    d.atPrimary typ f h = h p d.attend := by
  obtain ⟨role, heard, least, most, -⟩ := answers
  exact Device.atPrimary_heard role heard least most h

theorem Device.answers_own (answers : HwAnswers d f typ req p) : d.attend.answers p req = true := by
  obtain ⟨-, -, -, -, -, o, out, dst, typ'⟩ := answers
  simp [Device.answers, Device.attend, out, dst, typ']

/-- The primary once it has taken the answer of secondary k: nothing is outstanding any more (R393, R405). -/
def Device.taking (d : Device) (k : Nat) : Device := (d.attend.hwAnswered k).hwDone

theorem Device.taking_def (k : Nat) : (d.attend.hwAnswered k).hwDone = d.taking k := rfl

theorem Device.taking_eq {k : Nat} (own : 1 ≤ k) : d.taking k = { d with haw := { d.attend.haw with
    out := none
    secs := setAt d.haw.secs (k - 1) fun x => { x with missRun := 0, missSeq := some d.tr.cyc.seq } } } := by
  unfold Device.taking
  rw [Device.hwAnswered_eq _ own]
  rfl

/-- Everything but the Hawser's state stands. -/
theorem Device.taking_haw {k : Nat} (own : 1 ≤ k) : d.taking k = { d with haw := (d.taking k).haw } := by
  rw [Device.taking_eq own]

theorem Device.taking_calm {k : Nat} (own : 1 ≤ k) : (d.taking k).Calm d := by
  rw [Device.taking_eq own]
  exact ⟨rfl, rfl, rfl, rfl, rfl, rfl, rfl, rfl, rfl, rfl, rfl, rfl, rfl⟩

theorem Device.GoesOn.of_taking {t : Device} {k i : Nat} {y : PathState} (own : 1 ≤ k) (h : t.GoesOn (d.taking k) i y) :
    t.GoesOn d i y := by
  have taken := Device.taking_haw (d := d) own
  exact ⟨h.paths.trans (by rw [taken]), h.tdc.trans (by rw [taken]), h.cyc.trans (by rw [taken]),
    h.calm.trans (Device.taking_calm own)⟩

theorem Device.taking_state (k j : Nat) : ((d.taking k).sec1 j).state = (d.sec1 j).state :=
  d.attend.hwAnswered_state k j

end

end Sys2Proof.Machine

/-! SUPPORT. The answers of the secondaries, one by one (R393 to R404). -/

namespace Sys2Proof.Machine

section
variable {dt : Nat} {f : HwFrame} {s : State} {d : Device} {p : HwParts} (hd : d = s.dev.elapse dt)
include hd

/-! ### SYNC_RSP (R395, R396) -/

/-- What SYNC_RSP tells of a secondary. -/
def Secondary.heard (x : Secondary) (b : Bytes) : Secondary :=
  { x with
    state := 1, epoch := getU b 0 1, timeBase := getU b 1 1, codes := getU b 2 6, wiring := getU b 8 4
    hasD := false, resync := false, fresh := true, double := false }

omit hd in
theorem Device.synced_expected (x : Device) (k : Nat) (b : Bytes)
    (expected : x.haw.expectedKnown = false ∨ bitAt x.haw.expected (k - 1) = true) :
    ∃ code, x.synced k b = (x.setSec k fun y => y.heard b).journal code k (getU b 0 1) := by
  have known : ¬ (x.haw.expectedKnown = true ∧ bitAt x.haw.expected (k - 1) = false) := by
    rcases expected with unknown | own <;> simp_all
  exact ⟨_, if_neg known⟩

theorem syncRsp_eq (answers : HwAnswers d f 2 1 p) :
    exec (.syncRsp dt f) s = .next { s with dev := ((d.taking p.src).synced p.src p.payload).syncStep } := by
  have own := Device.answers_own answers
  obtain ⟨role, ⟨on, live, accepted⟩, -⟩ := id answers
  simp only [exec, execSyncRsp, ← hd, Device.hwAccept_parses accepted, Bool.and_false, Bool.false_eq_true, if_false,
    Device.atPrimary_answered answers, Device.onSyncRsp, own, if_true]
  rfl

theorem syncRsp_stores {k : Nat} {ks : List Nat} (answers : HwAnswers d f 2 1 p)
    (expected : d.haw.expectedKnown = false ∨ bitAt d.haw.expected (p.src - 1) = true) (waits : d.haw.syncing = k :: ks)
    (idle : d.tr.cyc.inFlight = none) :
    ∃ (t : Device) (x : Secondary), exec (.syncRsp dt f) s = .next { s with dev := t } ∧
      t.haw.secs[p.src - 1]? = some x ∧ x.state = 1 ∧ x.epoch = getU p.payload 0 1 ∧ x.timeBase = getU p.payload 1 1 ∧
      x.codes = getU p.payload 2 6 ∧ x.wiring = getU p.payload 8 4 ∧ x.missRun = 0 ∧ t.haw.burst = k ∧
      (t.haw.out.map fun o => (o.dst, o.typ, o.tries)) = some (k, 1, 1) ∧ t.haw.syncing = ks ∧
      t.toll.led = d.toll.led ∧ t.conf = d.conf ∧ t.tr = d.tr ∧ t.sec = d.sec ∧ t.land = d.toRun.land := by
  have run := syncRsp_eq hd answers
  obtain ⟨role, ⟨on, -⟩, least, most, five, -⟩ := answers
  obtain ⟨code, synced⟩ := (d.taking p.src).synced_expected p.src p.payload (by rw [Device.taking_eq least]; exact expected)
  have taken : (d.taking p.src).haw.secs[p.src - 1]? =
      some { d.sec1 p.src with missRun := 0, missSeq := some d.tr.cyc.seq } := by
    rw [Device.taking_eq least]
    simp [d.secs_at least (by omega)]
  have entry := (d.taking p.src).setSec_at (fun y => y.heard p.payload) least taken
  have stored : (d.taking p.src).setSec p.src (fun y => y.heard p.payload) = { d with
      haw := ((d.taking p.src).setSec p.src fun y => y.heard p.payload).haw } := by
    rw [Device.setSec_eq _ _ least, Device.taking_haw least]
  have standing : ((d.taking p.src).setSec p.src fun y => y.heard p.payload).haw.syncing = k :: ks ∧
      ((d.taking p.src).setSec p.src fun y => y.heard p.payload).haw.out = none ∧
      ((d.taking p.src).setSec p.src fun y => y.heard p.payload).haw.role = 1 := by
    rw [Device.setSec_eq _ _ least, Device.taking_eq least]
    exact ⟨waits, rfl, role⟩
  obtain ⟨syncing, out, role'⟩ := standing
  generalize (d.taking p.src).setSec p.src (fun y => y.heard p.payload) = x at synced entry stored syncing out role'
  have told (c a b : Nat) : (x.journal c a b).conf = d.conf ∧ (x.journal c a b).tr = d.tr ∧ (x.journal c a b).sec = d.sec ∧
      (x.journal c a b).toll.led = d.toll.led ∧ (x.journal c a b).power = d.power ∧ (x.journal c a b).land = d.land ∧
      (x.journal c a b).haw = x.haw ∧ (x.journal c a b).fn = d.fn := by
    rw [stored]
    exact ⟨by simp, by simp, by simp, by simp, by simp, by simp, by simp, by simp⟩
  obtain ⟨conf, tr, sec, led, power, land, haw, fn⟩ := told code p.src (getU p.payload 0 1)
  rw [synced] at run
  generalize x.journal code p.src (getU p.payload 0 1) = y at run conf tr sec led power land haw fn
  have free : y.hwFree = true := Device.hwFree_of (by rw [Device.on, fn]; exact on) (by rw [haw, role']) (by rw [haw, out])
    (by rw [tr, idle])
  have goesOn : y.syncStep = Device.hwAsk (Device.hwBurst { y with haw := { y.haw with syncing := ks } } k) k 0x01 [] := by
    rw [← Device.hwPump_syncs free (by rw [haw, syncing])]
    unfold Device.syncStep
    rw [haw, syncing]
    simp
  rw [goesOn] at run
  exact ⟨_, _, run, by rw [← haw] at entry; exact entry, rfl, rfl, rfl, rfl, rfl, rfl, rfl, rfl, rfl, led, conf, tr, sec,
    Device.toRun_land_congr power land⟩

/-! ### ACK (R393, R395) -/

theorem ack_pushes {k n : Nat} {ps : List (Nat × Nat)} (answers : HwAnswers d f 14 3 p)
    (same : ∀ o, d.haw.out = some o → getU p.payload 0 1 = getU o.bytes 2 1) (synced : d.haw.syncing = [])
    (idle : d.tr.cyc.inFlight = none)
    (waits : d.haw.cfgParts.filter (fun q => (d.sec1 q.1).state == 1) = (k, n) :: ps) :
    ∃ t : Device, exec (.ack dt f) s = .next { s with dev := t } ∧
      (t.haw.out.map fun o => (o.dst, o.typ, o.tries)) = some (k, 3, 1) ∧ t.haw.cfgParts = ps ∧
      t = { d with haw := t.haw, power := d.toRun.power, land := d.toRun.land } := by
  have run : exec (.ack dt f) s = .next { s with dev := (d.taking p.src).hwPump } := by
    simp only [exec, execAck, ← hd, Device.atPrimary_answered answers]
    obtain ⟨-, -, -, -, -, o, out, dst, typ⟩ := answers
    have out' : d.attend.haw.out = some o := out
    simp only [Device.hwOnAck, out', dst, typ, same o out, true_or, and_self, if_true]
    rfl
  obtain ⟨role, ⟨on, -⟩, least, -⟩ := answers
  have states (j : Nat) : ((d.taking p.src).sec1 j).state = (d.sec1 j).state := Device.taking_state p.src j
  have free : (d.taking p.src).hwFree = true := by
    rw [Device.taking_eq least]
    exact Device.hwFree_of on role rfl idle
  have pushes := Device.hwPump_pushes (ps := ps) (k := k) (n := n) free (by rw [Device.taking_eq least]; exact synced)
    (by simp only [states]; rw [Device.taking_eq least]; exact waits)
  rw [pushes] at run
  refine ⟨_, run, rfl, rfl, ?_⟩
  rw [Device.taking_haw least]
  rfl

/-! ### RESULT and HALF (R400 to R402) -/

theorem result_taken {i : Nat} {x : PathState} (answers : HwAnswers d f 7 4 p) (flight : d.tr.cyc.inFlight = some i)
    (path : getU p.payload 0 1 = i) (at_i : d.tr.paths[i]? = some x) (fresh : x.work.stale = false)
    (pair : d.tr.cyc.probe = false) (internal : d.conf.shot.external = false) (on : d.on .transit = true) :
    ∃ (t : Device) (y : PathState), exec (.result dt f) s = .next { s with dev := t } ∧ t.GoesOn d i y ∧ y.Fired x ∧
      y.res.cycleSeq = d.tr.cyc.seq % 2 ^ 16 ∧
      (x.work.sweeping = false → y.res.grade = (PathResult.ofBytes (p.payload.drop 3)).grade ∧
        y.res.tUd = (PathResult.ofBytes (p.payload.drop 3)).tUd ∧ y.res.tDu = (PathResult.ofBytes (p.payload.drop 3)).tDu ∧
        y.res.dt = (PathResult.ofBytes (p.payload.drop 3)).dt) ∧
      (x.work.sweeping = true → y.res.grade = .void) := by
  obtain ⟨-, -, least, -⟩ := id answers
  have flight' : d.attend.tr.cyc.inFlight = some i := flight
  have pair' : (d.taking p.src).tr.cyc.probe = false := by rw [Device.taking_haw least]; exact pair
  have taken := Device.taking_haw (d := d) least
  have entry : (d.taking p.src).pathAt i = x := Device.pathAt_of_getElem? (by rw [taken]; exact at_i)
  have counted : ((d.taking p.src).pairCtx i).seq = d.tr.cyc.seq := by rw [taken]; rfl
  have own := Device.answers_own answers
  have run : exec (.result dt f) s = .next { s with
      dev := (d.taking p.src).remoteDone i (x.takeResult ((d.taking p.src).pairCtx i) (getU p.payload 1 2)
        (PathResult.ofBytes (p.payload.drop 3))) } := by
    simp only [exec, execResult, ← hd, Device.atPrimary_answered answers, Device.onResult, own, path, flight', beq_self_eq_true,
      Bool.and_self, if_true]
    simp only [Device.taking_def, pair', entry]
    rfl
  obtain ⟨fired, seq, shown, void⟩ := takeResult_books x ((d.taking p.src).pairCtx i) (getU p.payload 1 2)
    (PathResult.ofBytes (p.payload.drop 3))
  refine ⟨_, _, run, .of_taking least ?_, fired, by rw [seq, counted], shown, void⟩
  exact Device.remoteDone_goesOn (x := x) (by rw [taken]; exact flight) (by rw [taken]; exact at_i) (by rw [taken]; exact internal)
    (by rw [taken]; exact on) _ (fired.stale.trans fresh)

/-- What HALF finds of the path and its device once this device's capture is noted and counted. -/
theorem half_taken {i : Nat} {x : PathState} (own : PairCapture) (tf tm : RawStamp) (answers : HwAnswers d f 6 4 p)
    (flight : d.tr.cyc.inFlight = some i) (path : getU p.payload 0 1 = i) (at_i : d.tr.paths[i]? = some x)
    (fresh : x.work.stale = false) (pair : d.tr.cyc.probe = false) (ordered : getU p.payload 14 6 < getU p.payload 20 6)
    (internal : d.conf.shot.external = false) (on : d.on .transit = true) :
    ∃ (t u : Device) (y : PathState), exec (.half dt f own tf tm) s = .next { s with dev := t } ∧ t.GoesOn u i y ∧
      (u.tr.paths = d.tr.paths ∧ u.tr.cyc = d.tr.cyc ∧ u.tr.tdc.pairsSpan = d.tr.tdc.pairsSpan + 1 ∧ u.Calm d) ∧ y.Fired x ∧
      y.res.cycleSeq = d.tr.cyc.seq % 2 ^ 16 ∧ (getU p.payload 1 1 ≠ 0 ∨ own.overflow = true → y.res.grade = .void) ∧
      (y.res.grade = .void → y.res.tUd = 0 ∧ y.res.tDu = 0 ∧ y.res.dt = 0 ∧ y.res.sos = 0) := by
  obtain ⟨-, -, least, -⟩ := id answers
  have flight' : d.attend.tr.cyc.inFlight = some i := flight
  have pair' : (d.taking p.src).tr.cyc.probe = false := by rw [Device.taking_haw least]; exact pair
  have answered := Device.answers_own answers
  have path' : (HalfMsg.ofBytes p.payload).path = i := path
  have ordered' : (HalfMsg.ofBytes p.payload).r1 < (HalfMsg.ofBytes p.payload).r2 := ordered
  have run : exec (.half dt f own tf tm) s = .next { s with
      dev := (d.taking p.src).halfDone p.src (HalfMsg.ofBytes p.payload) own ((d.taking p.src).edge tf)
        ((d.taking p.src).edge tm) } := by
    simp only [exec, execHalf, ← hd, Device.atPrimary_answered answers, Device.onHalf, answered, path', flight',
      beq_self_eq_true, ordered', decide_true, Bool.and_self, if_true]
    simp only [Device.taking_def, pair']
    rfl
  have cause : (HalfMsg.ofBytes p.payload).cause = getU p.payload 1 1 := rfl
  have taken := Device.taking_haw (d := d) least
  have calm : (d.taking p.src).Calm d := Device.taking_calm least
  have entry : (d.taking p.src).pathAt i = x := Device.pathAt_of_getElem? (by rw [taken]; exact at_i)
  have counted : ((d.taking p.src).pairCtx i).seq = d.tr.cyc.seq := by rw [taken]; rfl
  rw [← cause]
  generalize HalfMsg.ofBytes p.payload = h at run path'
  have tr : (d.taking p.src).tr = d.tr := by rw [taken]
  generalize d.taking p.src = e at run taken calm entry counted tr
  unfold Device.halfDone at run
  rw [path', entry] at run
  obtain ⟨ports, noted⟩ := e.notePorts_ports (e.pairCtx i).p 0 own
  obtain ⟨fired, seq, void, times⟩ := takeHalf_books (e.pairCtx i) x h (e.sec1 p.src).d own (e.notePorts (e.pairCtx i).p 0 own).2
    (e.edge tf) (e.edge tm)
  let u : Device := ((e.notePorts (e.pairCtx i).p 0 own).1.countPair own.overflow).setSec p.src fun x => { x with
    lambdaPpb := lambdaPpb (e.edge tf) (e.edge tm) h.r1 h.r2 }
  have stands : u.tr.paths = d.tr.paths ∧ u.tr.cyc = d.tr.cyc ∧ u.tr.tdc.pairsSpan = d.tr.tdc.pairsSpan + 1 ∧ u.Calm d := by
    refine ⟨?_, ?_, ?_, ?_⟩
    · simp only [u, Device.setSec_tr, noted]; exact Eq.trans (b := e.tr.paths) rfl (by rw [tr])
    · simp only [u, Device.setSec_tr, noted]; exact Eq.trans (b := e.tr.cyc) rfl (by rw [tr])
    · simp only [u, Device.setSec_tr, noted]; exact Eq.trans (b := e.tr.tdc.pairsSpan + 1) rfl (by rw [tr])
    · refine (Device.setSec_calm ..).trans ?_
      rw [noted]
      exact calm
  obtain ⟨paths, cyc, -, calmU⟩ := id stands
  obtain ⟨conf, -, -, -, -, -, -, -, -, fn, -⟩ := calmU
  exact ⟨_, u, _, run, Device.remoteDone_goesOn (s := u) (x := x) (by rw [cyc]; exact flight) (by rw [paths]; exact at_i)
    (by rw [conf]; exact internal) (by rw [Device.on, fn]; exact on) _ (fired.stale.trans fresh), stands, fired,
    by rw [seq, counted], void, times⟩

end

end Sys2Proof.Machine

/-! SUPPORT. Samples, refusals, loop calibration, TIME and unanswered requests at the primary (R393 to R398, R403 to R405). -/

namespace Sys2Proof.Machine

/-! ## LOOPCAL_RSP (R397) -/

/-- An exchange before the last leaves its round trip and its measure in the run; a step of it may have ended (R509). -/
theorem Device.loopTake_goesOn (s : Device) (r : LoopRun) (turn : Int) (t1 t4 : Nat) (before : r.exchanges + 1 < 65) :
    ∃ due ready q, s.loopTake r turn t1 t4 = { s with
        haw := { s.haw with loop := some q }, store := { s.store with due := due, readySince := ready } } ∧
      q.bytes = [] ∧ q.dst = r.dst ∧ q.exchanges = r.exchanges + 1 ∧ q.lastRound = some ((t4 : Int) - t1) ∧
      (∀ x, r.lastRound = some x → q.rhos = r.rhos ++ [x - turn]) := by
  unfold Device.loopTake
  extract_lets rhos n _ s1
  rw [if_neg (show ¬ n = 65 by omega)]
  have measured : ∀ x, r.lastRound = some x → rhos = r.rhos ++ [x - turn] := by
    intro x last
    simp only [rhos, last]
  split
  · exact ⟨_, _, _, rfl, rfl, rfl, rfl, rfl, measured⟩
  · exact ⟨s.store.due, s.store.readySince, _, rfl, rfl, rfl, rfl, rfl, measured⟩

section
variable {dt : Nat} {f : HwFrame} {s : State} {d : Device} {p : HwParts} (hd : d = s.dev.elapse dt)
include hd

theorem loopcalRsp_eq (t1 : RawStamp) {r : LoopRun} (answers : HwAnswers d f 11 10 p) (run : d.haw.loop = some r)
    (own : r.dst = p.src) : exec (.loopcalRsp dt f t1) s = .next { s with
      dev := ((d.taking p.src).loopTake r (getS p.payload 0 4) (d.edge t1) (d.edge f.stamp)).hwPump } := by
  have run' : d.attend.haw.loop = some r := run
  have answered := Device.answers_own answers
  simp only [exec, execLoopcalRsp, ← hd, Device.atPrimary_answered answers, Device.onLoopRsp, run', answered, own,
    beq_self_eq_true, Bool.and_self, if_true]
  rfl

theorem loopcalRsp_takes (t1 : RawStamp) {r : LoopRun} (answers : HwAnswers d f 11 10 p) (run : d.haw.loop = some r)
    (own : r.dst = p.src) (before : r.exchanges + 1 < 65) (synced : (d.sec1 p.src).state = 1) :
    ∃ t : Device, exec (.loopcalRsp dt f t1) s = .next { s with dev := t } ∧
      (t.haw.loop.map fun q => (q.dst, q.exchanges, q.lastRound)) =
        some (p.src, r.exchanges + 1, some ((d.edge f.stamp : Int) - d.edge t1)) ∧
      (∀ x, r.lastRound = some x → t.haw.loop.map (·.rhos) = some (r.rhos ++ [x - getS p.payload 0 4])) ∧
      (d.tr.cyc.inFlight = none → d.haw.syncing = [] → d.haw.cfgParts = [] → d.gapOf 14 = true →
        (t.haw.out.map fun o => (o.dst, o.typ, o.tries)) = some (p.src, 10, 1)) ∧
      (d.tr.cyc.inFlight.isSome = true → t.haw.out = none) ∧
      t = { d with haw := t.haw, power := t.power, land := { d.land with pwrEn := t.land.pwrEn },
                   store := { d.store with due := t.store.due, readySince := t.store.readySince } } := by
  have eq := loopcalRsp_eq hd t1 answers run own
  obtain ⟨role, ⟨on, -⟩, least, -⟩ := answers
  have state := (Device.taking_state (d := d) p.src p.src).trans synced
  have taken := Device.taking_eq (d := d) least
  obtain ⟨due, ready, q, takes, next, dst, count, round, rhos⟩ := (d.taking p.src).loopTake_goesOn r (getS p.payload 0 4)
    (d.edge t1) (d.edge f.stamp) before
  rw [takes] at eq
  generalize hx : ({ d.taking p.src with
    haw := { (d.taking p.src).haw with loop := some q }
    store := { (d.taking p.src).store with due := due, readySince := ready } } : Device) = x at eq
  have frame : x = { d with haw := x.haw, store := { d.store with due := due, readySince := ready } } := by
    rw [← hx, Device.taking_haw least]
  have loop : x.haw.loop = some q := by rw [← hx]
  have stands : (x.sec1 q.dst).state = 1 := by
    rw [dst, own, ← hx]
    exact state
  have exchange : x.haw.out = none ∧ x.haw.role = 1 ∧ x.haw.syncing = d.haw.syncing ∧ x.haw.cfgParts = d.haw.cfgParts := by
    rw [← hx, taken]
    exact ⟨rfl, role, rfl, rfl⟩
  obtain ⟨out, role', syncing, parts⟩ := exchange
  have told := Device.hwPump_told loop stands
  obtain ⟨wired, -⟩ := x.hwPump_wired
  have tr : x.tr = d.tr := by rw [frame]
  refine ⟨_, eq, ?_, fun y last => ?_, fun idle synced pushed gap => ?_, fun flies => ?_, ?_⟩
  · have shown := congrArg (Option.map fun k : Nat × Nat × Option Int × List Int => (k.1, k.2.1, k.2.2.1)) told
    rw [Option.map_map] at shown
    refine Eq.trans shown ?_
    simp [LoopRun.told, dst, own, count, round]
  · have shown := congrArg (Option.map fun k : Nat × Nat × Option Int × List Int => k.2.2.2) told
    rw [Option.map_map] at shown
    refine Eq.trans shown ?_
    simp [LoopRun.told, rhos y last]
  · have free : x.hwFree = true := Device.hwFree_of (by rw [frame]; exact on) role' out (by rw [tr]; exact idle)
    have gap' : x.gapOf 14 = true := by rw [frame]; exact gap
    have sent := Device.hwPump_loops free (syncing.trans synced) (parts.trans pushed) gap' loop stands next
    rw [dst, own] at sent
    exact sent
  · have busy : x.hwFree = false := by
      obtain ⟨i, flight⟩ := Option.isSome_iff_exists.mp flies
      simp [Device.hwFree, tr, flight]
    rw [Device.hwPump_busy busy]
    exact out
  · rw [wired, frame]

/-! ## SAMPLE_RSP (R403) -/

omit hd in
/-- A part that comes before this device's own conversions waits for them. -/
theorem Device.sampleIn_waits (x : Device) (k : Nat) (l : List (Int × Nat)) (waits : x.temp.ownPart = none) :
    x.sampleIn k (some l) = { x with temp := { x.temp with
      awaiting := x.temp.awaiting.filter (· != k), parts := x.temp.parts ++ [(k, l)] } } := by
  unfold Device.sampleIn Device.trySample
  dsimp only
  split
  · next own => rw [waits] at own; cases own
  · rfl

theorem sampleRsp_adds (role : d.haw.role = 1) (heard : HwHears d f 9 p) (least : 1 ≤ p.src) (most : p.src ≤ 5)
    (running : d.temp.running = true) (awaited : d.temp.awaiting.contains p.src = true)
    (length : p.payload.length = 5 * (d.usedChans p.src).length + 4) (waits : d.temp.ownPart = none) :
    ∃ t : Device, exec (.sampleRsp dt f) s = .next { s with dev := t } ∧
      t.temp = { d.temp with awaiting := d.temp.awaiting.filter (· != p.src)
                             parts := d.temp.parts ++ [(p.src, sampleParts (d.usedChans p.src) p.payload)] } ∧
      t = { d with temp := t.temp, haw := t.haw } := by
  have running' : d.attend.temp.running = true := running
  have awaited' : d.attend.temp.awaiting.contains p.src = true := awaited
  have length' : (p.payload.length == 5 * (d.attend.usedChans p.src).length + 4) = true := beq_iff_eq.mpr length
  have run : exec (.sampleRsp dt f) s = .next { s with
      dev := (d.attend.hwAnswered p.src).sampleIn p.src (some (sampleParts (d.usedChans p.src) p.payload)) } := by
    simp only [exec, execSampleRsp, ← hd, Device.atPrimary_heard role heard least most, Device.onSampleRsp, running', awaited',
      length', Bool.and_self, if_true]
    rfl
  rw [Device.hwAnswered_eq _ least, Device.sampleIn_waits _ _ _ (by exact waits)] at run
  exact ⟨_, run, rfl, rfl⟩

/-! ## REFUSE of a FIRE (R404) -/

theorem refuse_eq {i : Nat} {x : PathState} (answers : HwAnswers d f 13 4 p) (flight : d.tr.cyc.inFlight = some i)
    (at_i : d.tr.paths[i]? = some x) (pair : d.tr.cyc.probe = false) :
    ∃ u : Device, exec (.refuse dt f) s = .next { s with dev := u.afterPair } ∧
      u = { d with haw := u.haw, tr := { d.tr with
        paths := d.tr.paths.set i { x with work := { x.work with delivered := false, noArm := false } } } } ∧
      u.haw.role = d.haw.role ∧ ∃ z, u.haw.secs[p.src - 1]? = some z ∧ z.refusals = satInc (d.sec1 p.src).refusals := by
  have run : exec (.refuse dt f) s = .next { s with dev := d.attend.refused p.src (getU p.payload 0 1) } := by
    simp only [exec, execRefuse, ← hd, Device.atPrimary_answered answers]
  obtain ⟨-, -, least, most, five, o, out, dst, typ⟩ := answers
  have out' : d.attend.haw.out = some o := out
  have first : (d.attend.hwAnswered p.src).haw.secs[p.src - 1]? =
      some { d.sec1 p.src with missRun := 0, missSeq := some d.tr.cyc.seq } :=
    d.attend.setSec_at _ least (d.attend.secs_at least (by rw [Device.attend]; simpa [five] using most))
  have counted := (d.attend.hwAnswered p.src).setSec_at (fun x => { x with
    refusals := satInc x.refusals
    state := if getU p.payload 0 1 = 2 ∧ x.state = 1 then 2 else x.state
    resync := x.resync || (getU p.payload 0 1 == 2 && x.state != 3) }) least first
  simp only [Device.refused, out', dst, typ, beq_self_eq_true, Bool.and_self, if_true] at run
  rw [Device.setSec_eq _ _ least, Device.hwAnswered_eq _ least] at counted run
  have flight' : d.attend.tr.cyc.inFlight = some i := flight
  have pair' : d.attend.tr.cyc.probe = false := pair
  simp only [Device.pathMissing, Device.hwDone, flight', pair', Bool.false_eq_true, if_false] at run
  refine ⟨_, run, ?_, rfl, _, counted, rfl⟩
  exact Device.setPath_at (x := x) _ at_i

omit hd in
/-- The pair in flight is over with the entry `y`, in a device of which the Hawser's state alone had changed. -/
theorem Device.afterPair_entry {u : Device} {i : Nat} {x y : PathState} (flight : d.tr.cyc.inFlight = some i)
    (at_i : d.tr.paths[i]? = some x) (internal : d.conf.shot.external = false) (on : d.on .transit = true)
    (entered : u = { d with haw := u.haw, tr := { d.tr with paths := d.tr.paths.set i y } }) (role : u.haw.role = d.haw.role)
    (fresh : y.work.stale = false) : u.afterPair.GoesOn d i y ∧ u.afterPair.haw.secs = u.haw.secs := by
  have noted : u.Noted { d with tr := { d.tr with paths := d.tr.paths.set i y } } := by
    rw [entered]
    exact ⟨rfl, rfl, rfl, rfl, rfl, rfl, rfl, rfl, rfl, rfl, rfl, rfl, role, rfl⟩
  have inside : i < d.tr.paths.length := (List.getElem?_eq_some_iff.mp at_i).1
  refine ⟨Device.afterPair_goesOn flight at_i internal on noted fresh, Hawser.standing_secs ?_⟩
  exact Device.afterPair_standing (i := i) (y := y) (by rw [entered]; exact flight) (by rw [entered]; exact internal)
    (by rw [entered]; exact on) (by rw [entered]; simp [inside]) fresh

theorem refuse_taken {i : Nat} {x : PathState} (answers : HwAnswers d f 13 4 p) (flight : d.tr.cyc.inFlight = some i)
    (at_i : d.tr.paths[i]? = some x) (fresh : x.work.stale = false) (pair : d.tr.cyc.probe = false)
    (internal : d.conf.shot.external = false) (on : d.on .transit = true) :
    ∃ (t : Device) (z : Secondary), exec (.refuse dt f) s = .next { s with dev := t } ∧
      t.GoesOn d i { x with work := { x.work with delivered := false, noArm := false } } ∧
      t.haw.secs[p.src - 1]? = some z ∧ z.refusals = satInc (d.sec1 p.src).refusals := by
  obtain ⟨u, run, entered, role, z, at_k, refusals⟩ := refuse_eq hd answers flight at_i pair
  obtain ⟨goes, secs⟩ := Device.afterPair_entry flight at_i internal on entered role fresh
  exact ⟨_, z, run, goes, by rw [secs]; exact at_k, refusals⟩

/-! ## HAWSER_ANSWER_TIMEOUT (R393, R405) -/

omit hd in
/-- A request without an answer counts one cycle more without, where the device is not lost by it (R405). -/
theorem Device.hwMissed_counts (u : Device) {k : Nat} {z : Secondary} (own : 1 ≤ k) (at_k : u.haw.secs[k - 1]? = some z)
    (stands : z.state ≠ 3) (first : z.missSeq ≠ some u.tr.cyc.seq) (unexpected : bitAt u.haw.expected (k - 1) = false) :
    ∃ since, u.hwMissed k = { u with haw := { u.haw with secs := setAt u.haw.secs (k - 1) fun y =>
      { y with missRun := satAdd 16 z.missRun 1, missSince := since, missSeq := some u.tr.cyc.seq } } } := by
  have entry : u.sec1 k = z := Device.sec1_of_getElem? at_k
  unfold Device.hwMissed
  rw [entry]
  dsimp only
  rw [if_neg (by simp [stands, first]), if_neg (by simp [unexpected])]
  exact ⟨_, u.setSec_eq _ own⟩

theorem fireTimeout_taken {o : Outstanding} {i : Nat} {x : PathState} {z : Secondary} (role : d.haw.role = 1)
    (out : d.haw.out = some o) (typ : o.typ = 4) (flight : d.tr.cyc.inFlight = some i) (at_i : d.tr.paths[i]? = some x)
    (own : 1 ≤ o.dst) (at_k : d.haw.secs[o.dst - 1]? = some z) (stands : z.state ≠ 3)
    (first : z.missSeq ≠ some d.tr.cyc.seq) (unexpected : bitAt d.haw.expected (o.dst - 1) = false)
    (fresh : x.work.stale = false) (pair : d.tr.cyc.probe = false) (internal : d.conf.shot.external = false)
    (on : d.on .transit = true) :
    ∃ (t : Device) (y : PathState) (w : Secondary), exec (.hawserAnswerTimeout dt) s = .next { s with dev := t } ∧
      t.GoesOn d i y ∧ y.Fired x ∧ y.res = x.res ∧ y.work.delivered = false ∧ t.haw.secs[o.dst - 1]? = some w ∧
      w.missRun = satAdd 16 z.missRun 1 ∧ w.state = z.state := by
  have run : exec (.hawserAnswerTimeout dt) s = .next { s with dev := (d.hwDone.hwMissed o.dst).pathMissing true } := by
    simp only [exec, execHawserAnswerTimeout, ← hd, role, if_true, Device.hwTimeout, out, typ]
    rfl
  obtain ⟨since, misses⟩ := d.hwDone.hwMissed_counts own at_k stands first unexpected
  rw [misses] at run
  generalize hu : ({ d.hwDone with haw := { d.hwDone.haw with secs := setAt d.hwDone.haw.secs (o.dst - 1) fun y =>
      { y with missRun := satAdd 16 z.missRun 1, missSince := since, missSeq := some d.hwDone.tr.cyc.seq } } } : Device) = u at run
  have frame : u = { d with haw := u.haw } := by rw [← hu]; rfl
  have flight' : u.tr.cyc.inFlight = some i := by rw [frame]; exact flight
  have pair' : u.tr.cyc.probe = false := by rw [frame]; exact pair
  have role' : u.haw.role = d.haw.role := by rw [← hu]; rfl
  have counted : u.haw.secs[o.dst - 1]? = some { z with
      missRun := satAdd 16 z.missRun 1, missSince := since, missSeq := some d.tr.cyc.seq } := by
    rw [← hu]
    simp [Device.hwDone, at_k]
  have entry := Device.setPath_at (s := u) (fun x => x.missed (u.pairCtx i)) (by rw [frame]; exact at_i)
  simp only [Device.pathMissing, flight', pair', Bool.false_eq_true, if_false, if_true, entry] at run
  obtain ⟨fired, res, delivered⟩ := x.missed_books (u.pairCtx i)
  obtain ⟨goes, secs⟩ := Device.afterPair_entry
    (u := { u with tr := { u.tr with paths := u.tr.paths.set i (x.missed (u.pairCtx i)) } }) flight at_i internal on
    (by rw [frame]) role' (fired.stale.trans fresh)
  exact ⟨_, _, { z with missRun := satAdd 16 z.missRun 1, missSince := since, missSeq := some d.tr.cyc.seq }, run, goes, fired,
    res, delivered, by rw [secs]; exact counted, rfl, rfl⟩

/-! ## LOOPCAL_RUN and TIME (R395, R398) -/

theorem loopcalRun_due (q : Int) (up : d.up = true) (role : d.haw.role = 1) (on : d.on .hawser = true)
    (due : d.loopDueNow q = true) :
    ∃ t : Device, exec (.loopcalRun dt q) s = .next { s with dev := t } ∧ t.haw.loopTick = d.land.tick ∧ t.haw.loopTemp = q ∧
      (d.hwFree = false → t = { d with haw := { d.haw with
        loopDue := secMask fun k => (d.sec1 k).state == 1 && d.hasCross k, loopTick := d.land.tick, loopTemp := q } }) ∧
      t = { d with haw := t.haw, power := t.power, land := { d.land with pwrEn := t.land.pwrEn } } := by
  have run : exec (.loopcalRun dt q) s = .next { s with dev := Device.hwGap { d with haw := { d.haw with
      loopDue := secMask fun k => (d.sec1 k).state == 1 && d.hasCross k, loopTick := d.land.tick, loopTemp := q } } } := by
    simp only [exec, execLoopcalRun, ← hd, up, role, on, due, beq_self_eq_true, Bool.and_self, if_true, Bool.not_true,
      Bool.false_eq_true, if_false]
  generalize hx : ({ d with haw := { d.haw with
      loopDue := secMask fun k => (d.sec1 k).state == 1 && d.hasCross k, loopTick := d.land.tick, loopTemp := q } } : Device) = x
      at run
  have standing : x.hwGap.haw.standing = (d.haw.secs, d.land.tick, q) := by
    rw [x.hwGap_standing, ← hx]
    rfl
  obtain ⟨wired, -⟩ := x.hwGap_wired
  refine ⟨_, run, congrArg (·.2.1) standing, congrArg (·.2.2) standing, fun busy => ?_, ?_⟩
  · have busy' : x.hwFree = false := by rw [← hx]; exact busy
    unfold Device.hwGap
    simp only [busy', Bool.false_and, Bool.false_eq_true, if_false]
    exact Device.hwPump_busy busy'
  · rw [wired, ← hx]

theorem timeBroadcast_sends (up : d.up = true) (role : d.haw.role = 1) (on : d.on .hawser = true)
    (due : d.haw.lastBroadcast + 2831155200 ≤ d.land.tick) :
    ∃ t : Device, exec (.hawserTimeBroadcast dt) s = .next { s with dev := t } ∧
      t.haw.lastTx = hwFrame 7 0 12 d.haw.seq (leBytes 6 (d.loadShadow 4).land.shown.tick) ∧
      (4 < d.land.shadows.length → (d.loadShadow 4).land.shown.tick = d.land.tick) ∧ t.haw.lastBroadcast = d.land.tick ∧
      t = { d with haw := t.haw, power := d.toRun.power,
                   land := { (d.loadShadow 4).land with pwrEn := d.toRun.land.pwrEn } } := by
  have run : exec (.hawserTimeBroadcast dt) s = .next { s with dev := d.broadcastTime } := by
    have due' : decide (d.haw.lastBroadcast + tpd ≤ d.land.tick) = true := decide_eq_true due
    simp only [exec, execHawserTimeBroadcast, ← hd, up, role, on, due', beq_self_eq_true, Bool.and_self, if_true]
  have number : (d.loadShadow 4).hwNo = 0 := by
    simp [Device.hwNo, role]
  refine ⟨_, run, ?_, fun long => ?_, rfl, rfl⟩
  · unfold Device.broadcastTime
    dsimp only
    rw [Device.hwSend_eq, number]
    rfl
  · simp [Device.loadShadow, Landing.shown, List.getD_eq_getElem?_getD, long]

end

/-! ## HAWSER_WAKE_SCHEDULE (R394) -/

theorem Device.disarm_alarms (s : Device) (i : Nat) : s.disarm i = { s with land := (s.disarm i).land } ∧
    (s.disarm i).land = { s.land with alarms := (s.disarm i).land.alarms } := by
  unfold Device.disarm
  split <;> exact ⟨rfl, rfl⟩

/-! A device in RUN stays there through the exchange that follows. -/

theorem Device.hwAsk_power {s : Device} (run : s.toRun.power = s.power) (dst typ : Nat) (b : Bytes) :
    (s.hwAsk dst typ b).power = s.power :=
  (Device.toRun_power_congr rfl).trans run

theorem Device.toRun_power_haw {s : Device} (run : s.toRun.power = s.power) (h : Hawser) :
    Device.power (Device.toRun { s with haw := h }) = Device.power { s with haw := h } :=
  (Device.toRun_power_congr rfl).trans run

theorem Device.loopAsk_power {s : Device} (run : s.toRun.power = s.power) (r : LoopRun) : (s.loopAsk r).power = s.power := by
  unfold Device.loopAsk
  split
  · exact Device.hwAsk_power run ..
  · rfl

theorem Device.loopPump_power {s : Device} (run : s.toRun.power = s.power) : s.loopPump.power = s.power := by
  unfold Device.loopPump
  split
  · rfl
  · split
    · split
      · exact Device.loopAsk_power run _
      · rfl
    · split
      · exact (Device.loopAsk_power (Device.toRun_power_haw run _) _).trans rfl
      · rfl

theorem Device.hwPump_power {s : Device} (run : s.toRun.power = s.power) : s.hwPump.power = s.power := by
  unfold Device.hwPump
  split
  · rfl
  · split
    · exact (Device.hwAsk_power (Device.toRun_power_haw run _) ..).trans rfl
    · split
      · exact (Device.hwAsk_power (Device.toRun_power_haw run _) ..).trans rfl
      · exact (Device.loopPump_power (Device.toRun_power_haw run _)).trans rfl

theorem Device.hwGap_power {s : Device} (run : s.toRun.power = s.power) : s.hwGap.power = s.power := by
  unfold Device.hwGap
  dsimp only
  split
  · exact (Device.hwPump_power (Device.toRun_power_haw run _)).trans rfl
  · exact Device.hwPump_power run

/-- With nothing to synchronise the gap brings no burst. -/
theorem Device.hwGap_burst {s : Device} (synced : s.haw.syncing = [])
    (settled : ∀ k, 1 ≤ k → k ≤ 5 → (s.sec1 k).resync = false) : s.hwGap.haw.burst = s.haw.burst := by
  have none_asks : (((List.range 5).map (· + 1)).filter fun k => (s.sec1 k).resync && (s.sec1 k).state != 3) = [] := by
    rw [List.filter_eq_nil_iff]
    intro k mem
    obtain ⟨j, small, rfl⟩ := List.mem_map.mp mem
    have := List.mem_range.mp small
    simp [settled (j + 1) (by omega) (by omega)]
  unfold Device.hwGap
  simp only [none_asks, List.isEmpty_nil, Bool.not_true, Bool.and_false, Bool.false_and, Bool.false_eq_true, if_false]
  exact Device.hwPump_burst synced

/-- An exchange after a write of the alarms leaves all but the Hawser, the power state, the alarms and PWR_EN. -/
theorem Device.alarmed_wired {t x d : Device} {h h' : Hawser} {p p' : Power} {a : List Alarm} {w w' : Bool}
    (shape : x = { d with haw := h, power := p, land := { d.land with alarms := a, pwrEn := w } })
    (wired : t = { x with haw := h', power := p', land := { x.land with pwrEn := w' } }) :
    t = { d with haw := t.haw, power := t.power, land := { d.land with alarms := t.land.alarms, pwrEn := t.land.pwrEn } } := by
  rw [wired, shape]

theorem wakeSchedule_fires {dt : Nat} {s : State} {d : Device} (hd : d = (s.dev.elapse dt).woken 1) (tolling : d.tolling = true)
    (fired : d.fired 11 = true) :
    ∃ t : Device, exec (.hawserWakeSchedule dt) s = .next { s with dev := t } ∧ t.power = d.toRun.power ∧
      (d.writable = true → ∀ a, d.land.alarms[11]? = some a → t.land.alarms[11]? = some ({} : Alarm)) ∧
      (d.haw.syncing = [] → (∀ k, 1 ≤ k → k ≤ 5 → (d.sec1 k).resync = false) → t.haw.burst = 7) ∧
      t = { d with haw := t.haw, power := t.power,
                   land := { d.land with alarms := t.land.alarms, pwrEn := t.land.pwrEn } } := by
  have run : exec (.hawserWakeSchedule dt) s = .next { s with dev := ((d.disarm 11).hwBurst 7).toRun.hwGap } := by
    simp [exec, execHawserWakeSchedule, ← hd, tolling, fired]
  obtain ⟨frame, land⟩ := d.disarm_alarms 11
  generalize hx : ((d.disarm 11).hwBurst 7).toRun = x at run
  obtain ⟨wired, -⟩ := x.hwGap_wired
  have shape : x = { d with haw := x.haw, power := x.power,
                            land := { d.land with alarms := (d.disarm 11).land.alarms, pwrEn := x.land.pwrEn } } := by
    rw [← hx, frame, land]
    rfl
  have power : x.power = d.toRun.power := by
    rw [← hx, frame]
    rfl
  have haw : x.haw = { d.haw with burst := 7 } := by rw [← hx, frame]; rfl
  have stays : x.hwGap.power = d.toRun.power :=
    (Device.hwGap_power (by rw [← hx, Device.toRun_power_idem])).trans power
  refine ⟨_, run, stays, fun writes a slot => ?_, fun synced settled => ?_, ?_⟩
  · have cleared : (d.disarm 11).land.alarms[11]? = some ({} : Alarm) := by
      simp [Device.disarm, writes, Landing.disarm, slot]
    rw [wired, ← hx]
    exact cleared
  · have same (k : Nat) : x.sec1 k = d.sec1 k := by rw [Device.sec1, haw]; rfl
    rw [Device.hwGap_burst (by rw [haw]; exact synced) (fun k least most => by rw [same]; exact settled k least most), haw]
  · exact Device.alarmed_wired shape wired

end Sys2Proof.Machine

/-! O60: a primary books what its secondaries answer and goes on to its next exchange (R391 to R405). -/

namespace Sys2Proof.Machine

section
variable {dt : Nat} {s : State} {d : Device} (hd : d = s.dev.elapse dt)
include hd

theorem loopcalRun_off (q : Int) (up : d.up = true) (role : d.haw.role = 1) (off : d.on .hawser = false)
    (due : d.loopDueNow q = true) : exec (.loopcalRun dt q) s = .next { s with
      dev := { d with haw := { d.haw with loopTick := d.land.tick, loopTemp := q } } } := by
  simp only [exec, execLoopcalRun, ← hd, up, role, off, due, beq_self_eq_true, Bool.and_self, if_true, Bool.not_false]

theorem loopcalRun_rests (q : Int) (rests : d.up = false ∨ d.haw.role ≠ 1 ∨ d.loopDueNow q = false) :
    exec (.loopcalRun dt q) s = .next { s with dev := d } := by
  rcases rests with down | other | soon
  · simp [exec, execLoopcalRun, ← hd, down]
  · simp [exec, execLoopcalRun, ← hd, other]
  · simp [exec, execLoopcalRun, ← hd, soon]

theorem timeBroadcast_off (up : d.up = true) (role : d.haw.role = 1) (off : d.on .hawser = false)
    (due : d.haw.lastBroadcast + 2831155200 ≤ d.land.tick) : exec (.hawserTimeBroadcast dt) s = .next { s with
      dev := { d with haw := { d.haw with lastBroadcast := d.land.tick } } } := by
  have due' : decide (d.haw.lastBroadcast + tpd ≤ d.land.tick) = true := decide_eq_true due
  simp [exec, execHawserTimeBroadcast, ← hd, up, role, off, due']

theorem timeBroadcast_rests (rests : d.up = false ∨ d.haw.role ≠ 1 ∨ d.land.tick < d.haw.lastBroadcast + 2831155200) :
    exec (.hawserTimeBroadcast dt) s = .next { s with dev := d } := by
  rcases rests with down | other | soon
  · simp [exec, execHawserTimeBroadcast, ← hd, down]
  · simp [exec, execHawserTimeBroadcast, ← hd, other]
  · have soon' : decide (d.haw.lastBroadcast + tpd ≤ d.land.tick) = false := decide_eq_false (Nat.not_le.mpr soon)
    simp [exec, execHawserTimeBroadcast, ← hd, soon']

theorem answerTimeout_repeats {o : Outstanding} (role : d.haw.role = 1) (out : d.haw.out = some o) (other : o.typ ≠ 4)
    (once : o.tries < 2) : exec (.hawserAnswerTimeout dt) s = .next { s with
      dev := { d with haw := { d.haw with lastTx := o.bytes, out := some { o with tries := o.tries + 1 } } } } := by
  have again : d.hwTimeout = d.hwAgain o := by simp only [Device.hwTimeout, out, other, if_false, once, if_true]
  simp only [exec, execHawserAnswerTimeout, ← hd, if_pos role, again]
  rfl

theorem answerTimeout_rests
    (rests : d.haw.role ≠ 1 ∨ (d.haw.out = none ∧ d.tr.cyc.inFlight = none ∧ d.temp.running = false)) :
    exec (.hawserAnswerTimeout dt) s = .next { s with dev := d } := by
  rcases rests with other | ⟨out, idle, still⟩
  · simp [exec, execHawserAnswerTimeout, ← hd, other]
  · simp [exec, execHawserAnswerTimeout, ← hd, Device.hwTimeout, out, idle, still]

end

theorem wakeSchedule_rests {dt : Nat} {s : State} {d : Device} (hd : d = (s.dev.elapse dt).woken 1)
    (rests : d.tolling = false ∨ d.fired 11 = false) :
    exec (.hawserWakeSchedule dt) s = .next { s with dev := d } := by
  rcases rests with secondary | quiet
  · simp [exec, execHawserWakeSchedule, ← hd, secondary]
  · simp [exec, execHawserWakeSchedule, ← hd, quiet]

end Sys2Proof.Machine

namespace Sys2Proof
open Machine

/-- Settles O60: the answer is taken, its path is over with a known entry, and the cycle and the bus go on from there. -/
theorem primaryRunsItsCascade : Obligations.PrimaryRunsItsCascade := by
  unfold Obligations.PrimaryRunsItsCascade
  refine ⟨fun dt f s d hd => ⟨?_, ?_, ?_, ?_, ?_, ?_, ?_, ?_, ?_, ?_, ?_, ?_, ?_, ?_, ?_⟩, fun dt s d hd => ⟨?_, ?_⟩⟩
  · intro p k ks answers expected waits idle
    exact syncRsp_stores hd answers expected waits idle
  · intro p k n ps answers same synced idle waits
    exact ack_pushes hd answers same synced idle waits
  · intro p i x answers flight path at_i fresh pair internal on
    obtain ⟨t, y, run, goes, fired, seq, plain, sweeping⟩ := result_taken hd answers flight path at_i fresh pair internal on
    obtain ⟨entry, others, next, last, led, conf, flow, tick⟩ := goes.shows at_i
    exact ⟨t, y, run, entry, seq, fired.pairs, fired.parity, plain, sweeping, others, next, last, led, conf, flow, tick⟩
  · intro p own tf tm i x answers flight path at_i fresh pair ordered internal on
    obtain ⟨t, u, y, run, goes, ⟨paths, cyc, span, calm⟩, fired, seq, void, zero⟩ :=
      half_taken hd own tf tm answers flight path at_i fresh pair ordered internal on
    obtain ⟨entry, others, next, -, led, conf, flow, tick⟩ := goes.shows (x := x) (by rw [paths]; exact at_i)
    obtain ⟨conf', led', flow', -, -, -, -, tick', -⟩ := calm
    rw [paths] at others
    rw [cyc] at next
    exact ⟨t, y, run, entry, seq, fired.pairs, fired.parity, void, zero, others, (congrArg Tdc.pairsSpan goes.tdc).trans span,
      next, led.trans led', conf.trans conf', flow.trans flow', tick.trans tick'⟩
  · intro p role heard least most running awaited length waits
    exact sampleRsp_adds hd role heard least most running awaited length waits
  · intro p r t1 answers run own before synced
    exact loopcalRsp_takes hd t1 answers run own before synced
  · intro p answers i x flight at_i fresh pair internal on
    obtain ⟨t, z, run, goes, at_k, refusals⟩ := refuse_taken hd answers flight at_i fresh pair internal on
    obtain ⟨entry, others, next, -, led, conf, flow, tick⟩ := goes.shows at_i
    exact ⟨t, _, z, run, entry, rfl, rfl, rfl, rfl, at_k, refusals, others, next, led, conf, flow, tick⟩
  · intro q up role on due
    exact loopcalRun_due hd q up role on due
  · intro q up role off due
    exact loopcalRun_off hd q up role off due
  · intro q rests
    exact loopcalRun_rests hd q rests
  · intro up role on due
    exact timeBroadcast_sends hd up role on due
  · intro up role off due
    exact timeBroadcast_off hd up role off due
  · intro rests
    exact timeBroadcast_rests hd rests
  · refine fun role o out => ⟨?_, ?_⟩
    · rintro other once q rfl
      exact answerTimeout_repeats hd role out other once
    · intro typ i x z flight at_i own at_k stands first unexpected fresh pair internal on
      obtain ⟨t, y, w, run, goes, fired, res, delivered, at_k', missRun, state⟩ :=
        fireTimeout_taken hd role out typ flight at_i own at_k stands first unexpected fresh pair internal on
      obtain ⟨entry, others, -, -, led, conf, flow, tick⟩ := goes.shows at_i
      exact ⟨t, y, w, run, entry, res, fired.parity, fired.pairs, delivered, others, at_k', missRun, state, led, conf, flow,
        tick⟩
  · intro rests
    exact answerTimeout_rests hd rests
  · intro tolling fired
    exact wakeSchedule_fires hd tolling fired
  · intro rests
    exact wakeSchedule_rests hd rests

end Sys2Proof
